-- ==== Sys2Proof/Word.lean ====
section
/-! DEFINITION. The word types of the module and the marks of a core's 64-bit word. -/
namespace Sys2Proof

/-- A control-space register, a scalar register, a word of the module's own formats (R5, R8). -/
abbrev W64 := BitVec 64
/-- A binary32 or INT32 value (R46, R47). -/
abbrev W32 := BitVec 32
/-- One byte. -/
abbrev Byte := BitVec 8
/-- A vector register: 64 lanes of 32 bits, lane i in bits [32i+31:32i] (R120). -/
abbrev Vec := BitVec 2048

end Sys2Proof
end

