-- ==== Sys2Proof/Syntax.lean ====
section
/-! DEFINITION. The commands of the block: one constructor for each row of the opcode table, with the row's operands.
Core instructions carry the global core number and every field of their format (R121, R122), so that the checks of unused and
reserved fields (R127) belong to their meaning. Events carry what the outside shows at that moment. -/
namespace Sys2Proof

/-- Format R of R122 with the guard of R121. -/
structure RF where
  gneg : Bool
  guard : BitVec 3
  d : BitVec 5
  a : BitVec 5
  b : BitVec 5
  c : BitVec 5
  fmt : BitVec 6
  rm : BitVec 2
  x : BitVec 5
  idx : BitVec 5
  half : Bool
  lm1 : BitVec 6
  res : BitVec 5
  deriving DecidableEq, Repr

/-- Format I of R122 with the guard of R121. -/
structure IF where
  gneg : Bool
  guard : BitVec 3
  d : BitVec 5
  a : BitVec 5
  imm : BitVec 40
  deriving DecidableEq, Repr

/-- Format C of R122 with the guard of R121. -/
structure CF where
  gneg : Bool
  guard : BitVec 3
  cnt : BitVec 5
  a : BitVec 5
  b : BitVec 5
  n : BitVec 5
  imm : BitVec 30
  deriving DecidableEq, Repr

/-- Four 64-bit words: the body of a CONTROL frame (R32, R305). -/
structure Words4 where
  w0 : W64
  w1 : W64
  w2 : W64
  w3 : W64
  deriving DecidableEq, Repr

/-- A CONTROL frame (R259): prefix, body, the CRC-32C as received, and the symbol errors of each codeword that ended with it on its
lane (R292, log 110). -/
structure CtlFrame where
  pfx : W64
  body : Words4
  crc : W32
  errs : List Nat
  tail : Bool := false
  deriving DecidableEq, Repr

/-- What a time transmitter announces (R28): the data that the default best master clock algorithm compares (log 105). -/
structure PtpData where
  priority1 : BitVec 8
  clockClass : BitVec 8
  accuracy : BitVec 8
  variance : BitVec 16
  priority2 : BitVec 8
  grandmaster : W64
  steps : BitVec 16
  deriving DecidableEq, Repr

/-- A time of the 1588 network: seconds and nanoseconds, and the message's correction in units of 2^-16 ns (log 105). -/
structure PtpTime where
  sec : BitVec 48
  ns : W32
  correction : W64
  deriving DecidableEq, Repr

/-- The messages of the default delay request-response profile that a time receiver takes (R28, log 105). -/
inductive PtpBody where
  | announce (d : PtpData)
  | sync (twoStep : Bool) (seq : BitVec 16) (origin : PtpTime)
  | followUp (seq : BitVec 16) (origin : PtpTime)
  /-- The answer to a delay request; `locked` is the clock servo's judgement after the exchange, which the spec leaves open. -/
  | delayResp (seq : BitVec 16) (requester : BitVec 80) (receipt : PtpTime) (locked : Bool)
  deriving DecidableEq, Repr

/-- An IEEE 1588 message on E0 or E1 (R28): domain, transport, the sender's port identity, and what it says. -/
structure PtpMsg where
  domain : BitVec 8
  transport : BitVec 2
  source : BitVec 80
  body : PtpBody
  deriving DecidableEq, Repr

/-- What a memory request does to its granule (R185, R226, R242). -/
inductive MemOp where
  | read
  | write
  | atomic (type : BitVec 6) (operand compare : W64)
  | reduce (rop : BitVec 2) (fmt : BitVec 6)
  | gfxor (coef : Byte)
  deriving DecidableEq, Repr

/-- A request that reaches a die's memory controller (R184 to R189): requester index, partition charged, latency-critical mark,
timestamp, effect, module offset, length of a read, bytes of a write, the requester's own mark for the answer, and whether it belongs to
a copy (R217, R227). -/
structure MemReq where
  req : Nat
  part : Nat
  lc : Bool
  ct : W64
  op : MemOp
  off : Nat
  len : Nat
  data : List Byte
  tag : Nat
  copy : Bool := false
  deriving DecidableEq, Repr

/-- The symbols of a codeword that arrive damaged, each with the bits that differ (R194). Symbols 72 and 73 stand for the two
address symbols that are not stored. -/
abbrev Damage := List (Nat × Byte)

/-- The repair wires one bundle needs after a training (R209, R211). `dir` false is hub-to-die. -/
structure RepairEntry where
  dir : Bool
  bundle : Nat
  rp0 : Option Nat
  rp1 : Option Nat
  deriving DecidableEq, Repr

/-- The receive wires of a bundle that training found failed (R211): bits 0 to 63 data wires, 64 RP0, 65 RP1. -/
structure WireFault where
  dir : Bool
  bundle : Nat
  failed : BitVec 66
  deriving DecidableEq, Repr

/-- A Qortin fabric packet: the header of R255 and its payload. -/
structure Packet where
  w0 : W64
  w1 : W64
  w2 : W64
  w3 : W64
  payload : List Byte
  /-- The hub buffer that holds it gives an uncorrectable word (R262). -/
  bad : Bool := false
  deriving DecidableEq, Repr

/-- A message that had a bit in a bundle cycle with a parity error (R210): the reply to a core's load or atomic, the data of a copy
engine's fetched chunk, a write, a packet that waits in the hub for its output or its performance (a reply or read data from die memory to
another module among them), the response to an RDMA read of a connection, or any request whose header was hit. -/
inductive LinkMsg where
  | reply (n id : Nat)
  | data (d id chunk : Nat)
  | write (off len : Nat)
  | packet (q : Packet)
  | rdma (conn psn : Nat)
  | header (q : Packet)
  deriving DecidableEq, Repr

/-- A link frame (R259): prefix, the packet that a DATA frame carries, the CRC-32C as received, and the symbol errors of each codeword
that ended with it on its lane (R292, log 110); the sequences of frames which its coming puts in order but whose buffer words are
uncorrectable (R262); and whether the codeword in which it ends, and which ends with a later frame, is uncorrectable (R292). -/
structure Frame where
  pfx : W64
  q : Packet
  crc : W32
  errs : List Nat
  lost : List Nat := []
  tail : Bool := false
  deriving DecidableEq, Repr

/-- A Uafada message (R339) with its sender's address, port and MAC, the length of the UDP payload, and the 802.1Q tag of its frame
(R337). -/
structure UMsg where
  w0 : W64
  w1 : W64
  w2 : W64
  w3 : W64
  body : List W64
  tag : BitVec 128
  src : BitVec 128
  sport : BitVec 16
  mac : BitVec 48
  udpLen : Nat
  vlan : Option (BitVec 12) := none
  deriving DecidableEq, Repr

/-- What a neighbour request asks (R337): NDP and ARP solicitations and echo requests, with the address they name. -/
inductive NbrAsk where
  | ndp (target : BitVec 128)
  | arp (target : W32)
  | echo6 (target : BitVec 128)
  | echo4 (target : W32)
  deriving DecidableEq, Repr

/-- A neighbour request on an Ethernet port (R337, R338): the frame's source MAC and 802.1Q tag, what it asks, and what an echo brings
back. -/
structure NbrReq where
  mac : BitVec 48
  vlan : Option (BitVec 12)
  ask : NbrAsk
  data : List Byte
  deriving DecidableEq, Repr

/-- Where a RoCEv2 packet stands in its message (R348). -/
inductive RocePart where
  | first
  | middle
  | last
  | only
  deriving DecidableEq, Repr

/-- What every incoming RoCEv2 packet brings (R337, R338, R348, R350): 802.1Q tag, source MAC, sequence number, congestion mark, and
whether its invariant CRC holds. -/
structure RoceHead where
  vlan : Option (BitVec 12)
  mac : BitVec 48
  psn : BitVec 24
  ecn : Bool
  icrc : Bool
  deriving DecidableEq, Repr

/-- An incoming RoCEv2 request or response (R348, R349). A request that begins a message names key, address and length of the whole
message. -/
structure RoceReq where
  head : RoceHead
  part : RocePart
  rkey : W32
  addr : Nat
  len : Nat
  data : List Byte
  deriving DecidableEq, Repr

/-- A RoCEv2 Acknowledge: a positive one, a sequence NAK, or another NAK (R350, R351). -/
inductive AckCode where
  | ack
  | seqNak
  | otherNak
  deriving DecidableEq, Repr

/-- One sampling of the sensors and the input (R357): readings in units of 0.25 °C, `none` for a missing count; millivolts; watts. -/
structure Sample where
  temps : List (Nat × Option Int)
  mvolt : Nat
  watts : Nat
  deriving DecidableEq, Repr

/-- What a die's self-test found (R420): failing array positions, failing cores, whether the update engine, root unit and copy
path passed, and how long it took in milliseconds. -/
structure SelfTest where
  badPos : List (Nat × Nat)
  badCores : List Nat
  pathOk : Bool
  ms : Nat
  deriving DecidableEq, Repr

/-- The hardware causes of a die fence (R217). -/
inductive FenceCause where
  | clock
  | reset
  deriving DecidableEq, Repr

/-- The causes of declared input loss (R436). -/
inductive LossCause where
  | below44
  | below50
  | above62
  | presOpen
  deriving DecidableEq, Repr

/-- The software writers of the control space (R12). -/
inductive Writer where
  | mp
  | e0
  | e1
  deriving DecidableEq, Repr

/-- The commands of the block, one constructor for each row of the opcode table. -/
inductive Instr where
  /-- TIME_FRAME_SEND (R32). -/
  | timeFrameSend (p : Nat)
  /-- TIME_FRAME_RECEIVE (R33). -/
  | timeFrameReceive (p l : Nat) (f : CtlFrame) (fine : BitVec 4)
  /-- PARENT_FRAMES_STALE (R30). -/
  | parentFramesStale (p : Nat)
  /-- PTP_MESSAGE (R28). -/
  | ptpMessage (e : Nat) (m : PtpMsg)
  /-- PTP_LOCK_LOST (R31). -/
  | ptpLockLost
  /-- HOLDOVER_TIMEOUT (R36). -/
  | holdoverTimeout
  /-- ACQUIRE_TIMEOUT (R36). -/
  | acquireTimeout
  /-- OSCILLATOR_FAULT (R36). -/
  | oscillatorFault (present : Bool)
  /-- PARENT_REJECT_EXPIRY (R36). -/
  | parentRejectExpiry (p : Nat)
  /-- SLEW_BACK_END (R37). -/
  | slewBackEnd
  /-- SCHEDULED_TRAFFIC_RESUME (R38). -/
  | scheduledTrafficResume
  /-- WAIT_TIME_RESUME (R43). -/
  | waitTimeResume (n : Nat)
  /-- NOP (R129). -/
  | nop (n : Nat) (f : RF)
  /-- ADD (R129). -/
  | add (n : Nat) (f : RF)
  /-- SUB (R129). -/
  | sub (n : Nat) (f : RF)
  /-- MUL (R129). -/
  | mul (n : Nat) (f : RF)
  /-- AND (R129). -/
  | andS (n : Nat) (f : RF)
  /-- OR (R129). -/
  | orS (n : Nat) (f : RF)
  /-- XOR (R129). -/
  | xorS (n : Nat) (f : RF)
  /-- SHL (R129). -/
  | shl (n : Nat) (f : RF)
  /-- SHR (R129). -/
  | shr (n : Nat) (f : RF)
  /-- SRA (R129). -/
  | sra (n : Nat) (f : RF)
  /-- MIN (R129). -/
  | minS (n : Nat) (f : RF)
  /-- MAX (R129). -/
  | maxS (n : Nat) (f : RF)
  /-- MINU (R129). -/
  | minu (n : Nat) (f : RF)
  /-- MAXU (R129). -/
  | maxu (n : Nat) (f : RF)
  /-- ADDI (R129). -/
  | addi (n : Nat) (f : IF)
  /-- ANDI (R129). -/
  | andi (n : Nat) (f : IF)
  /-- ORI (R129). -/
  | ori (n : Nat) (f : IF)
  /-- SHLI (R129). -/
  | shli (n : Nat) (f : IF)
  /-- SHRI (R129). -/
  | shri (n : Nat) (f : IF)
  /-- SRAI (R129). -/
  | srai (n : Nat) (f : IF)
  /-- LI (R129). -/
  | li (n : Nat) (f : IF)
  /-- LIH (R129). -/
  | lih (n : Nat) (f : IF)
  /-- CMPEQ (R129). -/
  | cmpeq (n : Nat) (f : RF)
  /-- CMPNE (R129). -/
  | cmpne (n : Nat) (f : RF)
  /-- CMPLT (R129). -/
  | cmplt (n : Nat) (f : RF)
  /-- CMPLTU (R129). -/
  | cmpltu (n : Nat) (f : RF)
  /-- CMPLE (R129). -/
  | cmple (n : Nat) (f : RF)
  /-- CMPLEU (R129). -/
  | cmpleu (n : Nat) (f : RF)
  /-- PAND (R129). -/
  | pand (n : Nat) (f : RF)
  /-- POR (R129). -/
  | por (n : Nat) (f : RF)
  /-- PXOR (R129). -/
  | pxor (n : Nat) (f : RF)
  /-- PANDN (R129). -/
  | pandn (n : Nat) (f : RF)
  /-- PCNT (R129). -/
  | pcnt (n : Nat) (f : RF)
  /-- PFROM (R129). -/
  | pfrom (n : Nat) (f : RF)
  /-- PTO (R129). -/
  | pto (n : Nat) (f : RF)
  /-- RDCT (R130). -/
  | rdct (n : Nat) (f : RF)
  /-- RDFLAGS (R130). -/
  | rdflags (n : Nat) (f : RF)
  /-- CLRFLAGS (R130). -/
  | clrflags (n : Nat) (f : RF)
  /-- RDID (R129). -/
  | rdid (n : Nat) (f : RF)
  /-- B (R131). -/
  | branchB (n : Nat) (f : IF)
  /-- BL (R131). -/
  | bl (n : Nat) (f : IF)
  /-- BR (R131). -/
  | br (n : Nat) (f : IF)
  /-- BLR (R131). -/
  | blr (n : Nat) (f : IF)
  /-- LOOP (R131). -/
  | loop (n : Nat) (f : IF)
  /-- LD_B (R133). -/
  | ldB (n : Nat) (f : IF)
  /-- LD_BU (R133). -/
  | ldBu (n : Nat) (f : IF)
  /-- LD_H (R133). -/
  | ldH (n : Nat) (f : IF)
  /-- LD_HU (R133). -/
  | ldHu (n : Nat) (f : IF)
  /-- LD_W (R133). -/
  | ldW (n : Nat) (f : IF)
  /-- LD_WU (R133). -/
  | ldWu (n : Nat) (f : IF)
  /-- LD_D (R133). -/
  | ldD (n : Nat) (f : IF)
  /-- ST_B (R133). -/
  | stB (n : Nat) (f : IF)
  /-- ST_H (R133). -/
  | stH (n : Nat) (f : IF)
  /-- ST_W (R133). -/
  | stW (n : Nat) (f : IF)
  /-- ST_D (R133). -/
  | stD (n : Nat) (f : IF)
  /-- VLD (R133). -/
  | vld (n : Nat) (f : IF)
  /-- VST (R133). -/
  | vst (n : Nat) (f : IF)
  /-- PLD (R133). -/
  | pld (n : Nat) (f : IF)
  /-- PST (R133). -/
  | pst (n : Nat) (f : IF)
  /-- RLD_W (R134). -/
  | rldW (n : Nat) (f : RF)
  /-- RLD_D (R134). -/
  | rldD (n : Nat) (f : RF)
  /-- RST_W (R134). -/
  | rstW (n : Nat) (f : RF)
  /-- RST_D (R134). -/
  | rstD (n : Nat) (f : RF)
  /-- RADD_I32 (R226). -/
  | raddI32 (n : Nat) (f : RF)
  /-- RADD_I64 (R226). -/
  | raddI64 (n : Nat) (f : RF)
  /-- RADD_F32 (R226). -/
  | raddF32 (n : Nat) (f : RF)
  /-- RADD_BF16X2 (R226). -/
  | raddBf16x2 (n : Nat) (f : RF)
  /-- RSWAP_W (R226). -/
  | rswapW (n : Nat) (f : RF)
  /-- RSWAP_D (R226). -/
  | rswapD (n : Nat) (f : RF)
  /-- RCAS_W (R226). -/
  | rcasW (n : Nat) (f : RF)
  /-- RCAS_D (R226). -/
  | rcasD (n : Nat) (f : RF)
  /-- RMIN_I32 (R226). -/
  | rminI32 (n : Nat) (f : RF)
  /-- RMIN_I64 (R226). -/
  | rminI64 (n : Nat) (f : RF)
  /-- RMAX_I32 (R226). -/
  | rmaxI32 (n : Nat) (f : RF)
  /-- RMAX_I64 (R226). -/
  | rmaxI64 (n : Nat) (f : RF)
  /-- RAND_W (R226). -/
  | randW (n : Nat) (f : RF)
  /-- RAND_D (R226). -/
  | randD (n : Nat) (f : RF)
  /-- ROR_W (R226). -/
  | rorW (n : Nat) (f : RF)
  /-- ROR_D (R226). -/
  | rorD (n : Nat) (f : RF)
  /-- RXOR_W (R226). -/
  | rxorW (n : Nat) (f : RF)
  /-- RXOR_D (R226). -/
  | rxorD (n : Nat) (f : RF)
  /-- VADD (R135). -/
  | vadd (n : Nat) (f : RF)
  /-- VSUB (R135). -/
  | vsub (n : Nat) (f : RF)
  /-- VMUL (R135). -/
  | vmul (n : Nat) (f : RF)
  /-- VFMA (R135). -/
  | vfma (n : Nat) (f : RF)
  /-- VFNMA (R135). -/
  | vfnma (n : Nat) (f : RF)
  /-- VMIN (R135). -/
  | vmin (n : Nat) (f : RF)
  /-- VMAX (R135). -/
  | vmax (n : Nat) (f : RF)
  /-- VABS (R135). -/
  | vabs (n : Nat) (f : RF)
  /-- VNEG (R135). -/
  | vneg (n : Nat) (f : RF)
  /-- VDIV (R136). -/
  | vdiv (n : Nat) (f : RF)
  /-- VSQRT (R136). -/
  | vsqrt (n : Nat) (f : RF)
  /-- VRSQRT (R136). -/
  | vrsqrt (n : Nat) (f : RF)
  /-- VEXP (R136). -/
  | vexp (n : Nat) (f : RF)
  /-- VLOG (R136). -/
  | vlog (n : Nat) (f : RF)
  /-- VRSUM (R137). -/
  | vrsum (n : Nat) (f : RF)
  /-- VRMAX (R137). -/
  | vrmax (n : Nat) (f : RF)
  /-- VCMPEQ (R135). -/
  | vcmpeq (n : Nat) (f : RF)
  /-- VCMPLT (R135). -/
  | vcmplt (n : Nat) (f : RF)
  /-- VCMPLE (R135). -/
  | vcmple (n : Nat) (f : RF)
  /-- VCMPUN (R135). -/
  | vcmpun (n : Nat) (f : RF)
  /-- VSEL (R135). -/
  | vsel (n : Nat) (f : RF)
  /-- VMOV (R135). -/
  | vmov (n : Nat) (f : RF)
  /-- VBCAST (R135). -/
  | vbcast (n : Nat) (f : RF)
  /-- VEXTR (R135). -/
  | vextr (n : Nat) (f : RF)
  /-- VAND (R135). -/
  | vand (n : Nat) (f : RF)
  /-- VOR (R135). -/
  | vor (n : Nat) (f : RF)
  /-- VXOR (R135). -/
  | vxor (n : Nat) (f : RF)
  /-- VSHL (R135). -/
  | vshl (n : Nat) (f : RF)
  /-- VSHR (R135). -/
  | vshr (n : Nat) (f : RF)
  /-- VIOTA (R135). -/
  | viota (n : Nat) (f : RF)
  /-- CVT_BF (R138). -/
  | cvtBf (n : Nat) (f : RF)
  /-- CVT_FBLO (R138). -/
  | cvtFblo (n : Nat) (f : RF)
  /-- CVT_FBHI (R138). -/
  | cvtFbhi (n : Nat) (f : RF)
  /-- CVT_IF (R138). -/
  | cvtIf (n : Nat) (f : RF)
  /-- CVT_FI (R138). -/
  | cvtFi (n : Nat) (f : RF)
  /-- RINT (R138). -/
  | rint (n : Nat) (f : RF)
  /-- PACK (R139). -/
  | pack (n : Nat) (f : RF)
  /-- UNPACK (R139). -/
  | unpack (n : Nat) (f : RF)
  /-- TILE (R140). -/
  | tile (n : Nat) (f : CF)
  /-- TWARM (R140). -/
  | twarm (n : Nat) (f : CF)
  /-- GATHER (R144). -/
  | gather (n : Nat) (f : RF)
  /-- SCATTER (R144). -/
  | scatter (n : Nat) (f : RF)
  /-- SCATADD (R144). -/
  | scatadd (n : Nat) (f : RF)
  /-- RGATHER (R144). -/
  | rgather (n : Nat) (f : RF)
  /-- RSCATTER (R144). -/
  | rscatter (n : Nat) (f : RF)
  /-- RSCATADD (R144). -/
  | rscatadd (n : Nat) (f : RF)
  /-- ROUTE (R145). -/
  | route (n : Nat) (f : CF)
  /-- COPY (R146). -/
  | copy (n : Nat) (f : CF)
  /-- WAITT (R147). -/
  | waitt (n : Nat) (f : CF)
  /-- WAITC (R113). -/
  | waitc (n : Nat) (f : CF)
  /-- SETCNT (R112). -/
  | setcnt (n : Nat) (f : CF)
  /-- RDCNT (R147). -/
  | rdcnt (n : Nat) (f : RF)
  /-- FENCE (R235). -/
  | fence (n : Nat) (f : RF)
  /-- FENCE_EID (R235). -/
  | fenceEid (n : Nat) (f : RF)
  /-- ACQ (R236). -/
  | acq (n : Nat) (f : RF)
  /-- REL (R236). -/
  | rel (n : Nat) (f : RF)
  /-- HALT (R97). -/
  | halt (n : Nat) (f : RF)
  /-- UPD (R152). -/
  | upd (n : Nat) (f : CF)
  /-- UPDROW (R172). -/
  | updrow (n : Nat) (f : CF)
  /-- ROOTREQ (R169). -/
  | rootreq (n : Nat) (f : CF)
  /-- STEPEND (R171). -/
  | stepend (n : Nat) (f : CF)
  /-- CORE_START (R97). -/
  | coreStart (n : Nat)
  /-- COUNTER_WAIT_RESUME (R113). -/
  | counterWaitResume (n : Nat)
  /-- CORE_HALTED (R97). -/
  | coreHalted (n : Nat)
  /-- TILE_ACCEPT (R79). -/
  | tileAccept (n : Nat) (a : Nat)
  /-- TILE_START (R79). -/
  | tileStart (n : Nat) (j : Nat)
  /-- STATIONARY_SWAP (R78). -/
  | stationarySwap (n : Nat) (j : Nat)
  /-- TILE_WRITEBACK_END (R101). -/
  | tileWritebackEnd (n : Nat) (j : Nat) (flips : List (Nat×BitVec 32)) (shadowFlips : List (Nat×BitVec 32))
  /-- LEVEL_UPDATE (R88). -/
  | levelUpdate (n : Nat) (j : Nat)
  /-- TWARM_END (R140). -/
  | twarmEnd (n : Nat) (j : Nat)
  /-- GATHER_SCATTER_COMPLETE (R106). -/
  | gatherScatterComplete (n : Nat)
  /-- ROUTE_START (R145). -/
  | routeStart (n : Nat)
  /-- ROUTE_LEAVE (R145). -/
  | routeLeave (n : Nat)
  /-- ROUTE_COMPLETE (R111). -/
  | routeComplete (n : Nat)
  /-- CORE_RESET_HOLD (R97). -/
  | coreResetHold (n : Nat) (v : BitVec 64)
  /-- CORE_FENCE (R97). -/
  | coreFence (n : Nat) (v : BitVec 64)
  /-- CORE_RUN (R97). -/
  | coreRun (n : Nat) (v : BitVec 64)
  /-- SWDATA_ACCESS (R119). -/
  | swdataAccess (n : Nat) (wr : Option (BitVec 64))
  /-- UPDATE_CALL_START (R153). -/
  | updateCallStart (d : Nat) (id : Nat)
  /-- UPDATE_CALL_COMPLETE (R154). -/
  | updateCallComplete (d : Nat) (id : Nat)
  /-- ROOT_REFRESH_START (R169). -/
  | rootRefreshStart (d : Nat) (g : Nat)
  /-- ROOT_REFRESH_COMPLETE (R168). -/
  | rootRefreshComplete (d : Nat) (g : Nat)
  /-- STEPEND_SWAP (R171). -/
  | stependSwap (d : Nat) (id : Nat)
  /-- UPD_GSEL (R177). -/
  | updGsel (d : Nat) (v : BitVec 64)
  /-- UPD_COMMIT (R156). -/
  | updCommit (d : Nat) (v : BitVec 64)
  /-- UPD_CLR_STAT (R177). -/
  | updClrStat (d : Nat) (v : BitVec 64)
  /-- MEMORY_REQUEST (R185). -/
  | memoryRequest (d : Nat) (r : MemReq)
  /-- MEMORY_ADMIT (R188). -/
  | memoryAdmit (d : Nat) (k : Nat)
  /-- CHANNEL_SERVE (R190). -/
  | channelServe (d : Nat) (c : Nat) (busy : BitVec 16) (dam : Damage)
  /-- REGULATOR_CREDIT_TICK (R188). -/
  | regulatorCreditTick (d : Nat)
  /-- REFRESH_COMMAND (R192). -/
  | refreshCommand (d : Nat) (c : Nat) (b : Nat)
  /-- REFRESH_INTERVAL_RELAX (R192). -/
  | refreshIntervalRelax (d : Nat) (s : Nat)
  /-- SCRUB_READ (R197). -/
  | scrubRead (d : Nat) (c : Nat) (dam : Damage)
  /-- MEMORY_INIT_COMPLETE (R197). -/
  | memoryInitComplete (d : Nat) (s : Nat)
  /-- ZERO_MAP_FILL (R200). -/
  | zeroMapFill (d : Nat) (a : Nat) (dam : Damage)
  /-- ZRANGE_ENABLE (R198). -/
  | zrangeEnable (d : Nat) (k : Nat) (v : BitVec 64)
  /-- ZRANGE_DISABLE (R201). -/
  | zrangeDisable (d : Nat) (k : Nat) (v : BitVec 64)
  /-- ZRANGE_FLUSH_COMPLETE (R201). -/
  | zrangeFlushComplete (d : Nat) (k : Nat)
  /-- LINK_TRAIN_START (R211). -/
  | linkTrainStart (d : Nat)
  /-- TRAIN_ATTEMPT_FAIL (R211). -/
  | trainAttemptFail (d : Nat) (dieGood : BitVec 96) (hubGood : BitVec 96) (wires : List WireFault)
  /-- LINK_TRAIN_COMPLETE (R211). -/
  | linkTrainComplete (d : Nat) (dieGood : BitVec 96) (hubGood : BitVec 96) (wires : List WireFault)
  /-- PARITY_ERROR (R210): the wires that arrive wrong, 0 to 63 data, 64 RP0, 65 RP1. -/
  | parityError (d : Nat) (dir : Bool) (b : Nat) (wrong : BitVec 66) (edge : Bool) (hits : List LinkMsg)
  /-- BUNDLE_DROP (R213). -/
  | bundleDrop (d : Nat) (dir : Bool) (b : Nat)
  /-- BUNDLE_RESTRIPE (R213). -/
  | bundleRestripe (d : Nat) (dir : Bool) (b : Nat)
  /-- DIE_FENCE (R217). -/
  | dieFence (d : Nat) (c : FenceCause)
  /-- LINK_REJOIN_COMPLETE (R218). -/
  | linkRejoinComplete (d : Nat)
  /-- D2D_FENCE (R217). -/
  | d2dFence (d : Nat)
  /-- D2D_REJOIN (R218). -/
  | d2dRejoin (d : Nat)
  /-- D2D_RETRAIN (R211). -/
  | d2dRetrain (d : Nat)
  /-- D2D_HOLD (R217). -/
  | d2dHold (d : Nat) (on : Bool)
  /-- INV_ALL (R216). -/
  | invAll (d : Nat)
  /-- INV_PART (R216). -/
  | invPart (d : Nat) (k : Nat)
  /-- RC_ENABLE (R216). -/
  | rcEnable (d : Nat) (v : BitVec 64)
  /-- LOAD (R225). -/
  | load (q : Packet)
  /-- STORE (R225). -/
  | store (q : Packet)
  /-- ATOMIC (R226). -/
  | atomic (q : Packet)
  /-- WRITE (R242). -/
  | write (q : Packet)
  /-- REDUCE (R242). -/
  | reduce (q : Packet)
  /-- GFXOR (R242). -/
  | gfxor (q : Packet)
  /-- READ_REQ (R256). -/
  | readReq (q : Packet)
  /-- TOPO_CHUNK (R326). -/
  | topoChunk (p : Nat) (q : Packet)
  /-- REPLY (R228). -/
  | reply (q : Packet)
  /-- REFUSAL (R228). -/
  | refusal (q : Packet)
  /-- ACK (R257). -/
  | ack (q : Packet)
  /-- READ_DATA (R243). -/
  | readData (q : Packet)
  /-- REMOTE_ACCESS_TIMEOUT (R228). -/
  | remoteAccessTimeout (n : Nat) (id : Nat)
  /-- RETRANSMIT_TIMEOUT (R232). -/
  | retransmitTimeout (eid : Nat) (seq : Nat)
  /-- COPY_TIMEOUT (R232). -/
  | copyTimeout (eid : Nat) (seq : Nat)
  /-- REPLY_RECORD_EXPIRY (R233). -/
  | replyRecordExpiry (eid : Nat) (seq : Nat)
  /-- RECORD_WAIT_PERFORM (R233). -/
  | recordWaitPerform (eid : Nat)
  /-- ACK_TIMER (R257). -/
  | ackTimer (eid : Nat)
  /-- FENCE_COMPLETE (R235). -/
  | fenceComplete (n : Nat)
  /-- FENCE_TIMEOUT (R235). -/
  | fenceTimeout (n : Nat)
  /-- COPY_ENGINE_ADMIT (R249). -/
  | copyEngineAdmit (d : Nat) (n : Nat)
  /-- COPY_PACKET_SEND (R245). -/
  | copyPacketSend (d : Nat) (id : Nat)
  /-- COPY_DESCRIPTOR_COMPLETE (R246). -/
  | copyDescriptorComplete (d : Nat) (id : Nat)
  /-- TEARDOWN_AT_T (R239). -/
  | teardownAtT (k : Nat)
  /-- DATA_FRAME (R270). -/
  | dataFrame (p : Nat) (lane : Nat) (f : Frame)
  /-- FRAME_INJECT (R271). -/
  | frameInject (i : Nat) (bad : Bool)
  /-- DYNAMIC_ADMIT (R267). -/
  | dynamicAdmit (k : Nat)
  /-- SCHEDULED_FRAME_SEND (R265). -/
  | scheduledFrameSend (p : Nat) (bad : Bool)
  /-- IDLE (R260). -/
  | idle (p : Nat) (lane : Nat) (f : Frame)
  /-- IDLE_SEND (R260). -/
  | idleSend (p : Nat) (lane : Nat)
  /-- NAK (R261). -/
  | nak (p : Nat) (lane : Nat) (f : Frame) (bad : List Nat)
  /-- REORDER_GAP_TIMEOUT (R261). -/
  | reorderGapTimeout (p : Nat)
  /-- LANE_SILENCE (R260). -/
  | laneSilence (p : Nat) (lane : Nat)
  /-- PORT_LOST (R278). -/
  | portLost (p : Nat)
  /-- DETOUR_APPLY (R278). -/
  | detourApply (p : Nat)
  /-- BELAY_REINJECT (R280). -/
  | belayReinject (p : Nat) (bad : List Nat)
  /-- DETOUR_RELEASE (R281). -/
  | detourRelease (p : Nat)
  /-- PITCH_BOUNDARY (R267). -/
  | pitchBoundary
  /-- TELEMETRY_MAP_CLOSE (R284). -/
  | telemetryMapClose
  /-- HOLD_PORT (R285). -/
  | holdPort (p : Nat)
  /-- RELEASE_PORT (R306). -/
  | releasePort (p : Nat)
  /-- TEL_DATA_READ (R285). -/
  | telDataRead
  /-- IDENT (R309). -/
  | ident (pos l : Nat) (f : CtlFrame)
  /-- LANE_DROP (R298). -/
  | laneDrop (p l : Nat) (f : CtlFrame)
  /-- LANE_ADD (R298). -/
  | laneAdd (p l : Nat) (f : CtlFrame)
  /-- LANE_ACK (R298). -/
  | laneAck (p l : Nat) (f : CtlFrame)
  /-- BAR (R312). -/
  | bar (pos l : Nat) (f : CtlFrame)
  /-- BAR_REPEAT (R312). -/
  | barRepeat (pos : Nat)
  /-- LANE_CHANGE_SWITCH (R298). -/
  | laneChangeSwitch (p : Nat) (dir : Bool) (lane : Nat)
  /-- LANE_CHANGE_RETRY (R298). -/
  | laneChangeRetry (p : Nat) (dir : Bool) (lane : Nat)
  /-- LANE_FEC_FAULT (R293). -/
  | laneFecFault (p : Nat) (lane : Nat)
  /-- RING_LOCK (R295). -/
  | ringLock (pos : Nat) (lane : Nat) (dir : Bool)
  /-- PILOT_LOOP_UPDATE (R295). -/
  | pilotLoopUpdate (pos : Nat) (lane : Nat) (dir : Bool) (step : Int) (errMHz : Int)
  /-- TONE_CHECK (R296). -/
  | toneCheck (pos : Nat) (lane : Nat) (dir : Bool) (tone : Nat) (margin : Int)
  /-- LANE_QUALIFIED (R296). -/
  | laneQualified (pos : Nat) (lane : Nat) (dir : Bool) (corrected bad : Nat)
  /-- RECAL_START (R297). -/
  | recalStart (pos : Nat) (lane : Nat) (dir : Bool)
  /-- RECAL_COMPLETE (R297). -/
  | recalComplete (pos : Nat) (lane : Nat) (dir : Bool) (ok : Bool) (offset : Int)
  /-- SOURCE_FAIL (R302). -/
  | sourceFail (c : Nat) (src : Nat)
  /-- SPARE_VERIFIED (R302). -/
  | spareVerified (c : Nat) (i : Nat)
  /-- CASSETTE_FAIL (R303). -/
  | cassetteFail (c : Nat) (removed : Bool)
  /-- FEED_SWITCH_BACK (R304). -/
  | feedSwitchBack (e : Nat) (k : Nat)
  /-- CASSETTE_INSERT (R427). -/
  | cassetteInsert (c : Nat)
  /-- CASSETTE_VERIFY_END (R427). -/
  | cassetteVerifyEnd (c : Nat) (ok : Bool)
  /-- CASSETTE_SAFE (R426). -/
  | cassetteSafe (c : Nat)
  /-- PORT_UP (R306). -/
  | portUp (p : Nat)
  /-- PORT_ATTEMPT_FAIL (R306). -/
  | portAttemptFail (p : Nat)
  /-- PORT_RETRY (R307). -/
  | portRetry (p : Nat)
  /-- RECAL_NOW (R313). -/
  | recalNow
  /-- RETIRE (R299). -/
  | retire
  /-- RESTORE (R299). -/
  | restore
  /-- SECTION_INCOMPLETE (R327). -/
  | sectionIncomplete (image : Nat) (sec : Nat)
  /-- SECTION_ACTIVATE (R332). -/
  | sectionActivate
  /-- CANCEL (R333). -/
  | cancel (t : Nat)
  /-- ACTIVATE_NOW (R333). -/
  | activateNow (t : Nat)
  /-- IMAGE_STORE_WRITE (R367). -/
  | imageStoreWrite
  /-- PING (R340). -/
  | ping (p : Nat) (m : UMsg)
  /-- UAFADA_READ (R340). -/
  | uafadaRead (p : Nat) (m : UMsg)
  /-- UAFADA_WRITE (R340). -/
  | uafadaWrite (p : Nat) (m : UMsg)
  /-- IMAGE (R343). -/
  | image (p : Nat) (m : UMsg)
  /-- TEARDOWN (R345). -/
  | teardown (p : Nat) (m : UMsg)
  /-- EVENT_ACK (R347). -/
  | eventAck (p : Nat) (m : UMsg)
  /-- QUOTE (R396). -/
  | quote (p : Nat) (m : UMsg)
  /-- OPEN (R395). -/
  | openSession (p : Nat) (m : UMsg)
  /-- CLOSE (R399). -/
  | closeSession (p : Nat) (m : UMsg)
  /-- EVENT_DATAGRAM_SEND (R347). -/
  | eventDatagramSend (p : Nat)
  /-- EVENT_RESEND (R347). -/
  | eventResend (seq : Nat)
  /-- REPLY_CACHE_EXPIRY (R344). -/
  | replyCacheExpiry (p : Nat)
  /-- SESSION_IDLE_TIMEOUT (R399). -/
  | sessionIdleTimeout (num : Nat)
  /-- ETH_NEIGHBOR_REPLY (R337). -/
  | ethNeighborReply (p : Nat) (r : NbrReq)
  /-- RDMA_WRITE (R349). -/
  | rdmaWrite (n : Nat) (r : RoceReq)
  /-- RDMA_READ_REQUEST (R349). -/
  | rdmaReadRequest (n : Nat) (r : RoceReq)
  /-- RDMA_READ_RESPONSE (R243). -/
  | rdmaReadResponse (n : Nat) (r : RoceReq)
  /-- ACKNOWLEDGE (R350). -/
  | acknowledge (n : Nat) (h : RoceHead) (code : AckCode)
  /-- CNP (R350). -/
  | cnp (n : Nat)
  /-- RDMA_UNSUPPORTED_OPCODE (R348). -/
  | rdmaUnsupportedOpcode (n : Nat) (h : RoceHead)
  /-- RDMA_LOCAL_TIMEOUT (R350). -/
  | rdmaLocalTimeout (n : Nat)
  /-- RDMA_RATE_RAISE (R350). -/
  | rdmaRateRaise (n : Nat)
  /-- QPSEL_WRITE (R355). -/
  | qpselWrite (v : BitVec 64)
  /-- QP_COMMIT (R355). -/
  | qpCommit (v : BitVec 64)
  /-- QP_RESET (R351). -/
  | qpReset (v : BitVec 64)
  /-- SENSOR_SAMPLE (R357). -/
  | sensorSample (r : Sample)
  /-- THERMAL_CEILING_RISE (R362). -/
  | thermalCeilingRise (d : Nat)
  /-- POWER_CEILING_STEP (R361). -/
  | powerCeilingStep
  /-- OP_POINT_STEP (R359). -/
  | opPointStep (d : Nat)
  /-- THERMAL_TRIP (R365). -/
  | thermalTrip (i : Nat)
  /-- STACK_LIMIT_RELEASE (R363). -/
  | stackLimitRelease (d : Nat) (s : Nat)
  /-- RESTART_QUALIFIED (R366). -/
  | restartQualified
  /-- THERM_RESTART (R366). -/
  | thermRestart
  /-- NVM_WINDOW_OPEN (R367). -/
  | nvmWindowOpen (fuse : Bool)
  /-- PROBE_ROUND_START (R368). -/
  | probeRoundStart (n : Nat)
  /-- PROBE_HOLD_EXPIRY (R368). -/
  | probeHoldExpiry (n : Nat) (j : Nat)
  /-- PROBE_START (R368). -/
  | probeStart (n : Nat) (j : Nat)
  /-- PROBE_COMPLETE (R369). -/
  | probeComplete (n : Nat) (j : Nat) (crc : BitVec 32)
  /-- STRAGGLER_PERIOD_END (R376). -/
  | stragglerPeriodEnd
  /-- CLR_FAULTS (R379). -/
  | clrFaults (n : Nat)
  /-- PROBE_NOW (R379). -/
  | probeNow (n : Nat)
  /-- FUSE_WRITE (R388). -/
  | fuseWrite
  /-- CLOSE_ALL (R399). -/
  | closeAll
  /-- EDATA_READ (R404). -/
  | edataRead
  /-- CAIRN_RECORD_WRITE (R410). -/
  | cairnRecordWrite
  /-- CAIRN_WIN3_READ (R414). -/
  | cairnWin3Read
  /-- RING_CLEAR_SLOT (R415). -/
  | ringClearSlot
  /-- BLADE_MATE (R438). -/
  | bladeMate
  /-- MODULE_POWER_UP (R419). -/
  | modulePowerUp
  /-- SELFTEST_COMPLETE (R420). -/
  | selftestComplete (d : Nat) (r : SelfTest)
  /-- INPUT_LOSS (R436). -/
  | inputLoss (c : LossCause)
  /-- INPUT_RESTORE (R437). -/
  | inputRestore
  /-- MANAGEMENT_DOMAIN_DOWN (R21). -/
  | managementDomainDown
  /-- HUB_RESET (R418). -/
  | hubReset
  /-- POWER_DOWN (R425). -/
  | powerDown
  /-- BIVOUAC (R423). -/
  | bivouac (memOff : Bool) (resume : Bool)
  /-- RESUME (R424). -/
  | resume
  /-- CASS_REMOVE (R426). -/
  | cassRemove (c : Nat)
  /-- FW_DATA_WRITE (R434). -/
  | fwDataWrite (v : BitVec 64)
  /-- FW_CANCEL (R434). -/
  | fwCancel
  /-- FW_SWITCH (R429). -/
  | fwSwitch
  /-- FW_VERIFY (R428). -/
  | fwVerify
  /-- FW_ERASE (R434). -/
  | fwErase
  /-- FW_ERASE_COMPLETE (R434). -/
  | fwEraseComplete
  /-- FIRMWARE_SWITCH (R429). -/
  | firmwareSwitch
  /-- NEW_FIRMWARE_START (R429). -/
  | newFirmwareStart
  /-- READ_CLEAR (R9). -/
  | readClear (a : Nat)
  /-- REGISTER_WRITE (R9). -/
  | registerWrite (w : Writer) (a : Nat) (v : BitVec 64)
  /-- ETH_LINK_CHANGE (R347). -/
  | ethLinkChange (p : Nat) (up : Bool)
  /-- PTP_TRANSMITTER_NOT_HEARD (R28). -/
  | ptpTransmitterNotHeard (e : Nat)
  /-- UAFADA_UNDEFINED_TYPE (R340). -/
  | uafadaUndefinedType (p : Nat) (m : UMsg)
  /-- ETH_FRAME_DISCARD (R338). -/
  | ethFrameDiscard (p : Nat)
  deriving DecidableEq, Repr

end Sys2Proof
end

