-- ==== Sys2Proof/Decode.lean ====
section
/-! DEFINITION. Words. The rows of the opcode table have no bits, so no table word spells a command. The 64-bit words of a core's
instructions do have an encoding (R121, R122, R128 to R149): it stands here as a decoder and an encoder. -/
namespace Sys2Proof

/-- The command that a word spells by the bits of the opcode table: the table gives its rows no bits. -/
def decodeTableWord (_nbits _w : Nat) : Option Instr := none

/-- The fields of format R (R121, R122). -/
def RF.ofWord (w : W64) : RF :=
  { gneg := w.getLsbD 53, guard := w.extractLsb' 50 3, d := w.extractLsb' 45 5, a := w.extractLsb' 40 5, b := w.extractLsb' 35 5
    c := w.extractLsb' 30 5, fmt := w.extractLsb' 24 6, rm := w.extractLsb' 22 2, x := w.extractLsb' 17 5
    idx := w.extractLsb' 12 5, half := w.getLsbD 11, lm1 := w.extractLsb' 5 6, res := w.extractLsb' 0 5 }

/-- The fields of format I (R121, R122). -/
def IF.ofWord (w : W64) : IF :=
  { gneg := w.getLsbD 53, guard := w.extractLsb' 50 3, d := w.extractLsb' 45 5, a := w.extractLsb' 40 5, imm := w.extractLsb' 0 40 }

/-- The fields of format C (R121, R122). -/
def CF.ofWord (w : W64) : CF :=
  { gneg := w.getLsbD 53, guard := w.extractLsb' 50 3, cnt := w.extractLsb' 45 5, a := w.extractLsb' 40 5, b := w.extractLsb' 35 5
    n := w.extractLsb' 30 5, imm := w.extractLsb' 0 30 }

/-- The word of a class, an opcode and format R fields. -/
def RF.toWord (cls : BitVec 4) (op : BitVec 6) (f : RF) : W64 :=
  cls ++ op ++ BitVec.ofBool f.gneg ++ f.guard ++ f.d ++ f.a ++ f.b ++ f.c ++ f.fmt ++ f.rm ++ f.x ++ f.idx
    ++ BitVec.ofBool f.half ++ f.lm1 ++ f.res

/-- The word of a class, an opcode and format I fields. -/
def IF.toWord (cls : BitVec 4) (op : BitVec 6) (f : IF) : W64 :=
  cls ++ op ++ BitVec.ofBool f.gneg ++ f.guard ++ f.d ++ f.a ++ f.imm

/-- The word of a class, an opcode and format C fields. -/
def CF.toWord (cls : BitVec 4) (op : BitVec 6) (f : CF) : W64 :=
  cls ++ op ++ BitVec.ofBool f.gneg ++ f.guard ++ f.cnt ++ f.a ++ f.b ++ f.n ++ f.imm

/-- Opcodes of CLASS 0 (R129); the others are reserved. -/
def decodeScalar (n : Nat) (w : W64) : Nat → Option Instr
  | 0x00 => some (.nop n (RF.ofWord w))
  | 0x01 => some (.add n (RF.ofWord w))
  | 0x02 => some (.sub n (RF.ofWord w))
  | 0x03 => some (.mul n (RF.ofWord w))
  | 0x04 => some (.andS n (RF.ofWord w))
  | 0x05 => some (.orS n (RF.ofWord w))
  | 0x06 => some (.xorS n (RF.ofWord w))
  | 0x07 => some (.shl n (RF.ofWord w))
  | 0x08 => some (.shr n (RF.ofWord w))
  | 0x09 => some (.sra n (RF.ofWord w))
  | 0x0A => some (.minS n (RF.ofWord w))
  | 0x0B => some (.maxS n (RF.ofWord w))
  | 0x0C => some (.minu n (RF.ofWord w))
  | 0x0D => some (.maxu n (RF.ofWord w))
  | 0x10 => some (.addi n (IF.ofWord w))
  | 0x11 => some (.andi n (IF.ofWord w))
  | 0x12 => some (.ori n (IF.ofWord w))
  | 0x13 => some (.shli n (IF.ofWord w))
  | 0x14 => some (.shri n (IF.ofWord w))
  | 0x15 => some (.srai n (IF.ofWord w))
  | 0x16 => some (.li n (IF.ofWord w))
  | 0x17 => some (.lih n (IF.ofWord w))
  | 0x20 => some (.cmpeq n (RF.ofWord w))
  | 0x21 => some (.cmpne n (RF.ofWord w))
  | 0x22 => some (.cmplt n (RF.ofWord w))
  | 0x23 => some (.cmpltu n (RF.ofWord w))
  | 0x24 => some (.cmple n (RF.ofWord w))
  | 0x25 => some (.cmpleu n (RF.ofWord w))
  | 0x28 => some (.pand n (RF.ofWord w))
  | 0x29 => some (.por n (RF.ofWord w))
  | 0x2A => some (.pxor n (RF.ofWord w))
  | 0x2B => some (.pandn n (RF.ofWord w))
  | 0x2C => some (.pcnt n (RF.ofWord w))
  | 0x2D => some (.pfrom n (RF.ofWord w))
  | 0x2E => some (.pto n (RF.ofWord w))
  | 0x30 => some (.rdct n (RF.ofWord w))
  | 0x31 => some (.rdflags n (RF.ofWord w))
  | 0x32 => some (.clrflags n (RF.ofWord w))
  | 0x33 => some (.rdid n (RF.ofWord w))
  | _ => none

/-- Opcodes of CLASS 1 (R131); the others are reserved. -/
def decodeBranch (n : Nat) (w : W64) : Nat → Option Instr
  | 0x00 => some (.branchB n (IF.ofWord w))
  | 0x01 => some (.bl n (IF.ofWord w))
  | 0x02 => some (.br n (IF.ofWord w))
  | 0x03 => some (.blr n (IF.ofWord w))
  | 0x04 => some (.loop n (IF.ofWord w))
  | _ => none

/-- Opcodes of CLASS 2 (R133); the others are reserved. -/
def decodeAccess (n : Nat) (w : W64) : Nat → Option Instr
  | 0x00 => some (.ldB n (IF.ofWord w))
  | 0x01 => some (.ldBu n (IF.ofWord w))
  | 0x02 => some (.ldH n (IF.ofWord w))
  | 0x03 => some (.ldHu n (IF.ofWord w))
  | 0x04 => some (.ldW n (IF.ofWord w))
  | 0x05 => some (.ldWu n (IF.ofWord w))
  | 0x06 => some (.ldD n (IF.ofWord w))
  | 0x08 => some (.stB n (IF.ofWord w))
  | 0x09 => some (.stH n (IF.ofWord w))
  | 0x0A => some (.stW n (IF.ofWord w))
  | 0x0B => some (.stD n (IF.ofWord w))
  | 0x10 => some (.vld n (IF.ofWord w))
  | 0x11 => some (.vst n (IF.ofWord w))
  | 0x12 => some (.pld n (IF.ofWord w))
  | 0x13 => some (.pst n (IF.ofWord w))
  | 0x20 => some (.rldW n (RF.ofWord w))
  | 0x21 => some (.rldD n (RF.ofWord w))
  | 0x22 => some (.rstW n (RF.ofWord w))
  | 0x23 => some (.rstD n (RF.ofWord w))
  | 0x28 => some (.raddI32 n (RF.ofWord w))
  | 0x29 => some (.raddI64 n (RF.ofWord w))
  | 0x2A => some (.raddF32 n (RF.ofWord w))
  | 0x2B => some (.raddBf16x2 n (RF.ofWord w))
  | 0x2C => some (.rswapW n (RF.ofWord w))
  | 0x2D => some (.rswapD n (RF.ofWord w))
  | 0x2E => some (.rcasW n (RF.ofWord w))
  | 0x2F => some (.rcasD n (RF.ofWord w))
  | 0x30 => some (.rminI32 n (RF.ofWord w))
  | 0x31 => some (.rminI64 n (RF.ofWord w))
  | 0x32 => some (.rmaxI32 n (RF.ofWord w))
  | 0x33 => some (.rmaxI64 n (RF.ofWord w))
  | 0x34 => some (.randW n (RF.ofWord w))
  | 0x35 => some (.randD n (RF.ofWord w))
  | 0x36 => some (.rorW n (RF.ofWord w))
  | 0x37 => some (.rorD n (RF.ofWord w))
  | 0x38 => some (.rxorW n (RF.ofWord w))
  | 0x39 => some (.rxorD n (RF.ofWord w))
  | _ => none

/-- Opcodes of CLASS 3 (R135); the others are reserved. -/
def decodeVector (n : Nat) (w : W64) : Nat → Option Instr
  | 0x00 => some (.vadd n (RF.ofWord w))
  | 0x01 => some (.vsub n (RF.ofWord w))
  | 0x02 => some (.vmul n (RF.ofWord w))
  | 0x03 => some (.vfma n (RF.ofWord w))
  | 0x04 => some (.vfnma n (RF.ofWord w))
  | 0x05 => some (.vmin n (RF.ofWord w))
  | 0x06 => some (.vmax n (RF.ofWord w))
  | 0x07 => some (.vabs n (RF.ofWord w))
  | 0x08 => some (.vneg n (RF.ofWord w))
  | 0x09 => some (.vdiv n (RF.ofWord w))
  | 0x0A => some (.vsqrt n (RF.ofWord w))
  | 0x0B => some (.vrsqrt n (RF.ofWord w))
  | 0x0C => some (.vexp n (RF.ofWord w))
  | 0x0D => some (.vlog n (RF.ofWord w))
  | 0x0E => some (.vrsum n (RF.ofWord w))
  | 0x0F => some (.vrmax n (RF.ofWord w))
  | 0x10 => some (.vcmpeq n (RF.ofWord w))
  | 0x11 => some (.vcmplt n (RF.ofWord w))
  | 0x12 => some (.vcmple n (RF.ofWord w))
  | 0x13 => some (.vcmpun n (RF.ofWord w))
  | 0x14 => some (.vsel n (RF.ofWord w))
  | 0x15 => some (.vmov n (RF.ofWord w))
  | 0x16 => some (.vbcast n (RF.ofWord w))
  | 0x17 => some (.vextr n (RF.ofWord w))
  | 0x18 => some (.vand n (RF.ofWord w))
  | 0x19 => some (.vor n (RF.ofWord w))
  | 0x1A => some (.vxor n (RF.ofWord w))
  | 0x1B => some (.vshl n (RF.ofWord w))
  | 0x1C => some (.vshr n (RF.ofWord w))
  | 0x1D => some (.viota n (RF.ofWord w))
  | _ => none

/-- Opcodes of CLASS 4 (R138); the others are reserved. -/
def decodeConversion (n : Nat) (w : W64) : Nat → Option Instr
  | 0x00 => some (.cvtBf n (RF.ofWord w))
  | 0x01 => some (.cvtFblo n (RF.ofWord w))
  | 0x02 => some (.cvtFbhi n (RF.ofWord w))
  | 0x03 => some (.cvtIf n (RF.ofWord w))
  | 0x04 => some (.cvtFi n (RF.ofWord w))
  | 0x05 => some (.rint n (RF.ofWord w))
  | 0x10 => some (.pack n (RF.ofWord w))
  | 0x11 => some (.unpack n (RF.ofWord w))
  | _ => none

/-- Opcodes of CLASS 5 (R140); the others are reserved. -/
def decodeTile (n : Nat) (w : W64) : Nat → Option Instr
  | 0x00 => some (.tile n (CF.ofWord w))
  | 0x01 => some (.twarm n (CF.ofWord w))
  | _ => none

/-- Opcodes of CLASS 6 (R144); the others are reserved. -/
def decodeGather (n : Nat) (w : W64) : Nat → Option Instr
  | 0x00 => some (.gather n (RF.ofWord w))
  | 0x01 => some (.scatter n (RF.ofWord w))
  | 0x02 => some (.scatadd n (RF.ofWord w))
  | 0x08 => some (.rgather n (RF.ofWord w))
  | 0x09 => some (.rscatter n (RF.ofWord w))
  | 0x0A => some (.rscatadd n (RF.ofWord w))
  | _ => none

/-- Opcodes of CLASS 7 (R145); the others are reserved. -/
def decodeRoute (n : Nat) (w : W64) : Nat → Option Instr
  | 0x00 => some (.route n (CF.ofWord w))
  | _ => none

/-- Opcodes of CLASS 8 (R146); the others are reserved. -/
def decodeCopy (n : Nat) (w : W64) : Nat → Option Instr
  | 0x00 => some (.copy n (CF.ofWord w))
  | _ => none

/-- Opcodes of CLASS 9 (R147); the others are reserved. -/
def decodeSync (n : Nat) (w : W64) : Nat → Option Instr
  | 0x00 => some (.waitt n (CF.ofWord w))
  | 0x01 => some (.waitc n (CF.ofWord w))
  | 0x02 => some (.setcnt n (CF.ofWord w))
  | 0x03 => some (.rdcnt n (RF.ofWord w))
  | 0x04 => some (.fence n (RF.ofWord w))
  | 0x05 => some (.fenceEid n (RF.ofWord w))
  | 0x06 => some (.acq n (RF.ofWord w))
  | 0x07 => some (.rel n (RF.ofWord w))
  | 0x08 => some (.halt n (RF.ofWord w))
  | _ => none

/-- Opcodes of CLASS 10 (R149); the others are reserved. -/
def decodeUpdate (n : Nat) (w : W64) : Nat → Option Instr
  | 0x00 => some (.upd n (CF.ofWord w))
  | 0x01 => some (.updrow n (CF.ofWord w))
  | 0x02 => some (.rootreq n (CF.ofWord w))
  | 0x03 => some (.stepend n (CF.ofWord w))
  | _ => none

/-- The instruction of core n that a word encodes (R121, R128); a reserved class or opcode encodes none. -/
def decodeCoreWord (n : Nat) (w : W64) : Option Instr :=
  let op := (w.extractLsb' 54 6).toNat
  match (w.extractLsb' 60 4).toNat with
  | 0 => decodeScalar n w op
  | 1 => decodeBranch n w op
  | 2 => decodeAccess n w op
  | 3 => decodeVector n w op
  | 4 => decodeConversion n w op
  | 5 => decodeTile n w op
  | 6 => decodeGather n w op
  | 7 => decodeRoute n w op
  | 8 => decodeCopy n w op
  | 9 => decodeSync n w op
  | 10 => decodeUpdate n w op
  | _ => none

/-- The core and the word of a core instruction; the other commands of the block have no word. -/
def encodeCoreWord : Instr → Option (Nat × W64)
  | .nop n f => some (n, RF.toWord 0 0x00 f)
  | .add n f => some (n, RF.toWord 0 0x01 f)
  | .sub n f => some (n, RF.toWord 0 0x02 f)
  | .mul n f => some (n, RF.toWord 0 0x03 f)
  | .andS n f => some (n, RF.toWord 0 0x04 f)
  | .orS n f => some (n, RF.toWord 0 0x05 f)
  | .xorS n f => some (n, RF.toWord 0 0x06 f)
  | .shl n f => some (n, RF.toWord 0 0x07 f)
  | .shr n f => some (n, RF.toWord 0 0x08 f)
  | .sra n f => some (n, RF.toWord 0 0x09 f)
  | .minS n f => some (n, RF.toWord 0 0x0A f)
  | .maxS n f => some (n, RF.toWord 0 0x0B f)
  | .minu n f => some (n, RF.toWord 0 0x0C f)
  | .maxu n f => some (n, RF.toWord 0 0x0D f)
  | .addi n f => some (n, IF.toWord 0 0x10 f)
  | .andi n f => some (n, IF.toWord 0 0x11 f)
  | .ori n f => some (n, IF.toWord 0 0x12 f)
  | .shli n f => some (n, IF.toWord 0 0x13 f)
  | .shri n f => some (n, IF.toWord 0 0x14 f)
  | .srai n f => some (n, IF.toWord 0 0x15 f)
  | .li n f => some (n, IF.toWord 0 0x16 f)
  | .lih n f => some (n, IF.toWord 0 0x17 f)
  | .cmpeq n f => some (n, RF.toWord 0 0x20 f)
  | .cmpne n f => some (n, RF.toWord 0 0x21 f)
  | .cmplt n f => some (n, RF.toWord 0 0x22 f)
  | .cmpltu n f => some (n, RF.toWord 0 0x23 f)
  | .cmple n f => some (n, RF.toWord 0 0x24 f)
  | .cmpleu n f => some (n, RF.toWord 0 0x25 f)
  | .pand n f => some (n, RF.toWord 0 0x28 f)
  | .por n f => some (n, RF.toWord 0 0x29 f)
  | .pxor n f => some (n, RF.toWord 0 0x2A f)
  | .pandn n f => some (n, RF.toWord 0 0x2B f)
  | .pcnt n f => some (n, RF.toWord 0 0x2C f)
  | .pfrom n f => some (n, RF.toWord 0 0x2D f)
  | .pto n f => some (n, RF.toWord 0 0x2E f)
  | .rdct n f => some (n, RF.toWord 0 0x30 f)
  | .rdflags n f => some (n, RF.toWord 0 0x31 f)
  | .clrflags n f => some (n, RF.toWord 0 0x32 f)
  | .rdid n f => some (n, RF.toWord 0 0x33 f)
  | .branchB n f => some (n, IF.toWord 1 0x00 f)
  | .bl n f => some (n, IF.toWord 1 0x01 f)
  | .br n f => some (n, IF.toWord 1 0x02 f)
  | .blr n f => some (n, IF.toWord 1 0x03 f)
  | .loop n f => some (n, IF.toWord 1 0x04 f)
  | .ldB n f => some (n, IF.toWord 2 0x00 f)
  | .ldBu n f => some (n, IF.toWord 2 0x01 f)
  | .ldH n f => some (n, IF.toWord 2 0x02 f)
  | .ldHu n f => some (n, IF.toWord 2 0x03 f)
  | .ldW n f => some (n, IF.toWord 2 0x04 f)
  | .ldWu n f => some (n, IF.toWord 2 0x05 f)
  | .ldD n f => some (n, IF.toWord 2 0x06 f)
  | .stB n f => some (n, IF.toWord 2 0x08 f)
  | .stH n f => some (n, IF.toWord 2 0x09 f)
  | .stW n f => some (n, IF.toWord 2 0x0A f)
  | .stD n f => some (n, IF.toWord 2 0x0B f)
  | .vld n f => some (n, IF.toWord 2 0x10 f)
  | .vst n f => some (n, IF.toWord 2 0x11 f)
  | .pld n f => some (n, IF.toWord 2 0x12 f)
  | .pst n f => some (n, IF.toWord 2 0x13 f)
  | .rldW n f => some (n, RF.toWord 2 0x20 f)
  | .rldD n f => some (n, RF.toWord 2 0x21 f)
  | .rstW n f => some (n, RF.toWord 2 0x22 f)
  | .rstD n f => some (n, RF.toWord 2 0x23 f)
  | .raddI32 n f => some (n, RF.toWord 2 0x28 f)
  | .raddI64 n f => some (n, RF.toWord 2 0x29 f)
  | .raddF32 n f => some (n, RF.toWord 2 0x2A f)
  | .raddBf16x2 n f => some (n, RF.toWord 2 0x2B f)
  | .rswapW n f => some (n, RF.toWord 2 0x2C f)
  | .rswapD n f => some (n, RF.toWord 2 0x2D f)
  | .rcasW n f => some (n, RF.toWord 2 0x2E f)
  | .rcasD n f => some (n, RF.toWord 2 0x2F f)
  | .rminI32 n f => some (n, RF.toWord 2 0x30 f)
  | .rminI64 n f => some (n, RF.toWord 2 0x31 f)
  | .rmaxI32 n f => some (n, RF.toWord 2 0x32 f)
  | .rmaxI64 n f => some (n, RF.toWord 2 0x33 f)
  | .randW n f => some (n, RF.toWord 2 0x34 f)
  | .randD n f => some (n, RF.toWord 2 0x35 f)
  | .rorW n f => some (n, RF.toWord 2 0x36 f)
  | .rorD n f => some (n, RF.toWord 2 0x37 f)
  | .rxorW n f => some (n, RF.toWord 2 0x38 f)
  | .rxorD n f => some (n, RF.toWord 2 0x39 f)
  | .vadd n f => some (n, RF.toWord 3 0x00 f)
  | .vsub n f => some (n, RF.toWord 3 0x01 f)
  | .vmul n f => some (n, RF.toWord 3 0x02 f)
  | .vfma n f => some (n, RF.toWord 3 0x03 f)
  | .vfnma n f => some (n, RF.toWord 3 0x04 f)
  | .vmin n f => some (n, RF.toWord 3 0x05 f)
  | .vmax n f => some (n, RF.toWord 3 0x06 f)
  | .vabs n f => some (n, RF.toWord 3 0x07 f)
  | .vneg n f => some (n, RF.toWord 3 0x08 f)
  | .vdiv n f => some (n, RF.toWord 3 0x09 f)
  | .vsqrt n f => some (n, RF.toWord 3 0x0A f)
  | .vrsqrt n f => some (n, RF.toWord 3 0x0B f)
  | .vexp n f => some (n, RF.toWord 3 0x0C f)
  | .vlog n f => some (n, RF.toWord 3 0x0D f)
  | .vrsum n f => some (n, RF.toWord 3 0x0E f)
  | .vrmax n f => some (n, RF.toWord 3 0x0F f)
  | .vcmpeq n f => some (n, RF.toWord 3 0x10 f)
  | .vcmplt n f => some (n, RF.toWord 3 0x11 f)
  | .vcmple n f => some (n, RF.toWord 3 0x12 f)
  | .vcmpun n f => some (n, RF.toWord 3 0x13 f)
  | .vsel n f => some (n, RF.toWord 3 0x14 f)
  | .vmov n f => some (n, RF.toWord 3 0x15 f)
  | .vbcast n f => some (n, RF.toWord 3 0x16 f)
  | .vextr n f => some (n, RF.toWord 3 0x17 f)
  | .vand n f => some (n, RF.toWord 3 0x18 f)
  | .vor n f => some (n, RF.toWord 3 0x19 f)
  | .vxor n f => some (n, RF.toWord 3 0x1A f)
  | .vshl n f => some (n, RF.toWord 3 0x1B f)
  | .vshr n f => some (n, RF.toWord 3 0x1C f)
  | .viota n f => some (n, RF.toWord 3 0x1D f)
  | .cvtBf n f => some (n, RF.toWord 4 0x00 f)
  | .cvtFblo n f => some (n, RF.toWord 4 0x01 f)
  | .cvtFbhi n f => some (n, RF.toWord 4 0x02 f)
  | .cvtIf n f => some (n, RF.toWord 4 0x03 f)
  | .cvtFi n f => some (n, RF.toWord 4 0x04 f)
  | .rint n f => some (n, RF.toWord 4 0x05 f)
  | .pack n f => some (n, RF.toWord 4 0x10 f)
  | .unpack n f => some (n, RF.toWord 4 0x11 f)
  | .tile n f => some (n, CF.toWord 5 0x00 f)
  | .twarm n f => some (n, CF.toWord 5 0x01 f)
  | .gather n f => some (n, RF.toWord 6 0x00 f)
  | .scatter n f => some (n, RF.toWord 6 0x01 f)
  | .scatadd n f => some (n, RF.toWord 6 0x02 f)
  | .rgather n f => some (n, RF.toWord 6 0x08 f)
  | .rscatter n f => some (n, RF.toWord 6 0x09 f)
  | .rscatadd n f => some (n, RF.toWord 6 0x0A f)
  | .route n f => some (n, CF.toWord 7 0x00 f)
  | .copy n f => some (n, CF.toWord 8 0x00 f)
  | .waitt n f => some (n, CF.toWord 9 0x00 f)
  | .waitc n f => some (n, CF.toWord 9 0x01 f)
  | .setcnt n f => some (n, CF.toWord 9 0x02 f)
  | .rdcnt n f => some (n, RF.toWord 9 0x03 f)
  | .fence n f => some (n, RF.toWord 9 0x04 f)
  | .fenceEid n f => some (n, RF.toWord 9 0x05 f)
  | .acq n f => some (n, RF.toWord 9 0x06 f)
  | .rel n f => some (n, RF.toWord 9 0x07 f)
  | .halt n f => some (n, RF.toWord 9 0x08 f)
  | .upd n f => some (n, CF.toWord 10 0x00 f)
  | .updrow n f => some (n, CF.toWord 10 0x01 f)
  | .rootreq n f => some (n, CF.toWord 10 0x02 f)
  | .stepend n f => some (n, CF.toWord 10 0x03 f)
  | _ => none

end Sys2Proof
end

