-- ==== Sys2Proof/Config.lean ====
section
/-! DEFINITION. What the spec leaves open or names by a published standard: constants without a body, so that nothing can be
proved of their values. Each is marked in notes/assumptions. -/
namespace Sys2Proof

/-- A firmware container (R391, R428): the manifest's fields, its bytes up to the signature, the pair signature of 3,373 bytes, and the loader
and firmware body that go with it; and the protocol and container majors that R431 compares. -/
structure Container where
  fw : BitVec 48
  svn : Nat
  key : Nat
  revokeOther : Bool
  vendorKey : List Byte
  loaderHash : BitVec 256
  bodyHash : BitVec 256
  signed : List Byte
  signature : List Byte
  loader : List Byte
  body : List Byte
  proto : Nat
  fmt : Nat
  deriving DecidableEq, Repr

namespace Config

/-- A free value (log 3): the value that the spec leaves open at the n-th place where one is needed. -/
opaque freeValue : Nat → W64

/-- Where in its bound of R136 the unit's own result of VRSQRT, VEXP or VLOG lies before rounding (log 10): for the operation (0 rsqrt,
1 exp, 2 log), the precision of the format and the input's binary32 bits, the part of the way from the lower to the upper end in units of
2^-32, and whether something is left below that. -/
opaque unitPart : Nat → Nat → W32 → W32 × Bool

/-- How strongly the clock servo answers an offset in sixteenths of a tick (R31, R33, R37, log 101): the size of the rate correction in
units of 10^-9 before its bound. -/
opaque servo : Int → Nat

/-- Whether a value below the smallest normal number counts as tiny when it rounds up to that number (R61, log 16). -/
opaque tinyBeforeRounding : Bool

/-- The set that a line of the remote-data cache belongs to (R214, log 11). -/
opaque rcSet : Nat → Nat

/-- The power of x that a symbol of a codeword stands at, modulo 255 (R194, log 12): symbols 0 to 71 are stored, 72 and 73 are the
address symbols. -/
opaque symbolPlace : Nat → Nat

/-- The random value of the n-th draw (log 13): the fresh keys and values of R397 and of a signature. -/
opaque drawn : Nat → BitVec 256

/-- What a firmware bank's bytes hold (log 14): R391 lists what a manifest carries and no rule lays it out; none where they hold none. -/
opaque container : List (Nat × Byte) → Option Container

/-- The CRC-32C of a position's probe that was fused at test (R369): core and position (log 15). -/
opaque probeCrc : Nat → Nat → W32

/-- The rail voltage in millivolts fused for a die's operating point (R358): die, operating point (log 15). -/
opaque fusedMillivolt : Nat → Nat → Nat

/-- The factory table of a ring: heater code at 20 °C + 5 °C × i (R294): ring number and i (log 15). -/
opaque heaterTable : Nat → Nat → Nat

end Config

end Sys2Proof
end

