-- ==== Sys2Proof/Machine/Bits.lean ====
section
/-! DEFINITION. Bit fields, little-endian words (R5) and the two checks that the wire formats use (R258, R259). -/
namespace Sys2Proof.Machine

/-- Field [hi:lo] of a number. -/
def fieldOf (w hi lo : Nat) : Nat := w / 2 ^ lo % 2 ^ (hi + 1 - lo)

/-- Field [hi:lo] of a 64-bit word, as a number. -/
def fld (w : W64) (hi lo : Nat) : Nat := fieldOf w.toNat hi lo

/-- Bit i of a 64-bit word. -/
def bit (w : W64) (i : Nat) : Bool := w.getLsbD i

/-- The ones of [hi:lo] in a 64-bit word. -/
def maskOf (hi lo : Nat) : W64 := BitVec.ofNat 64 ((2 ^ (hi + 1 - lo) - 1) * 2 ^ lo)

/-- A word with field [hi:lo] replaced by the low bits of v. -/
def setFld (w : W64) (hi lo v : Nat) : W64 :=
  (w &&& ~~~ maskOf hi lo) ||| (BitVec.ofNat 64 (v % 2 ^ (hi + 1 - lo) * 2 ^ lo))

/-- A value placed in field [hi:lo] of an otherwise zero word. -/
def atFld (hi lo v : Nat) : W64 := setFld 0 hi lo v

/-- A Boolean as the number 0 or 1. -/
def b2n (b : Bool) : Nat := if b then 1 else 0

/-- A number as a signed value of w bits. -/
def signed (w n : Nat) : Int := if n % 2 ^ w < 2 ^ (w - 1) then (n % 2 ^ w : Nat) else (n % 2 ^ w : Nat) - (2 ^ w : Nat)

/-- A signed value as a number of w bits. -/
def unsigned (w : Nat) (i : Int) : Nat := (i % (2 ^ w : Nat)).toNat

/-- The number that bytes form, least significant first (R5). -/
def ofBytes : List Byte → Nat
  | [] => 0
  | b :: bs => b.toNat + 256 * ofBytes bs

/-- The n low bytes of a number, least significant first (R5). -/
def toBytes : Nat → Nat → List Byte
  | 0, _ => []
  | n + 1, v => BitVec.ofNat 8 v :: toBytes n (v / 256)

/-- The 64-bit words of a byte list, each stored least significant byte first. -/
def wordsOf : Nat → List Byte → List W64
  | 0, _ => []
  | n + 1, bs => BitVec.ofNat 64 (ofBytes (bs.take 8)) :: wordsOf n (bs.drop 8)

/-- The bytes of a list of 64-bit words. -/
def bytesOf (ws : List W64) : List Byte := ws.flatMap fun w => toBytes 8 w.toNat

/-- The smallest multiple of k that is not below n, divided by k. -/
def ceilDiv (n k : Nat) : Nat := (n + k - 1) / k

/-- One bit into the CRC-16 of R258. -/
def crc16Bit (c : Nat) (b : Bool) : Nat :=
  let top := decide (c / 2 ^ 15 % 2 = 1) != b
  let s := c * 2 % 2 ^ 16
  if top then s ^^^ 0x1021 else s

/-- CRC-16 of R258 and R405: generator x^16 + x^12 + x^5 + 1, initial value 0xFFFF, most significant bit of each byte first. -/
def crc16 (bs : List Byte) : Nat :=
  bs.foldl (fun c b => (List.range 8).foldl (fun c i => crc16Bit c (b.getLsbD (7 - i))) c) 0xFFFF

/-- One bit into the reflected CRC-32C. -/
def crc32cBit (c : Nat) (b : Bool) : Nat :=
  if (decide (c % 2 = 1) != b) then (c / 2) ^^^ 0x82F63B78 else c / 2

/-- CRC-32C (Castagnoli) of R259 and R316. -/
def crc32c (bs : List Byte) : Nat :=
  (bs.foldl (fun c b => (List.range 8).foldl (fun c i => crc32cBit c (b.getLsbD i)) c) 0xFFFFFFFF) ^^^ 0xFFFFFFFF

/-- A saturating sum (counter fields saturate at their maximum). -/
def satAdd (top v k : Nat) : Nat := min top (v + k)

/-- Arbitration order of R18: lower is served first at equal timestamps. -/
def rotIndex (index slot span : Nat) : Nat := (index + span - slot % span) % span

/-- Elements at the end of a list that yield to one that comes now. -/
def yielding {α : Type} (yields : α → Bool) (l : List α) : Nat := (l.reverse.takeWhile yields).length

/-- One that comes now placed before the elements at the list's end that yield to it: of the same cycle, later in the order of R18. -/
def placeBefore {α : Type} (yields : α → Bool) (x : α) (l : List α) : List α :=
  let k := l.length - yielding yields l
  l.take k ++ x :: l.drop k

end Sys2Proof.Machine
end

