-- ==== Sys2Proof/Machine/Flags.lean ====
section
/-! DEFINITION. The sticky flags of CORE.FLAGS as masks of that register (R103, R118), and the rounding modes of R59. -/
namespace Sys2Proof.Machine

/-- CORE.FLAGS.INVALID (R48, R57, R108). -/
abbrev Flag.invalid : W64 := 0x001
/-- CORE.FLAGS.DIVZERO: a finite non-zero value divided by zero. -/
abbrev Flag.divzero : W64 := 0x002
/-- CORE.FLAGS.OVERFLOW (R61). -/
abbrev Flag.overflow : W64 := 0x004
/-- CORE.FLAGS.UNDERFLOW (R61). -/
abbrev Flag.underflow : W64 := 0x008
/-- CORE.FLAGS.INEXACT: a rounding changed a value. -/
abbrev Flag.inexact : W64 := 0x010
/-- CORE.FLAGS.NONFINITE (R58, R63, R74). -/
abbrev Flag.nonfinite : W64 := 0x020
/-- CORE.FLAGS.SATURATION (R52, R57, R62, R106). -/
abbrev Flag.saturation : W64 := 0x040
/-- CORE.FLAGS.SPARSE_INDEX (R77). -/
abbrev Flag.sparseIndex : W64 := 0x080
/-- CORE.FLAGS.INDEX: a gather or scatter index out of bound. -/
abbrev Flag.index : W64 := 0x100

/-- A rounding mode with what it needs: for SR the 32 random bits of the element (R59, R60). -/
inductive Rm where
  | rne
  | rtz
  | sr (r : Nat)
  deriving DecidableEq, Repr

/-- The 32 random bits of R60 for a key and an element index. -/
def srBits (key idx : W64) : Nat :=
  let z := key + idx * 0x9E3779B97F4A7C15
  let z := (z ^^^ (z >>> 30)) * 0xBF58476D1CE4E5B9
  let z := (z ^^^ (z >>> 27)) * 0x94D049BB133111EB
  let z := z ^^^ (z >>> 31)
  (z >>> 32).toNat

/-- Whether a magnitude rounds up (R59, R60): kept part m, d dropped bits of value D, and whether anything non-zero lies below. -/
def roundsUp (rm : Rm) (m d D : Nat) (sticky : Bool) : Bool :=
  match rm with
  | .rtz => false
  | .rne => decide (2 ^ d < 2 * D) || (decide (2 * D = 2 ^ d) && decide (0 < d) && (sticky || m % 2 = 1))
  | .sr r => if d ≤ 32 then decide (2 ^ d ≤ D + r / 2 ^ (32 - d)) else decide (2 ^ 32 ≤ D / 2 ^ (d - 32) + r)

/-- Round a magnitude man × 2^(-d) to an integer in a mode. -/
def roundShift (rm : Rm) (man d : Nat) (sticky : Bool) : Nat × Bool :=
  let m := man / 2 ^ d
  let D := man % 2 ^ d
  (m + b2n (roundsUp rm m d D sticky), decide (D ≠ 0) || sticky)

end Sys2Proof.Machine
end

