-- ==== Sys2Proof/Machine/Float.lean ====
section
/-! DEFINITION. Binary32 and BF16 arithmetic (R47, R48, R57, R59 to R61, R136): values decoded exactly, results rounded once. -/
namespace Sys2Proof.Machine

/-- A floating-point format by its precision and the exponent of its smallest subnormal. -/
structure FFmt where
  prec : Nat
  qmin : Int
  deriving DecidableEq, Repr

/-- Binary32 (R47). -/
abbrev f32 : FFmt := ⟨24, -149⟩
/-- BF16 (R47). -/
abbrev bf16 : FFmt := ⟨8, -133⟩

/-- The encoding of +∞ without its sign. -/
def FFmt.infBits (f : FFmt) : Nat := 255 * 2 ^ (f.prec - 1)
/-- The canonical NaN (R48). -/
def FFmt.nanBits (f : FFmt) : Nat := f.infBits + 2 ^ (f.prec - 2)
/-- The sign bit's place value. -/
def FFmt.signBit (f : FFmt) : Nat := 2 ^ (f.prec + 7)

/-- A decoded value: NaN (signalling or not), ∞, or (-1)^neg × man × 2^exp. -/
inductive FV where
  | nan (signalling : Bool)
  | inf (neg : Bool)
  | fin (neg : Bool) (man : Nat) (exp : Int)
  deriving DecidableEq, Repr

/-- Decode a value of a format; subnormal values are kept (R47). -/
def decodeF (f : FFmt) (bits : Nat) : FV :=
  let neg := decide (bits / f.signBit % 2 = 1)
  let mag := bits % f.signBit
  let h := 2 ^ (f.prec - 1)
  let e := mag / h
  let frac := mag % h
  if e = 255 then (if frac = 0 then .inf neg else .nan (decide (frac < h / 2)))
  else if e = 0 then .fin neg frac f.qmin
  else .fin neg (h + frac) (f.qmin + (e : Int) - 1)

/-- Is the value NaN. -/
def FV.isNaN : FV → Bool
  | .nan _ => true
  | _ => false

/-- Is the value a signalling NaN. -/
def FV.isSNaN : FV → Bool
  | .nan g => g
  | _ => false

/-- A result's bits and the flags it sets. -/
abbrev FRes := Nat × W64

/-- The number of bits of a magnitude. -/
def bitLen (n : Nat) : Nat := if n = 0 then 0 else n.log2 + 1

/-- Put a sign on a magnitude's encoding. -/
def FFmt.withSign (f : FFmt) (neg : Bool) (mag : Nat) : Nat := mag + b2n neg * f.signBit

/-- The exponent of the grid that a magnitude is rounded to. -/
def FFmt.quantum (f : FFmt) (man : Nat) (exp : Int) : Int := max (exp + bitLen man - f.prec) f.qmin

/-- The magnitude's encoding before overflow is looked at, and whether the rounding changed the value. -/
def FFmt.roundMag (f : FFmt) (rm : Rm) (man : Nat) (exp : Int) (sticky : Bool) : Nat × Bool :=
  let q := f.quantum man exp
  let (m, inexact) :=
    if q ≤ exp then (man * 2 ^ (exp - q).toNat, sticky) else roundShift rm man (q - exp).toNat sticky
  ((q - f.qmin).toNat * 2 ^ (f.prec - 1) + m, inexact)

/-- Is man × 2^exp below the smallest normal number of the format. -/
def FFmt.belowNormal (f : FFmt) (man : Nat) (exp : Int) : Bool := decide (exp + bitLen man < f.qmin + f.prec)

/-- A magnitude below the smallest normal number is tiny (R61, log 16): before rounding always, after rounding unless the value rounded
to the format's precision with an unbounded exponent reaches that number. -/
def FFmt.tiny (f : FFmt) (rm : Rm) (man : Nat) (exp : Int) (sticky : Bool) : Bool :=
  let q := exp + bitLen man - f.prec
  let m := if q ≤ exp then man * 2 ^ (exp - q).toNat else (roundShift rm man (q - exp).toNat sticky).1
  f.belowNormal man exp && (Config.tinyBeforeRounding || !(m == 2 ^ f.prec && decide (q + 1 = f.qmin)))

/-- Round an exact value, or one with something non-zero below its last bit, to a format (R59 to R61). -/
def FFmt.round (f : FFmt) (rm : Rm) (neg : Bool) (man : Nat) (exp : Int) (sticky : Bool) : FRes :=
  if man = 0 ∧ sticky = false then (f.withSign neg 0, 0)
  else
    let (bits, inexact) := f.roundMag rm man exp sticky
    if f.infBits ≤ bits then
      (f.withSign neg (if rm = .rtz then f.infBits - 1 else f.infBits), Flag.overflow ||| Flag.inexact)
    else
      (f.withSign neg bits,
        if inexact then (if f.tiny rm man exp sticky then Flag.inexact ||| Flag.underflow else Flag.inexact) else 0)

/-- The canonical NaN with INVALID when it comes of an invalid operation or a signalling input (R48). -/
def FFmt.nanRes (f : FFmt) (invalid : Bool) : FRes := (f.nanBits, if invalid then Flag.invalid else 0)

/-- Exact signed sum of two finite values: (sum, exponent). -/
def exactSum (n1 : Bool) (m1 : Nat) (e1 : Int) (n2 : Bool) (m2 : Nat) (e2 : Int) : Int × Int :=
  let e := min e1 e2
  let a : Int := (m1 * 2 ^ (e1 - e).toNat : Nat)
  let b : Int := (m2 * 2 ^ (e2 - e).toNat : Nat)
  ((if n1 then -a else a) + (if n2 then -b else b), e)

/-- Add decoded values and round once to a format. An exact zero sum is +0 unless both are negative zeros or negative. -/
def FFmt.addV (f : FFmt) (rm : Rm) (x y : FV) : FRes :=
  if x.isNaN || y.isNaN then f.nanRes (x.isSNaN || y.isSNaN)
  else match x, y with
  | .inf a, .inf b => if a = b then (f.withSign a f.infBits, 0) else f.nanRes true
  | .inf a, _ => (f.withSign a f.infBits, 0)
  | _, .inf b => (f.withSign b f.infBits, 0)
  | .fin n1 m1 e1, .fin n2 m2 e2 =>
    let (v, e) := exactSum n1 m1 e1 n2 m2 e2
    if v = 0 then (f.withSign (n1 && n2 && decide (m1 = 0) && decide (m2 = 0)) 0, 0)
    else f.round rm (decide (v < 0)) v.natAbs e false
  | _, _ => f.nanRes false

/-- Negate a decoded value. -/
def FV.neg : FV → FV
  | .nan g => .nan g
  | .inf n => .inf !n
  | .fin n m e => .fin (!n) m e

/-- Magnitude of a decoded value. -/
def FV.abs : FV → FV
  | .nan g => .nan g
  | .inf _ => .inf false
  | .fin _ m e => .fin false m e

/-- Exact product of decoded values, with whether the operation is invalid (0 × ∞). -/
def mulV (x y : FV) : FV × Bool :=
  if x.isNaN || y.isNaN then (.nan false, x.isSNaN || y.isSNaN)
  else match x, y with
  | .inf a, .inf b => (.inf (a != b), false)
  | .inf a, .fin n m _ => if m = 0 then (.nan false, true) else (.inf (a != n), false)
  | .fin n m _, .inf b => if m = 0 then (.nan false, true) else (.inf (n != b), false)
  | .fin n1 m1 e1, .fin n2 m2 e2 => (.fin (n1 != n2) (m1 * m2) (e1 + e2), false)
  | _, _ => (.nan false, false)

/-- Encode a decoded value into a format, rounding once. -/
def FFmt.enc (f : FFmt) (rm : Rm) : FV → FRes
  | .nan g => f.nanRes g
  | .inf n => (f.withSign n f.infBits, 0)
  | .fin n m e => f.round rm n m e false

/-- Multiply and round once. -/
def FFmt.mulR (f : FFmt) (rm : Rm) (x y : FV) : FRes :=
  let (p, inv) := mulV x y
  if p.isNaN then f.nanRes inv else f.enc rm p

/-- x × y + z with one rounding (R48, R57). 0 × ∞ sets INVALID with a quiet NaN addend too, which IEEE 754 leaves to the implementation
(DESIGN CHOICE, log 116). -/
def FFmt.fmaR (f : FFmt) (rm : Rm) (x y z : FV) : FRes :=
  let (p, inv) := mulV x y
  if p.isNaN || z.isNaN then f.nanRes (inv || z.isSNaN) else f.addV rm p z

/-- Quotient of magnitudes with at least 64 significant bits: (quotient, exponent, whether anything is left). -/
def exactDiv (m1 : Nat) (e1 : Int) (m2 : Nat) (e2 : Int) : Nat × Int × Bool :=
  let k := 64 + bitLen m2
  (m1 * 2 ^ k / m2, e1 - e2 - k, decide (m1 * 2 ^ k % m2 ≠ 0))

/-- Divide, correctly rounded (R136). -/
def FFmt.divR (f : FFmt) (rm : Rm) (x y : FV) : FRes :=
  if x.isNaN || y.isNaN then f.nanRes (x.isSNaN || y.isSNaN)
  else match x, y with
  | .inf _, .inf _ => f.nanRes true
  | .inf a, .fin n _ _ => (f.withSign (a != n) f.infBits, 0)
  | .fin n _ _, .inf b => (f.withSign (n != b) 0, 0)
  | .fin n1 m1 e1, .fin n2 m2 e2 =>
    if m2 = 0 then (if m1 = 0 then f.nanRes true else (f.withSign (n1 != n2) f.infBits, Flag.divzero))
    else if m1 = 0 then (f.withSign (n1 != n2) 0, 0)
    else
      let (q, e, st) := exactDiv m1 e1 m2 e2
      f.round rm (n1 != n2) q e st
  | _, _ => f.nanRes false

/-- Integer square root, by deciding its bits from bit i - 1 down. -/
def isqrtFrom (n : Nat) : Nat → Nat → Nat
  | 0, r => r
  | i + 1, r => if (r + 2 ^ i) * (r + 2 ^ i) ≤ n then isqrtFrom n i (r + 2 ^ i) else isqrtFrom n i r

/-- Square root of man × 2^exp with at least 64 significant bits. -/
def exactSqrt (man : Nat) (exp : Int) : Nat × Int × Bool :=
  let odd := exp % 2 = 1
  let m := (if odd then man * 2 else man) * 2 ^ 128
  let e := (if odd then exp - 1 else exp) / 2 - 64
  let r := isqrtFrom m 90 0
  (r, e, decide (r * r ≠ m))

/-- Square root, correctly rounded (R136). -/
def FFmt.sqrtR (f : FFmt) (rm : Rm) : FV → FRes
  | .nan g => f.nanRes g
  | .inf n => if n then f.nanRes true else (f.infBits, 0)
  | .fin n m e =>
    if m = 0 then (f.withSign n 0, 0)
    else if n then f.nanRes true
    else let (r, q, st) := exactSqrt m e; f.round rm false r q st

/-! The exact values that VRSQRT, VEXP and VLOG come within 1 unit in the last place of (R136), as numbers in units of 2^-320: the
fixed-point series are exact far below that place. -/

/-- Fraction bits of the fixed-point values. -/
abbrev unitFrac : Nat := 320

/-- man × 2^exp in units of 2^-320. -/
def fixedOf (man : Nat) (exp : Int) : Nat :=
  if 0 ≤ exp + unitFrac then man * 2 ^ (exp + unitFrac).toNat else man / 2 ^ (-(exp + unitFrac)).toNat

/-- e to a power of at most 2^-3 in magnitude, by its series. -/
def expSmall (r : Int) : Int :=
  ((List.range 70).foldl (fun (a : Int × Int) i => let t := a.2 * r / (2 ^ unitFrac * (i + 1 : Nat)); (a.1 + t, t)) (2 ^ unitFrac, 2 ^ unitFrac)).1

/-- e to a power of magnitude below 2^7: the power is divided by 2^10 and the result squared ten times. -/
def expFixed (x : Int) : Nat := ((List.range 10).foldl (fun (v : Int) _ => v * v / 2 ^ unitFrac) (expSmall (x / 2 ^ 10))).toNat

/-- Twice the inverse hyperbolic tangent of a number of at most 1/3 in magnitude, by its series. -/
def atanh2 (z : Int) : Int :=
  2 * ((List.range 110).foldl (fun (a : Int × Int) i => (a.1 + a.2 / (2 * i + 1 : Nat), a.2 * z / 2 ^ unitFrac * z / 2 ^ unitFrac)) (0, z)).1

/-- Natural logarithm of man × 2^exp: of its mantissa in [1, 2), and of the power of 2. -/
def logFixed (man : Nat) (exp : Int) : Int :=
  let k := bitLen man - 1
  let one : Int := 2 ^ unitFrac
  let y : Int := (fixedOf man (-(k : Int)) : Nat)
  atanh2 ((y - one) * one / (y + one)) + (exp + k) * atanh2 (one / 3)

/-- Round the unit's own result of VRSQRT, VEXP or VLOG (R60, R136, log 10), which lies between the two values of the format next to
the exact one, or within one unit of an exact one that the format holds: sign, magnitude in units of 2^-320, and whether that is exact. -/
def FFmt.unitR (f : FFmt) (rm : Rm) (op : Nat) (bits : W32) (neg : Bool) (v : Nat) (exact : Bool) : FRes :=
  let q := f.quantum v (-(unitFrac : Int))
  let cell := v / 2 ^ (q + unitFrac).toNat
  let (t, st) := Config.unitPart op f.prec bits
  let held := exact && cell * 2 ^ (q + unitFrac).toNat == v
  let (lo, part) := if held && decide (0 < cell) then (cell - 1, 2 * t.toNat) else (cell, t.toNat)
  f.round rm neg (lo * 2 ^ 32 + part) (q - 32) st

/-- 1 / square root (R136). -/
def FFmt.rsqrtR (f : FFmt) (rm : Rm) (bits : W32) : FV → FRes
  | .nan g => f.nanRes g
  | .inf n => if n then f.nanRes true else (0, 0)
  | .fin n m e =>
    if m = 0 then (f.withSign n f.infBits, Flag.divzero)
    else if n then f.nanRes true
    else
      let x := fixedOf m e
      let r := isqrtFrom (2 ^ (3 * unitFrac) / x) 500 0
      f.unitR rm 0 bits false r (r * r * x == 2 ^ (3 * unitFrac))

/-- e to a power (R136). Of a power so low that the exact value is below half the smallest number, the unit's own result lies between +0
and that number as log 10 leaves it. -/
def FFmt.expR (f : FFmt) (rm : Rm) (bits : W32) : FV → FRes
  | .nan g => f.nanRes g
  | .inf n => if n then (0, 0) else (f.infBits, 0)
  | .fin n m e =>
    if 2 ^ (unitFrac + 7) ≤ fixedOf m e then (if n then f.unitR rm 1 bits false 1 false else f.round rm false (2 ^ 200) 0 true)
    else
      let x : Int := (fixedOf m e : Nat)
      f.unitR rm 1 bits false (expFixed (if n then -x else x)) (m == 0)

/-- Natural logarithm (R136). -/
def FFmt.logR (f : FFmt) (rm : Rm) (bits : W32) : FV → FRes
  | .nan g => f.nanRes g
  | .inf n => if n then f.nanRes true else (f.infBits, 0)
  | .fin n m e =>
    if m = 0 then (f.withSign true f.infBits, Flag.divzero)
    else if n then f.nanRes true
    else
      let v := logFixed m e
      f.unitR rm 2 bits (decide (v < 0)) v.natAbs (v == 0)

/-- A number that orders finite and infinite values as IEEE 754 does, the zeros taken as equal: an exact rational over 2^200. -/
def FV.rank : FV → Int
  | .nan _ => 0
  | .inf n => if n then -(2 ^ 400 : Nat) else (2 ^ 400 : Nat)
  | .fin n m e => let v : Int := (m * 2 ^ (e + 200).toNat : Nat); if n then -v else v

/-- x < y for values that are not NaN. -/
def FV.lt (x y : FV) : Bool := decide (x.rank < y.rank)
/-- x = y for values that are not NaN. -/
def FV.eq (x y : FV) : Bool := decide (x.rank = y.rank)

/-- Is the value negative, the sign of a zero included. -/
def FV.isNeg : FV → Bool
  | .nan _ => false
  | .inf n => n
  | .fin n _ _ => n

/-- Minimum (mx false) or maximum (mx true) of VMIN and VMAX (R135). -/
def FFmt.minMax (f : FFmt) (mx : Bool) (x y : FV) : FRes :=
  let inv := if x.isSNaN || y.isSNaN then Flag.invalid else 0
  if x.isNaN && y.isNaN then (f.nanBits, inv)
  else if x.isNaN then ((f.enc .rne y).1, inv)
  else if y.isNaN then ((f.enc .rne x).1, inv)
  else
    let xFirst := if x.eq y then (if mx then !x.isNeg else x.isNeg) else (if mx then y.lt x else x.lt y)
    ((f.enc .rne (if xFirst then x else y)).1, inv)

/-- Binary32 to INT32, clamped to the symmetric range (R57). -/
def toInt32 (rm : Rm) : FV → Nat × W64
  | .nan _ => (0, Flag.invalid)
  | .inf n => (unsigned 32 (if n then -(2 ^ 31 - 1) else 2 ^ 31 - 1), Flag.saturation)
  | .fin n m e =>
    let (k, inexact) := if 0 ≤ e then (m * 2 ^ e.toNat, false) else roundShift rm m (-e).toNat false
    if 2 ^ 31 - 1 < k then (unsigned 32 (if n then -(2 ^ 31 - 1) else 2 ^ 31 - 1), Flag.saturation)
    else (unsigned 32 (if n then -(k : Int) else k), if inexact then Flag.inexact else 0)

/-- INT32 to binary32 (R138). -/
def ofInt32 (rm : Rm) (w : W32) : FRes := f32.round rm (decide (w.toInt < 0)) w.toInt.natAbs 0 false

/-- Binary32 to an integral binary32 value (R138). -/
def rintR (rm : Rm) : FV → FRes
  | .nan g => f32.nanRes g
  | .inf n => (f32.withSign n f32.infBits, 0)
  | .fin n m e =>
    if 0 ≤ e then f32.round rm n m e false
    else
      let (k, inexact) := roundShift rm m (-e).toNat false
      ((f32.round .rne n k 0 false).1, if inexact then Flag.inexact else 0)

/-- Clamp to the symmetric INT32 range (R57). -/
def clampI32 (v : Int) : Nat × W64 :=
  if v < -(2 ^ 31 - 1) then (unsigned 32 (-(2 ^ 31 - 1)), Flag.saturation)
  else if 2 ^ 31 - 1 < v then (unsigned 32 (2 ^ 31 - 1), Flag.saturation)
  else (unsigned 32 v, 0)

/-! Binary32 operations on words, in RNE without flags: the update engine's and the array's own arithmetic (R56, R158). -/

/-- Decode a binary32 word. -/
def dec32 (w : W32) : FV := decodeF f32 w.toNat
/-- Decode a BF16 half word. -/
def dec16 (n : Nat) : FV := decodeF bf16 n
/-- A binary32 result as a word. -/
def w32 (r : FRes) : W32 := BitVec.ofNat 32 r.1
/-- Addition in RNE. -/
def addF (a b : W32) : W32 := w32 (f32.addV .rne (dec32 a) (dec32 b))
/-- Subtraction in RNE. -/
def subF (a b : W32) : W32 := w32 (f32.addV .rne (dec32 a) (dec32 b).neg)
/-- Multiplication in RNE. -/
def mulF (a b : W32) : W32 := w32 (f32.mulR .rne (dec32 a) (dec32 b))
/-- Division in RNE. -/
def divF (a b : W32) : W32 := w32 (f32.divR .rne (dec32 a) (dec32 b))
/-- Square root in RNE. -/
def sqrtF (a : W32) : W32 := w32 (f32.sqrtR .rne (dec32 a))
/-- A natural number in RNE. -/
def natF (n : Nat) : W32 := w32 (f32.round .rne false n 0 false)
/-- Is a word a finite binary32 value. -/
def finiteF (a : W32) : Bool := decide (a.toNat / 2 ^ 23 % 256 ≠ 255)

end Sys2Proof.Machine
end

