-- ==== Sys2Proof/Machine/RegTable.lean ====
section
/-! DEFINITION. The registers of the control space as the register tables of the spec give them: address, count, and each field's
bits, access code (R9) and reset value. A field whose reset the spec calls "image" or "fuse" stands here with 0: the image's value is
written at activation, and fused fields are read from `Fuse`. -/
namespace Sys2Proof.Machine

/-- Access codes of R9. -/
inductive Acc where
  | ro | rw | rwl | w1c | w1s | rc | wo
  deriving DecidableEq, Repr

/-- A field of a register: name, bits [hi:lo], access code and reset value. -/
structure RegField where
  name : String
  hi : Nat
  lo : Nat
  acc : Acc
  reset : Nat
  deriving DecidableEq, Repr

/-- A register or an array of registers: `n1` copies `s1` bytes apart, each with `n2` copies `s2` bytes apart. -/
structure RegDesc where
  base : Nat
  n1 : Nat
  s1 : Nat
  n2 : Nat
  s2 : Nat
  fields : List RegField
  deriving DecidableEq, Repr

/-- TIME NOW (R44). -/
def Reg.timeNow : RegDesc := ⟨0x0100000, 1, 0x0, 1, 0, [
  ⟨"TICKS", 63, 0, .ro, 0⟩]⟩

/-- TIME STATUS (R44). -/
def Reg.timeStatus : RegDesc := ⟨0x0100008, 1, 0x0, 1, 0, [
  ⟨"ROOT_EID", 63, 48, .ro, 65535⟩,
  ⟨"ROOT_GEN", 47, 40, .ro, 0⟩,
  ⟨"ROOT_PRIO", 39, 38, .ro, 0⟩,
  ⟨"HOPS", 37, 36, .ro, 0⟩,
  ⟨"STATE", 35, 33, .ro, 0⟩,
  ⟨"UNTRACEABLE", 32, 32, .ro, 0⟩,
  ⟨"PARENT_PORT", 31, 25, .ro, 127⟩,
  ⟨"PRIMARY", 24, 24, .ro, 0⟩]⟩

/-- TIME OFFSET (R44). -/
def Reg.timeOffset : RegDesc := ⟨0x0100010, 1, 0x0, 1, 0, [
  ⟨"PARENT_OFFSET", 63, 32, .ro, 0⟩,
  ⟨"PARENT_DELAY", 31, 0, .ro, 0⟩]⟩

/-- TIME EVENTS (R44). -/
def Reg.timeEvents : RegDesc := ⟨0x0100018, 1, 0x0, 1, 0, [
  ⟨"ROOT_CONFLICT", 7, 7, .w1c, 0⟩,
  ⟨"PTP_LOST", 6, 6, .w1c, 0⟩,
  ⟨"PARENT_REJECT", 5, 5, .w1c, 0⟩,
  ⟨"SLEW_BACK", 4, 4, .w1c, 0⟩,
  ⟨"STEP_FWD", 3, 3, .w1c, 0⟩,
  ⟨"ROOT_CHANGE", 2, 2, .w1c, 0⟩,
  ⟨"PARENT_CHANGE", 1, 1, .w1c, 0⟩,
  ⟨"LOCK_LOST", 0, 0, .w1c, 0⟩]⟩

/-- TIME COUNTS (R44). -/
def Reg.timeCounts : RegDesc := ⟨0x0100020, 1, 0x0, 1, 0, [
  ⟨"LOCK_LOSSES", 63, 48, .rc, 0⟩,
  ⟨"PARENT_CHANGES", 47, 32, .rc, 0⟩,
  ⟨"PARENT_REJECTS", 31, 16, .rc, 0⟩,
  ⟨"HOLDOVER_ENTRIES", 15, 0, .rc, 0⟩]⟩

/-- TIME EPOCH (R44). -/
def Reg.timeEpoch : RegDesc := ⟨0x0100028, 1, 0x0, 1, 0, [
  ⟨"EPOCH_SEC", 63, 16, .rwl, 0⟩]⟩

/-- TIME ROOTS (R44). -/
def Reg.timeRoots : RegDesc := ⟨0x0100030, 1, 0x0, 1, 0, [
  ⟨"ROOT0", 63, 48, .rwl, 65535⟩,
  ⟨"ROOT1", 47, 32, .rwl, 65535⟩,
  ⟨"ROOT2", 31, 16, .rwl, 65535⟩,
  ⟨"ROOT3", 15, 0, .rwl, 65535⟩]⟩

/-- TIME PTP (R44). -/
def Reg.timePtp : RegDesc := ⟨0x0100038, 1, 0x0, 1, 0, [
  ⟨"PTP_OFFSET", 63, 32, .ro, 0⟩,
  ⟨"PTP_STATE", 31, 29, .ro, 0⟩,
  ⟨"PTP_PORT", 28, 28, .ro, 0⟩]⟩

/-- TIME ASYMn (R44). -/
def Reg.timeAsym : RegDesc := ⟨0x0100100, 93, 0x8, 1, 0, [
  ⟨"ASYM", 15, 0, .rwl, 0⟩]⟩

/-- TIME PTP_CFG (R44). -/
def Reg.timePtpCfg : RegDesc := ⟨0x0100040, 1, 0x0, 1, 0, [
  ⟨"PORT", 10, 10, .rwl, 0⟩,
  ⟨"TRANSPORT", 9, 8, .rwl, 0⟩,
  ⟨"DOMAIN", 7, 0, .rwl, 0⟩]⟩

/-- CORE ACFGj (R90). -/
def Reg.acfg : RegDesc := ⟨0x0800200, 2560, 0x1000, 17, 16, [
  ⟨"LOGICAL", 36, 32, .rw, 0⟩,
  ⟨"LEVEL", 31, 24, .ro, 0⟩,
  ⟨"FEED_PATH", 19, 18, .ro, 0⟩,
  ⟨"TRIM", 17, 16, .rw, 0⟩,
  ⟨"DUMMY", 2, 2, .ro, 0⟩,
  ⟨"FENCED", 1, 1, .ro, 0⟩,
  ⟨"ENABLED", 0, 0, .ro, 0⟩]⟩

/-- CORE ACNTj (R90). -/
def Reg.acnt : RegDesc := ⟨0x0800208, 2560, 0x1000, 17, 16, [
  ⟨"REAL_KCYC", 63, 32, .rc, 0⟩,
  ⟨"SKIP_KPLANES", 31, 0, .rc, 0⟩]⟩

/-- CORE ID (R118). -/
def Reg.coreId : RegDesc := ⟨0x0800000, 2560, 0x1000, 1, 0, [
  ⟨"DIE", 31, 30, .ro, 0⟩,
  ⟨"INDEX", 29, 20, .ro, 0⟩,
  ⟨"GRID_ROW", 19, 15, .ro, 0⟩,
  ⟨"GRID_COL", 14, 10, .ro, 0⟩,
  ⟨"ARRAYS", 9, 5, .ro, 0⟩,
  ⟨"ENABLED", 0, 0, .ro, 0⟩]⟩

/-- CORE CTRL (R118). -/
def Reg.coreCtrl : RegDesc := ⟨0x0800008, 2560, 0x1000, 1, 0, [
  ⟨"FENCE", 2, 2, .w1s, 0⟩,
  ⟨"RESET_HOLD", 1, 1, .rw, 1⟩,
  ⟨"RUN", 0, 0, .wo, 0⟩]⟩

/-- CORE STATE (R118). -/
def Reg.coreState : RegDesc := ⟨0x0800010, 2560, 0x1000, 1, 0, [
  ⟨"BUSY", 3, 3, .ro, 0⟩,
  ⟨"STATE", 2, 0, .ro, 0⟩]⟩

/-- CORE START (R118). -/
def Reg.coreStart : RegDesc := ⟨0x0800018, 2560, 0x1000, 1, 0, [
  ⟨"START_PC", 19, 3, .rw, 0⟩]⟩

/-- CORE START_CT (R118). -/
def Reg.coreStartCt : RegDesc := ⟨0x0800020, 2560, 0x1000, 1, 0, [
  ⟨"TICKS", 63, 0, .rw, 0⟩]⟩

/-- CORE FLAGS (R118). -/
def Reg.coreFlags : RegDesc := ⟨0x0800028, 2560, 0x1000, 1, 0, [
  ⟨"INDEX", 8, 8, .w1c, 0⟩,
  ⟨"SPARSE_INDEX", 7, 7, .w1c, 0⟩,
  ⟨"SATURATION", 6, 6, .w1c, 0⟩,
  ⟨"NONFINITE", 5, 5, .w1c, 0⟩,
  ⟨"INEXACT", 4, 4, .w1c, 0⟩,
  ⟨"UNDERFLOW", 3, 3, .w1c, 0⟩,
  ⟨"OVERFLOW", 2, 2, .w1c, 0⟩,
  ⟨"DIVZERO", 1, 1, .w1c, 0⟩,
  ⟨"INVALID", 0, 0, .w1c, 0⟩]⟩

/-- CORE FAULT (R118). -/
def Reg.coreFault : RegDesc := ⟨0x0800030, 2560, 0x1000, 1, 0, [
  ⟨"CAUSE", 63, 56, .ro, 0⟩,
  ⟨"FAULT_PC", 19, 0, .ro, 0⟩]⟩

/-- CORE PART (R118). -/
def Reg.corePart : RegDesc := ⟨0x0800038, 2560, 0x1000, 1, 0, [
  ⟨"PARTITION", 15, 12, .rwl, 0⟩,
  ⟨"JOB_TAG", 11, 0, .rwl, 0⟩]⟩

/-- CORE SHADOW_CFG (R118). -/
def Reg.shadowCfg : RegDesc := ⟨0x0800040, 2560, 0x1000, 1, 0, [
  ⟨"RATE", 4, 0, .rw, 8⟩]⟩

/-- CORE SHADOW_STAT (R118). -/
def Reg.shadowStat : RegDesc := ⟨0x0800048, 2560, 0x1000, 1, 0, [
  ⟨"SAMPLED", 63, 32, .rc, 0⟩,
  ⟨"MISMATCHES", 31, 16, .rc, 0⟩,
  ⟨"SKIPPED", 15, 0, .rc, 0⟩]⟩

/-- CORE SHADOW_CAPT (R118). -/
def Reg.shadowCapt : RegDesc := ⟨0x0800050, 2560, 0x1000, 1, 0, [
  ⟨"TILE_SEQ", 63, 32, .ro, 0⟩,
  ⟨"POS_NAMED", 31, 27, .ro, 0⟩,
  ⟨"POS_SHADOW", 26, 22, .ro, 0⟩,
  ⟨"ELEMENT", 21, 14, .ro, 0⟩,
  ⟨"VALID", 0, 0, .w1c, 0⟩]⟩

/-- CORE SHADOW_VALS (R118). -/
def Reg.shadowVals : RegDesc := ⟨0x0800058, 2560, 0x1000, 1, 0, [
  ⟨"NAMED_VALUE", 63, 32, .ro, 0⟩,
  ⟨"SHADOW_VALUE", 31, 0, .ro, 0⟩]⟩

/-- CORE STALLS (R118). -/
def Reg.coreStalls : RegDesc := ⟨0x0800060, 2560, 0x1000, 1, 0, [
  ⟨"BANK_KCYC", 63, 32, .rc, 0⟩,
  ⟨"WAIT_KCYC", 31, 0, .rc, 0⟩]⟩

/-- CORE ROUTE_STAT (R118). -/
def Reg.routeStat : RegDesc := ⟨0x0800068, 2560, 0x1000, 1, 0, [
  ⟨"ASSIGNMENTS", 63, 32, .rc, 0⟩,
  ⟨"DROPS", 31, 16, .rc, 0⟩,
  ⟨"SPILLS", 15, 0, .rc, 0⟩]⟩

/-- CORE SWADDR (R118). -/
def Reg.coreSwaddr : RegDesc := ⟨0x0800070, 2560, 0x1000, 1, 0, [
  ⟨"ADDR", 19, 3, .rw, 0⟩]⟩

/-- CORE SWDATA (R118). -/
def Reg.coreSwdata : RegDesc := ⟨0x0800078, 2560, 0x1000, 1, 0, [
  ⟨"DATA", 63, 0, .rw, 0⟩]⟩

/-- CORE CNTk (R118). -/
def Reg.coreCnt : RegDesc := ⟨0x0800100, 2560, 0x1000, 32, 8, [
  ⟨"COUNT", 31, 0, .ro, 0⟩]⟩

/-- UPD CTRL (R177). -/
def Reg.updCtrl : RegDesc := ⟨0x1800000, 4, 0x10000, 1, 0, [
  ⟨"ROOT_PAUSE", 0, 0, .rw, 0⟩]⟩

/-- UPD STATUS (R177). -/
def Reg.updStatus : RegDesc := ⟨0x1800008, 4, 0x10000, 1, 0, [
  ⟨"QUEUED", 50, 38, .ro, 0⟩,
  ⟨"ROOT_QUEUED", 37, 32, .ro, 0⟩,
  ⟨"ROOT_GROUP", 31, 22, .ro, 0⟩,
  ⟨"ROOT_BUSY", 1, 1, .ro, 0⟩,
  ⟨"BUSY", 0, 0, .ro, 0⟩]⟩

/-- UPD GSEL (R177). -/
def Reg.updGselReg : RegDesc := ⟨0x1800010, 4, 0x10000, 1, 0, [
  ⟨"GROUP", 9, 0, .rw, 0⟩]⟩

/-- UPD GCMD (R177). -/
def Reg.updGcmd : RegDesc := ⟨0x1800018, 4, 0x10000, 1, 0, [
  ⟨"CLR_STAT", 1, 1, .wo, 0⟩,
  ⟨"COMMIT", 0, 0, .wo, 0⟩]⟩

/-- UPD GSTAT (R177). -/
def Reg.updGstat : RegDesc := ⟨0x1800020, 4, 0x10000, 1, 0, [
  ⟨"LAST_STEP", 63, 32, .ro, 0⟩,
  ⟨"SKIPS", 31, 16, .ro, 0⟩,
  ⟨"ROOT_FAILS", 15, 0, .ro, 0⟩]⟩

/-- UPD GDATAk (R177). -/
def Reg.updGdata : RegDesc := ⟨0x1800100, 4, 0x10000, 8, 8, [
  ⟨"WORD", 63, 0, .rw, 0⟩]⟩

/-- UPD SSEL (R177). -/
def Reg.updSsel : RegDesc := ⟨0x1800028, 4, 0x10000, 1, 0, [
  ⟨"KNOT", 7, 4, .rw, 0⟩,
  ⟨"SCHED", 3, 0, .rw, 0⟩]⟩

/-- UPD SDATA (R177). -/
def Reg.updSdata : RegDesc := ⟨0x1800030, 4, 0x10000, 1, 0, [
  ⟨"KNOT_STEP", 63, 32, .rw, 0⟩,
  ⟨"MULT", 31, 0, .rw, 0⟩]⟩

/-- UPD COUNTS (R177). -/
def Reg.updCounts : RegDesc := ⟨0x1800038, 4, 0x10000, 1, 0, [
  ⟨"CALLS", 63, 32, .rc, 0⟩,
  ⟨"NONFINITE", 31, 16, .rc, 0⟩,
  ⟨"ROW_RANGE", 15, 0, .rc, 0⟩]⟩

/-- UPD ROOT_STAT (R177). -/
def Reg.updRootStat : RegDesc := ⟨0x1800040, 4, 0x10000, 1, 0, [
  ⟨"REFRESHED", 63, 32, .rc, 0⟩,
  ⟨"FAILS", 31, 16, .rc, 0⟩,
  ⟨"NO_PREVIOUS", 15, 0, .rc, 0⟩]⟩

/-- UPD EVENTS (R177). -/
def Reg.updEvents : RegDesc := ⟨0x1800048, 4, 0x10000, 1, 0, [
  ⟨"MEM_ERROR", 3, 3, .w1c, 0⟩,
  ⟨"ROW_RANGE", 2, 2, .w1c, 0⟩,
  ⟨"NONFINITE", 1, 1, .w1c, 0⟩,
  ⟨"ROOT_FAIL", 0, 0, .w1c, 0⟩]⟩

/-- MEM MAP (R203). -/
def Reg.memMap : RegDesc := ⟨0x0600000, 4, 0x40000, 1, 0, [
  ⟨"SEG_ILV", 15, 0, .rwl, 0⟩]⟩

/-- MEM CTRL (R203). -/
def Reg.memCtrl : RegDesc := ⟨0x0600008, 4, 0x40000, 1, 0, [
  ⟨"SCRUB_EN", 15, 15, .rw, 1⟩,
  ⟨"LC_MAX", 6, 0, .rw, 16⟩]⟩

/-- MEM STATUS (R203). -/
def Reg.memStatus : RegDesc := ⟨0x0600010, 4, 0x40000, 1, 0, [
  ⟨"TRAINED", 39, 32, .ro, 0⟩,
  ⟨"REFRESH", 31, 16, .ro, 0⟩]⟩

/-- MEM ECC_CNT (R203). -/
def Reg.eccCnt : RegDesc := ⟨0x0600018, 4, 0x40000, 1, 0, [
  ⟨"CORRECTED", 63, 32, .rc, 0⟩,
  ⟨"UNCORRECTED", 31, 16, .rc, 0⟩,
  ⟨"ADDRESS", 15, 0, .rc, 0⟩]⟩

/-- MEM ECC_CAPT (R203). -/
def Reg.eccCapt : RegDesc := ⟨0x0600020, 4, 0x40000, 1, 0, [
  ⟨"VALID", 63, 63, .w1c, 0⟩,
  ⟨"UNCORR", 62, 62, .ro, 0⟩,
  ⟨"CHANNEL", 61, 55, .ro, 0⟩,
  ⟨"SYMBOL", 54, 48, .ro, 0⟩,
  ⟨"PARTITION", 47, 44, .ro, 0⟩,
  ⟨"GRANULE", 24, 0, .ro, 0⟩]⟩

/-- MEM ECC_TIME (R203). -/
def Reg.eccTime : RegDesc := ⟨0x0600028, 4, 0x40000, 1, 0, [
  ⟨"TICKS", 63, 0, .ro, 0⟩]⟩

/-- MEM CE_CFG (R203). -/
def Reg.ceCfg : RegDesc := ⟨0x0600030, 4, 0x40000, 1, 0, [
  ⟨"CE_THRESH", 15, 0, .rw, 256⟩]⟩

/-- MEM EVENTS (R203). -/
def Reg.memEvents : RegDesc := ⟨0x0600038, 4, 0x40000, 1, 0, [
  ⟨"LC_CAP", 5, 5, .w1c, 0⟩,
  ⟨"MAP_POISON", 4, 4, .w1c, 0⟩,
  ⟨"REFRESH_X4", 3, 3, .w1c, 0⟩,
  ⟨"REFRESH_X2", 2, 2, .w1c, 0⟩,
  ⟨"CE_THRESH", 1, 1, .w1c, 0⟩,
  ⟨"UNCORR", 0, 0, .w1c, 0⟩]⟩

/-- MEM REGk (R203). -/
def Reg.memReg : RegDesc := ⟨0x0600100, 4, 0x40000, 16, 8, [
  ⟨"EN", 63, 63, .rw, 0⟩,
  ⟨"SHARE", 48, 48, .rw, 0⟩,
  ⟨"DEPTH", 47, 32, .rw, 0⟩,
  ⟨"RATE", 29, 16, .rw, 0⟩]⟩

/-- MEM CREDk (R203). -/
def Reg.memCred : RegDesc := ⟨0x0600180, 4, 0x40000, 16, 8, [
  ⟨"CREDIT", 31, 0, .ro, 0⟩]⟩

/-- MEM PCNTk (R203). -/
def Reg.memPcnt : RegDesc := ⟨0x0600200, 4, 0x40000, 16, 8, [
  ⟨"GRANULES", 63, 32, .rc, 0⟩,
  ⟨"LC_GRANULES", 31, 0, .rc, 0⟩]⟩

/-- MEM ZSTAT (R203). -/
def Reg.zstat : RegDesc := ⟨0x0600040, 4, 0x40000, 1, 0, [
  ⟨"ZERO_READS", 63, 32, .rc, 0⟩,
  ⟨"MAP_MISSES", 31, 0, .rc, 0⟩]⟩

/-- MEM ZRANGEk (R203). -/
def Reg.zrange : RegDesc := ⟨0x0600300, 4, 0x40000, 8, 16, [
  ⟨"EN", 63, 63, .rw, 0⟩,
  ⟨"FLUSHING", 62, 62, .ro, 0⟩,
  ⟨"SIZE_M1", 47, 31, .rw, 0⟩,
  ⟨"BASE", 16, 0, .rw, 0⟩]⟩

/-- MEM ZMAPk (R203). -/
def Reg.zmap : RegDesc := ⟨0x0600308, 4, 0x40000, 8, 16, [
  ⟨"MAP_BASE", 31, 0, .rw, 0⟩]⟩

/-- D2D CTRL (R220). -/
def Reg.d2dCtrl : RegDesc := ⟨0x0400000, 4, 0x100, 1, 0, [
  ⟨"FENCE", 3, 3, .w1s, 0⟩,
  ⟨"REJOIN", 2, 2, .wo, 0⟩,
  ⟨"RETRAIN", 1, 1, .wo, 0⟩,
  ⟨"HOLD", 0, 0, .rw, 0⟩]⟩

/-- D2D STATUS (R220). -/
def Reg.d2dStatus : RegDesc := ⟨0x0400008, 4, 0x100, 1, 0, [
  ⟨"ATTEMPTS", 33, 32, .ro, 0⟩,
  ⟨"WIDTH_TX", 30, 24, .ro, 0⟩,
  ⟨"WIDTH_RX", 22, 16, .ro, 0⟩,
  ⟨"UNCHECKED", 15, 8, .ro, 0⟩,
  ⟨"STATE", 2, 0, .ro, 0⟩]⟩

/-- D2D BADTX0 (R220). -/
def Reg.badTx0 : RegDesc := ⟨0x0400010, 4, 0x100, 1, 0, [
  ⟨"BUNDLES", 63, 0, .rw, 0⟩]⟩

/-- D2D BADTX1 (R220). -/
def Reg.badTx1 : RegDesc := ⟨0x0400018, 4, 0x100, 1, 0, [
  ⟨"BUNDLES", 31, 0, .rw, 0⟩]⟩

/-- D2D BADRX0 (R220). -/
def Reg.badRx0 : RegDesc := ⟨0x0400020, 4, 0x100, 1, 0, [
  ⟨"BUNDLES", 63, 0, .rw, 0⟩]⟩

/-- D2D BADRX1 (R220). -/
def Reg.badRx1 : RegDesc := ⟨0x0400028, 4, 0x100, 1, 0, [
  ⟨"BUNDLES", 31, 0, .rw, 0⟩]⟩

/-- D2D RSEL (R220). -/
def Reg.rsel : RegDesc := ⟨0x0400030, 4, 0x100, 1, 0, [
  ⟨"DIR", 7, 7, .rw, 0⟩,
  ⟨"BUNDLE", 6, 0, .rw, 0⟩]⟩

/-- D2D RMAP (R220). -/
def Reg.rmap : RegDesc := ⟨0x0400038, 4, 0x100, 1, 0, [
  ⟨"RP1_USED", 15, 15, .ro, 0⟩,
  ⟨"RP1_WIRE", 14, 8, .ro, 0⟩,
  ⟨"RP0_USED", 7, 7, .ro, 0⟩,
  ⟨"RP0_WIRE", 6, 0, .ro, 0⟩]⟩

/-- D2D ERR (R220). -/
def Reg.d2dErr : RegDesc := ⟨0x0400040, 4, 0x100, 1, 0, [
  ⟨"PARITY", 63, 32, .rc, 0⟩,
  ⟨"POISONED", 31, 16, .rc, 0⟩,
  ⟨"DROPS", 15, 0, .rc, 0⟩]⟩

/-- D2D CFG (R220). -/
def Reg.d2dCfg : RegDesc := ⟨0x0400048, 4, 0x100, 1, 0, [
  ⟨"PARITY_THRESH", 15, 0, .rw, 16⟩]⟩

/-- D2D EVENTS (R220). -/
def Reg.d2dEvents : RegDesc := ⟨0x0400050, 4, 0x100, 1, 0, [
  ⟨"TRAIN_FAIL", 6, 6, .w1c, 0⟩,
  ⟨"BELOW_MIN", 5, 5, .w1c, 0⟩,
  ⟨"WIDTH_MISMATCH", 4, 4, .w1c, 0⟩,
  ⟨"BUNDLE_DROP", 3, 3, .w1c, 0⟩,
  ⟨"PARITY", 2, 2, .w1c, 0⟩,
  ⟨"FENCED", 1, 1, .w1c, 0⟩,
  ⟨"CLOCK_LOSS", 0, 0, .w1c, 0⟩]⟩

/-- D2D FENCE_CT (R220). -/
def Reg.fenceCt : RegDesc := ⟨0x0400058, 4, 0x100, 1, 0, [
  ⟨"TICKS", 63, 0, .ro, 0⟩]⟩

/-- D2D RC_CTRL (R220). -/
def Reg.rcCtrl : RegDesc := ⟨0x0400060, 4, 0x100, 1, 0, [
  ⟨"EN", 6, 6, .rw, 1⟩,
  ⟨"INV_ALL", 5, 5, .wo, 0⟩,
  ⟨"INV_PART", 4, 4, .wo, 0⟩,
  ⟨"PARTITION", 3, 0, .wo, 0⟩]⟩

/-- D2D RC_STAT (R220). -/
def Reg.rcStat : RegDesc := ⟨0x0400068, 4, 0x100, 1, 0, [
  ⟨"HITS", 63, 32, .rc, 0⟩,
  ⟨"MISSES", 31, 0, .rc, 0⟩]⟩

/-- HUB EP_STAT (R251). -/
def Reg.epStat : RegDesc := ⟨0x03F0000, 1, 0x0, 1, 0, [
  ⟨"RETRIES", 63, 48, .rc, 0⟩,
  ⟨"DUPLICATES", 47, 32, .rc, 0⟩,
  ⟨"REPLAYED", 31, 16, .rc, 0⟩,
  ⟨"REFUSED_OUT", 15, 0, .rc, 0⟩]⟩

/-- HUB EP_ERR (R251). -/
def Reg.epErr : RegDesc := ⟨0x03F0008, 1, 0x0, 1, 0, [
  ⟨"POISONED", 63, 48, .rc, 0⟩,
  ⟨"REFUSED_IN", 47, 32, .rc, 0⟩,
  ⟨"LATE_REPLIES", 31, 16, .rc, 0⟩,
  ⟨"EXPIRED", 15, 0, .rc, 0⟩]⟩

/-- HUB EP_JOBFAULT (R251). -/
def Reg.epJobfault : RegDesc := ⟨0x03F0010, 1, 0x0, 1, 0, [
  ⟨"PARTITIONS", 15, 0, .w1c, 0⟩]⟩

/-- HUB EP_REPLAY (R251). -/
def Reg.epReplay : RegDesc := ⟨0x03F0018, 1, 0x0, 1, 0, [
  ⟨"RECORDS", 16, 0, .ro, 0⟩]⟩

/-- HUB EP_TEARDOWN (R251). -/
def Reg.epTeardown : RegDesc := ⟨0x03F0020, 1, 0x0, 1, 0, [
  ⟨"PENDING", 15, 0, .ro, 0⟩]⟩

/-- HUB CPY_STATd (R251). -/
def Reg.cpyStat : RegDesc := ⟨0x03F0100, 4, 0x8, 1, 0, [
  ⟨"COMPLETED", 63, 32, .rc, 0⟩,
  ⟨"ERRORS", 31, 16, .rc, 0⟩,
  ⟨"QUEUED", 12, 0, .ro, 0⟩]⟩

/-- HUB CTRL (R285). -/
def Reg.hubCtrl : RegDesc := ⟨0x0300000, 1, 0x0, 1, 0, [
  ⟨"PORT", 8, 2, .wo, 0⟩,
  ⟨"HOLD_PORT", 1, 1, .wo, 0⟩,
  ⟨"RELEASE_PORT", 0, 0, .wo, 0⟩]⟩

/-- HUB STATUS (R285). -/
def Reg.hubStatus : RegDesc := ⟨0x0300008, 1, 0x0, 1, 0, [
  ⟨"PORTS_UP", 31, 24, .ro, 0⟩,
  ⟨"PORTS_DETOUR", 23, 16, .ro, 0⟩,
  ⟨"SCHED_RUN", 15, 15, .ro, 0⟩,
  ⟨"BANK", 14, 14, .ro, 0⟩]⟩

/-- HUB EVENTS (R285). -/
def Reg.hubEvents : RegDesc := ⟨0x0300010, 1, 0x0, 1, 0, [
  ⟨"TEL_WRAP", 5, 5, .w1c, 0⟩,
  ⟨"NO_ROUTE", 4, 4, .w1c, 0⟩,
  ⟨"LIFETIME", 3, 3, .w1c, 0⟩,
  ⟨"DEMOTED", 2, 2, .w1c, 0⟩,
  ⟨"PORT_RESTORED", 1, 1, .w1c, 0⟩,
  ⟨"PORT_LOST", 0, 0, .w1c, 0⟩]⟩

/-- HUB PITCH (R285). -/
def Reg.hubPitch : RegDesc := ⟨0x0300018, 1, 0x0, 1, 0, [
  ⟨"PITCH_NUM", 63, 8, .ro, 0⟩,
  ⟨"LOG2P", 4, 0, .ro, 0⟩]⟩

/-- HUB TEL_CFG (R285). -/
def Reg.telCfg : RegDesc := ⟨0x0300020, 1, 0x0, 1, 0, [
  ⟨"EN", 63, 63, .rw, 1⟩,
  ⟨"EXPORT", 62, 62, .rw, 0⟩,
  ⟨"EVERY", 3, 0, .rw, 0⟩]⟩

/-- HUB TEL_STAT (R285). -/
def Reg.telStat : RegDesc := ⟨0x0300028, 1, 0x0, 1, 0, [
  ⟨"MAPS", 63, 32, .ro, 0⟩,
  ⟨"NEWEST", 5, 0, .ro, 0⟩]⟩

/-- HUB TEL_SEL (R285). -/
def Reg.telSel : RegDesc := ⟨0x0300030, 1, 0x0, 1, 0, [
  ⟨"MAP", 15, 10, .rw, 0⟩,
  ⟨"WORD", 8, 0, .rw, 0⟩]⟩

/-- HUB TEL_DATA (R285). -/
def Reg.telData : RegDesc := ⟨0x0300038, 1, 0x0, 1, 0, [
  ⟨"DATA", 63, 0, .ro, 0⟩]⟩

/-- HUB SCH_SEL (R285). -/
def Reg.schSel : RegDesc := ⟨0x0300040, 1, 0x0, 1, 0, [
  ⟨"PORT", 22, 16, .rw, 0⟩,
  ⟨"BANK", 15, 15, .rw, 0⟩,
  ⟨"ENTRY", 13, 0, .rw, 0⟩]⟩

/-- HUB SCH_DATA (R285). -/
def Reg.schData : RegDesc := ⟨0x0300048, 1, 0x0, 1, 0, [
  ⟨"PRESENT", 32, 32, .ro, 0⟩,
  ⟨"ENTRY", 31, 0, .ro, 0⟩]⟩

/-- HUB DROPS (R285). -/
def Reg.drops : RegDesc := ⟨0x0300050, 1, 0x0, 1, 0, [
  ⟨"LIFETIME", 63, 48, .rc, 0⟩,
  ⟨"NO_ROUTE", 47, 32, .rc, 0⟩,
  ⟨"HCRC", 31, 16, .rc, 0⟩,
  ⟨"TYPE", 15, 0, .rc, 0⟩]⟩

/-- HUB BUDGETk (R285). -/
def Reg.budget : RegDesc := ⟨0x0300100, 17, 0x8, 1, 0, [
  ⟨"D2", 59, 40, .rwl, 0⟩,
  ⟨"D1", 39, 20, .rwl, 0⟩,
  ⟨"D0", 19, 0, .rwl, 0⟩]⟩

/-- HUB DETOURn (R285). -/
def Reg.detour : RegDesc := ⟨0x0302000, 93, 0x8, 1, 0, [
  ⟨"ALT3", 63, 48, .rwl, 0⟩,
  ⟨"ALT2", 47, 32, .rwl, 0⟩,
  ⟨"ALT1", 31, 16, .rwl, 0⟩,
  ⟨"ALT0", 15, 0, .rwl, 0⟩]⟩

/-- HUB PSTATn (R285). -/
def Reg.pstat : RegDesc := ⟨0x0301000, 93, 0x10, 1, 0, [
  ⟨"PEER_EID", 39, 24, .ro, 65535⟩,
  ⟨"LANES", 15, 12, .ro, 0⟩,
  ⟨"BELAY_FULL", 11, 11, .ro, 0⟩,
  ⟨"DETOUR", 10, 10, .ro, 0⟩,
  ⟨"STATE", 2, 0, .ro, 0⟩]⟩

/-- HUB PCNTn (R285). -/
def Reg.pcnt : RegDesc := ⟨0x0301008, 93, 0x10, 1, 0, [
  ⟨"TRAV_OUT", 63, 48, .rc, 0⟩,
  ⟨"RETX", 47, 32, .rc, 0⟩,
  ⟨"CRC_ERR", 31, 16, .rc, 0⟩,
  ⟨"DEMOTED", 15, 0, .rc, 0⟩]⟩

/-- OPT CTRL (R313). -/
def Reg.optCtrl : RegDesc := ⟨0x0500000, 1, 0x0, 1, 0, [
  ⟨"RECAL_NOW", 1, 1, .wo, 0⟩,
  ⟨"RECAL_EN", 0, 0, .rw, 1⟩]⟩

/-- OPT CFG (R313). -/
def Reg.optCfg : RegDesc := ⟨0x0500008, 1, 0x0, 1, 0, [
  ⟨"RECAL_MIN", 31, 24, .rw, 15⟩,
  ⟨"DRIFT", 23, 16, .rw, 20⟩,
  ⟨"POLICY", 8, 8, .rwl, 0⟩]⟩

/-- OPT VERSION (R313). -/
def Reg.optVersion : RegDesc := ⟨0x0500010, 1, 0x0, 1, 0, [
  ⟨"MAJOR", 15, 8, .ro, 2⟩,
  ⟨"MINOR", 7, 0, .ro, 0⟩]⟩

/-- OPT EVENTS (R313). -/
def Reg.optEvents : RegDesc := ⟨0x0500018, 1, 0x0, 1, 0, [
  ⟨"SPARE_EXHAUSTED", 11, 11, .w1c, 0⟩,
  ⟨"TABLE_RANGE", 10, 10, .w1c, 0⟩,
  ⟨"IDENTITY", 9, 9, .w1c, 0⟩,
  ⟨"SPLIT", 8, 8, .w1c, 0⟩,
  ⟨"VERSION", 7, 7, .w1c, 0⟩,
  ⟨"ADOPTED", 6, 6, .w1c, 0⟩,
  ⟨"WIRING", 5, 5, .w1c, 0⟩,
  ⟨"SECONDARY", 4, 4, .w1c, 0⟩,
  ⟨"CASSETTE_FAIL", 3, 3, .w1c, 0⟩,
  ⟨"SOURCE_FAIL", 2, 2, .w1c, 0⟩,
  ⟨"LANE_RETIRED", 1, 1, .w1c, 0⟩,
  ⟨"WRONG_LOCK", 0, 0, .w1c, 0⟩]⟩

/-- OPT COUNTS (R313). -/
def Reg.optCounts : RegDesc := ⟨0x0500020, 1, 0x0, 1, 0, [
  ⟨"WRONG_LOCKS", 63, 48, .rc, 0⟩,
  ⟨"RELOCKS", 47, 32, .rc, 0⟩,
  ⟨"RECALS", 31, 16, .rc, 0⟩,
  ⟨"RETIREMENTS", 15, 0, .rc, 0⟩]⟩

/-- OPT LSEL (R313). -/
def Reg.lsel : RegDesc := ⟨0x0500028, 1, 0x0, 1, 0, [
  ⟨"DIR", 10, 10, .rw, 0⟩,
  ⟨"POS", 9, 3, .rw, 0⟩,
  ⟨"LANE", 2, 0, .rw, 0⟩]⟩

/-- OPT LDATA (R313). -/
def Reg.ldata : RegDesc := ⟨0x0500030, 1, 0x0, 1, 0, [
  ⟨"STATE", 63, 61, .ro, 0⟩,
  ⟨"FAILS", 60, 59, .ro, 0⟩,
  ⟨"TONE", 58, 56, .ro, 0⟩,
  ⟨"HEATER", 55, 44, .ro, 0⟩,
  ⟨"OFFSET", 43, 32, .ro, 0⟩,
  ⟨"CAL_AGE", 31, 0, .ro, 0⟩]⟩

/-- OPT LCMD (R313). -/
def Reg.lcmd : RegDesc := ⟨0x0500038, 1, 0x0, 1, 0, [
  ⟨"RESTORE", 1, 1, .wo, 0⟩,
  ⟨"RETIRE", 0, 0, .wo, 0⟩]⟩

/-- OPT ESTATe (R313). -/
def Reg.estat : RegDesc := ⟨0x0500100, 16, 0x8, 1, 0, [
  ⟨"FEED_SEC", 63, 56, .ro, 0⟩,
  ⟨"FEED_DARK", 55, 48, .ro, 0⟩,
  ⟨"TEMP", 31, 16, .ro, 0⟩]⟩

/-- OPT CASSc (R313). -/
def Reg.cassReg : RegDesc := ⟨0x0500200, 4, 0x8, 1, 0, [
  ⟨"PRESENT", 63, 63, .ro, 0⟩,
  ⟨"STATE", 62, 60, .ro, 0⟩,
  ⟨"FAILED", 59, 52, .ro, 0⟩,
  ⟨"SPARE0", 51, 48, .ro, 0⟩,
  ⟨"SPARE1", 47, 44, .ro, 0⟩]⟩

/-- OPT PMAPn (R313). -/
def Reg.pmapReg : RegDesc := ⟨0x0500300, 93, 0x8, 1, 0, [
  ⟨"ADOPTED", 15, 15, .ro, 0⟩,
  ⟨"POS", 14, 8, .ro, 0⟩,
  ⟨"MODE", 0, 0, .rwl, 0⟩]⟩

/-- OPT PERRq (R313). -/
def Reg.perr : RegDesc := ⟨0x0500800, 96, 0x8, 1, 0, [
  ⟨"CORRECTED", 63, 32, .rc, 0⟩,
  ⟨"UNCORRECTABLE", 31, 16, .rc, 0⟩,
  ⟨"LANE_DROPS", 15, 0, .rc, 0⟩]⟩

/-- TOPO VERSION (R336). -/
def Reg.topoVersion : RegDesc := ⟨0x0200000, 1, 0x0, 1, 0, [
  ⟨"FMT_MAJOR", 15, 8, .ro, 1⟩,
  ⟨"FMT_MINOR", 7, 0, .ro, 0⟩]⟩

/-- TOPO STATUS (R336). -/
def Reg.topoStatus : RegDesc := ⟨0x0200008, 1, 0x0, 1, 0, [
  ⟨"OWN_EID", 47, 32, .ro, 65535⟩,
  ⟨"ACTIVE", 31, 16, .ro, 0⟩,
  ⟨"PENDING", 15, 0, .ro, 0⟩]⟩

/-- TOPO EVENTS (R336). -/
def Reg.topoEvents : RegDesc := ⟨0x0200010, 1, 0x0, 1, 0, [
  ⟨"TEARDOWN", 3, 3, .w1c, 0⟩,
  ⟨"MISSED", 2, 2, .w1c, 0⟩,
  ⟨"REJECTED", 1, 1, .w1c, 0⟩,
  ⟨"ACTIVATED", 0, 0, .w1c, 0⟩]⟩

/-- TOPO REJECT (R336). -/
def Reg.topoReject : RegDesc := ⟨0x0200018, 1, 0x0, 1, 0, [
  ⟨"CAUSE", 63, 60, .ro, 0⟩,
  ⟨"TYPE", 55, 48, .ro, 0⟩,
  ⟨"SECTION_NO", 47, 32, .ro, 0⟩,
  ⟨"GENERATION", 31, 0, .ro, 0⟩]⟩

/-- TOPO REJECT_CT (R336). -/
def Reg.topoRejectCt : RegDesc := ⟨0x0200020, 1, 0x0, 1, 0, [
  ⟨"TICKS", 63, 0, .ro, 0⟩]⟩

/-- TOPO TSEL (R336). -/
def Reg.tsel : RegDesc := ⟨0x0200028, 1, 0x0, 1, 0, [
  ⟨"TYPE", 3, 0, .rw, 1⟩]⟩

/-- TOPO TGEN (R336). -/
def Reg.tgen : RegDesc := ⟨0x0200030, 1, 0x0, 1, 0, [
  ⟨"ACTIVE_GEN", 63, 32, .ro, 0⟩,
  ⟨"PENDING_GEN", 31, 0, .ro, 0⟩]⟩

/-- TOPO TPEND_CT (R336). -/
def Reg.tpendCt : RegDesc := ⟨0x0200038, 1, 0x0, 1, 0, [
  ⟨"TICKS", 63, 0, .ro, 0⟩]⟩

/-- TOPO CMD (R336). -/
def Reg.topoCmd : RegDesc := ⟨0x0200040, 1, 0x0, 1, 0, [
  ⟨"TYPE", 5, 2, .wo, 0⟩,
  ⟨"ACTIVATE_NOW", 1, 1, .wo, 0⟩,
  ⟨"CANCEL", 0, 0, .wo, 0⟩]⟩

/-- TOPO COUNTS (R336). -/
def Reg.topoCounts : RegDesc := ⟨0x0200048, 1, 0x0, 1, 0, [
  ⟨"RECEIVED", 63, 48, .rc, 0⟩,
  ⟨"ACTIVATED", 47, 32, .rc, 0⟩,
  ⟨"REJECTED", 31, 16, .rc, 0⟩,
  ⟨"CHUNK_DROPS", 15, 0, .rc, 0⟩]⟩

/-- TOPO SPREAD (R336). -/
def Reg.topoSpread : RegDesc := ⟨0x0200050, 1, 0x0, 1, 0, [
  ⟨"FWD_KIB", 63, 32, .rc, 0⟩,
  ⟨"RX_KIB", 31, 0, .rc, 0⟩]⟩

/-- GLOBAL ID (R354). -/
def Reg.globalId : RegDesc := ⟨0x0000000, 1, 0x0, 1, 0, [
  ⟨"VENDOR", 63, 48, .ro, 16978⟩,
  ⟨"PART", 47, 32, .ro, 9568⟩,
  ⟨"GRADE", 31, 28, .ro, 0⟩,
  ⟨"STEPPING", 27, 20, .ro, 0⟩]⟩

/-- GLOBAL SERIAL (R354). -/
def Reg.globalSerial : RegDesc := ⟨0x0000008, 1, 0x0, 1, 0, [
  ⟨"SERIAL", 63, 0, .ro, 0⟩]⟩

/-- GLOBAL FW (R354). -/
def Reg.globalFw : RegDesc := ⟨0x0000010, 1, 0x0, 1, 0, [
  ⟨"MAJOR", 63, 48, .ro, 0⟩,
  ⟨"MINOR", 47, 32, .ro, 0⟩,
  ⟨"BUILD", 31, 16, .ro, 0⟩,
  ⟨"BANK", 0, 0, .ro, 0⟩]⟩

/-- GLOBAL CAPS (R354). -/
def Reg.globalCaps : RegDesc := ⟨0x0000018, 1, 0x0, 1, 0, [
  ⟨"ARRAYS", 47, 32, .ro, 0⟩,
  ⟨"CORES", 27, 16, .ro, 0⟩]⟩

/-- GLOBAL DOMAINS (R354). -/
def Reg.globalDomains : RegDesc := ⟨0x0000020, 1, 0x0, 1, 0, [
  ⟨"MEM_UP", 8, 5, .ro, 0⟩,
  ⟨"CORE_UP", 4, 1, .ro, 0⟩,
  ⟨"HUB_UP", 0, 0, .ro, 0⟩]⟩

/-- GLOBAL SCRATCH (R354). -/
def Reg.globalScratch : RegDesc := ⟨0x0000028, 1, 0x0, 1, 0, [
  ⟨"DATA", 63, 0, .rw, 0⟩]⟩

/-- GLOBAL CAPMAPk (R354). -/
def Reg.capmap : RegDesc := ⟨0x0000100, 320, 0x8, 1, 0, [
  ⟨"ARRAYS", 63, 0, .ro, 0⟩]⟩

/-- ETH PCFGp (R355). -/
def Reg.ethPcfg : RegDesc := ⟨0x1C00000, 2, 0x100, 1, 0, [
  ⟨"EN", 63, 63, .rw, 1⟩,
  ⟨"IP4_EN", 62, 62, .rw, 0⟩,
  ⟨"VLAN_EN", 61, 61, .rw, 0⟩,
  ⟨"VLAN_ID", 59, 48, .rw, 0⟩,
  ⟨"MTU", 13, 0, .rw, 1500⟩]⟩

/-- ETH MACp (R355). -/
def Reg.ethMac : RegDesc := ⟨0x1C00008, 2, 0x100, 1, 0, [
  ⟨"MAC", 47, 0, .ro, 0⟩]⟩

/-- ETH IP6HIp (R355). -/
def Reg.ethIp6hi : RegDesc := ⟨0x1C00010, 2, 0x100, 1, 0, [
  ⟨"ADDR", 63, 0, .rw, 0⟩]⟩

/-- ETH IP6LOp (R355). -/
def Reg.ethIp6lo : RegDesc := ⟨0x1C00018, 2, 0x100, 1, 0, [
  ⟨"ADDR", 63, 0, .rw, 0⟩]⟩

/-- ETH IP4p (R355). -/
def Reg.ethIp4 : RegDesc := ⟨0x1C00020, 2, 0x100, 1, 0, [
  ⟨"PREFIX", 39, 32, .rw, 0⟩,
  ⟨"ADDR", 31, 0, .rw, 0⟩]⟩

/-- ETH STATp (R355). -/
def Reg.ethStat : RegDesc := ⟨0x1C00028, 2, 0x100, 1, 0, [
  ⟨"LINK_UP", 0, 0, .ro, 0⟩]⟩

/-- ETH CNTp (R355). -/
def Reg.ethCnt : RegDesc := ⟨0x1C00030, 2, 0x100, 1, 0, [
  ⟨"REQUESTS", 63, 48, .rc, 0⟩,
  ⟨"BUSY", 47, 32, .rc, 0⟩,
  ⟨"AUTH_FAIL", 31, 16, .rc, 0⟩,
  ⟨"DISCARDS", 15, 0, .rc, 0⟩]⟩

/-- ETH FECp (R355). -/
def Reg.ethFec : RegDesc := ⟨0x1C00038, 2, 0x100, 1, 0, [
  ⟨"CORRECTED", 63, 32, .rc, 0⟩,
  ⟨"UNCORRECTABLE", 31, 0, .rc, 0⟩]⟩

/-- ETH EVAHIk (R355). -/
def Reg.evAhi : RegDesc := ⟨0x1C00200, 2, 0x20, 1, 0, [
  ⟨"ADDR", 63, 0, .rw, 0⟩]⟩

/-- ETH EVALOk (R355). -/
def Reg.evAlo : RegDesc := ⟨0x1C00208, 2, 0x20, 1, 0, [
  ⟨"ADDR", 63, 0, .rw, 0⟩]⟩

/-- ETH EVCFGk (R355). -/
def Reg.evCfg : RegDesc := ⟨0x1C00210, 2, 0x20, 1, 0, [
  ⟨"EN", 63, 63, .rw, 0⟩,
  ⟨"PORT", 62, 62, .rw, 0⟩,
  ⟨"IPV4", 61, 61, .rw, 0⟩,
  ⟨"NEXT_MAC", 47, 0, .rw, 0⟩]⟩

/-- ETH EVPORTk (R355). -/
def Reg.evPort : RegDesc := ⟨0x1C00218, 2, 0x20, 1, 0, [
  ⟨"UDP", 15, 0, .rw, 46210⟩]⟩

/-- ETH EVSTAT (R355). -/
def Reg.evStat : RegDesc := ⟨0x1C00240, 1, 0x0, 1, 0, [
  ⟨"NEXT_SEQ", 63, 32, .ro, 0⟩,
  ⟨"UNACKED", 31, 16, .ro, 0⟩,
  ⟨"LOST", 15, 0, .rc, 0⟩]⟩

/-- ETH QPSEL (R355). -/
def Reg.qpsel : RegDesc := ⟨0x1C00300, 1, 0x0, 1, 0, [
  ⟨"CONN", 7, 0, .rw, 0⟩]⟩

/-- ETH QPDATA0 (R355). -/
def Reg.qpdata0 : RegDesc := ⟨0x1C00308, 1, 0x0, 1, 0, [
  ⟨"STATE", 63, 62, .ro, 0⟩,
  ⟨"PORT", 61, 61, .rw, 0⟩,
  ⟨"IPV4", 60, 60, .rw, 0⟩,
  ⟨"PARTITION", 59, 56, .rw, 0⟩,
  ⟨"PMTU", 55, 53, .rw, 3⟩,
  ⟨"TIMEOUT", 52, 48, .rw, 14⟩,
  ⟨"NEXT_MAC", 47, 0, .rw, 0⟩]⟩

/-- ETH QPDATA1 (R355). -/
def Reg.qpdata1 : RegDesc := ⟨0x1C00310, 1, 0x0, 1, 0, [
  ⟨"REMOTE_QPN", 55, 32, .rw, 0⟩,
  ⟨"SQ_PSN", 23, 0, .rw, 0⟩]⟩

/-- ETH QPDATA2 (R355). -/
def Reg.qpdata2 : RegDesc := ⟨0x1C00318, 1, 0x0, 1, 0, [
  ⟨"RKEY", 63, 32, .rw, 0⟩,
  ⟨"RQ_PSN", 23, 0, .rw, 0⟩]⟩

/-- ETH QPDATA3 (R355). -/
def Reg.qpdata3 : RegDesc := ⟨0x1C00320, 2, 0x8, 1, 0, [
  ⟨"REMOTE_IP", 63, 0, .rw, 0⟩]⟩

/-- ETH QPDATA5 (R355). -/
def Reg.qpdata5 : RegDesc := ⟨0x1C00330, 1, 0x0, 1, 0, [
  ⟨"WBASE", 39, 0, .rw, 0⟩]⟩

/-- ETH QPDATA6 (R355). -/
def Reg.qpdata6 : RegDesc := ⟨0x1C00338, 1, 0x0, 1, 0, [
  ⟨"WSIZE", 40, 0, .rw, 0⟩]⟩

/-- ETH QPDATA7 (R355). -/
def Reg.qpdata7 : RegDesc := ⟨0x1C00340, 1, 0x0, 1, 0, [
  ⟨"ERR_CAUSE", 3, 0, .ro, 0⟩]⟩

/-- ETH QPCMD (R355). -/
def Reg.qpcmd : RegDesc := ⟨0x1C00348, 1, 0x0, 1, 0, [
  ⟨"COMMIT", 1, 1, .wo, 0⟩,
  ⟨"RESET", 0, 0, .wo, 0⟩]⟩

/-- THERM CTRL (R378). -/
def Reg.thermCtrl : RegDesc := ⟨0x1900000, 1, 0x0, 1, 0, [
  ⟨"RESTART", 0, 0, .wo, 0⟩]⟩

/-- THERM STATUS (R378). -/
def Reg.thermStatus : RegDesc := ⟨0x1900008, 1, 0x0, 1, 0, [
  ⟨"TRIPPED", 63, 63, .ro, 0⟩,
  ⟨"NVM_OK", 62, 62, .ro, 0⟩,
  ⟨"FUSE_OK", 61, 61, .ro, 0⟩,
  ⟨"HUB_HOT", 60, 60, .ro, 0⟩,
  ⟨"THROTTLED", 59, 56, .ro, 0⟩,
  ⟨"STACK_LIMIT", 55, 52, .ro, 0⟩,
  ⟨"TRIPS_24H", 51, 44, .ro, 0⟩]⟩

/-- THERM EVENTS (R378). -/
def Reg.thermEvents : RegDesc := ⟨0x1900010, 1, 0x0, 1, 0, [
  ⟨"STACK_LIMIT", 8, 8, .w1c, 0⟩,
  ⟨"WINDOW_CLOSED", 7, 7, .w1c, 0⟩,
  ⟨"TRIP_SENSOR", 6, 6, .w1c, 0⟩,
  ⟨"SENSOR_INVALID", 5, 5, .w1c, 0⟩,
  ⟨"HUB_HOT", 4, 4, .w1c, 0⟩,
  ⟨"RESTARTED", 3, 3, .w1c, 0⟩,
  ⟨"TRIP", 2, 2, .w1c, 0⟩,
  ⟨"JUNCTION", 1, 1, .w1c, 0⟩,
  ⟨"THROTTLE", 0, 0, .w1c, 0⟩]⟩

/-- THERM TRIP_CT (R378). -/
def Reg.tripCt : RegDesc := ⟨0x1900018, 1, 0x0, 1, 0, [
  ⟨"TICKS", 63, 0, .ro, 0⟩]⟩

/-- THERM SSEL (R378). -/
def Reg.ssel : RegDesc := ⟨0x1900020, 1, 0x0, 1, 0, [
  ⟨"SENSOR", 8, 0, .rw, 0⟩]⟩

/-- THERM SDATA (R378). -/
def Reg.sdata : RegDesc := ⟨0x1900028, 1, 0x0, 1, 0, [
  ⟨"VALID", 63, 63, .ro, 0⟩,
  ⟨"TEMP", 47, 32, .ro, 0⟩,
  ⟨"PEAK", 31, 16, .rc, 0⟩]⟩

/-- THERM DIEd (R378). -/
def Reg.thermDie : RegDesc := ⟨0x1900100, 4, 0x8, 1, 0, [
  ⟨"TMAX", 63, 48, .ro, 0⟩,
  ⟨"HOT_SENSOR", 47, 39, .ro, 0⟩]⟩

/-- PWR INPUT (R378). -/
def Reg.pwrInput : RegDesc := ⟨0x1908000, 1, 0x0, 1, 0, [
  ⟨"VOLTS", 63, 48, .ro, 0⟩,
  ⟨"WATTS", 47, 32, .ro, 0⟩,
  ⟨"PEAK_W", 31, 16, .rc, 0⟩]⟩

/-- PWR CEIL (R378). -/
def Reg.pwrCeil : RegDesc := ⟨0x1908008, 1, 0x0, 1, 0, [
  ⟨"POWER_CEIL", 63, 58, .ro, 48⟩]⟩

/-- PWR COUNTS (R378). -/
def Reg.pwrCounts : RegDesc := ⟨0x1908010, 1, 0x0, 1, 0, [
  ⟨"CAP_STEPS", 63, 32, .rc, 0⟩,
  ⟨"PEAK_HITS", 31, 16, .rc, 0⟩]⟩

/-- PWR OPd (R378). -/
def Reg.pwrOp : RegDesc := ⟨0x1908100, 4, 0x8, 1, 0, [
  ⟨"STEP", 63, 58, .ro, 0⟩,
  ⟨"CEIL_THERM", 57, 52, .ro, 48⟩,
  ⟨"GBAND", 51, 48, .rw, 0⟩,
  ⟨"VOLT", 47, 32, .ro, 0⟩,
  ⟨"CAUSE", 31, 29, .ro, 0⟩]⟩

/-- SELF CTRL (R379). -/
def Reg.selfCtrl : RegDesc := ⟨0x1D00000, 1, 0x0, 1, 0, [
  ⟨"CLR_FAULTS", 13, 13, .wo, 0⟩,
  ⟨"CORE", 12, 1, .wo, 0⟩,
  ⟨"PROBE_NOW", 0, 0, .wo, 0⟩]⟩

/-- SELF EVENTS (R379). -/
def Reg.selfEvents : RegDesc := ⟨0x1D00008, 1, 0x0, 1, 0, [
  ⟨"STRAGGLER", 7, 7, .w1c, 0⟩,
  ⟨"GBAND_MAX", 6, 6, .w1c, 0⟩,
  ⟨"GBAND_RAISED", 5, 5, .w1c, 0⟩,
  ⟨"REMAPPED", 4, 4, .w1c, 0⟩,
  ⟨"CORE_FENCED", 3, 3, .w1c, 0⟩,
  ⟨"ARRAY_FENCED", 2, 2, .w1c, 0⟩,
  ⟨"MISMATCH", 1, 1, .w1c, 0⟩,
  ⟨"PROBE_FAIL", 0, 0, .w1c, 0⟩]⟩

/-- SELF COUNTS (R379). -/
def Reg.selfCounts : RegDesc := ⟨0x1D00010, 1, 0x0, 1, 0, [
  ⟨"PROBES", 63, 32, .rc, 0⟩,
  ⟨"PROBE_FAILS", 31, 16, .rc, 0⟩,
  ⟨"MISMATCHES", 15, 0, .rc, 0⟩]⟩

/-- SELF CAPT (R379). -/
def Reg.selfCapt : RegDesc := ⟨0x1D00018, 1, 0x0, 1, 0, [
  ⟨"VALID", 63, 63, .w1c, 0⟩,
  ⟨"KIND", 62, 61, .ro, 0⟩,
  ⟨"CORE", 60, 49, .ro, 0⟩,
  ⟨"POS", 48, 44, .ro, 0⟩,
  ⟨"TEMP", 43, 32, .ro, 0⟩,
  ⟨"VOLT", 31, 21, .ro, 0⟩,
  ⟨"STEP", 20, 15, .ro, 0⟩,
  ⟨"LOAD", 14, 9, .ro, 0⟩,
  ⟨"FMT", 8, 3, .ro, 0⟩]⟩

/-- SELF CAPT_CT (R379). -/
def Reg.selfCaptCt : RegDesc := ⟨0x1D00020, 1, 0x0, 1, 0, [
  ⟨"TICKS", 63, 0, .ro, 0⟩]⟩

/-- SELF PSEL (R379). -/
def Reg.psel : RegDesc := ⟨0x1D00028, 1, 0x0, 1, 0, [
  ⟨"CORE", 16, 5, .rw, 0⟩,
  ⟨"POS", 4, 0, .rw, 0⟩]⟩

/-- SELF PDATA (R379). -/
def Reg.pdata : RegDesc := ⟨0x1D00030, 1, 0x0, 1, 0, [
  ⟨"FAULTS", 63, 56, .ro, 0⟩,
  ⟨"SUSPECTS", 55, 48, .ro, 0⟩]⟩

/-- SELF BSEL (R379). -/
def Reg.bsel : RegDesc := ⟨0x1D00038, 1, 0x0, 1, 0, [
  ⟨"BOUND", 15, 0, .rw, 0⟩]⟩

/-- SELF BDATA (R379). -/
def Reg.bdata : RegDesc := ⟨0x1D00040, 1, 0x0, 1, 0, [
  ⟨"VALUE", 63, 0, .ro, 0⟩]⟩

/-- SELF PLATEk (R379). -/
def Reg.plate : RegDesc := ⟨0x1D00100, 16, 0x8, 1, 0, [
  ⟨"LATE", 63, 32, .rc, 0⟩,
  ⟨"LAST_PERIOD", 31, 0, .ro, 0⟩]⟩

/-- SEC STATUS (R404). -/
def Reg.secStatus : RegDesc := ⟨0x1A00000, 1, 0x0, 1, 0, [
  ⟨"OWNED", 63, 63, .ro, 0⟩,
  ⟨"EPOCH", 62, 60, .ro, 0⟩,
  ⟨"RECOVERY", 59, 59, .ro, 0⟩,
  ⟨"FUSE_PENDING", 58, 58, .ro, 0⟩,
  ⟨"SVN_MIN", 57, 52, .ro, 0⟩,
  ⟨"FW_SVN", 51, 46, .ro, 0⟩,
  ⟨"VKEY", 45, 45, .ro, 0⟩,
  ⟨"VKEY_REVOKED", 44, 43, .ro, 0⟩]⟩

/-- SEC EVENTS (R404). -/
def Reg.secEvents : RegDesc := ⟨0x1A00008, 1, 0x0, 1, 0, [
  ⟨"SPOOF", 6, 6, .w1c, 0⟩,
  ⟨"BOOT_FALLBACK", 5, 5, .w1c, 0⟩,
  ⟨"FUSE_DONE", 4, 4, .w1c, 0⟩,
  ⟨"ROLLBACK", 3, 3, .w1c, 0⟩,
  ⟨"REVOKED", 2, 2, .w1c, 0⟩,
  ⟨"OWNERSHIP", 1, 1, .w1c, 0⟩,
  ⟨"SIG_FAIL", 0, 0, .w1c, 0⟩]⟩

/-- SEC COUNTS (R404). -/
def Reg.secCounts : RegDesc := ⟨0x1A00010, 1, 0x0, 1, 0, [
  ⟨"SIG_FAILS", 63, 48, .rc, 0⟩,
  ⟨"SPOOFED", 47, 32, .rc, 0⟩,
  ⟨"SESSIONS", 31, 16, .rc, 0⟩,
  ⟨"QUOTES", 15, 0, .rc, 0⟩]⟩

/-- SEC SLOTS (R404). -/
def Reg.secSlots : RegDesc := ⟨0x1A00018, 1, 0x0, 1, 0, [
  ⟨"PRESENT1", 15, 12, .ro, 0⟩,
  ⟨"REVOKED1", 11, 8, .ro, 0⟩,
  ⟨"PRESENT0", 7, 4, .ro, 0⟩,
  ⟨"REVOKED0", 3, 0, .ro, 0⟩]⟩

/-- SEC SESS (R404). -/
def Reg.secSess : RegDesc := ⟨0x1A00020, 1, 0x0, 1, 0, [
  ⟨"CLOSE_ALL", 5, 5, .wo, 0⟩,
  ⟨"OPEN", 4, 0, .ro, 0⟩]⟩

/-- SEC ESEL (R404). -/
def Reg.esel : RegDesc := ⟨0x1A00028, 1, 0x0, 1, 0, [
  ⟨"WORD", 8, 0, .rw, 0⟩]⟩

/-- SEC EDATA (R404). -/
def Reg.edata : RegDesc := ⟨0x1A00030, 1, 0x0, 1, 0, [
  ⟨"DATA", 63, 0, .ro, 0⟩]⟩

/-- SEC IDw (R404). -/
def Reg.secIdw : RegDesc := ⟨0x1A00100, 4, 0x8, 1, 0, [
  ⟨"DIGEST", 63, 0, .ro, 0⟩]⟩

/-- SEC MEASn (R404). -/
def Reg.meas : RegDesc := ⟨0x1A00140, 16, 0x8, 1, 0, [
  ⟨"VALUE", 63, 0, .ro, 0⟩]⟩

/-- CAIRN STATUS (R416). -/
def Reg.cairnStatus : RegDesc := ⟨0x1B00000, 1, 0x0, 1, 0, [
  ⟨"WAITING", 50, 38, .ro, 0⟩,
  ⟨"WINDOW", 37, 37, .ro, 0⟩,
  ⟨"FIRST_FULL", 36, 36, .ro, 0⟩,
  ⟨"CLEARING", 35, 35, .ro, 0⟩]⟩

/-- CAIRN NEXT (R416). -/
def Reg.cairnNext : RegDesc := ⟨0x1B00008, 1, 0x0, 1, 0, [
  ⟨"NUMBER", 47, 0, .ro, 0⟩]⟩

/-- CAIRN WRITTEN (R416). -/
def Reg.cairnWritten : RegDesc := ⟨0x1B00010, 1, 0x0, 1, 0, [
  ⟨"COUNT", 47, 0, .ro, 0⟩]⟩

/-- CAIRN CURSOR (R416). -/
def Reg.cairnCursor : RegDesc := ⟨0x1B00018, 1, 0x0, 1, 0, [
  ⟨"NUMBER", 47, 0, .rw, 0⟩]⟩

/-- CAIRN CSTAT (R416). -/
def Reg.cstat : RegDesc := ⟨0x1B00020, 1, 0x0, 1, 0, [
  ⟨"STATE", 2, 0, .ro, 5⟩]⟩

/-- CAIRN WINk (R416). -/
def Reg.win : RegDesc := ⟨0x1B00028, 4, 0x8, 1, 0, [
  ⟨"WORD", 63, 0, .ro, 0⟩]⟩

/-- CAIRN COUNTS (R416). -/
def Reg.cairnCounts : RegDesc := ⟨0x1B00048, 1, 0x0, 1, 0, [
  ⟨"LOST", 63, 48, .rc, 0⟩,
  ⟨"DROPPED", 47, 32, .rc, 0⟩,
  ⟨"CORRUPT", 31, 16, .rc, 0⟩,
  ⟨"CLEARED", 15, 0, .rc, 0⟩]⟩

/-- CAIRN EVENTS (R416). -/
def Reg.cairnEvents : RegDesc := ⟨0x1B00050, 1, 0x0, 1, 0, [
  ⟨"CLEARED", 3, 3, .w1c, 0⟩,
  ⟨"CORRUPT", 2, 2, .w1c, 0⟩,
  ⟨"OVERFLOW", 1, 1, .w1c, 0⟩,
  ⟨"LOSS", 0, 0, .w1c, 0⟩]⟩

/-- PWR SVC_CTRL (R434). -/
def Reg.svcCtrl : RegDesc := ⟨0x1908200, 1, 0x0, 1, 0, [
  ⟨"POWER_DOWN", 15, 15, .wo, 0⟩,
  ⟨"RESUME", 14, 14, .wo, 0⟩,
  ⟨"BIVOUAC", 13, 13, .wo, 0⟩,
  ⟨"MEM_OFF", 12, 12, .wo, 0⟩,
  ⟨"CASS_REMOVE", 11, 8, .wo, 0⟩]⟩

/-- PWR SVC_STATUS (R434). -/
def Reg.svcStatus : RegDesc := ⟨0x1908208, 1, 0x0, 1, 0, [
  ⟨"STAGE", 63, 61, .ro, 0⟩,
  ⟨"DIE_FAIL", 60, 57, .ro, 0⟩,
  ⟨"CASS_SAFE", 56, 53, .ro, 0⟩,
  ⟨"BIV_MEM_OFF", 52, 52, .ro, 0⟩,
  ⟨"SELFTEST_MS", 51, 32, .ro, 0⟩]⟩

/-- PWR SVC_EVENTS (R434). -/
def Reg.svcEvents : RegDesc := ⟨0x1908210, 1, 0x0, 1, 0, [
  ⟨"CMD_REFUSED", 4, 4, .w1c, 0⟩,
  ⟨"FW_MISSED", 3, 3, .w1c, 0⟩,
  ⟨"FW_SWITCHED", 2, 2, .w1c, 0⟩,
  ⟨"BIVOUAC", 1, 1, .w1c, 0⟩,
  ⟨"SELFTEST_FAIL", 0, 0, .w1c, 0⟩]⟩

/-- PWR FW_SEL (R434). -/
def Reg.fwSel : RegDesc := ⟨0x1908218, 1, 0x0, 1, 0, [
  ⟨"OFFSET", 24, 3, .rw, 0⟩]⟩

/-- PWR FW_DATA (R434). -/
def Reg.fwData : RegDesc := ⟨0x1908220, 1, 0x0, 1, 0, [
  ⟨"DATA", 63, 0, .wo, 0⟩]⟩

/-- PWR FW_CMD (R434). -/
def Reg.fwCmd : RegDesc := ⟨0x1908228, 1, 0x0, 1, 0, [
  ⟨"CANCEL", 3, 3, .wo, 0⟩,
  ⟨"SWITCH", 2, 2, .wo, 0⟩,
  ⟨"VERIFY", 1, 1, .wo, 0⟩,
  ⟨"ERASE", 0, 0, .wo, 0⟩]⟩

/-- PWR FW_CT (R434). -/
def Reg.fwCt : RegDesc := ⟨0x1908230, 1, 0x0, 1, 0, [
  ⟨"TICKS", 63, 0, .rw, 0⟩]⟩

/-- PWR FW_STATUS (R434). -/
def Reg.fwStatus : RegDesc := ⟨0x1908238, 1, 0x0, 1, 0, [
  ⟨"STAGED", 63, 62, .ro, 0⟩,
  ⟨"SVN", 61, 56, .ro, 0⟩,
  ⟨"MAJOR", 55, 48, .ro, 0⟩,
  ⟨"SWITCH_PENDING", 47, 47, .ro, 0⟩,
  ⟨"BOOT_BANK", 46, 46, .ro, 0⟩,
  ⟨"ERASING", 45, 45, .ro, 0⟩]⟩

/-! Addresses by name. -/

/-- Address of `Reg.timeNow`. -/
abbrev A.timeNow : Nat := 0x0100000
/-- Address of `Reg.timeStatus`. -/
abbrev A.timeStatus : Nat := 0x0100008
/-- Address of `Reg.timeOffset`. -/
abbrev A.timeOffset : Nat := 0x0100010
/-- Address of `Reg.timeEvents`. -/
abbrev A.timeEvents : Nat := 0x0100018
/-- Address of `Reg.timeCounts`. -/
abbrev A.timeCounts : Nat := 0x0100020
/-- Address of `Reg.timeEpoch`. -/
abbrev A.timeEpoch : Nat := 0x0100028
/-- Address of `Reg.timeRoots`. -/
abbrev A.timeRoots : Nat := 0x0100030
/-- Address of `Reg.timePtp`. -/
abbrev A.timePtp : Nat := 0x0100038
/-- Address of `Reg.timeAsym`, copy i. -/
abbrev A.timeAsym (i : Nat) : Nat := 0x0100100 + i * 0x8
/-- Address of `Reg.timePtpCfg`. -/
abbrev A.timePtpCfg : Nat := 0x0100040
/-- Address of `Reg.acfg`, copy i, element j. -/
abbrev A.acfg (i j : Nat) : Nat := 0x0800200 + i * 0x1000 + j * 16
/-- Address of `Reg.acnt`, copy i, element j. -/
abbrev A.acnt (i j : Nat) : Nat := 0x0800208 + i * 0x1000 + j * 16
/-- Address of `Reg.coreId`, copy i. -/
abbrev A.coreId (i : Nat) : Nat := 0x0800000 + i * 0x1000
/-- Address of `Reg.coreCtrl`, copy i. -/
abbrev A.coreCtrl (i : Nat) : Nat := 0x0800008 + i * 0x1000
/-- Address of `Reg.coreState`, copy i. -/
abbrev A.coreState (i : Nat) : Nat := 0x0800010 + i * 0x1000
/-- Address of `Reg.coreStart`, copy i. -/
abbrev A.coreStart (i : Nat) : Nat := 0x0800018 + i * 0x1000
/-- Address of `Reg.coreStartCt`, copy i. -/
abbrev A.coreStartCt (i : Nat) : Nat := 0x0800020 + i * 0x1000
/-- Address of `Reg.coreFlags`, copy i. -/
abbrev A.coreFlags (i : Nat) : Nat := 0x0800028 + i * 0x1000
/-- Address of `Reg.coreFault`, copy i. -/
abbrev A.coreFault (i : Nat) : Nat := 0x0800030 + i * 0x1000
/-- Address of `Reg.corePart`, copy i. -/
abbrev A.corePart (i : Nat) : Nat := 0x0800038 + i * 0x1000
/-- Address of `Reg.shadowCfg`, copy i. -/
abbrev A.shadowCfg (i : Nat) : Nat := 0x0800040 + i * 0x1000
/-- Address of `Reg.shadowStat`, copy i. -/
abbrev A.shadowStat (i : Nat) : Nat := 0x0800048 + i * 0x1000
/-- Address of `Reg.shadowCapt`, copy i. -/
abbrev A.shadowCapt (i : Nat) : Nat := 0x0800050 + i * 0x1000
/-- Address of `Reg.shadowVals`, copy i. -/
abbrev A.shadowVals (i : Nat) : Nat := 0x0800058 + i * 0x1000
/-- Address of `Reg.coreStalls`, copy i. -/
abbrev A.coreStalls (i : Nat) : Nat := 0x0800060 + i * 0x1000
/-- Address of `Reg.routeStat`, copy i. -/
abbrev A.routeStat (i : Nat) : Nat := 0x0800068 + i * 0x1000
/-- Address of `Reg.coreSwaddr`, copy i. -/
abbrev A.coreSwaddr (i : Nat) : Nat := 0x0800070 + i * 0x1000
/-- Address of `Reg.coreSwdata`, copy i. -/
abbrev A.coreSwdata (i : Nat) : Nat := 0x0800078 + i * 0x1000
/-- Address of `Reg.coreCnt`, copy i, element j. -/
abbrev A.coreCnt (i j : Nat) : Nat := 0x0800100 + i * 0x1000 + j * 8
/-- Address of `Reg.updCtrl`, copy i. -/
abbrev A.updCtrl (i : Nat) : Nat := 0x1800000 + i * 0x10000
/-- Address of `Reg.updStatus`, copy i. -/
abbrev A.updStatus (i : Nat) : Nat := 0x1800008 + i * 0x10000
/-- Address of `Reg.updGselReg`, copy i. -/
abbrev A.updGselReg (i : Nat) : Nat := 0x1800010 + i * 0x10000
/-- Address of `Reg.updGcmd`, copy i. -/
abbrev A.updGcmd (i : Nat) : Nat := 0x1800018 + i * 0x10000
/-- Address of `Reg.updGstat`, copy i. -/
abbrev A.updGstat (i : Nat) : Nat := 0x1800020 + i * 0x10000
/-- Address of `Reg.updGdata`, copy i, element j. -/
abbrev A.updGdata (i j : Nat) : Nat := 0x1800100 + i * 0x10000 + j * 8
/-- Address of `Reg.updSsel`, copy i. -/
abbrev A.updSsel (i : Nat) : Nat := 0x1800028 + i * 0x10000
/-- Address of `Reg.updSdata`, copy i. -/
abbrev A.updSdata (i : Nat) : Nat := 0x1800030 + i * 0x10000
/-- Address of `Reg.updCounts`, copy i. -/
abbrev A.updCounts (i : Nat) : Nat := 0x1800038 + i * 0x10000
/-- Address of `Reg.updRootStat`, copy i. -/
abbrev A.updRootStat (i : Nat) : Nat := 0x1800040 + i * 0x10000
/-- Address of `Reg.updEvents`, copy i. -/
abbrev A.updEvents (i : Nat) : Nat := 0x1800048 + i * 0x10000
/-- Address of `Reg.memMap`, copy i. -/
abbrev A.memMap (i : Nat) : Nat := 0x0600000 + i * 0x40000
/-- Address of `Reg.memCtrl`, copy i. -/
abbrev A.memCtrl (i : Nat) : Nat := 0x0600008 + i * 0x40000
/-- Address of `Reg.memStatus`, copy i. -/
abbrev A.memStatus (i : Nat) : Nat := 0x0600010 + i * 0x40000
/-- Address of `Reg.eccCnt`, copy i. -/
abbrev A.eccCnt (i : Nat) : Nat := 0x0600018 + i * 0x40000
/-- Address of `Reg.eccCapt`, copy i. -/
abbrev A.eccCapt (i : Nat) : Nat := 0x0600020 + i * 0x40000
/-- Address of `Reg.eccTime`, copy i. -/
abbrev A.eccTime (i : Nat) : Nat := 0x0600028 + i * 0x40000
/-- Address of `Reg.ceCfg`, copy i. -/
abbrev A.ceCfg (i : Nat) : Nat := 0x0600030 + i * 0x40000
/-- Address of `Reg.memEvents`, copy i. -/
abbrev A.memEvents (i : Nat) : Nat := 0x0600038 + i * 0x40000
/-- Address of `Reg.memReg`, copy i, element j. -/
abbrev A.memReg (i j : Nat) : Nat := 0x0600100 + i * 0x40000 + j * 8
/-- Address of `Reg.memCred`, copy i, element j. -/
abbrev A.memCred (i j : Nat) : Nat := 0x0600180 + i * 0x40000 + j * 8
/-- Address of `Reg.memPcnt`, copy i, element j. -/
abbrev A.memPcnt (i j : Nat) : Nat := 0x0600200 + i * 0x40000 + j * 8
/-- Address of `Reg.zstat`, copy i. -/
abbrev A.zstat (i : Nat) : Nat := 0x0600040 + i * 0x40000
/-- Address of `Reg.zrange`, copy i, element j. -/
abbrev A.zrange (i j : Nat) : Nat := 0x0600300 + i * 0x40000 + j * 16
/-- Address of `Reg.zmap`, copy i, element j. -/
abbrev A.zmap (i j : Nat) : Nat := 0x0600308 + i * 0x40000 + j * 16
/-- Address of `Reg.d2dCtrl`, copy i. -/
abbrev A.d2dCtrl (i : Nat) : Nat := 0x0400000 + i * 0x100
/-- Address of `Reg.d2dStatus`, copy i. -/
abbrev A.d2dStatus (i : Nat) : Nat := 0x0400008 + i * 0x100
/-- Address of `Reg.badTx0`, copy i. -/
abbrev A.badTx0 (i : Nat) : Nat := 0x0400010 + i * 0x100
/-- Address of `Reg.badTx1`, copy i. -/
abbrev A.badTx1 (i : Nat) : Nat := 0x0400018 + i * 0x100
/-- Address of `Reg.badRx0`, copy i. -/
abbrev A.badRx0 (i : Nat) : Nat := 0x0400020 + i * 0x100
/-- Address of `Reg.badRx1`, copy i. -/
abbrev A.badRx1 (i : Nat) : Nat := 0x0400028 + i * 0x100
/-- Address of `Reg.rsel`, copy i. -/
abbrev A.rsel (i : Nat) : Nat := 0x0400030 + i * 0x100
/-- Address of `Reg.rmap`, copy i. -/
abbrev A.rmap (i : Nat) : Nat := 0x0400038 + i * 0x100
/-- Address of `Reg.d2dErr`, copy i. -/
abbrev A.d2dErr (i : Nat) : Nat := 0x0400040 + i * 0x100
/-- Address of `Reg.d2dCfg`, copy i. -/
abbrev A.d2dCfg (i : Nat) : Nat := 0x0400048 + i * 0x100
/-- Address of `Reg.d2dEvents`, copy i. -/
abbrev A.d2dEvents (i : Nat) : Nat := 0x0400050 + i * 0x100
/-- Address of `Reg.fenceCt`, copy i. -/
abbrev A.fenceCt (i : Nat) : Nat := 0x0400058 + i * 0x100
/-- Address of `Reg.rcCtrl`, copy i. -/
abbrev A.rcCtrl (i : Nat) : Nat := 0x0400060 + i * 0x100
/-- Address of `Reg.rcStat`, copy i. -/
abbrev A.rcStat (i : Nat) : Nat := 0x0400068 + i * 0x100
/-- Address of `Reg.epStat`. -/
abbrev A.epStat : Nat := 0x03F0000
/-- Address of `Reg.epErr`. -/
abbrev A.epErr : Nat := 0x03F0008
/-- Address of `Reg.epJobfault`. -/
abbrev A.epJobfault : Nat := 0x03F0010
/-- Address of `Reg.epReplay`. -/
abbrev A.epReplay : Nat := 0x03F0018
/-- Address of `Reg.epTeardown`. -/
abbrev A.epTeardown : Nat := 0x03F0020
/-- Address of `Reg.cpyStat`, copy i. -/
abbrev A.cpyStat (i : Nat) : Nat := 0x03F0100 + i * 0x8
/-- Address of `Reg.hubCtrl`. -/
abbrev A.hubCtrl : Nat := 0x0300000
/-- Address of `Reg.hubStatus`. -/
abbrev A.hubStatus : Nat := 0x0300008
/-- Address of `Reg.hubEvents`. -/
abbrev A.hubEvents : Nat := 0x0300010
/-- Address of `Reg.hubPitch`. -/
abbrev A.hubPitch : Nat := 0x0300018
/-- Address of `Reg.telCfg`. -/
abbrev A.telCfg : Nat := 0x0300020
/-- Address of `Reg.telStat`. -/
abbrev A.telStat : Nat := 0x0300028
/-- Address of `Reg.telSel`. -/
abbrev A.telSel : Nat := 0x0300030
/-- Address of `Reg.telData`. -/
abbrev A.telData : Nat := 0x0300038
/-- Address of `Reg.schSel`. -/
abbrev A.schSel : Nat := 0x0300040
/-- Address of `Reg.schData`. -/
abbrev A.schData : Nat := 0x0300048
/-- Address of `Reg.drops`. -/
abbrev A.drops : Nat := 0x0300050
/-- Address of `Reg.budget`, copy i. -/
abbrev A.budget (i : Nat) : Nat := 0x0300100 + i * 0x8
/-- Address of `Reg.detour`, copy i. -/
abbrev A.detour (i : Nat) : Nat := 0x0302000 + i * 0x8
/-- Address of `Reg.pstat`, copy i. -/
abbrev A.pstat (i : Nat) : Nat := 0x0301000 + i * 0x10
/-- Address of `Reg.pcnt`, copy i. -/
abbrev A.pcnt (i : Nat) : Nat := 0x0301008 + i * 0x10
/-- Address of `Reg.optCtrl`. -/
abbrev A.optCtrl : Nat := 0x0500000
/-- Address of `Reg.optCfg`. -/
abbrev A.optCfg : Nat := 0x0500008
/-- Address of `Reg.optVersion`. -/
abbrev A.optVersion : Nat := 0x0500010
/-- Address of `Reg.optEvents`. -/
abbrev A.optEvents : Nat := 0x0500018
/-- Address of `Reg.optCounts`. -/
abbrev A.optCounts : Nat := 0x0500020
/-- Address of `Reg.lsel`. -/
abbrev A.lsel : Nat := 0x0500028
/-- Address of `Reg.ldata`. -/
abbrev A.ldata : Nat := 0x0500030
/-- Address of `Reg.lcmd`. -/
abbrev A.lcmd : Nat := 0x0500038
/-- Address of `Reg.estat`, copy i. -/
abbrev A.estat (i : Nat) : Nat := 0x0500100 + i * 0x8
/-- Address of `Reg.cassReg`, copy i. -/
abbrev A.cassReg (i : Nat) : Nat := 0x0500200 + i * 0x8
/-- Address of `Reg.pmapReg`, copy i. -/
abbrev A.pmapReg (i : Nat) : Nat := 0x0500300 + i * 0x8
/-- Address of `Reg.perr`, copy i. -/
abbrev A.perr (i : Nat) : Nat := 0x0500800 + i * 0x8
/-- Address of `Reg.topoVersion`. -/
abbrev A.topoVersion : Nat := 0x0200000
/-- Address of `Reg.topoStatus`. -/
abbrev A.topoStatus : Nat := 0x0200008
/-- Address of `Reg.topoEvents`. -/
abbrev A.topoEvents : Nat := 0x0200010
/-- Address of `Reg.topoReject`. -/
abbrev A.topoReject : Nat := 0x0200018
/-- Address of `Reg.topoRejectCt`. -/
abbrev A.topoRejectCt : Nat := 0x0200020
/-- Address of `Reg.tsel`. -/
abbrev A.tsel : Nat := 0x0200028
/-- Address of `Reg.tgen`. -/
abbrev A.tgen : Nat := 0x0200030
/-- Address of `Reg.tpendCt`. -/
abbrev A.tpendCt : Nat := 0x0200038
/-- Address of `Reg.topoCmd`. -/
abbrev A.topoCmd : Nat := 0x0200040
/-- Address of `Reg.topoCounts`. -/
abbrev A.topoCounts : Nat := 0x0200048
/-- Address of `Reg.topoSpread`. -/
abbrev A.topoSpread : Nat := 0x0200050
/-- Address of `Reg.globalId`. -/
abbrev A.globalId : Nat := 0x0000000
/-- Address of `Reg.globalSerial`. -/
abbrev A.globalSerial : Nat := 0x0000008
/-- Address of `Reg.globalFw`. -/
abbrev A.globalFw : Nat := 0x0000010
/-- Address of `Reg.globalCaps`. -/
abbrev A.globalCaps : Nat := 0x0000018
/-- Address of `Reg.globalDomains`. -/
abbrev A.globalDomains : Nat := 0x0000020
/-- Address of `Reg.globalScratch`. -/
abbrev A.globalScratch : Nat := 0x0000028
/-- Address of `Reg.capmap`, copy i. -/
abbrev A.capmap (i : Nat) : Nat := 0x0000100 + i * 0x8
/-- Address of `Reg.ethPcfg`, copy i. -/
abbrev A.ethPcfg (i : Nat) : Nat := 0x1C00000 + i * 0x100
/-- Address of `Reg.ethMac`, copy i. -/
abbrev A.ethMac (i : Nat) : Nat := 0x1C00008 + i * 0x100
/-- Address of `Reg.ethIp6hi`, copy i. -/
abbrev A.ethIp6hi (i : Nat) : Nat := 0x1C00010 + i * 0x100
/-- Address of `Reg.ethIp6lo`, copy i. -/
abbrev A.ethIp6lo (i : Nat) : Nat := 0x1C00018 + i * 0x100
/-- Address of `Reg.ethIp4`, copy i. -/
abbrev A.ethIp4 (i : Nat) : Nat := 0x1C00020 + i * 0x100
/-- Address of `Reg.ethStat`, copy i. -/
abbrev A.ethStat (i : Nat) : Nat := 0x1C00028 + i * 0x100
/-- Address of `Reg.ethCnt`, copy i. -/
abbrev A.ethCnt (i : Nat) : Nat := 0x1C00030 + i * 0x100
/-- Address of `Reg.ethFec`, copy i. -/
abbrev A.ethFec (i : Nat) : Nat := 0x1C00038 + i * 0x100
/-- Address of `Reg.evAhi`, copy i. -/
abbrev A.evAhi (i : Nat) : Nat := 0x1C00200 + i * 0x20
/-- Address of `Reg.evAlo`, copy i. -/
abbrev A.evAlo (i : Nat) : Nat := 0x1C00208 + i * 0x20
/-- Address of `Reg.evCfg`, copy i. -/
abbrev A.evCfg (i : Nat) : Nat := 0x1C00210 + i * 0x20
/-- Address of `Reg.evPort`, copy i. -/
abbrev A.evPort (i : Nat) : Nat := 0x1C00218 + i * 0x20
/-- Address of `Reg.evStat`. -/
abbrev A.evStat : Nat := 0x1C00240
/-- Address of `Reg.qpsel`. -/
abbrev A.qpsel : Nat := 0x1C00300
/-- Address of `Reg.qpdata0`. -/
abbrev A.qpdata0 : Nat := 0x1C00308
/-- Address of `Reg.qpdata1`. -/
abbrev A.qpdata1 : Nat := 0x1C00310
/-- Address of `Reg.qpdata2`. -/
abbrev A.qpdata2 : Nat := 0x1C00318
/-- Address of `Reg.qpdata3`, copy i. -/
abbrev A.qpdata3 (i : Nat) : Nat := 0x1C00320 + i * 0x8
/-- Address of `Reg.qpdata5`. -/
abbrev A.qpdata5 : Nat := 0x1C00330
/-- Address of `Reg.qpdata6`. -/
abbrev A.qpdata6 : Nat := 0x1C00338
/-- Address of `Reg.qpdata7`. -/
abbrev A.qpdata7 : Nat := 0x1C00340
/-- Address of `Reg.qpcmd`. -/
abbrev A.qpcmd : Nat := 0x1C00348
/-- Address of `Reg.thermCtrl`. -/
abbrev A.thermCtrl : Nat := 0x1900000
/-- Address of `Reg.thermStatus`. -/
abbrev A.thermStatus : Nat := 0x1900008
/-- Address of `Reg.thermEvents`. -/
abbrev A.thermEvents : Nat := 0x1900010
/-- Address of `Reg.tripCt`. -/
abbrev A.tripCt : Nat := 0x1900018
/-- Address of `Reg.ssel`. -/
abbrev A.ssel : Nat := 0x1900020
/-- Address of `Reg.sdata`. -/
abbrev A.sdata : Nat := 0x1900028
/-- Address of `Reg.thermDie`, copy i. -/
abbrev A.thermDie (i : Nat) : Nat := 0x1900100 + i * 0x8
/-- Address of `Reg.pwrInput`. -/
abbrev A.pwrInput : Nat := 0x1908000
/-- Address of `Reg.pwrCeil`. -/
abbrev A.pwrCeil : Nat := 0x1908008
/-- Address of `Reg.pwrCounts`. -/
abbrev A.pwrCounts : Nat := 0x1908010
/-- Address of `Reg.pwrOp`, copy i. -/
abbrev A.pwrOp (i : Nat) : Nat := 0x1908100 + i * 0x8
/-- Address of `Reg.selfCtrl`. -/
abbrev A.selfCtrl : Nat := 0x1D00000
/-- Address of `Reg.selfEvents`. -/
abbrev A.selfEvents : Nat := 0x1D00008
/-- Address of `Reg.selfCounts`. -/
abbrev A.selfCounts : Nat := 0x1D00010
/-- Address of `Reg.selfCapt`. -/
abbrev A.selfCapt : Nat := 0x1D00018
/-- Address of `Reg.selfCaptCt`. -/
abbrev A.selfCaptCt : Nat := 0x1D00020
/-- Address of `Reg.psel`. -/
abbrev A.psel : Nat := 0x1D00028
/-- Address of `Reg.pdata`. -/
abbrev A.pdata : Nat := 0x1D00030
/-- Address of `Reg.bsel`. -/
abbrev A.bsel : Nat := 0x1D00038
/-- Address of `Reg.bdata`. -/
abbrev A.bdata : Nat := 0x1D00040
/-- Address of `Reg.plate`, copy i. -/
abbrev A.plate (i : Nat) : Nat := 0x1D00100 + i * 0x8
/-- Address of `Reg.secStatus`. -/
abbrev A.secStatus : Nat := 0x1A00000
/-- Address of `Reg.secEvents`. -/
abbrev A.secEvents : Nat := 0x1A00008
/-- Address of `Reg.secCounts`. -/
abbrev A.secCounts : Nat := 0x1A00010
/-- Address of `Reg.secSlots`. -/
abbrev A.secSlots : Nat := 0x1A00018
/-- Address of `Reg.secSess`. -/
abbrev A.secSess : Nat := 0x1A00020
/-- Address of `Reg.esel`. -/
abbrev A.esel : Nat := 0x1A00028
/-- Address of `Reg.edata`. -/
abbrev A.edata : Nat := 0x1A00030
/-- Address of `Reg.secIdw`, copy i. -/
abbrev A.secIdw (i : Nat) : Nat := 0x1A00100 + i * 0x8
/-- Address of `Reg.meas`, copy i. -/
abbrev A.meas (i : Nat) : Nat := 0x1A00140 + i * 0x8
/-- Address of `Reg.cairnStatus`. -/
abbrev A.cairnStatus : Nat := 0x1B00000
/-- Address of `Reg.cairnNext`. -/
abbrev A.cairnNext : Nat := 0x1B00008
/-- Address of `Reg.cairnWritten`. -/
abbrev A.cairnWritten : Nat := 0x1B00010
/-- Address of `Reg.cairnCursor`. -/
abbrev A.cairnCursor : Nat := 0x1B00018
/-- Address of `Reg.cstat`. -/
abbrev A.cstat : Nat := 0x1B00020
/-- Address of `Reg.win`, copy i. -/
abbrev A.win (i : Nat) : Nat := 0x1B00028 + i * 0x8
/-- Address of `Reg.cairnCounts`. -/
abbrev A.cairnCounts : Nat := 0x1B00048
/-- Address of `Reg.cairnEvents`. -/
abbrev A.cairnEvents : Nat := 0x1B00050
/-- Address of `Reg.svcCtrl`. -/
abbrev A.svcCtrl : Nat := 0x1908200
/-- Address of `Reg.svcStatus`. -/
abbrev A.svcStatus : Nat := 0x1908208
/-- Address of `Reg.svcEvents`. -/
abbrev A.svcEvents : Nat := 0x1908210
/-- Address of `Reg.fwSel`. -/
abbrev A.fwSel : Nat := 0x1908218
/-- Address of `Reg.fwData`. -/
abbrev A.fwData : Nat := 0x1908220
/-- Address of `Reg.fwCmd`. -/
abbrev A.fwCmd : Nat := 0x1908228
/-- Address of `Reg.fwCt`. -/
abbrev A.fwCt : Nat := 0x1908230
/-- Address of `Reg.fwStatus`. -/
abbrev A.fwStatus : Nat := 0x1908238

/-- The registers of the TIME block. -/
def regsTime : List RegDesc :=
  [Reg.timeNow, Reg.timeStatus, Reg.timeOffset, Reg.timeEvents, Reg.timeCounts, Reg.timeEpoch, Reg.timeRoots, Reg.timePtp, Reg.timeAsym, Reg.timePtpCfg]

/-- The registers of the CORE block. -/
def regsCore : List RegDesc :=
  [Reg.acfg, Reg.acnt, Reg.coreId, Reg.coreCtrl, Reg.coreState, Reg.coreStart, Reg.coreStartCt, Reg.coreFlags, Reg.coreFault, Reg.corePart, Reg.shadowCfg, Reg.shadowStat, Reg.shadowCapt, Reg.shadowVals, Reg.coreStalls, Reg.routeStat, Reg.coreSwaddr, Reg.coreSwdata, Reg.coreCnt]

/-- The registers of the UPD block. -/
def regsUpd : List RegDesc :=
  [Reg.updCtrl, Reg.updStatus, Reg.updGselReg, Reg.updGcmd, Reg.updGstat, Reg.updGdata, Reg.updSsel, Reg.updSdata, Reg.updCounts, Reg.updRootStat, Reg.updEvents]

/-- The registers of the MEM block. -/
def regsMem : List RegDesc :=
  [Reg.memMap, Reg.memCtrl, Reg.memStatus, Reg.eccCnt, Reg.eccCapt, Reg.eccTime, Reg.ceCfg, Reg.memEvents, Reg.memReg, Reg.memCred, Reg.memPcnt, Reg.zstat, Reg.zrange, Reg.zmap]

/-- The registers of the D2D block. -/
def regsD2d : List RegDesc :=
  [Reg.d2dCtrl, Reg.d2dStatus, Reg.badTx0, Reg.badTx1, Reg.badRx0, Reg.badRx1, Reg.rsel, Reg.rmap, Reg.d2dErr, Reg.d2dCfg, Reg.d2dEvents, Reg.fenceCt, Reg.rcCtrl, Reg.rcStat]

/-- The registers of the HUB block. -/
def regsHub : List RegDesc :=
  [Reg.epStat, Reg.epErr, Reg.epJobfault, Reg.epReplay, Reg.epTeardown, Reg.cpyStat, Reg.hubCtrl, Reg.hubStatus, Reg.hubEvents, Reg.hubPitch, Reg.telCfg, Reg.telStat, Reg.telSel, Reg.telData, Reg.schSel, Reg.schData, Reg.drops, Reg.budget, Reg.detour, Reg.pstat, Reg.pcnt]

/-- The registers of the OPT block. -/
def regsOpt : List RegDesc :=
  [Reg.optCtrl, Reg.optCfg, Reg.optVersion, Reg.optEvents, Reg.optCounts, Reg.lsel, Reg.ldata, Reg.lcmd, Reg.estat, Reg.cassReg, Reg.pmapReg, Reg.perr]

/-- The registers of the TOPO block. -/
def regsTopo : List RegDesc :=
  [Reg.topoVersion, Reg.topoStatus, Reg.topoEvents, Reg.topoReject, Reg.topoRejectCt, Reg.tsel, Reg.tgen, Reg.tpendCt, Reg.topoCmd, Reg.topoCounts, Reg.topoSpread]

/-- The registers of the GLOBAL block. -/
def regsGlobal : List RegDesc :=
  [Reg.globalId, Reg.globalSerial, Reg.globalFw, Reg.globalCaps, Reg.globalDomains, Reg.globalScratch, Reg.capmap]

/-- The registers of the ETH block. -/
def regsEth : List RegDesc :=
  [Reg.ethPcfg, Reg.ethMac, Reg.ethIp6hi, Reg.ethIp6lo, Reg.ethIp4, Reg.ethStat, Reg.ethCnt, Reg.ethFec, Reg.evAhi, Reg.evAlo, Reg.evCfg, Reg.evPort, Reg.evStat, Reg.qpsel, Reg.qpdata0, Reg.qpdata1, Reg.qpdata2, Reg.qpdata3, Reg.qpdata5, Reg.qpdata6, Reg.qpdata7, Reg.qpcmd]

/-- The registers of the THERM block. -/
def regsTherm : List RegDesc :=
  [Reg.thermCtrl, Reg.thermStatus, Reg.thermEvents, Reg.tripCt, Reg.ssel, Reg.sdata, Reg.thermDie]

/-- The registers of the PWR block. -/
def regsPwr : List RegDesc :=
  [Reg.pwrInput, Reg.pwrCeil, Reg.pwrCounts, Reg.pwrOp, Reg.svcCtrl, Reg.svcStatus, Reg.svcEvents, Reg.fwSel, Reg.fwData, Reg.fwCmd, Reg.fwCt, Reg.fwStatus]

/-- The registers of the SELF block. -/
def regsSelf : List RegDesc :=
  [Reg.selfCtrl, Reg.selfEvents, Reg.selfCounts, Reg.selfCapt, Reg.selfCaptCt, Reg.psel, Reg.pdata, Reg.bsel, Reg.bdata, Reg.plate]

/-- The registers of the SEC block. -/
def regsSec : List RegDesc :=
  [Reg.secStatus, Reg.secEvents, Reg.secCounts, Reg.secSlots, Reg.secSess, Reg.esel, Reg.edata, Reg.secIdw, Reg.meas]

/-- The registers of the CAIRN block. -/
def regsCairn : List RegDesc :=
  [Reg.cairnStatus, Reg.cairnNext, Reg.cairnWritten, Reg.cairnCursor, Reg.cstat, Reg.win, Reg.cairnCounts, Reg.cairnEvents]

/-- The registers that the spec's tables list at an address of the control space, by the block map of R352. -/
def blockRegs (a : Nat) : List RegDesc :=
  match a / 0x100000 with
  | 0x0 => regsGlobal
  | 0x1 => regsTime
  | 0x2 => regsTopo
  | 0x3 => regsHub
  | 0x4 => regsD2d
  | 0x5 => regsOpt
  | 0x6 => regsMem
  | 0x18 => regsUpd
  | 0x19 => regsTherm ++ regsPwr
  | 0x1A => regsSec
  | 0x1B => regsCairn
  | 0x1C => regsEth
  | 0x1D => regsSelf
  | n => if 0x8 ≤ n && n < 0x12 then regsCore else []

/-- Which copy of a register array an address names: (copy, element). -/
def RegDesc.locate (d : RegDesc) (a : Nat) : Option (Nat × Nat) :=
  if a < d.base then none
  else
    let o := a - d.base
    let i := if d.s1 = 0 then 0 else min (o / d.s1) (d.n1 - 1)
    let r := o - i * d.s1
    let j := if d.s2 = 0 then 0 else min (r / d.s2) (d.n2 - 1)
    if r - j * d.s2 = 0 then some (i, j) else none

/-- The register at an address. -/
def regAt (a : Nat) : Option (RegDesc × Nat × Nat) :=
  (blockRegs a).findSome? fun d => (d.locate a).map fun p => (d, p.1, p.2)

/-- Ones at the fields with an access code that satisfies f. -/
def RegDesc.maskBy (d : RegDesc) (f : Acc → Bool) : W64 :=
  d.fields.foldl (fun m x => if f x.acc then m ||| maskOf x.hi x.lo else m) 0

/-- The reset value of a register. -/
def RegDesc.resetVal (d : RegDesc) : W64 := d.fields.foldl (fun m x => setFld m x.hi x.lo x.reset) 0

/-- The reset values of the fields with an access code that satisfies f. -/
def RegDesc.resetBy (d : RegDesc) (f : Acc → Bool) : W64 :=
  d.fields.foldl (fun m x => if f x.acc then setFld m x.hi x.lo x.reset else m) 0

/-- What an address of the control space reads as before anything is written there: its register's reset value, zero where no
register is listed (R352). -/
def regReset (a : Nat) : W64 := match regAt a with
  | some (d, _) => d.resetVal
  | none => 0

end Sys2Proof.Machine
end

