-- ==== Sys2Proof/Machine/Tab.lean ====
section
/-! DEFINITION. Sparse tables: (key, value) pairs with rising keys. The byte memories (core stores, module memory, firmware banks)
are such tables in one canonical form: strictly rising keys and no entry equal to what an unlisted key reads as. -/
namespace Sys2Proof.Machine

/-- A table of values by number. -/
abbrev Tab (α : Type) := List (Nat × α)

/-- The entry listed under a key. -/
def Tab.find {α : Type} : Tab α → Nat → Option α
  | [], _ => none
  | (k, v) :: t, i => if k = i then some v else Tab.find t i

/-- The value of a key: the listed entry, or the default. -/
def Tab.get {α : Type} (d : α) (t : Tab α) (i : Nat) : α := (Tab.find t i).getD d

/-- The table without a key. -/
def Tab.erase {α : Type} : Tab α → Nat → Tab α
  | [], _ => []
  | (k, v) :: t, i => if k = i then Tab.erase t i else (k, v) :: Tab.erase t i

/-- The table with a key's entry put in its place. -/
def Tab.put {α : Type} : Tab α → Nat → α → Tab α
  | [], i, x => [(i, x)]
  | (k, v) :: t, i, x =>
    if k = i then (k, x) :: t else if i < k then (i, x) :: (k, v) :: t else (k, v) :: Tab.put t i x

/-- Write a value: writing the default removes the entry. -/
def Tab.set {α : Type} [DecidableEq α] (d : α) (t : Tab α) (i : Nat) (x : α) : Tab α :=
  if x = d then Tab.erase t i else Tab.put t i x

/-- Every key of the list is above `lo` and the keys rise strictly. -/
def Tab.risesFrom {α : Type} : Nat → Tab α → Bool
  | _, [] => true
  | lo, (k, _) :: t => decide (lo ≤ k) && Tab.risesFrom (k + 1) t

/-- The canonical form. -/
def Tab.wf {α : Type} [DecidableEq α] (d : α) (t : Tab α) : Bool :=
  Tab.risesFrom 0 t && t.all fun e => decide (e.2 ≠ d)

/-- The values listed. -/
def Tab.vals {α : Type} (t : Tab α) : List α := t.map Prod.snd

/-- The keys listed. -/
def Tab.keys {α : Type} (t : Tab α) : List Nat := t.map Prod.fst

/-- Byte memory with its canonical form (unlisted bytes read as zero). -/
abbrev Memory := Tab Byte

/-- The canonical form of a byte memory. -/
def Memory.wf (m : Memory) : Bool := Tab.wf (0 : Byte) m

/-- One byte of memory. -/
def Memory.byte (m : Memory) (a : Nat) : Byte := Tab.get 0 m a

/-- `n` bytes from an address upward. -/
def Memory.bytes (m : Memory) (a n : Nat) : List Byte := (List.range n).map fun i => m.byte (a + i)

/-- Write one byte. -/
def Memory.setByte (m : Memory) (a : Nat) (b : Byte) : Memory := Tab.set 0 m a b

/-- Write bytes from an address upward, lowest first. -/
def Memory.write (m : Memory) (a : Nat) : List Byte → Memory
  | [] => m
  | b :: bs => Memory.write (m.setByte a b) (a + 1) bs

end Sys2Proof.Machine
end

