-- ==== Sys2Proof/Machine/State.lean ====
section
/-! DEFINITION. The state of the module as plain data: every register, buffer, counter, mode and store the spec gives it, and the
queue of the commands that wait. Registers of the control space that software reads and writes by their access codes stand in
`State.regs`, keyed by their control-space address; what a block keeps for itself stands in the block's own record. -/
namespace Sys2Proof.Machine
open Sys2Proof

/-- Why the model stops with a fault. Every rule of the spec has an effect on State instead. -/
inductive Fault where
  /-- A command names a core, die, port, position or other unit that the module does not have (R14). Raised by every command
  that names a unit. Safe: the module has no such unit to act. -/
  | noSuchUnit
  deriving DecidableEq, Repr

/-- Why the model refuses a command. -/
inductive Refusal where
  /-- The command has no meaning in this model yet. Raised by no command once every arm of `exec` has its meaning. Safe. -/
  | notModelled (mnemonic : String)
  deriving DecidableEq, Repr

/-- Time states (R36), numbered as in the time frame of R32. -/
inductive TState where
  | free | acquire | locked | holdover | lost
  deriving DecidableEq, Repr

/-- Core states (R97), numbered as in CORE.STATE. -/
inductive CoreSt where
  | reset | idle | armed | running | waiting | halted | faulted | fenced
  deriving DecidableEq, Repr

/-- Die-to-die link states (R220). -/
inductive LinkSt where
  | down | training | ready | up | fenced | offline
  deriving DecidableEq, Repr

/-- Fabric port states (R285). -/
inductive PortSt where
  | down | training | up | lost | barred | held
  deriving DecidableEq, Repr

/-- Lane states (R313). -/
inductive LaneSt where
  | down | locking | working | recal | retired
  deriving DecidableEq, Repr

/-- Cassette states (R313). -/
inductive CassSt where
  | absent | starting | running | failed | removing
  deriving DecidableEq, Repr

/-- Stages of PWR.SVC_STATUS (R434). -/
inductive Stage where
  | boot | hub | dies | running | bivouac | poweringDown
  deriving DecidableEq, Repr

/-- Connection states (R355). -/
inductive QpSt where
  | reset | ready | error
  deriving DecidableEq, Repr

/-- Where a frame of the module goes on Ethernet (R338): port, destination MAC, 802.1Q tag. -/
structure EthTo where
  port : Nat
  mac : BitVec 48
  vlan : Option (BitVec 12)
  deriving DecidableEq, Repr

/-- Where an event datagram goes (R338, R347, R355): its frame, the destination's address and its UDP port. -/
structure DatagramTo where
  eth : EthTo
  v4 : Bool
  ipHi : W64
  ipLo : W64
  udp : Nat
  deriving DecidableEq, Repr

/-- Where a RoCEv2 packet goes (R338, R349): its frame, the host's address, the UDP source port and the host's queue pair. -/
structure RoceTo where
  eth : EthTo
  v4 : Bool
  ipHi : W64
  ipLo : W64
  sport : Nat
  qpn : Nat
  deriving DecidableEq, Repr

/-- Something that left the module or was returned to a reader. -/
inductive Out where
  /-- A CONTROL frame on a lane of a position that a port uses (127: none). -/
  | control (port pos lane : Nat) (f : CtlFrame)
  /-- A lane block begins (R291): position, lane, low 16 bits of the slot. -/
  | laneBlock (pos lane slot : Nat)
  /-- A delay request on an Ethernet port (R28): the sender's port identity and its sequence number. -/
  | delayReq (port : Nat) (domain transport : Nat) (source : BitVec 80) (seq : Nat)
  | frame (port lane : Nat) (f : Frame)
  | reply (port : Nat) (m : UMsg)
  /-- A datagram to a destination: the four words of its header, and its body (R339, R346, R347). -/
  | datagram (dst : DatagramTo) (w0 w1 w2 w3 : W64) (body : List W64)
  | softRead (addr : Nat) (v : W64)
  | memResp (die req tag : Nat) (poison : Bool) (data : List Byte)
  /-- The hub refuses a request to a die's memory, with a cause of R227 (R217). -/
  | memRefuse (die req tag cause : Nat)
  /-- RoCEv2 packets of a connection (R348, R349), each with where it goes and what it carries of R348's forms. -/
  | roceWrite (conn : Nat) (dst : RoceTo) (psn : Nat) (part : RocePart) (rva : W64) (len : Nat) (data : List Byte)
  | roceReadReq (conn : Nat) (dst : RoceTo) (psn : Nat) (rva : W64) (len : Nat)
  | roceReadResp (conn : Nat) (dst : RoceTo) (psn : Nat) (part : RocePart) (data : List Byte)
  | roceAck (conn : Nat) (dst : RoceTo) (psn : Nat) (code : Nat)
  | cnp (conn : Nat) (dst : RoceTo)
  /-- An answer to a neighbour request: what it answers, and what an echo sends back. -/
  | nbrReply (dst : EthTo) (ask : NbrAsk) (data : List Byte)
  deriving DecidableEq, Repr

/-- What is fused at manufacture or by a fuse write (R2, R3, R83, R84, R354, R355, R372, R380 to R392). -/
structure Fuse where
  /-- 17-bit map of the array positions that passed test, per core; unlisted: all 17. -/
  posEnabled : Tab (BitVec 17)
  /-- 1: the core passed test; unlisted cores did. -/
  coreBad : List Nat
  /-- FEED_PATH per core × 17 + position, where it is not the nominal one of R84. -/
  feedPath : Tab Nat
  /-- LOGICAL per core × 17 + position, where it is not the nominal one: j for A0 to A15, 31 for AS and for a failed one (R83). -/
  logical : Tab Nat
  grade : BitVec 4
  stepping : BitVec 8
  serial : W64
  mac0 : BitVec 48
  mac1 : BitVec 48
  gband : Tab Nat
  badTx : Tab (BitVec 96)
  badRx : Tab (BitVec 96)
  secret : BitVec 256
  endorsement : Tab W64
  vendor0 : BitVec 256
  vendor1 : BitVec 256
  vkeyRevoked : BitVec 2
  svnMin : Nat
  claimed : Nat
  released : Nat
  /-- The anchors of the current epoch, by authority. -/
  anchor0 : BitVec 256
  anchor1 : BitVec 256
  revoked0 : BitVec 4
  revoked1 : BitVec 4
  deriving DecidableEq, Repr

/-- Power domains that are up (R21). -/
structure Dom where
  mgmt : Bool
  hub : Bool
  mem : BitVec 4
  core : BitVec 4
  deriving DecidableEq, Repr

/-- What is held of the neighbour on one port (R30, R32, R33, R36). -/
structure Nbr where
  rxAt : Option Nat
  txTicks : W64
  txFine : Nat
  rxTicks : W64
  rxFine : Nat
  seq : Nat
  rootEid : Nat
  rootGen : Nat
  rootPrio : Nat
  hops : Nat
  st : TState
  untraceable : Bool
  offset : Int
  delay : Int
  /-- An exchange has been measured on the port. -/
  measured : Bool
  rejectedUntil : Option Nat
  nextSeq : Nat
  /-- The 256-slot period in which the last frame was sent on the port (R32). -/
  sentIn : Option Nat
  /-- Sequence numbers of the frames sent on the port and when (R33). -/
  sent : List (Nat × Nat)
  deriving DecidableEq, Repr

/-- A time transmitter that an Ethernet port hears, and what it last announced (R28). -/
structure PtpTx where
  source : BitVec 80
  data : PtpData
  deriving DecidableEq, Repr

/-- The time receiver on one Ethernet port (R28). Times are in units of 2^-16 ns since ct 0. -/
structure PtpSide where
  heard : List PtpTx
  /-- A two-step Sync that waits for its Follow_Up: sequence, receipt, correction. -/
  sync : Option (Nat × Int × Int)
  /-- Sending and receipt of the last Sync. -/
  t1 : Int
  t2 : Int
  /-- The delay request without an answer: sequence and sending. -/
  req : Option (Nat × Int)
  /-- Mean path delay to the selected transmitter. -/
  delay : Option Int
  nextSeq : Nat
  deriving DecidableEq, Repr

/-- Cluster time (R27 to R44). -/
structure TimeS where
  counter : W64
  /-- Rate correction of the counter in units of 10^-9, and the part of a tick left over (R31, R33, R37). -/
  rate : Int
  frac : Int
  st : TState
  rootEid : Nat
  rootGen : Nat
  rootPrio : Nat
  hops : Nat
  untraceable : Bool
  parent : Option Nat
  primary : Bool
  /-- How often this module has become primary root, modulo 256 (R32). -/
  ownGen : Nat
  parentOffset : Int
  parentDelay : Int
  nbr : Tab Nbr
  /-- The running series of parent exchanges within 1.0 ns, at most the last 64: offset and local time, oldest first (R36). -/
  run : List (Int × Nat)
  /-- When the state was entered. -/
  since : Nat
  /-- The half-rate backward correction of R37: whether it runs, the ticks still to lose, and the phase of the half rate. -/
  slewing : Bool
  slewBack : Nat
  slewPhase : Bool
  /-- The correction of R37 after the last entry of ACQUIRE from LOST is still to be made. -/
  correct : Bool
  everLocked : Bool
  ptpState : Nat
  ptpOffset : Int
  ptpPort : Nat
  ptp : Tab PtpSide
  /-- The cluster time that the 1588 source last gave, and when. -/
  ptpTicks : W64
  ptpAt : Nat
  oscFault : Bool
  schedStopped : Bool
  relockedAt : Option Nat
  /-- Ticks by which the counter has moved on in this local tick (R37). -/
  moved : Nat
  /-- What the hub counter lacks of the cluster time that the bounds of R45 have run through: a counter that is loaded goes on from there. -/
  ctShift : Int
  deriving DecidableEq, Repr

/-- A tile block as read at issue (R141). -/
structure TileBlk where
  aAddr : Nat
  aScale : Nat
  bAddr : Nat
  bScale : Nat
  bIndex : Nat
  oAddr : Nat
  biasAddr : Nat
  aStride : Nat
  aSStride : Nat
  bStride : Nat
  bSStride : Nat
  oStride : Nat
  k : Nat
  nm1 : Nat
  mm1 : Nat
  aFmt : BitVec 6
  bFmt : BitVec 6
  width : Nat
  sparse : Nat
  bias : Bool
  deriving DecidableEq, Repr

/-- A tile operation waiting in the issue queue of its logical array (R100, R115). -/
structure TileOp where
  blk : TileBlk
  cnt : Nat
  sampled : Bool
  seq : Nat
  deriving DecidableEq, Repr

/-- A tile operation accepted by an array: its step, running sums in order 16·m + n, and NaN marks (R71, R74, R79). -/
structure TileRun where
  op : TileOp
  started : Bool
  step : Nat
  sums : List W32
  rowNaN : BitVec 16
  colNaN : BitVec 16
  /-- The output goes only to the comparator (R116). -/
  shadow : Bool
  /-- The position that runs the operation alongside (R116). -/
  mate : Option Nat
  deriving DecidableEq, Repr

/-- One physical array position (R68, R78, R83, R86 to R90). -/
structure Pos where
  /-- Accepted operations, oldest first; at most two (R79). -/
  held : List TileRun
  /-- Operations whose planes have issued and whose write-back has not ended. -/
  wb : List TileRun
  /-- Stationary registers: sign, magnitude and index of cell 16·row + column, in register 0 or 1 at 2·cell + register (R68). -/
  stat : Tab (BitVec 11)
  sel : Bool
  psign : BitVec 256
  sbit : BitVec 256
  level : Nat
  acc : Nat
  /-- Elapsed ticks at the last real plane. -/
  lastReal : Option Nat
  /-- Real planes of the step under way that have still to issue, oldest first: the ones of each, in 64ths of its bits (R79, R86, R89). -/
  wait : List Nat
  /-- A dummy plane issued in the last cycle (R90). -/
  dummy : Bool
  /-- Dummy planes have passed through the cells since the latches were last written or the last 100 ns boundary (R86). -/
  dummied : Bool
  /-- A real plane issued or work waited since the last 100 ns boundary. -/
  active : Bool
  /-- End of a warm-up (R140), in elapsed ticks. -/
  warm : Option Nat
  /-- The 16 feeder shift registers of R86, as advanced so far. -/
  lfsr : Tab (BitVec 16)
  /-- Ones in each of the last 1,024 real planes, newest first, in 64ths of the plane's bits (R86). -/
  recent : List Nat
  /-- Density of ones in dummy planes, in units of 1/16 × 1/200 (R86). -/
  density : Nat
  /-- The cluster time of the last boundary at which LEVEL was looked at (R88). -/
  levelAt : Option W64
  logical : Nat
  trim : Nat
  fenced : Bool
  /-- Probes that wait for the position (R368): since when, and whether it is a follow-up of a mismatch (R370). -/
  asks : List (Nat × Bool)
  /-- The probe that runs: whether it is a follow-up, and its planes that have still to issue (R368). -/
  run : Option (Bool × Nat)
  hold : Bool
  deriving DecidableEq, Repr

/-- A gather or scatter in its unit (R104 to R106, R144). -/
structure GsOp where
  op : BitVec 6
  idx : Vec
  act : W64
  base : Nat
  bound : Nat
  data : Vec
  dest : Nat
  row : Nat
  lines : Nat
  fmt : BitVec 6
  cnt : Nat
  deriving DecidableEq, Repr

/-- A route block as read at issue (R107). -/
structure RouteBlk where
  pc : Nat
  scoreAddr : Nat
  recordAddr : Nat
  rowsAddr : Nat
  tokens : Nat
  experts : Nat
  k : Nat
  norm : Nat
  capMode : Nat
  rowLines : Nat
  counter : Nat
  tableAddr : Nat
  scoreFmt : BitVec 6
  fillAddr : Nat
  deriving DecidableEq, Repr

/-- A routing (R145): in the router, or out of it with the copy descriptors handed over and not complete. -/
structure RouteRun where
  blk : RouteBlk
  ids : List Nat
  deriving DecidableEq, Repr

/-- A remote load or atomic that is outstanding (R134, R214, R228): destination register, target endpoint, rack address bits [44:0],
partition, job tag, home of its granule (0 to 3 that die of this module, 4 another module) and when it issued. -/
structure Remote where
  id : Nat
  pc : Nat
  d : Nat
  wide : Bool
  atomic : Bool
  eid : Nat
  addr : Nat
  part : Nat
  tag : Nat
  home : Nat
  at_ : Nat
  /-- Its fill must not be installed (R215 rule 6). -/
  noFill : Bool
  deriving DecidableEq, Repr

/-- A remote store not yet acknowledged (R134). -/
structure RStore where
  id : Nat
  pc : Nat
  eid : Nat
  addr : Nat
  part : Nat
  tag : Nat
  deriving DecidableEq, Repr

/-- A wait in progress (R113, R114). -/
inductive Wait where
  | time (t : W64)
  | counter (c : Nat) (v : W32) (deadline : Option W64) (p : Nat)
  deriving DecidableEq, Repr

/-- A FENCE, FENCE.EID, ACQ or REL that holds issue (R235, R236): it waits for the packets of the core with an entry number below
`mark` to the endpoint `eid` or to all, where `acks` says so; for copy descriptors below `copyMark` of those endpoints, likewise; and
for the loads and atomics named. -/
structure FenceRun where
  pc : Nat
  acks : Bool
  mark : Nat
  copyMark : Nat
  eid : Option Nat
  loads : List Nat
  at_ : Nat
  deriving DecidableEq, Repr

/-- A line of the instruction buffer (R96, R132). -/
structure IbufLine where
  addr : Nat
  data : BitVec 512
  deriving DecidableEq, Repr

/-- One core (R91). -/
structure Core where
  st : CoreSt
  pc : Nat
  s : Tab W64
  v : Tab Vec
  p : Tab W64
  cnt : Tab W32
  store : Memory
  ibuf : Tab IbufLine
  wait : Option Wait
  fence : Option FenceRun
  halting : Bool
  /-- A COPY that waits for room: its counter, the address and number of its descriptors, and since when (R249). -/
  copyWait : Option (Nat × Nat × Nat × Nat)
  /-- Issue queues by logical array, oldest first (R100). -/
  queue : Tab (List TileOp)
  pos : Tab Pos
  gs : List GsOp
  route : Option RouteRun
  routeQ : Option RouteBlk
  routeOut : List RouteRun
  rem : List Remote
  rstores : List RStore
  nextId : Nat
  upd : Nat
  shadowR : W32
  tileSeq : Nat
  deriving DecidableEq, Repr

/-- A stack of a die (R178, R192, R197, R363). -/
structure Stack where
  /-- 0: 3.9 µs, 1: 1.95 µs, 2: 0.975 µs. -/
  interval : Nat
  /-- Since when both sensors read 2 °C below each threshold (85 °C, 95 °C). -/
  cool85 : Option Nat
  cool95 : Option Nat
  trained : Bool
  /-- 0 none, 1 one granule every 2 ns, 2 one every 4 ns (R363). -/
  limit : Nat
  limitCool : Option Nat
  deriving DecidableEq, Repr

/-- A memory controller's state on one die (R184 to R201). -/
structure MemDie where
  waiting : List (Nat × MemReq)
  chan : Tab (List MemReq)
  lcUsed : Tab Nat
  credit : Tab Int
  /-- REG values in force at the regulators; a write applies at the next slot boundary (R188). -/
  regEff : Tab W64
  stack : Tab Stack
  /-- Local tick of the last refresh command of a bank, by 16 × channel + bank, and the tick at which the next one is due (R192). -/
  refreshed : Tab Nat
  due : Tab Nat
  /-- Local tick at which the memory domain came up. -/
  upAt : Nat
  /-- Row that a bank was last used at (R182, R190). -/
  row : Tab Nat
  /-- Local tick at which a channel last served a granule (R363). -/
  served : Tab Nat
  scrubL : Tab Nat
  /-- Local tick of the scrubber's last read of a channel (R197). -/
  scrubAt : Tab Nat
  /-- Corrections in the running second by channel, and that second's number (R196). -/
  ce : Tab Nat
  ceSecond : Nat
  /-- The slot boundary at which credit was last added (R188). -/
  creditAt : Option W64
  /-- Cached zero-map lines: (range, 512 bits, dirty), by map line number (R200). -/
  zcache : Tab (Nat × BitVec 512 × Bool)
  /-- Map lines that were uncorrectable (R200). -/
  zbad : List Nat
  /-- Ranges being flushed (R201). -/
  zflush : List Nat
  deriving DecidableEq, Repr

/-- Module memory (R178 to R202): bytes by physical place (module channel × 2^31 + channel-local address), poisoned granules by
physical granule number, and the four controllers. -/
structure MemS where
  bytes : Memory
  poison : Tab Bool
  die : Tab MemDie
  deriving DecidableEq, Repr

/-- A die-to-die link (R204 to R220). -/
structure Link where
  st : LinkSt
  attempts : Nat
  enTx : BitVec 96
  enRx : BitVec 96
  badTx : BitVec 96
  badRx : BitVec 96
  repair : List RepairEntry
  /-- Local ticks of the parity errors of the last millisecond by bundle: hub-to-die at b, die-to-hub at 96 + b (R213). -/
  parity : Tab (List Nat)
  /-- Drops waiting for their switch slot: (die-to-hub, bundle, slot). -/
  drops : List (Bool × Nat × Nat)
  afterFence : Bool
  rejoining : Bool
  since : Nat
  /-- The local tick of the last fence (R219). -/
  fencedAt : Option Nat
  deriving DecidableEq, Repr

/-- A line of a remote-data cache (R214). -/
structure RcLine where
  part : Nat
  /-- Rack address bits [44:6]. -/
  gran : Nat
  /-- 0 to 3: that die of this module; 4: another module. -/
  home : Nat
  valid : BitVec 16
  data : BitVec 512
  /-- Way of its set. -/
  way : Nat
  deriving DecidableEq, Repr

/-- A store, atomic or invalidation that reached lines of a cache at a local tick (R215 rule 6): the partition, granule and home of the
lines, each where it names one. -/
structure RcTouch where
  at_ : Nat
  part : Option Nat
  gran : Option Nat
  home : Option Nat
  deriving DecidableEq, Repr

/-- A die's remote-data cache (R214): its lines, the pseudo-LRU bits of each set by set number, and what reached lines in this tick. -/
structure RcDie where
  lines : List RcLine
  lru : Tab (BitVec 16)
  touch : List RcTouch
  deriving DecidableEq, Repr

/-- What a request packet belongs to: nothing any longer, a core's load or atomic, its store, or a chunk of a die's copy descriptor. -/
inductive Owner where
  | none
  | access (core id : Nat)
  | store (core id : Nat)
  | copy (die id chunk : Nat)
  deriving DecidableEq, Repr

/-- A request packet in its pair (R229 to R232): its entry number, sequence once it has one, the core and die it comes from, and
`lost` after a RESYNC refusal. -/
structure Unacked where
  no : Nat
  seq : Nat
  q : Packet
  part : Nat
  core : Nat
  die : Nat
  own : Owner
  firstAt : Nat
  lastAt : Nat
  tries : Nat
  lost : Bool
  /-- It belongs to a routing's remote copies, which no fence covers (R148). -/
  routed : Bool := false
  deriving DecidableEq, Repr

/-- The source side of a pair (R229 to R232): the next sequence, packets sent and not acknowledged, and the owners of loads, atomics
and pulls without an answer, with the time of their first sending. -/
structure SrcPair where
  next : Nat
  needSync : Bool
  unacked : List Unacked
  answers : Tab (Owner × Nat × Nat)
  ignoreResync : Bool
  deriving DecidableEq, Repr

/-- The destination side of a pair (R229 to R233, R257): the next sequence expected; everything below it has been performed. -/
structure DstPair where
  expected : Option Nat
  reorder : Tab Packet
  /-- When a packet was performed with no acknowledgement sent since. -/
  ackDue : Option Nat
  /-- The expected load or atomic waits for a reply record (R233). -/
  waitRec : Bool
  /-- Running descriptors of the source that had a packet refused or poisoned, by `signalKey` (R246). -/
  bad : List Nat
  /-- Sequence and timestamp of the SYNC packet that set `expected` (R229). -/
  sync : Option (Nat × Nat)
  deriving DecidableEq, Repr

/-- A reply record (R233). -/
structure ReplyRec where
  eid : Nat
  seq : Nat
  reply : Packet
  tag : Nat
  at_ : Nat
  deriving DecidableEq, Repr

/-- The endpoint of the hub (R223 to R239). -/
structure Endpoint where
  src : Tab SrcPair
  dst : Tab DstPair
  records : List ReplyRec
  /-- Tags torn down and not listed again (R239). -/
  torn : List Nat
  /-- Entry numbers given. -/
  count : Nat
  /-- Teardowns accepted: partition ↦ (tag, T, accepted late). -/
  teardown : Tab (Nat × W64)
  /-- Requests on their way from a die to its own memory, oldest first, by die (R183). -/
  direct : Tab (List Packet)
  deriving DecidableEq, Repr

/-- A copy descriptor in a die's engine (R240 to R249): the issuing core's counter or `none` for a router's copy; the next chunk to
read and the next to deliver; chunks fetched and not yet delivered (`none`: refused); packets without their acknowledgement. -/
structure Desc where
  id : Nat
  core : Nat
  cnt : Option Nat
  words : List W64
  part : Nat
  tag : Nat
  next : Nat
  given : Nat
  got : Tab (Option (List Byte × Nat))
  outstanding : Nat
  status : Nat
  peer : Nat
  failAddr : Nat
  bytes : Nat
  /-- Local tick of its entry. -/
  at_ : Nat
  /-- A packet of it was refused or carried poison, so that it signals no more (R246). -/
  spoiled : Bool := false
  deriving DecidableEq, Repr

/-- A die's copy engine (R249). -/
structure CopyEng where
  descs : List Desc
  nextId : Nat
  deriving DecidableEq, Repr

/-- A DATA frame held for its FACK (R262). -/
structure Belay where
  fseq : Nat
  q : Packet
  flits : Nat
  deriving DecidableEq, Repr

/-- A scheduled transit frame in an output's stage (R265): the first slot of its stream that it may leave in, the last slot that begins
within 128 ns of its arrival, and the port by which it came. -/
structure Staged where
  q : Packet
  slot : Nat
  last : Nat
  from_ : Nat
  deriving DecidableEq, Repr

/-- Counts of the running telemetry map for one port (R284). -/
structure TelPort where
  sched : Nat
  dyn : Nat
  /-- Flits of capacity up to a slot, and that slot. -/
  cap : Nat
  capSlot : Nat
  fwd : Nat
  trav : Nat
  demoted : Nat
  drops : Nat
  belayPeak : Nat
  lanesMin : Nat
  retx : Nat
  busy : Nat
  /-- The slot last counted in `busy`. -/
  busySlot : Option Nat
  deriving DecidableEq, Repr

/-- A fabric port (R253, R259 to R285). -/
structure Port where
  st : PortSt
  peerEid : Nat
  /-- Working lanes of the transmit and receive direction. -/
  txLanes : BitVec 8
  rxLanes : BitVec 8
  txSeq : Nat
  rxSeq : Nat
  held : Tab Packet
  gapAt : Option Nat
  belay : List Belay
  /-- Elapsed ticks of the last good frame, by lane. -/
  lastGood : Tab Nat
  lastSent : Tab Nat
  /-- When each lane had uncorrectable codewords, within the last 1 ms (R293). -/
  fecBad : Tab (List Nat)
  /-- When each lane is free to send, in 1/25 of a tick (R259). -/
  laneFree : Tab Nat
  lostAt : Option Nat
  upAt : Option Nat
  detour : Bool
  stage : List Staged
  /-- Flits of the slot's stream already sent, and that slot. -/
  slotSent : Nat
  slotNum : Nat
  tel : TelPort
  deriving DecidableEq, Repr

/-- A telemetry map in the ring (R284). -/
structure TelMap where
  words : List W64
  touched : Bool
  deriving DecidableEq, Repr

/-- The hub router (R253 to R285). -/
structure HubS where
  port : Tab Port
  log2P : Nat
  /-- Remaining budgets of the pitch by 3·k + dimension, in flits; `none`: no limit (R267). -/
  budget : Tab (Option Nat)
  /-- Schedule entries by 93·bank + port (R263, R266). -/
  sched : Tab (List W32)
  bank : Nat
  /-- A loaded schedule waits for a pitch boundary: its log2 P. -/
  bankWait : Option Nat
  /-- Request packets not yet sent, in order of entry (R229, R267). -/
  dynWait : List Unacked
  /-- Frames waiting at the endpoint: requester index and packet (R271). -/
  inject : List (Nat × Packet)
  /-- Request bytes in the inbound buffer (R273). -/
  inbound : List Packet
  maps : Tab TelMap
  newest : Nat
  mapSeq : Nat
  mapStart : W64
  mapPitches : Nat
  /-- The pitch boundary last acted on (R266, R267). -/
  pitchDone : Option W64
  /-- Log2 of the pitches that the running map covers (R285 TEL_CFG.EVERY). -/
  mapEvery : Nat
  deriving DecidableEq, Repr

/-- A lane direction at a physical position (R294 to R299, R313): its ring. -/
structure Lane where
  st : LaneSt
  fails : Nat
  tone : Nat
  heater : Int
  offset : Int
  calAt : Nat
  calTemp : Int
  /-- Since when the loop error has stayed within ±2 GHz (R295). -/
  okSince : Option Nat
  /-- The ring counts as locked, and its tone check has passed, and when (R295, R296). -/
  locked : Bool
  toned : Bool
  tonedAt : Option Nat
  /-- When the ring counted as locked (R295). -/
  lockedAt : Option Nat := none
  /-- The lane is out for a recalibration of this end (true) or of the peer (R297). -/
  outRecal : Option Bool
  /-- The lane is out for a feed switch (R304). -/
  forSwitch : Bool := false
  deriving DecidableEq, Repr

/-- A lane change waiting for its switch slot (R298). -/
structure LaneChange where
  port : Nat
  /-- The lane's direction as seen from here: false transmit, true receive. -/
  dir : Bool
  lane : Nat
  add : Bool
  cause : Nat
  slot : Nat
  ours : Bool
  acked : Bool
  retryAt : Option Nat
  /-- Refused because the peer's change of the direction goes first; retried after that completes. -/
  refused : Bool
  deriving DecidableEq, Repr

/-- A laser cassette (R301 to R303, R313, R426, R427). -/
structure Cass where
  present : Bool
  st : CassSt
  failed : BitVec 8
  spare0 : Option Nat
  spare1 : Option Nat
  /-- Wavelengths to which the spares are being tuned (R302). -/
  tune0 : Option Nat := none
  tune1 : Option Nat := none
  spareBad : BitVec 2
  /-- Elapsed ticks of source failures in the last millisecond. -/
  failTimes : List Nat
  safe : Bool
  deriving DecidableEq, Repr

/-- Bring-up of a port (R306, R307, R309 to R312): the IDENT that passed its checks, and when the exchange began. -/
structure Bring where
  releasedAt : Option Nat
  fails : Nat
  retryAt : Option Nat
  ident : Option Words4
  identAt : Option Nat
  /-- When an IDENT came last (R306). -/
  heardAt : Option Nat := none
  /-- The switch slot that follows the agreement of both directions. -/
  upSlot : Option Nat
  cause : Nat
  barSentAt : Option Nat
  deriving DecidableEq, Repr

/-- Optical engines and cassettes (R286 to R313). -/
structure OptS where
  /-- By (position × 8 + lane) × 2 + direction, 0 transmit and 1 receive. -/
  lane : Tab Lane
  temp : Tab Int
  feedSec : Tab (BitVec 8)
  feedDark : Tab (BitVec 8)
  cass : Tab Cass
  bring : Tab Bring
  /-- IDENT last received, by physical position. -/
  posIdent : Tab Words4
  /-- When the IDENT exchange of a position that serves no port began (R311). -/
  spareAt : Tab Nat
  /-- Local tick at which the hub domain came up. -/
  upAt : Nat
  /-- Position serving a port, and adopted mark (OPT.PMAPn); unlisted: the default of R287. -/
  pmap : Tab (Nat × Bool)
  /-- Barred positions that serve no port: cause and when a BAR last went out (R310, R312). -/
  posBar : Tab (Nat × Option Nat)
  change : List LaneChange
  /-- When every ring was last made due for recalibration (R313). -/
  recalAt : Option Nat
  /-- IDENT and lane messages sent, modulo 256 (R305). -/
  seq : Nat
  deriving DecidableEq, Repr

/-- One configuration item: record type and entry words (R320). -/
abbrev Item := Nat × List W64

/-- A section being assembled (R327). -/
structure Asm where
  image : Nat
  sec : Nat
  words : Nat
  /-- The words received. -/
  data : Tab W64
  lastAt : Nat
  /-- The section is kept; else it was rejected for its size, and only which of its bytes have come matters (R327, R328). -/
  kept : Bool
  deriving DecidableEq, Repr

/-- A checked section (R314, R322, R331). -/
structure Sect where
  type : Nat
  partial_ : Bool
  gen : Nat
  baseGen : Nat
  actCt : W64
  /-- The slot boundary at which it takes effect (R330, R333). -/
  due : W64
  words : Nat
  image : Nat
  sec : Nat
  scopeEid : Nat
  scopeMask : Nat
  recs : List (Nat × Bool × List (List W64))
  sigs : List (List W64)
  msg : List Byte
  now : Bool
  missed : Bool
  deriving DecidableEq, Repr

/-- The topo image: assembly, pending and active configuration, the non-volatile store (R314 to R336). -/
structure TopoS where
  ownEid : Nat
  asm : List Asm
  /-- Image, number and words of the sections whose last byte has arrived, or that were rejected for their size (words 0): what comes
  again is a duplicate (R327), and the words count toward the limit of one image (R317). -/
  done : List (Nat × Nat × Nat)
  pend : Tab Sect
  /-- Active generation by type; 0 none. -/
  gen : Tab Nat
  /-- Items in force by type. -/
  items : Tab (List Item)
  /-- Signed bytes and signature bodies of the sections that took effect, by type (kept for the image store's verification and
  measurement, R329, R391, R394). -/
  signed : Tab (List (List Byte × List (List W64)))
  storeGen : Tab Nat
  storeItems : Tab (List Item)
  storeSigned : Tab (List (List Byte × List (List W64)))
  storePend : Tab Sect
  storeDirty : Bool
  deriving DecidableEq, Repr

/-- A kept reply (R344). -/
structure KeptReply where
  src : BitVec 128
  sport : BitVec 16
  session : Nat
  reqId : Nat
  reply : UMsg
  at_ : Nat
  deriving DecidableEq, Repr

/-- An event held for acknowledgement (R347). -/
structure Ev where
  seq : Nat
  type : Nat
  body : List W64
  /-- The destinations it has gone to, and when it last went. -/
  sent : BitVec 2
  sentAt : Option Nat
  deriving DecidableEq, Repr

/-- What a requester has sent on a connection and has no answer to (R243, R350): a packet of an RDMA WRITE, or an RDMA READ Request as
far as its responses have not come; the descriptor, its core, store address, host address and bytes. -/
structure RoceOut where
  psn : Nat
  die : Nat
  id : Nat
  core : Nat
  read : Bool
  addr : Nat
  rva : Nat
  len : Nat
  /-- Where a write packet stands in its message; of a read, whether its first response has come (R348). -/
  part : RocePart
  deriving DecidableEq, Repr

/-- A RoCEv2 connection (R349 to R351, R355): QPDATA0 to QPDATA6 as committed, state and error cause, requester and responder
sequence numbers, what is outstanding, rate in Gbit/s. -/
structure Qp where
  data : List W64
  st : QpSt
  err : Nat
  sq : Nat
  rq : Nat
  outstanding : List RoceOut
  sentAt : Option Nat
  retries : Nat
  /-- Sending rate in bits per second. -/
  rate : Nat
  rateAt : Nat
  cnpAt : Option Nat
  /-- Address and bytes still to come of the RDMA WRITE message that is being received (R348). -/
  writing : Option (Nat × Nat)
  /-- Sequence numbers of reads whose data a parity error hits on a die-to-die link (R210). -/
  hit : List Nat
  deriving DecidableEq, Repr

/-- Ethernet ports, event ring and connections (R337 to R355). -/
structure EthS where
  linkUp : BitVec 2
  kept0 : List KeptReply
  kept1 : List KeptReply
  events : List Ev
  nextSeq : Nat
  /-- TELEMETRY bodies waiting to be sent once, each with its destination. -/
  telOut : List (Nat × List W64)
  lastSent0 : Option Nat
  lastSent1 : Option Nat
  qp : Tab Qp
  /-- By port: a local tick and the requests taken in it, which wait on the port in that tick (R343). -/
  rx : Tab (Nat × Nat)
  /-- Ports whose link has been up since FECp was last read: the counters may hold something (R355, log 102). -/
  fecUp : BitVec 2
  deriving DecidableEq, Repr

/-- A sensor's last reading (R357, R378). -/
structure Sensor where
  valid : Bool
  temp : Int
  peak : Int
  hasPeak : Bool
  deriving DecidableEq, Repr

/-- A die's clock, voltage and ceilings (R358 to R362, R372). -/
structure OpPoint where
  step : Nat
  ceilTherm : Nat
  /-- Ceilings that the formula has allowed without a break, ascending, each with its start: it allows every ceiling up to that one
  since then (R362). -/
  allow : List (Nat × Nat)
  /-- When the ceiling last rose. -/
  roseAt : Option Nat
  gband : Nat
  gbandEff : Nat
  steppedAt : Option Nat
  /-- A trip sensor of the die has read invalid since the last restart (R357). -/
  trip : Bool
  /-- Lowest step of the running straggler period (R376). -/
  minStep : Nat
  deriving DecidableEq, Repr

/-- What a record of a wrong result says of its die (R373): temperature, core rail voltage, operating point, load, and the hub counter. -/
structure Cond where
  temp : Int
  volt : Nat
  step : Nat
  load : Nat
  ct : W64
  deriving DecidableEq, Repr

/-- A shadow mismatch whose follow-up probes are not all done (R370): core, the two positions, format, sequence, the positions
still to be probed, those of them whose running probe began before it, whether one has failed, and the conditions at the mismatch. -/
structure Mismatch where
  core : Nat
  named : Nat
  shadow : Nat
  fmt : Nat
  seq : Nat
  left : List Nat
  late : List Nat
  failed : Bool
  cond : Cond
  deriving DecidableEq, Repr

/-- Measurement and self-checking (R356 to R379). -/
structure SelfS where
  sensor : Tab Sensor
  mvolt : Nat
  watts : Nat
  peakW : Nat
  /-- Power samples of the last millisecond, newest first. -/
  samples : List Nat
  powerCeil : Nat
  overSince : Option Nat
  falling : Bool
  underSince : Option Nat
  ceilFellAt : Option Nat
  ceilRoseAt : Option Nat
  op : Tab OpPoint
  tripped : Bool
  trips : List Nat
  coolSince : Option Nat
  hotBivouac : Bool
  nvmOk : Bool
  nvmSince : Option Nat
  fuseOk : Bool
  fuseSince : Option Nat
  faults : Tab (Nat × Nat)
  bounds : Tab Nat
  /-- Late events of the period by partition × 4096 + core. -/
  late : Tab Nat
  /-- Ticks of the period in which exactly the dies of a set ran below F_MAX, by that set as bits, counted up to `slowAt` (R376). -/
  slow : Tab Nat
  slowAt : Nat
  /-- Cluster time at which the last period of STRAG_PERIOD ended (R375). -/
  periodAt : Option W64
  open_ : List Mismatch
  deriving DecidableEq, Repr

/-- An open session (R395 to R399). -/
structure Session where
  num : Nat
  auth : Nat
  slot : Nat
  key : BitVec 256
  high : Option Nat
  seen : List Nat
  usedAt : Nat
  claim : Bool
  deriving DecidableEq, Repr

/-- Fuse writes that wait for their window (R388). -/
inductive FuseJob where
  | claim (a0 a1 : BitVec 256)
  | revoke (auth slot : Nat)
  | rollback (svn : Nat)
  | release
  | revokeVendor (i : Nat)
  deriving DecidableEq, Repr

/-- Identity, keys and sessions (R380 to R404). -/
structure SecS where
  sessions : List Session
  lastNum : Nat
  keys : Tab (List W64)
  /-- Slots revoked or ownership changed at activation and not yet fused. -/
  jobs : List FuseJob
  owned : Bool
  epoch : Nat
  revoked0 : BitVec 4
  revoked1 : BitVec 4
  svnMin : Nat
  meas0 : BitVec 256
  meas1 : BitVec 256
  meas2 : BitVec 256
  meas3 : BitVec 256
  recovery : Bool
  fwSvn : Nat
  vkey : Nat
  draws : Nat
  deriving DecidableEq, Repr

/-- A cairn record waiting for the die (R409, R410): number and words. -/
structure CRec where
  num : Nat
  w0 : W64
  w1 : W64
  w2 : W64
  p2 : W32
  /-- The local tick of its acceptance: the cycle of R409. -/
  at_ : Nat := 0
  deriving DecidableEq, Repr

/-- The cairn log die and its controller (R405 to R416). -/
structure CairnS where
  /-- Slots by number (first area 0–65,535, ring 65,536–196,607), 256 bits each. -/
  slot : Tab (BitVec 256)
  head0 : W64
  head1 : W64
  buf : List CRec
  next : Nat
  written : Nat
  dropped : Nat
  closed : Bool
  /-- Ring clears, the one in progress first: limit, W of that instant, next number. -/
  clearing : List (W64 × Nat × Nat)
  deriving DecidableEq, Repr

/-- Stages, bivouac, firmware banks and input (R418 to R439). -/
structure SvcS where
  stage : Stage
  /-- Commanded bivouac in force. -/
  commanded : Bool
  /-- The memory domains were removed with the bivouac. -/
  memOff : Bool
  /-- A commanded bivouac waits for a slot boundary: whether memory goes too, and the boundary (R423). -/
  bivAt : Option (Bool × W64)
  dieFail : BitVec 4
  selfDone : BitVec 4
  selfMs : Nat
  bank0 : Memory
  bank1 : Memory
  runBank : Nat
  bootBank : Nat
  fwWord : BitVec 48
  protoMajor : Nat
  fmtMajor : Nat
  staged : Nat
  stagedSvn : Nat
  stagedMajor : Nat
  switchPending : Bool
  switching : Option Nat
  erasing : Bool
  mated : Bool
  presOpen : Bool
  ramping : Bool
  powerGood : Bool
  lossAt : Option Nat
  powerDown : Bool
  restored : Bool
  /-- Since when the hub domain starts up; `none` once its ports have been released (R419). -/
  hubStartAt : Option Nat
  deriving DecidableEq, Repr

/-- A call accepted by an update engine (R152 to R154, R171): kind 0 UPD, 1 UPDROW, 2 STEPEND; the call block's words, and the
record, step size and scale word as fixed at acceptance. -/
structure UCall where
  id : Nat
  kind : Nat
  core : Nat
  cnt : Nat
  group : Nat
  words : List W64
  record : List W64
  lr : W32
  scale : W32
  /-- The rows that an UPDROW lists, as the list stood at the call's issue (R172). -/
  rows : List Nat
  /-- The scale word was uncorrectable (R175). -/
  bad : Bool
  running : Bool
  /-- The local tick of its acceptance: the cycle of R153. -/
  at_ : Nat
  deriving DecidableEq, Repr

/-- A refresh of a KRON group (R167 to R169): its record and the (core, counter) of each call that waits for its end. -/
structure URefresh where
  group : Nat
  record : List W64
  part : Nat
  waiters : List (Nat × Nat)
  running : Bool
  /-- The block that the root unit comes to next, in ascending index. -/
  block : Nat
  /-- That block's factors as the root unit has read them, left and right, and whether a read of them failed. -/
  held : Option (List (List W32) × List (List W32) × Bool)
  /-- The local tick of its acceptance: the cycle of R153. -/
  at_ : Nat
  deriving DecidableEq, Repr

/-- One die's update engine (R151 to R177): group records by group, GSTAT words, schedules by number as 16 knots, calls in
acceptance order, refreshes in order. -/
structure UpdDie where
  group : Tab (List W64)
  gstat : Tab W64
  sched : Tab (List W64)
  /-- STATE_OFF of the last UPD call accepted for a group: where ROOTREQ and STEPEND find its block records (log 22). -/
  stateOff : Tab Nat
  calls : List UCall
  refresh : List URefresh
  nextId : Nat
  /-- By group: a local tick and the record from before the commits of it, which calls accepted in it use (R156). -/
  prior : Tab (Nat × List W64)
  /-- Blocks whose refresh ended, as group, block and local tick: the swap of that tick leaves them READY (R171). -/
  fresh : List (Nat × Nat × Nat)
  deriving DecidableEq, Repr

/-- What has reached the control space in this local tick, where the order of a coincidence matters (R11, R12, R335). -/
structure Edge where
  /-- Registers that events reached: the value from before them, and what the events alone make of the reset value. -/
  hw : Tab (W64 × W64)
  /-- Software writes by address, in the order of arbitration: requester index of R12 and value. -/
  sw : Tab (List (Nat × W64))
  /-- What an activating section set: the addresses of RW fields, a knot by `knotKey`. -/
  image : List Nat
  /-- Peaks by sensor, PEAK_W as sensor 482: the peak from before this tick's samples, and that of the samples. -/
  peaks : Tab (Option Int × Int)
  deriving DecidableEq, Repr

/-- Nothing has reached the control space in this tick. -/
def Edge.none : Edge := { hw := [], sw := [], image := [], peaks := [] }

/-- The whole module and the queue of commands. -/
structure State where
  /-- Commands that wait, first in, first out. -/
  pending : List Instr
  /-- Elapsed local ticks of 0.5 ns (log 2). -/
  clk : Nat
  /-- The counter of free values (log 3). -/
  free : Nat
  /-- What left the module, newest first. -/
  out : List Out
  /-- Control-space registers by address; unlisted: the reset value. -/
  regs : Tab W64
  /-- Parts of 1,024 not yet shown in counter fields kept in such units, by 4 × address + field. -/
  parts : Tab Nat
  /-- What has reached the control space in this local tick (R11). -/
  edge : Edge
  fuse : Fuse
  dom : Dom
  time : TimeS
  core : Tab Core
  mem : MemS
  upd : Tab UpdDie
  link : Tab Link
  rc : Tab RcDie
  ep : Endpoint
  copy : Tab CopyEng
  hub : HubS
  opt : OptS
  topo : TopoS
  eth : EthS
  self : SelfS
  sec : SecS
  cairn : CairnS
  svc : SvcS
  deriving DecidableEq, Repr

/-! Values of the records before anything has happened. Where the spec gives a reset value it is that value; the others are named
in notes/assumptions (logs 2 to 8). -/

/-- A module with nothing fused but its test results: grade A, every core with its 16 arrays and the spare, unowned (log 5). -/
def Fuse.init : Fuse :=
  { posEnabled := [], coreBad := [], feedPath := [], logical := [], grade := 0xA, stepping := 0, serial := 0, mac0 := 0, mac1 := 0, gband := [],
    badTx := [], badRx := [], secret := 0, endorsement := [], vendor0 := 0, vendor1 := 0, vkeyRevoked := 0, svnMin := 0,
    claimed := 0, released := 0, anchor0 := 0, anchor1 := 0, revoked0 := 0, revoked1 := 0 }

/-- Nothing is held of a neighbour. -/
def Nbr.init : Nbr :=
  { rxAt := none, txTicks := 0, txFine := 0, rxTicks := 0, rxFine := 0, seq := 0, rootEid := 0xFFFF, rootGen := 0, rootPrio := 0,
    hops := 0, st := .free, untraceable := false, offset := 0, delay := 0, measured := false, rejectedUntil := none, nextSeq := 0
    sentIn := none, sent := [] }

/-- A time receiver that has heard no transmitter. -/
def PtpSide.init : PtpSide := { heard := [], sync := none, t1 := 0, t2 := 0, req := none, delay := none, nextSeq := 0 }

/-- Time after power-up: FREE, no root (R36, R44). -/
def TimeS.init : TimeS :=
  { counter := 0, ctShift := 0, rate := 0, frac := 0, st := .free, rootEid := 0xFFFF, rootGen := 0, rootPrio := 0, hops := 0, untraceable := false
    parent := none, primary := false, ownGen := 0, parentOffset := 0, parentDelay := 0, nbr := [], run := [], since := 0,
    slewing := false, slewBack := 0, slewPhase := false, correct := false, everLocked := false, ptpState := 0, ptpOffset := 0, ptpPort := 0,
    ptp := [], ptpTicks := 0, ptpAt := 0, oscFault := false, schedStopped := false, relockedAt := none, moved := 0 }

/-- A position with its cells at zero, STAT0 active, the 16 feeder registers of R86 at 0 (DESIGN CHOICE, log 8) and LEVEL 0 (R87). -/
def Pos.init : Pos :=
  { held := [], wb := [], stat := [], sel := false, psign := 0, sbit := 0, level := 0, acc := 0, lastReal := none, wait := [],
    dummy := false, dummied := false, active := false, warm := none, lfsr := [], recent := [], density := 0, levelAt := none, logical := 31,
    trim := 0, fenced := false, asks := [], run := none, hold := false }

/-- A core held in RESET (R97), its registers and store at zero (logs 6 and 7). -/
def Core.init : Core :=
  { st := .reset, pc := 0, s := [], v := [], p := [], cnt := [], store := [], ibuf := [], wait := none, fence := none,
    halting := false, copyWait := none, queue := [], pos := [], gs := [], route := none, routeQ := none, routeOut := [],
    rem := [], rstores := [], nextId := 0, upd := 0, shadowR := 1, tileSeq := 0 }

/-- A stack that is not trained, at the longest refresh interval. -/
def Stack.init : Stack :=
  { interval := 0, cool85 := none, cool95 := none, trained := false, limit := 0, limitCool := none }

/-- A die's memory controller with nothing waiting. -/
def MemDie.init : MemDie :=
  { waiting := [], chan := [], lcUsed := [], credit := [], regEff := [], stack := [], refreshed := [], due := []
    upAt := 0, row := [], served := [], scrubL := [], scrubAt := [], ce := [],
    ceSecond := 0, creditAt := none, zcache := [], zbad := [], zflush := [] }

/-- Module memory with nothing listed (log 7). -/
def MemS.init : MemS := { bytes := [], poison := [], die := [] }

/-- An empty cache. -/
def RcDie.init : RcDie := { lines := [], lru := [], touch := [] }

/-- A die-to-die link that is DOWN. -/
def Link.init : Link :=
  { st := .down, attempts := 0, enTx := 0, enRx := 0, badTx := 0, badRx := 0, repair := [], parity := [],
    drops := [], afterFence := false, rejoining := false, since := 0, fencedAt := none }

/-- The source side of a pair that has sent nothing: its first packet carries SYNC (R230). -/
def SrcPair.init : SrcPair :=
  { next := 0, needSync := true, unacked := [], answers := [], ignoreResync := false }

/-- The destination side of a pair that holds no sequence state (R230). -/
def DstPair.init : DstPair := { expected := none, reorder := [], ackDue := none, waitRec := false, bad := [], sync := none }

/-- The endpoint with no pair in use. -/
def Endpoint.init : Endpoint := { src := [], dst := [], records := [], torn := [], count := 0, teardown := [], direct := [] }

/-- An idle copy engine. -/
def CopyEng.init : CopyEng := { descs := [], nextId := 0 }

/-- A telemetry count of nothing. -/
def TelPort.init : TelPort :=
  { sched := 0, dyn := 0, cap := 0, capSlot := 0, fwd := 0, trav := 0, demoted := 0, drops := 0, belayPeak := 0, lanesMin := 0,
    retx := 0, busy := 0, busySlot := none }

/-- A port that is DOWN, its neighbour unknown (R285). -/
def Port.init : Port :=
  { st := .down, peerEid := 0xFFFF, txLanes := 0, rxLanes := 0, txSeq := 0, rxSeq := 0, held := [], gapAt := none, belay := [],
    lastGood := [], lastSent := [], fecBad := [], laneFree := [], lostAt := none, upAt := none, detour := false, stage := []
    slotSent := 0, slotNum := 0, tel := TelPort.init }

/-- The router before any image. -/
def HubS.init : HubS :=
  { port := [], log2P := 8, budget := [], sched := [], bank := 0, bankWait := none,
    dynWait := [], inject := [], inbound := [], maps := [], newest := 0, mapSeq := 0, mapStart := 0,
    mapPitches := 0, pitchDone := none, mapEvery := 0 }

/-- A lane direction that is DOWN. -/
def Lane.init : Lane :=
  { st := .down, fails := 0, tone := 0, heater := 0, offset := 0, calAt := 0, calTemp := 0, okSince := none, locked := false
    toned := false, tonedAt := none, outRecal := none }

/-- An empty cassette bay. -/
def Cass.init : Cass :=
  { present := false, st := .absent, failed := 0, spare0 := none, spare1 := none, spareBad := 0, failTimes := [], safe := false }

/-- A port whose bring-up has not begun. -/
def Bring.init : Bring :=
  { releasedAt := none, fails := 0, retryAt := none, ident := none, identAt := none, upSlot := none, cause := 0, barSentAt := none }

/-- The optics before power-up. -/
def OptS.init : OptS :=
  { lane := [], temp := [], feedSec := [], feedDark := [], cass := [], bring := [], posIdent := [], spareAt := [], upAt := 0, pmap := [], posBar := [], change := []
    recalAt := none, seq := 0 }

/-- No image is stored, pending or active (log 5). -/
def TopoS.init : TopoS :=
  { ownEid := 0xFFFF, asm := [], done := [], pend := [], gen := [], items := [], signed := [], storeGen := [], storeItems := [], storeSigned := [],
    storePend := [], storeDirty := false }

/-- A connection in RESET with the reset values of R355. -/
def Qp.init : Qp :=
  { data := [0x006E000000000000, 0, 0, 0, 0, 0, 0], st := .reset, err := 0, sq := 0, rq := 0, outstanding := [], sentAt := none,
    retries := 0, rate := 100000000000, rateAt := 0, cnpAt := none, writing := none, hit := [] }

/-- Both Ethernet ports down, no event. -/
def EthS.init : EthS :=
  { linkUp := 0, kept0 := [], kept1 := [], events := [], nextSeq := 0, telOut := [],
    lastSent0 := none, lastSent1 := none, qp := [], rx := [], fecUp := 0 }

/-- A sensor that has not been sampled. -/
def Sensor.init : Sensor := { valid := false, temp := 0, peak := 0, hasPeak := false }

/-- A die's operating point before its core rail is up (R378). -/
def OpPoint.init : OpPoint :=
  { step := 0, ceilTherm := 48, allow := [], roseAt := none, gband := 0, gbandEff := 0, steppedAt := none,
    trip := false, minStep := 0 }

/-- Measurement before its first sample (R378). -/
def SelfS.init : SelfS :=
  { sensor := [], mvolt := 0, watts := 0, peakW := 0, samples := [], powerCeil := 48, overSince := none, falling := false,
    underSince := none, ceilFellAt := none, ceilRoseAt := none, op := [], tripped := false, trips := [],
    coolSince := none, hotBivouac := false, nvmOk := false, nvmSince := none, fuseOk := false, fuseSince := none, faults := [],
    bounds := [], late := [], slow := [], slowAt := 0, periodAt := none, open_ := [] }

/-- No session, no key, unowned (log 5). -/
def SecS.init : SecS :=
  { sessions := [], lastNum := 0, keys := [], jobs := [], owned := false, epoch := 0, revoked0 := 0, revoked1 := 0, svnMin := 0,
    meas0 := 0, meas1 := 0, meas2 := 0, meas3 := 0, recovery := false, fwSvn := 0, vkey := 0, draws := 0 }

/-- A new cairn log die (log 5). -/
def CairnS.init : CairnS :=
  { slot := [], head0 := 0, head1 := 0, buf := [], next := 0, written := 0, dropped := 0, closed := false, clearing := [] }

/-- The stage BOOT with the input feeding the management domain (log 5). -/
def SvcS.init : SvcS :=
  { stage := .boot, commanded := false, memOff := false, bivAt := none, dieFail := 0, selfDone := 0, selfMs := 0, bank0 := [], bank1 := [],
    runBank := 0, bootBank := 0, fwWord := 0, protoMajor := 2, fmtMajor := 1, staged := 0, stagedSvn := 0, stagedMajor := 0,
    switchPending := false, switching := none, erasing := false, mated := true, presOpen := false, ramping := false,
    powerGood := true, lossAt := none, powerDown := false, restored := false, hubStartAt := none }

/-- An update engine with no call and no valid group (R177). -/
def UpdDie.init : UpdDie :=
  { group := [], gstat := [], sched := [], stateOff := [], calls := [], refresh := [], nextId := 0, prior := [], fresh := [] }

/-- The module right after reset: the management domain up, every other domain down (R354 DOMAINS), the stage BOOT, the time
FREE, and nothing waiting. -/
def State.reset : State :=
  { pending := [], clk := 0, free := 0, out := [], regs := [], parts := [], edge := Edge.none, fuse := Fuse.init,
    dom := { mgmt := true, hub := false, mem := 0, core := 0 }, time := TimeS.init, core := [], mem := MemS.init, upd := [],
    link := [], rc := [], ep := Endpoint.init, copy := [], hub := HubS.init, opt := OptS.init, topo := TopoS.init,
    eth := EthS.init, self := SelfS.init, sec := SecS.init, cairn := CairnS.init, svc := SvcS.init }

end Sys2Proof.Machine
end

