-- ==== Sys2Proof/Machine/Ops.lean ====
section
/-! DEFINITION. Operations that every block uses: register fields, counters and events (R8 to R11), the outbox, cairn records
(R405, R409, R410), event datagrams (R346, R347), job faults (R237), and a core's registers, counters and exceptions (R98, R126). -/
namespace Sys2Proof.Machine

/-- The outcome of a command that names a unit: its next state where the module has the unit, else the fault. -/
def onUnit (ok : Bool) (t : State) : Host.Outcome State Fault Refusal := if ok then .next t else .fault .noSuchUnit

/-! ### Registers of the control space -/

/-- The stored value of a register. -/
def State.reg (s : State) (a : Nat) : W64 := (Tab.find s.regs a).getD (regReset a)

/-- Store a register. -/
def State.setReg (s : State) (a : Nat) (v : W64) : State := { s with regs := Tab.put s.regs a v }

/-- Field [hi:lo] of a stored register. -/
def State.field (s : State) (a hi lo : Nat) : Nat := fld (s.reg a) hi lo

/-- Store field [hi:lo] of a register. -/
def State.putField (s : State) (a hi lo v : Nat) : State := s.setReg a (setFld (s.reg a) hi lo v)

/-- An event changes a register (R11): what the events of the tick alone make of it is kept for an access of the same tick. -/
def State.event (s : State) (a : Nat) (f : W64 → W64) : State :=
  let e := (Tab.find s.edge.hw a).getD (s.reg a, regReset a)
  { s.setReg a (f (s.reg a)) with edge := { s.edge with hw := Tab.put s.edge.hw a (e.1, f e.2) } }

/-- The events of this tick set these bits of a register. -/
def State.eventBits (s : State) (a : Nat) : W64 := ((Tab.find s.edge.hw a).map Prod.snd).getD 0

/-- A software write of this tick, by its requester index (R12), put after those that arbitration places no later (R18). -/
def State.logWrite (s : State) (a w : Nat) (v : W64) : State :=
  let l := Tab.get [] s.edge.sw a
  let late := fun (e : Nat × W64) => decide (rotIndex w (s.time.counter.toNat / 128) 3 < rotIndex e.1 (s.time.counter.toNat / 128) 3)
  { s with edge := { s.edge with sw := Tab.put s.edge.sw a (l.filter (fun e => !late e) ++ (w, v) :: l.filter late) } }

/-- Software writes of this tick to a register (R12). -/
def State.writesTo (s : State) (a : Nat) : List (Nat × W64) := Tab.get [] s.edge.sw a

/-- Software writes of this tick to a register that arbitration places after one of this writer (R12, R18). -/
def State.laterWrites (s : State) (a w : Nat) : List (Nat × W64) :=
  (s.writesTo a).filter fun e => decide (rotIndex w (s.time.counter.toNat / 128) 3 < rotIndex e.1 (s.time.counter.toNat / 128) 3)

/-- An activating section sets something that software may write too: a write of this tick leaves it (R11, R335). -/
def State.bySection (s : State) (key : Nat) : State := { s with edge := { s.edge with image := key :: s.edge.image } }

/-- The key of schedule k of a die's update engine among what a section sets. -/
def knotKey (d k : Nat) : Nat := 0x4000000 + d * 16 + k

/-- Set the bits of a mask in a register. -/
def State.orReg (s : State) (a : Nat) (m : W64) : State := s.event a fun w => w ||| m

/-- Set one bit of a register: an event. -/
def State.setBit (s : State) (a i : Nat) : State := s.orReg a (maskOf i i)

/-- The n-th random value that the module draws next (log 13). -/
def State.draw (s : State) (n : Nat) : BitVec 256 := Config.drawn (s.sec.draws + n)
/-- n random values have been drawn. -/
def State.drew (s : State) (n : Nat) : State := { s with sec := { s.sec with draws := s.sec.draws + n } }

/-- Add to a counter field, which saturates at its maximum. -/
def State.bump (s : State) (a hi lo k : Nat) : State :=
  s.event a fun w => setFld w hi lo (satAdd (2 ^ (hi + 1 - lo) - 1) (fld w hi lo) k)

/-- Add to a counter field that counts in units of 1,024, keeping the part of a unit left over. -/
def State.bumpKi (s : State) (a hi lo k : Nat) : State :=
  let slot := a * 64 + lo
  let v := Tab.get 0 s.parts slot + k
  { s.bump a hi lo (v / 1024) with parts := Tab.put s.parts slot (v % 1024) }

/-- Put something on the outbox. -/
def State.emit (s : State) (o : Out) : State := { s with out := o :: s.out }

/-- Use a free value: the counter that picks the next one advances (log 3). -/
def State.useFree (s : State) : State := { s with free := s.free + 1 }

/-- The next free value (log 3). -/
def State.freeW (s : State) : W64 := Config.freeValue s.free

/-! ### Die-to-die links -/

/-- A die's link. -/
def State.linkAt (s : State) (d : Nat) : Link := Tab.get Link.init s.link d
/-- Store a die's link. -/
def State.setLink (s : State) (d : Nat) (x : Link) : State := { s with link := Tab.put s.link d x }

/-- The link of a die is UP: the hub reaches its memory and its cores. -/
def State.linkUp (s : State) (d : Nat) : Bool := decide ((s.linkAt d).st = .up)

/-! ### Cluster time -/

/-- The hub counter, and the counter of every die (R19, log 4). -/
def State.now (s : State) : W64 := s.time.counter

/-- Slot number of the hub counter (R7). -/
def State.slot (s : State) : Nat := s.time.counter.toNat / 128

/-- The multiple of n ticks at which the counter stands, or which it has passed in this local tick: a rate correction may take it two
ticks on, a step many more (R37). -/
def State.boundaryOf (s : State) (n : Nat) : Option W64 :=
  let r := s.time.counter.toNat % n
  if r < max 1 s.time.moved then some (s.time.counter - BitVec.ofNat 64 r) else none

/-- Time states as R32 encodes them. -/
def TState.code : TState → Nat
  | .free => 0
  | .acquire => 1
  | .locked => 2
  | .holdover => 3
  | .lost => 4

/-- Elapsed ticks since an instant of `clk`. -/
def State.sinceTick (s : State) (t : Nat) : Nat := s.clk - t

/-! ### Cairn records and event datagrams -/

/-- What a block hands to the cairn controller: severity, class, index, code and parameters (R405, R417). -/
structure Note where
  sev : Nat
  index : Nat
  code : Nat
  p0 : Nat := 0
  p1 : Nat := 0
  p2 : Nat := 0
  late : Bool := false
  deriving DecidableEq, Repr

/-- SRC_CLASS of a code (R417). -/
def Note.cls (n : Note) : Nat := n.code / 0x1000

/-- The record as accepted (R405). -/
def State.record (s : State) (n : Note) (num : Nat) : CRec :=
  { num := num
    w0 := BitVec.ofNat 64 (num % 2 ^ 16 * 2 ^ 48 + n.sev % 16 * 2 ^ 44 + s.time.st.code * 2 ^ 41 + b2n n.late * 2 ^ 40
      + b2n (!s.self.nvmOk) * 2 ^ 39 + n.cls % 16 * 2 ^ 28 + n.index % 2 ^ 12 * 2 ^ 16 + n.code % 2 ^ 16)
    w1 := s.now
    w2 := BitVec.ofNat 64 (n.p1 % 2 ^ 32 * 2 ^ 32 + n.p0 % 2 ^ 32)
    p2 := BitVec.ofNat 32 n.p2
    at_ := s.clk }

/-- CRC of a record: over its bytes 0 to 27 (R405). -/
def CRec.crc (r : CRec) : Nat := crc16 (bytesOf [r.w0, r.w1, r.w2] ++ toBytes 4 r.p2.toNat)

/-- Word 3 of a record that is complete. -/
def CRec.w3 (r : CRec) : W64 := BitVec.ofNat 64 (0xC41E * 2 ^ 48 + r.crc * 2 ^ 32 + r.p2.toNat)

/-- The four words of a complete record. -/
def CRec.words (r : CRec) : List W64 := [r.w0, r.w1, r.w2, r.w3]

/-- Put an accepted record at the end of the buffer. -/
def State.acceptRec (s : State) (n : Note) : State :=
  { s with cairn := { s.cairn with buf := s.cairn.buf ++ [s.record n s.cairn.next], next := s.cairn.next + 1 } }

/-- A record under another number. -/
def CRec.numbered (r : CRec) (num : Nat) : CRec := { r with num := num, w0 := setFld r.w0 63 48 num }

/-- A record of the buffer that yields to one accepted now (R18, R409): of the same cycle, later in the order of SRC_CLASS × 4,096 +
SRC_INDEX, no OVERFLOW record, and carried by no datagram that has been sent. -/
def State.recYields (s : State) (r x : CRec) : Bool :=
  x.at_ == s.clk && fld x.w0 15 0 != 4 && decide (rotIndex (fld r.w0 31 16) s.slot 65536 < rotIndex (fld x.w0 31 16) s.slot 65536)
    && s.eth.events.all fun (e : Ev) => e.body != x.words || e.sent == 0

/-- The record that a block's note becomes, under the number of its place in the cycle's order (R409). -/
def State.seated (s : State) (n : Note) : CRec :=
  let r := s.record n s.cairn.next
  r.numbered (s.cairn.next - yielding (s.recYields r) s.cairn.buf)

/-- A record is accepted in its place among the records of its cycle (R409): those that yield to it move up by one number, and the
datagrams that carry them with them. -/
def State.enterRec (s : State) (n : Note) : State :=
  let r := s.seated n
  if r.num = s.cairn.next then s.acceptRec n
  else
    let k := s.cairn.buf.length - yielding (s.recYields r) s.cairn.buf
    let late := s.cairn.buf.drop k
    let up := fun (x : CRec) => x.numbered (x.num + 1)
    let body := fun (b : List W64) => match late.find? fun (x : CRec) => x.words == b with
      | some x => (up x).words
      | none => b
    { s with
      cairn := { s.cairn with buf := s.cairn.buf.take k ++ r :: late.map up, next := s.cairn.next + 1 }
      eth := { s.eth with events := s.eth.events.map fun (e : Ev) => { e with body := body e.body } } }

/-- At the first acceptance after room frees, the OVERFLOW record comes first (R410). -/
def State.acceptOverflow (s : State) : State :=
  if s.cairn.dropped = 0 then s
  else
    let t := s.acceptRec { sev := 3, index := 0, code := 0x0004, p0 := s.cairn.dropped }
    { t.setBit A.cairnEvents 1 with cairn := { t.cairn with dropped := 0 } }

/-- A block hands a record to the controller (R409, R410). The answer is the record as accepted, where it was. -/
def State.cairnAccept (s : State) (n : Note) : State × Option CRec :=
  if s.cairn.closed then (s, none)
  else if 4096 ≤ s.cairn.buf.length then
    ({ s.bump A.cairnCounts 47 32 1 with cairn := { s.cairn with dropped := s.cairn.dropped + 1 } }, none)
  else
    let t := s.acceptOverflow
    if 4096 ≤ t.cairn.buf.length then
      ({ t.bump A.cairnCounts 47 32 1 with cairn := { t.cairn with dropped := t.cairn.dropped + 1 } }, none)
    else (t.enterRec n, some (t.seated n))

/-- Put an event in the ring; the oldest goes when 4,096 are held (R347). -/
def State.pushEvent (s : State) (type : Nat) (body : List W64) : State :=
  let e : Ev := { seq := s.eth.nextSeq, type := type, body := body, sent := 0, sentAt := none }
  let full := decide (4096 ≤ s.eth.events.length)
  let kept := if full then s.eth.events.tail else s.eth.events
  let s := if full then s.bump A.evStat 15 0 1 else s
  { s with eth := { s.eth with events := kept ++ [e], nextSeq := (s.eth.nextSeq + 1) % 2 ^ 32 } }

/-- Write a cairn record only. -/
def State.note (s : State) (n : Note) : State := (s.cairnAccept n).1

/-- Write a cairn record and send it as an EVENT datagram, which carries it as accepted (R346, R409, log 17). -/
def State.report (s : State) (n : Note) : State :=
  match s.cairnAccept n with
  | (t, some r) => t.pushEvent 0x40 r.words
  | (t, none) => t

/-- A job fault (R237): bit k, a cairn record, and a JOB_FAULT datagram unless the bit was already set. A tag of 0 belongs to no
partition and raises none. -/
def State.jobFault (s : State) (index cause part tag peer addr p2 : Nat) : State :=
  if tag = 0 then s
  else
    let seen := bit (s.reg A.epJobfault) part
    let s := s.setBit A.epJobfault part
    let s := s.note { sev := 3, index := index, code := 0x3100 + cause, p0 := part * 2 ^ 12 + tag, p1 := peer, p2 := p2 }
    if seen then s
    else s.pushEvent 0x41
      [BitVec.ofNat 64 (s.topo.ownEid * 2 ^ 48 + tag * 2 ^ 36 + part * 2 ^ 32 + (0x3100 + cause) * 2 ^ 16), s.now,
       BitVec.ofNat 64 (peer * 2 ^ 48 + addr % 2 ^ 45), 0]

/-! ### Fabric ports -/

/-- Number of fabric ports (R14). -/
abbrev numPorts : Nat := 93
/-- A port. -/
def State.portAt (s : State) (p : Nat) : Port := Tab.get Port.init s.hub.port p
/-- Store a port. -/
def State.setPort (s : State) (p : Nat) (x : Port) : State := { s with hub := { s.hub with port := Tab.put s.hub.port p x } }
/-- The link of the port is trained. -/
def State.portUp (s : State) (p : Nat) : Bool := decide ((s.portAt p).st = .up)

/-! ### Dies, cores and positions -/

/-- Number of cores (R14). -/
abbrev numCores : Nat := 2560
/-- Bytes of a core store (R92). -/
abbrev storeSize : Nat := 0xC0000

/-- Die of a global core number (R14). -/
def dieOf (n : Nat) : Nat := n / 640

/-- The core of a number. -/
def State.coreAt (s : State) (n : Nat) : Core := Tab.get Core.init s.core n
/-- Store a core. -/
def State.setCore (s : State) (n : Nat) (c : Core) : State := { s with core := Tab.put s.core n c }

/-- Positions of a core that passed test, AS among them. -/
def Fuse.good (f : Fuse) (n : Nat) : Nat :=
  let m := Tab.get (BitVec.allOnes 17) f.posEnabled n
  (List.range 17).foldl (fun k j => k + b2n (m.getLsbD j)) 0

/-- A core is enabled: it is not bad as a whole, and at least 14 of its arrays work (R3). -/
def Fuse.coreOk (f : Fuse) (n : Nat) : Bool := !f.coreBad.contains n && decide (14 ≤ f.good n)

/-- Number of enabled arrays of a core, at most 16 in use (R2, R3, R83). -/
def Fuse.arrays (f : Fuse) (n : Nat) : Nat := if f.coreOk n then min 16 (f.good n) else 0

/-- Scalar register (R120). -/
def Core.sreg (c : Core) (i : Nat) : W64 := if i = 0 then 0 else Tab.get 0 c.s i
/-- Write a scalar register; writes to s0 are discarded (R120). -/
def Core.setS (c : Core) (i : Nat) (v : W64) : Core := if i = 0 then c else { c with s := Tab.put c.s i v }
/-- Vector register (R120). -/
def Core.vreg (c : Core) (i : Nat) : Vec := Tab.get 0 c.v i
/-- Write a vector register. -/
def Core.setV (c : Core) (i : Nat) (v : Vec) : Core := { c with v := Tab.put c.v i v }
/-- Predicate register (R120). -/
def Core.preg (c : Core) (i : Nat) : W64 := if i = 0 then BitVec.allOnes 64 else Tab.get 0 c.p i
/-- Write a predicate register; writes to p0 are discarded (R120). -/
def Core.setP (c : Core) (i : Nat) (v : W64) : Core := if i = 0 then c else { c with p := Tab.put c.p i v }
/-- Completion counter (R112). -/
def Core.counter (c : Core) (i : Nat) : W32 := Tab.get 0 c.cnt i
/-- Set a completion counter. -/
def Core.setCounter (c : Core) (i : Nat) (v : W32) : Core := { c with cnt := Tab.put c.cnt i v }
/-- Increase a completion counter by 1 (R101, R112). -/
def Core.count (c : Core) (i : Nat) : Core := c.setCounter i (c.counter i + 1)

/-- Increase a counter of a core, unless the core is in RESET (R99, R154). -/
def State.countCore (s : State) (n i : Nat) : State :=
  if (s.coreAt n).st = .reset then s else s.setCore n ((s.coreAt n).count i)

/-- Partition of a core (CORE.PART). -/
def State.corePart (s : State) (n : Nat) : Nat := s.field (A.corePart n) 15 12
/-- Job tag of a core (CORE.PART). -/
def State.coreTag (s : State) (n : Nat) : Nat := s.field (A.corePart n) 11 0

/-- Set sticky flags of a core (R103). -/
def State.setFlags (s : State) (n : Nat) (m : W64) : State := s.orReg (A.coreFlags n) m

/-- Exception causes of R126. -/
inductive Cause where
  | illegal | pcRange | misaligned | storeRange | invalidBlock | arrayRange | rackAddress | remotePoison | remoteRefused
  | fenceTimeout | atomicRefused
  deriving DecidableEq, Repr

/-- The code of a cause (R126). -/
def Cause.code : Cause → Nat
  | .illegal => 1
  | .pcRange => 2
  | .misaligned => 3
  | .storeRange => 4
  | .invalidBlock => 5
  | .arrayRange => 6
  | .rackAddress => 7
  | .remotePoison => 8
  | .remoteRefused => 9
  | .fenceTimeout => 10
  | .atomicRefused => 11

/-- The core in FAULTED: the sequencer stops issuing; work issued before continues (R98). -/
def Core.toFaulted (c : Core) : Core :=
  { c with st := .faulted, wait := none, fence := none, halting := false, copyWait := none }

/-- Taking an exception (R98, R126): only a RUNNING or WAITING core goes to FAULTED (R97). CORE.FAULT takes the cause and the
instruction's address; causes 1 to 7 raise a job fault of cause 6. -/
def State.takeException (s : State) (n : Nat) (cause : Cause) (pc : Nat) : State :=
  let c := s.coreAt n
  if c.st = .running ∨ c.st = .waiting then
    let s := (s.setCore n c.toFaulted).setReg (A.coreFault n) (BitVec.ofNat 64 (cause.code * 2 ^ 56 + pc % 2 ^ 20))
    if cause.code ≤ 7 then s.jobFault n 6 (s.corePart n) (s.coreTag n) 0xFFFF 0 cause.code else s
  else s

end Sys2Proof.Machine
end

