-- ==== Sys2Proof/Machine/Report.lean ====
section
/-! DEFINITION. What every block reads of measurement and policy: bounds (R377), sensors (R356, R357), operating points (R358), and the
records of wrong results (R370, R373, R417). -/
namespace Sys2Proof.Machine

/-- The default value of a bound (R377); zero for an unknown identifier. -/
def boundDefault : Nat → Nat
  | 0x1 => 2200
  | 0x2 => 1
  | 0x3 => 48
  | 0x4 => 380
  | 0x5 => 8
  | 0x6 => 1
  | 0x7 => 2
  | 0x8 => 1
  | 0x9 => 1
  | 0xA => 8
  | 0xB => 100
  | 0xC => 1
  | 0xD => 3
  | 0xE => 1000
  | 0xF => 1
  | _ => 0

/-- The range of a bound (R377). -/
def boundRange (id v : Nat) : Bool :=
  match id with
  | 0x1 => decide (1000 ≤ v ∧ v ≤ 2200)
  | 0x2 => decide (v ≤ 1)
  | 0x3 => decide (v ≤ 48)
  | 0x4 => decide (300 ≤ v ∧ v ≤ 380)
  | 0x5 => decide (v ≤ 15)
  | 0x6 => decide (1 ≤ v ∧ v ≤ 4)
  | 0x7 => decide (1 ≤ v ∧ v ≤ 255)
  | 0x8 => decide (v ≤ 1)
  | 0x9 => decide (v ≤ 1)
  | 0xA => decide (v = 0 ∨ (4 ≤ v ∧ v ≤ 16))
  | 0xB => decide (10 ≤ v ∧ v ≤ 10000)
  | 0xC => decide (v ≤ 1)
  | 0xD => decide (1 ≤ v ∧ v ≤ 15)
  | 0xE => decide (100 ≤ v ∧ v ≤ 60000)
  | 0xF => decide (v < 2 ^ 32)
  | _ => false

/-- A policy bound in force (R377). -/
def State.bound (s : State) (id : Nat) : Nat := Tab.get (boundDefault id) s.self.bounds id

/-- A sensor's last reading (R356). -/
def State.sensorAt (s : State) (i : Nat) : Sensor := Tab.get Sensor.init s.self.sensor i
/-- Store a sensor's reading. -/
def State.setSensor (s : State) (i : Nat) (x : Sensor) : State :=
  { s with self := { s.self with sensor := Tab.put s.self.sensor i x } }

/-- The hottest valid sensor of a range of indices: its temperature and index, the lowest index on a tie (R357). -/
def State.hottest (s : State) (lo n : Nat) : Option (Int × Nat) :=
  (List.range n).foldl (fun b k =>
    let x := s.sensorAt (lo + k)
    if !x.valid then b
    else match b with
      | none => some (x.temp, lo + k)
      | some (t, _) => if t < x.temp then some (x.temp, lo + k) else b) none

/-- The hottest valid sensor of compute die d (R356, R362). -/
def State.dieHottest (s : State) (d : Nat) : Option (Int × Nat) := s.hottest (64 * d) 64

/-- A die's operating point; its guard band is the fused one until something changes it (R372). -/
def State.opAt (s : State) (d : Nat) : OpPoint :=
  let g := Tab.get 0 s.fuse.gband d
  Tab.get { OpPoint.init with gband := g, gbandEff := g } s.self.op d
/-- Store a die's operating point. -/
def State.setOp (s : State) (d : Nat) (x : OpPoint) : State := { s with self := { s.self with op := Tab.put s.self.op d x } }

/-- The compute core domain of a die is up (R21). -/
def State.coreDom (s : State) (d : Nat) : Bool := s.dom.core.getLsbD d
/-- The memory domain of a die is up (R21). -/
def State.memDom (s : State) (d : Nat) : Bool := s.dom.mem.getLsbD d

/-- The dies that run below F_MAX, as bits (R376). -/
def State.slowDies (s : State) : Nat :=
  (List.range 4).foldl (fun m d => if s.coreDom d && decide ((s.opAt d).step < s.bound 3) then m + 2 ^ d else m) 0

/-- Count the time since `slowAt` for the dies that run below F_MAX (R376). -/
def State.accrueSlow (s : State) : State :=
  let m := s.slowDies
  { s with self := { s.self with slow := Tab.put s.self.slow m (Tab.get 0 s.self.slow m + (s.clk - s.self.slowAt)), slowAt := s.clk } }

/-- The core rail voltage of a die in millivolts: none while its domain is down (R358, R378). -/
def State.railMv (s : State) (d : Nat) : Nat :=
  if s.coreDom d then Config.fusedMillivolt d (s.opAt d).step + (s.opAt d).gbandEff * 5 else 0

/-- A position's default: its fused logical number, 31 where it did not pass test (R83, R90). -/
def Fuse.position (f : Fuse) (n j : Nat) : Pos :=
  let ok := f.coreOk n && (Tab.get (BitVec.allOnes 17) f.posEnabled n).getLsbD j
  { Pos.init with logical := Tab.get (if ok && decide (j < 16) then j else 31) f.logical (n * 17 + j) }

/-- A position passed test (R83, R90). -/
def Fuse.posOk (f : Fuse) (n j : Nat) : Bool :=
  decide (j < 17) && f.coreOk n && (Tab.get (BitVec.allOnes 17) f.posEnabled n).getLsbD j

/-- Position j of core n. -/
def State.posAt (s : State) (n j : Nat) : Pos := Tab.get (s.fuse.position n j) (s.coreAt n).pos j

/-- Store position j of core n. -/
def State.setPos (s : State) (n j : Nat) (x : Pos) : State :=
  s.setCore n { s.coreAt n with pos := Tab.put (s.coreAt n).pos j x }

/-- The enabled position that serves a logical number (R83). -/
def State.posOf (s : State) (n a : Nat) : Option Nat :=
  (List.range 17).find? fun j => s.fuse.posOk n j && decide ((s.posAt n j).logical = a)

/-- Arrays of a die that issued real planes in the preceding 100 µs (R373). -/
def State.busyArrays (s : State) (d : Nat) : Nat :=
  s.core.foldl (fun k e =>
    if dieOf e.1 = d then
      e.2.pos.foldl (fun k p => match p.2.lastReal with
        | some t => k + b2n (decide (s.clk ≤ t + 200000))
        | none => k) k
    else k) 0

/-- Enabled arrays of a die. -/
def State.dieArrays (s : State) (d : Nat) : Nat :=
  (List.range 640).foldl (fun k i => k + s.fuse.arrays (640 * d + i)) 0

/-- The load of a die in 64ths, at most 63 (R373). -/
def State.load (s : State) (d : Nat) : Nat := min 63 (s.busyArrays d * 64 / s.dieArrays d)

/-- The conditions of a die now (R373). -/
def State.condition (s : State) (d : Nat) : Cond :=
  { temp := ((s.dieHottest d).map Prod.fst).getD 0, volt := s.railMv d, step := (s.opAt d).step, load := s.load d, ct := s.now }

/-- The probe word of R417. -/
def probeWord (x : Cond) (pos kind fmt : Nat) : Nat := pos + kind * 2 ^ 5 + fmt % 64 * 2 ^ 8 + unsigned 16 x.temp * 2 ^ 16

/-- The condition word of R417. -/
def conditionWord (x : Cond) : Nat := x.volt % 2 ^ 16 + x.step * 2 ^ 16 + x.load * 2 ^ 22

/-- SELF.CAPT holds the first event while VALID is 0 (R373, R379), with the conditions and the time of the event. -/
def State.capture (s : State) (x : Cond) (n pos kind fmt : Nat) : State :=
  if bit (s.reg A.selfCapt) 63 then s
  else
    let w := 2 ^ 63 + kind * 2 ^ 61 + n * 2 ^ 49 + pos * 2 ^ 44 + unsigned 12 x.temp * 2 ^ 32 + x.volt % 2 ^ 11 * 2 ^ 21
      + x.step * 2 ^ 15 + x.load * 2 ^ 9 + fmt % 64 * 2 ^ 3
    (s.event A.selfCapt fun _ => BitVec.ofNat 64 w).setReg A.selfCaptCt x.ct

/-- Report a probe failure (0xD001) or a mismatch (0xD002) with what R373 names. -/
def State.wrongResult (s : State) (x : Cond) (code n pos kind fmt seq : Nat) : State :=
  (s.report { sev := 3, index := n, code := code, p0 := probeWord x pos kind fmt, p1 := conditionWord x, p2 := seq }).capture x n pos kind fmt

/-- A mismatch with no follow-up left and none failed is unresolved (R370, R373). -/
def State.closeMismatches (s : State) : State :=
  s.self.open_.foldl (fun s m =>
    if m.left.isEmpty && !m.failed then s.wrongResult m.cond 0xD002 m.core m.named 2 m.fmt m.seq else s)
    { s with self := { s.self with open_ := s.self.open_.filter fun m => !m.left.isEmpty } }

/-- An open mismatch waits for the probe that now runs on a position (R370). -/
def Mismatch.waitsFor (m : Mismatch) (n j : Nat) : Bool := decide (m.core = n ∧ j ∈ m.left ∧ j ∉ m.late)

/-- The probe of a position is done or abandoned (R369, R370): a follow-up is no longer waited for by the mismatches before it, and for the
others the next one counts. -/
def State.followUpDone (s : State) (n j : Nat) (followUp failed : Bool) : State :=
  { s with self := { s.self with open_ := s.self.open_.map fun (m : Mismatch) =>
      if m.core ≠ n then m
      else if followUp && m.waitsFor n j then { m with left := m.left.erase j, failed := m.failed || failed }
      else { m with late := m.late.filter (· != j) } } }.closeMismatches

/-- The mismatches of a die whose core domain goes are recorded with what their follow-ups have shown so far (R370, R373). -/
def State.endMismatches (s : State) (d : Nat) : State :=
  { s with self := { s.self with open_ := s.self.open_.map fun (m : Mismatch) =>
      if (dieOf m.core) = d then { m with left := [] } else m } }.closeMismatches

end Sys2Proof.Machine
end

