-- ==== Sys2Proof/Machine/Cairn.lean ====
section
/-! DEFINITION. The cairn log die (R405 to R416): slots and head cells, writing, recovery at power-up, reading by the cursor, and clearing of
the ring. -/
namespace Sys2Proof.Machine

/-- The four words of a slot as stored (R405). -/
def slotWords (v : BitVec 256) : List W64 := [v.extractLsb' 0 64, v.extractLsb' 64 64, v.extractLsb' 128 64, v.extractLsb' 192 64]

/-- A slot from four words. -/
def slotOfWords (l : List W64) : BitVec 256 := BitVec.ofNat 256 (ofBytes (bytesOf l))

/-- Slot key of a record number (R407): the first area, then the ring. -/
def slotKey (n : Nat) : Nat := if n < 65536 then n else 65536 + (n - 65536) % 131072

/-- The slot of a record number. -/
def State.slotAt (s : State) (n : Nat) : BitVec 256 := Tab.get 0 s.cairn.slot (slotKey n)

/-- VALID of a slot. -/
def slotValid (v : BitVec 256) : Nat := (v.extractLsb' 240 16).toNat

/-- The CRC of a slot holds (R405). -/
def slotCrcOk (v : BitVec 256) : Bool :=
  (v.extractLsb' 224 16).toNat == crc16 ((bytesOf (slotWords v)).take 28)

/-- A slot holds a record (R405). -/
def slotHolds (v : BitVec 256) : Bool := slotValid v == 0xC41E && slotCrcOk v

/-- SEQUENCE of a slot. -/
def slotSeq (v : BitVec 256) : Nat := (v.extractLsb' 48 16).toNat
/-- CODE of a slot. -/
def slotCode (v : BitVec 256) : Nat := (v.extractLsb' 0 16).toNat

/-- A head cell with a count (R407). -/
def headCell (n : Nat) : W64 := BitVec.ofNat 64 (crc16 (toBytes 6 n) * 2 ^ 48 + n % 2 ^ 48)

/-- The count of a head cell whose CRC matches (R408). -/
def headCount (w : W64) : Option Nat := if headCell (fld w 47 0) = w then some (fld w 47 0) else none

/-- The die writes a record and then the head cell (R406, R407). -/
def State.writeSlot (s : State) (r : CRec) : State :=
  let n := r.num + 1
  let x := s.cairn
  { s with cairn := { x with
      slot := Tab.put x.slot (slotKey r.num) (slotOfWords r.words)
      head0 := if n % 2 = 0 then headCell n else x.head0
      head1 := if n % 2 = 1 then headCell n else x.head1
      buf := x.buf.tail, written := n } }

/-- CAIRN_RECORD_WRITE (R410): the first waiting record, while the window is open. -/
def execCairnRecordWrite (s : State) : Host.Outcome State Fault Refusal :=
  .next (match s.cairn.buf with
    | r :: _ => if s.dom.mgmt ∧ s.self.nvmOk then s.writeSlot r else s
    | [] => s)

/-- Every waiting record is written, while the window is open (R411). -/
def State.writeAll (s : State) : State := if s.self.nvmOk then s.cairn.buf.foldl (fun s r => s.writeSlot r) s else s

/-- Input loss or a commanded power-down (R410, R411, R415): POWER_LOSS is the last record accepted, and clearing stops. -/
def State.powerLoss (s : State) (commanded : Bool) : State :=
  if s.cairn.closed then s
  else
    let s := if 4096 ≤ s.cairn.buf.length then s else s.acceptOverflow
    let s := s.acceptRec { sev := 2, index := 0, code := 0x0002, p0 := s.cairn.buf.length, p1 := b2n commanded }
    { s with cairn := { s.cairn with closed := true, clearing := [] } }

/-- Recovery of W (R408). -/
def State.recoverLog (s : State) : State :=
  let w := max ((headCount s.cairn.head0).getD 0) ((headCount s.cairn.head1).getD 0)
  let v := s.slotAt w
  let w := if slotHolds v && slotSeq v == w % 2 ^ 16 then w + 1 else w
  { s with cairn := { s.cairn with buf := [], next := w, written := w, dropped := 0, closed := false, clearing := [] } }

/-- GLOBAL.FW (R354). -/
def State.fwReg (s : State) : W64 := BitVec.ofNat 64 (s.svc.fwWord.toNat * 2 ^ 16 + s.svc.runBank)

/-- The START record, sent as a datagram too (R412). -/
def State.acceptStart (s : State) : State :=
  s.report { sev := 0, index := 0, code := 0x0001, p0 := fld s.fwReg 63 32, p1 := s.svc.runBank }

/-- START, and RECORDS_LOST where the previous session ended without its marker (R412). -/
def State.startLog (s : State) : State :=
  let w := s.cairn.written
  let v := s.slotAt (w - 1)
  let marked := slotHolds v && slotCode v == 0x0002
  let s := s.acceptStart
  if w = 0 ∨ marked then s
  else
    let s := s.report { sev := 3, index := 0, code := 0x0003, p0 := 0xFFFFFFFF, p1 := w % 2 ^ 32 }
    (s.bump A.cairnCounts 63 48 1).setBit A.cairnEvents 0

/-! ### Reading (R414) -/

/-- The state of record n as the cursor shows it. -/
def State.recordState (s : State) (n : Nat) : Nat :=
  let w := s.cairn.written
  if s.cairn.buf.any fun r => r.num == n then 1
  else if w ≤ n then 5
  else if 65536 ≤ n ∧ n + 131072 < w then 4
  else
    let v := s.slotAt n
    if slotValid v = 0x5A5A then 2
    else if slotValid v = 0xC41E then (if slotCrcOk v then 0 else 3)
    else 5

/-- The words of record n as the cursor shows them: of a waiting one VALID and CRC read zero. -/
def State.recordWords (s : State) (n : Nat) : List W64 :=
  match s.recordState n with
  | 0 => slotWords (s.slotAt n)
  | 3 => slotWords (s.slotAt n)
  | 1 =>
    match s.cairn.buf.find? fun r => r.num == n with
    | some r => [r.w0, r.w1, r.w2, BitVec.ofNat 64 r.p2.toNat]
    | none => [0, 0, 0, 0]
  | _ => [0, 0, 0, 0]

/-- The cursor. -/
def State.cursor (s : State) : Nat := s.field A.cairnCursor 47 0

/-- A read of CAIRN.WIN3: the last word of the record, and the cursor advances; a corrupt slot is counted. -/
def State.readWin3 (s : State) : State × W64 :=
  let n := s.cursor
  let v := (s.recordWords n).getD 3 0
  let s := if s.recordState n = 3 then (s.bump A.cairnCounts 31 16 1).setBit A.cairnEvents 2 else s
  (s.putField A.cairnCursor 47 0 (n + 1), v)

/-- CAIRN_WIN3_READ (R414). -/
def execCairnWin3Read (s : State) : Host.Outcome State Fault Refusal :=
  .next (let (s, v) := s.readWin3
    s.emit (.softRead (A.win 3) v))

/-! ### Clearing the ring (R415) -/

/-- The number below `w` of the newest record that a ring slot may hold. -/
def ringNumber (w key : Nat) : Option Nat :=
  let o := key - 65536
  if w ≤ 65536 + o then none else some (65536 + o + (w - 1 - 65536 - o) / 131072 * 131072)

/-- The next ring slot to clear: its number, ascending from `from_`; the record is below `w` and older than the limit. -/
def State.nextToClear (s : State) (limit : W64) (w from_ : Nat) : Option Nat :=
  s.cairn.slot.foldl (fun best e =>
    match (if 65536 ≤ e.1 then ringNumber w e.1 else none) with
    | some n =>
      let v := e.2
      let due := decide (from_ ≤ n) && decide (s.cairn.written ≤ n + 131072) && slotHolds v && slotSeq v == n % 2 ^ 16
        && decide (v.extractLsb' 64 64 < limit)
      if due && best.all fun b => decide (n < b) then some n else best
    | none => best) none

/-- RING_CLEAR_SLOT (R415): one slot, while the window allows; with none left the clearing has run. -/
def execRingClearSlot (s : State) : Host.Outcome State Fault Refusal :=
  .next (match s.cairn.clearing with
    | (limit, w, from_) :: rest =>
      if ¬ s.dom.mgmt ∨ s.self.nvmOk = false then s
      else
        match s.nextToClear limit w from_ with
        | some n =>
          let v := s.slotAt n
          let v := slotOfWords ((slotWords v).take 3 ++ [setFld ((slotWords v).getD 3 0) 63 48 0x5A5A])
          { s.bump A.cairnCounts 15 0 1 with cairn := { s.cairn with
              slot := Tab.put s.cairn.slot (slotKey n) v, clearing := (limit, w, n + 1) :: rest } }
        | none => { s.setBit A.cairnEvents 3 with cairn := { s.cairn with clearing := rest } }
    | [] => s)

end Sys2Proof.Machine
end

