-- ==== Sys2Proof/Machine/Operands.lean ====
section
/-! DEFINITION. How a core instruction's fields name operands (R120 to R124, R127): register use, the guard, legality, interlocks, and
the lanes of a vector register. -/
namespace Sys2Proof.Machine

/-! ### Lanes -/

/-- The number that n lanes of w bits form, lane 0 lowest. -/
def packN (w : Nat) (f : Nat → Nat) : Nat → Nat
  | 0 => 0
  | n + 1 => packN w f n + (f n % 2 ^ w) * 2 ^ (w * n)

/-- Lane i of a vector register (R120). -/
def lane (v : Vec) (i : Nat) : W32 := v.extractLsb' (32 * i) 32

/-- The vector register with the given lanes. -/
def ofLanes (f : Nat → W32) : Vec := BitVec.ofNat 2048 (packN 32 (fun i => (f i).toNat) 64)

/-- The 64 bits given one by one. -/
def ofBits (f : Nat → Bool) : W64 := BitVec.ofNat 64 (packN 1 (fun i => b2n (f i)) 64)

/-- BF16 element k of a vector register, k = 0 to 127 (R102). -/
def half (v : Vec) (k : Nat) : Nat := (lane v (k / 2)).toNat / 2 ^ (16 * (k % 2)) % 2 ^ 16

/-- A lane from its two BF16 elements (R102). -/
def ofHalves (lo hi : Nat) : W32 := BitVec.ofNat 32 (lo % 2 ^ 16 + hi % 2 ^ 16 * 2 ^ 16)

/-- New lanes where a mask has ones, the old lanes elsewhere (R123). -/
def blend (g : W64) (old : Vec) (f : Nat → W32) : Vec := ofLanes fun i => if bit g i then f i else lane old i

/-- The union of the flags of the lanes that a mask names (R64). -/
def laneFlags (g : W64) (f : Nat → W64) : W64 :=
  (List.range 64).foldl (fun m i => if bit g i then m ||| f i else m) 0

/-! ### Register use -/

/-- What a register field names: nothing, a scalar, a vector or a predicate register. -/
inductive Use where
  | none | s | v | p
  deriving DecidableEq, Repr

/-- The fields of format R that an opcode uses (R122). `x` marks a completion counter in X. -/
structure RUse where
  d : Use := .none
  a : Use := .none
  b : Use := .none
  c : Use := .none
  fmts : List (BitVec 6) := [0]
  rm : Bool := false
  x : Bool := false
  half : Bool := false
  lm1 : Bool := false
  deriving DecidableEq, Repr

/-- A field that names nothing is zero, and a predicate field has zero high bits (R122, R129). -/
def Use.legal (u : Use) (f : BitVec 5) : Bool :=
  match u with
  | .none => f == 0
  | .p => decide (f.toNat < 8)
  | _ => true

/-- The reserved guard (R123). -/
def guardLegal (gneg : Bool) (guard : BitVec 3) : Bool := !(gneg && guard == 0)

/-- No code 0x01 cause for a format R word of an opcode (R122, R126, R127). -/
def RF.legal (f : RF) (u : RUse) : Bool :=
  guardLegal f.gneg f.guard && u.d.legal f.d && u.a.legal f.a && u.b.legal f.b && u.c.legal f.c && u.fmts.contains f.fmt
    && decide (f.rm.toNat < 3) && (u.rm || f.rm == 0)
    && ((u.rm && f.rm == 2) || ((u.x || f.x == 0) && f.idx == 0))
    && (u.half || !f.half) && (u.lm1 || f.lm1 == 0) && f.res == 0

/-- Is a register still to be written by a remote load, an atomic or a gather (R124, R134, R144). -/
def Core.owed (c : Core) (u : Use) (f : BitVec 5) : Bool :=
  match u with
  | .s => f != 0 && c.rem.any fun r => r.d == f.toNat
  | .v => c.gs.any fun g => g.op == 0 && g.dest == f.toNat
  | _ => false

/-- An interlock on the register fields of a format R word holds the instruction back (R124). -/
def RF.stalls (f : RF) (u : RUse) (c : Core) : Bool :=
  c.owed u.d f.d || c.owed u.a f.a || c.owed u.b f.b || c.owed u.c f.c
    || (u.rm && f.rm == 2 && (c.owed .s f.x || c.owed .s f.idx))

/-- The immediate of format I as a signed value (R122). -/
def IF.simm (f : IF) : Int := f.imm.toInt
/-- The immediate of format I as a 64-bit word. -/
def IF.wimm (f : IF) : W64 := f.imm.signExtend 64
/-- The immediate of format C as a 64-bit word. -/
def CF.wimm (f : CF) : W64 := f.imm.signExtend 64

/-- No code 0x01 cause for a format I word whose immediate satisfies its own rule. -/
def IF.legal (f : IF) (d a : Use) (imm : Bool) : Bool :=
  guardLegal f.gneg f.guard && d.legal f.d && a.legal f.a && imm

/-- An interlock on a format I word. -/
def IF.stalls (f : IF) (d a : Use) (c : Core) : Bool := c.owed d f.d || c.owed a f.a

/-- No code 0x01 cause for a format C word: which of its fields the opcode uses (R122). -/
def CF.legal (f : CF) (cnt a b : Bool) (n : Bool) : Bool :=
  guardLegal f.gneg f.guard && (cnt || f.cnt == 0) && (a || f.a == 0) && (b || f.b == 0) && n

/-- An interlock on a format C word: its base registers. -/
def CF.stalls (f : CF) (c : Core) : Bool := c.owed .s f.a || c.owed .s f.b

/-! ### The guard -/

/-- The guard word of R123. -/
def Core.guardWord (c : Core) (gneg : Bool) (guard : BitVec 3) : W64 :=
  if gneg then ~~~ c.preg guard.toNat else c.preg guard.toNat

/-! ### Issue -/

/-- The line of the instruction buffer that holds an address takes the line from the store unless it already holds it (R96,
R132). -/
def Core.fetched (c : Core) : Core :=
  let line := c.pc / 64 * 64
  let idx := c.pc / 64 % 64
  match Tab.find c.ibuf idx with
  | some l =>
    if l.addr = line then c
    else { c with ibuf := Tab.put c.ibuf idx ⟨line, BitVec.ofNat 512 (ofBytes (Memory.bytes c.store line 64))⟩ }
  | none => { c with ibuf := Tab.put c.ibuf idx ⟨line, BitVec.ofNat 512 (ofBytes (Memory.bytes c.store line 64))⟩ }

/-- The program counter at the next instruction. -/
def Core.nextPc (c : Core) : Core := { c with pc := c.pc + 8 }

/-- The core may issue: it is RUNNING and nothing holds issue (R97, R124, R146, R148). -/
def Core.mayIssue (c : Core) : Bool :=
  decide (c.st = .running) && c.fence.isNone && !c.halting && c.copyWait.isNone

/-- One instruction of core n: it issues when the core may issue and no interlock stalls it, else nothing changes. A fetch at or
above 0xC0000 raises PC_RANGE (R132), and a code 0x01 cause ILLEGAL (R127). -/
def State.issue (s : State) (n : Nat) (legal : Bool) (stall : Core → Bool) (run : Core → State) : State :=
  let c := s.coreAt n
  if !c.mayIssue then s
  else if storeSize ≤ c.pc then s.takeException n .pcRange c.pc
  else if !legal then s.takeException n .illegal c.pc
  else if stall c.fetched then s
  else run c.fetched

/-- The word that a core fetches at its program counter, out of the line of its instruction buffer (R96). -/
def Core.fetchWord (c : Core) : W64 :=
  match Tab.find c.fetched.ibuf (c.pc / 64 % 64) with
  | some l => l.data.extractLsb' (8 * (c.pc % 64)) 64
  | none => 0

/-- A core that may issue, and whose program counter lies outside the store or at a word of reserved class or opcode, takes PC_RANGE
or ILLEGAL (R13, R126, R127, R132): such a word is no command of its own, so this happens as time passes (log 115). -/
def State.fetchFault (s : State) (n : Nat) : State :=
  let c := s.coreAt n
  if !c.mayIssue then s
  else if storeSize ≤ c.pc then s.takeException n .pcRange c.pc
  else if (decodeCoreWord n c.fetchWord).isNone then s.takeException n .illegal c.pc
  else s

/-- An instruction that executes only when bit 0 of its guard is 1; else it occupies its cycle and has no other effect (R123). -/
def State.guarded (s : State) (n : Nat) (gneg : Bool) (guard : BitVec 3) (c : Core) (run : Core → State) : State :=
  if bit (c.guardWord gneg guard) 0 then run c else s.setCore n c.nextPc

/-- A lane-wise instruction: the mask of active lanes; with none it has no other effect (R123). -/
def State.lanewise (s : State) (n : Nat) (gneg : Bool) (guard : BitVec 3) (c : Core) (run : W64 → Core → State) : State :=
  if c.guardWord gneg guard = 0 then s.setCore n c.nextPc else run (c.guardWord gneg guard) c

/-- The rounding mode of an instruction for element j: under SR the key is sX and the index sIDX + j (R122). -/
def RF.mode (f : RF) (c : Core) (j : Nat) : Rm :=
  if f.rm = 2 then .sr (srBits (c.sreg f.x.toNat) (c.sreg f.idx.toNat + BitVec.ofNat 64 j))
  else if f.rm = 1 then .rtz else .rne

/-- A format R instruction under its guard bit. -/
def State.runR (s : State) (n : Nat) (f : RF) (u : RUse) (run : Core → State) : State :=
  s.issue n (RF.legal f u) (RF.stalls f u) fun c => s.guarded n f.gneg f.guard c run

/-- A lane-wise format R instruction. -/
def State.runV (s : State) (n : Nat) (f : RF) (u : RUse) (run : W64 → Core → State) : State :=
  s.issue n (RF.legal f u) (RF.stalls f u) fun c => s.lanewise n f.gneg f.guard c run

/-- A format I instruction under its guard bit. -/
def State.runI (s : State) (n : Nat) (f : IF) (d a : Use) (imm : Bool) (run : Core → State) : State :=
  s.issue n (IF.legal f d a imm) (IF.stalls f d a) fun c => s.guarded n f.gneg f.guard c run

/-- A format C instruction under its guard bit. -/
def State.runC (s : State) (n : Nat) (f : CF) (legal : Bool) (run : Core → State) : State :=
  s.issue n legal (CF.stalls f) fun c => s.guarded n f.gneg f.guard c run

/-- An instruction's result: the core after it, at the next instruction. -/
def State.done (s : State) (n : Nat) (c : Core) : State := s.setCore n c.nextPc

end Sys2Proof.Machine
end

