-- ==== Sys2Proof/Machine/Gather.lean ====
section
/-! DEFINITION. What a gather or scatter and a routing do to the core store (R104 to R111), as functions of the store. -/
namespace Sys2Proof.Machine

/-! ### Gathers and scatters -/

/-- A row form (R105, R144). -/
def GsOp.isRow (g : GsOp) : Bool := decide (8 ≤ g.op.toNat)
/-- Bytes that one lane moves (R104, R105). -/
def GsOp.size (g : GsOp) : Nat := if g.isRow then 64 * g.lines else 4

/-- Where lane i's indexed word or row lies; `none` when it is at or above the bound or outside the store (R104, R105). The sum of base and
offset wraps at 2^64 (DESIGN CHOICE, log 130). -/
def GsOp.addr (g : GsOp) (i : Nat) : Option Nat :=
  let ix := (lane g.idx i).toNat
  let a := (g.base + g.size * ix) % 2 ^ 64
  if ix < g.bound ∧ a + g.size ≤ storeSize then some a else none

/-- Element addition of a scatter-add: RNE in the format, INT32 clamped (R106). -/
def addElem (fmt : BitVec 6) (x y : Nat) : FRes :=
  if fmt = 0 then f32.addV .rne (decodeF f32 x) (decodeF f32 y)
  else if fmt = 1 then bf16.addV .rne (decodeF bf16 x) (decodeF bf16 y)
  else clampI32 (signed 32 x + signed 32 y)

/-- Bytes of an element of a scatter-add. -/
def elemBytes (fmt : BitVec 6) : Nat := if fmt = 1 then 2 else 4

/-- Add n elements of the bytes of two rows: the bytes of the sums and the flags. -/
def addRows (fmt : BitVec 6) : Nat → List Byte → List Byte → List Byte × W64
  | 0, _, _ => ([], 0)
  | n + 1, xs, ys =>
    let k := elemBytes fmt
    let r := addElem fmt (ofBytes (xs.take k)) (ofBytes (ys.take k))
    let t := addRows fmt n (xs.drop k) (ys.drop k)
    (toBytes k r.1 ++ t.1, r.2 ||| t.2)

/-- What a gather or scatter has done so far. -/
structure GsOut where
  store : Memory
  vec : Vec
  flags : W64
  deriving DecidableEq, Repr

/-- The other side of lane i of a row form: row i of the contiguous region (R144). -/
def GsOp.rowAt (g : GsOp) (i : Nat) : Nat := (g.row + g.size * i) % 2 ^ 64

/-- One active lane (R104 to R106). -/
def GsOp.lane1 (g : GsOp) (o : GsOut) (i : Nat) : GsOut :=
  match g.op.toNat, g.addr i with
  | 0x00, some a => { o with vec := ofLanes fun k => if k = i then BitVec.ofNat 32 (ofBytes (Memory.bytes o.store a 4)) else lane o.vec k }
  | 0x00, none => { o with vec := ofLanes fun k => if k = i then 0 else lane o.vec k, flags := o.flags ||| Flag.index }
  | 0x01, some a => { o with store := Memory.write o.store a (toBytes 4 (lane g.data i).toNat) }
  | 0x02, some a =>
    let r := addElem g.fmt (ofBytes (Memory.bytes o.store a 4)) (lane g.data i).toNat
    { o with store := Memory.write o.store a (toBytes 4 r.1), flags := o.flags ||| r.2 }
  | 0x08, some a => { o with store := Memory.write o.store (g.rowAt i) (Memory.bytes o.store a g.size) }
  | 0x08, none => { o with store := Memory.write o.store (g.rowAt i) (List.replicate g.size 0), flags := o.flags ||| Flag.index }
  | 0x09, some a => { o with store := Memory.write o.store a (Memory.bytes o.store (g.rowAt i) g.size) }
  | 0x0A, some a =>
    let r := addRows g.fmt (g.size / elemBytes g.fmt) (Memory.bytes o.store a g.size) (Memory.bytes o.store (g.rowAt i) g.size)
    { o with store := Memory.write o.store a r.1, flags := o.flags ||| r.2 }
  | _, _ => { o with flags := o.flags ||| Flag.index }

/-- The whole instruction: active lanes in ascending order (R106). -/
def GsOp.run (g : GsOp) (store : Memory) (vec : Vec) : GsOut :=
  (List.range 64).foldl (fun o i => if bit g.act i then g.lane1 o i else o) ⟨store, vec, 0⟩

/-- A store in which each 64-byte line is as in one memory or as in another, as `pick` says of its number (R99). -/
def mergeLines (old new : Memory) (pick : Nat → Bool) : Memory :=
  (Tab.keys old ++ Tab.keys new).foldl (fun m a => if pick (a / 64) then m.setByte a (new.byte a) else m) old

/-! ### The router -/

/-- The fields of a route block (R107). -/
def routeBlkOf (pc : Nat) (w : List W64) : RouteBlk :=
  let w0 := w.getD 0 0
  let w1 := w.getD 1 0
  let w2 := w.getD 2 0
  { pc := pc, scoreAddr := fld w0 19 0, recordAddr := fld w0 39 20, rowsAddr := fld w0 59 40, tokens := fld w1 10 0
    experts := fld w1 19 11, k := fld w1 23 20, norm := fld w1 25 24, capMode := fld w1 27 26, rowLines := fld w1 34 28
    counter := fld w1 39 35, tableAddr := fld w1 59 40, scoreFmt := BitVec.ofNat 6 (fld w2 5 0), fillAddr := fld w2 27 8 }

/-- Bytes of a score (R107). -/
def RouteBlk.scoreBytes (b : RouteBlk) : Nat := if b.scoreFmt = 0 then 4 else 2
/-- Bytes of a token's row of scores, padded to whole lines (R107). -/
def RouteBlk.scoreRow (b : RouteBlk) : Nat := 64 * ceilDiv (b.experts * b.scoreBytes) 64
/-- Bytes of a token row. -/
def RouteBlk.rowBytes (b : RouteBlk) : Nat := 64 * b.rowLines

/-- A reserved bit, a value out of range or a misaligned address in the block's words (R107). -/
def RouteBlk.valid (b : RouteBlk) (w : List W64) : Bool :=
  fld (w.getD 0 0) 63 60 == 0 && fld (w.getD 1 0) 63 60 == 0 && fld (w.getD 2 0) 63 28 == 0 && fld (w.getD 2 0) 7 6 == 0
    && (w.drop 3).all (· == 0) && decide (1 ≤ b.rowLines ∧ b.rowLines ≤ 64) && decide (b.capMode ≤ 1) && decide (b.norm ≤ 2)
    && decide (1 ≤ b.k ∧ b.k ≤ 8) && decide (1 ≤ b.experts ∧ b.experts ≤ 256 ∧ b.k ≤ b.experts)
    && decide (1 ≤ b.tokens ∧ b.tokens ≤ 1024) && decide (b.scoreFmt.toNat ≤ 1) && decide (b.fillAddr % 2 = 0)
    && decide (b.scoreAddr % 64 = 0 ∧ b.recordAddr % 64 = 0 ∧ b.rowsAddr % 64 = 0 ∧ b.tableAddr % 64 = 0)

/-- The extents of scores, rows, records, fill counts and table stay inside the store (R107). -/
def RouteBlk.inStore (b : RouteBlk) : Bool :=
  decide (b.scoreAddr + b.tokens * b.scoreRow ≤ storeSize ∧ b.rowsAddr + b.tokens * b.rowBytes ≤ storeSize
    ∧ b.recordAddr + b.tokens * 64 ≤ storeSize ∧ b.fillAddr + 2 * b.experts ≤ storeSize
    ∧ b.tableAddr + 16 * b.experts ≤ storeSize)

/-- An entry of the expert table (R107). -/
structure Expert where
  dest : Nat
  isLocal : Bool
  buf : Nat
  cap : Nat
  base : Nat
  cnt : Nat
  reserved : Bool
  deriving DecidableEq, Repr

/-- Entry e of the expert table (R107). -/
def RouteBlk.expert (b : RouteBlk) (st : Memory) (e : Nat) : Expert :=
  let w := wordsOf 2 (Memory.bytes st (b.tableAddr + 16 * e) 16)
  let w0 := w.getD 0 0
  let w1 := w.getD 1 0
  { dest := fld w0 63 48, isLocal := bit w0 45, buf := fld w0 44 0, cap := fld w1 63 48, base := fld w1 47 32, cnt := fld w1 28 24
    reserved := fld w0 47 46 != 0 || fld w1 31 29 != 0 || fld w1 23 0 != 0 }

/-- The fault that the expert table raises, the lower code first (R107, R126). -/
def RouteBlk.tableFault (b : RouteBlk) (st : Memory) : Option Cause :=
  let es := (List.range b.experts).map (b.expert st)
  if es.any fun x => x.isLocal && decide (0 < x.cap) && decide (storeSize < x.buf + (x.base + x.cap) * b.rowBytes) then some .storeRange
  else if es.any fun x => x.reserved || (x.isLocal && x.buf % 64 != 0) then some .invalidBlock
  else none

/-- Score of expert e for token t as a binary32 word, BF16 widened exactly (R109). -/
def RouteBlk.score (b : RouteBlk) (st : Memory) (t e : Nat) : W32 :=
  let k := b.scoreBytes
  let v := ofBytes (Memory.bytes st (b.scoreAddr + t * b.scoreRow + k * e) k)
  BitVec.ofNat 32 (if b.scoreFmt = 0 then v else v * 2 ^ 16)

/-- Put an expert into a ranking after every score that is not lower (R108). -/
def rankInsert (e : Nat) (r : Int) : List (Nat × Int) → List (Nat × Int)
  | [] => [(e, r)]
  | x :: xs => if x.2 < r then (e, r) :: x :: xs else x :: rankInsert e r xs

/-- The experts of a token by score, highest first, equal scores by lower index (R108). -/
def ranking (sc : List W32) : List Nat :=
  (sc.zipIdx.foldl (fun l (w, e) => rankInsert e (dec32 w).rank l) []).map Prod.fst

/-- exp (s − smax) with the flags of its two roundings (R109). -/
def expOf (s smax : W32) : FRes :=
  let d := f32.addV .rne (dec32 s) (dec32 smax).neg
  let x := f32.expR .rne (BitVec.ofNat 32 d.1) (decodeF f32 d.1)
  (x.1, d.2 ||| x.2)

/-- The weights of a token's choices and the flags that they set (R109). -/
def weights (norm : Nat) (sc : List W32) (order : List Nat) (k : Nat) : List W32 × W64 :=
  let pick := order.take k
  let at_ := fun e => sc.getD e 0
  if norm = 0 then (pick.map at_, 0)
  else
    let smax := at_ (order.headD 0)
    let among := if norm = 1 then List.range sc.length else pick
    let xs := among.map fun e => expOf (at_ e) smax
    let tot := xs.foldl (fun (a : FRes) x =>
      let r := f32.addV .rne (decodeF f32 a.1) (decodeF f32 x.1)
      (r.1, a.2 ||| x.2 ||| r.2)) (0, 0)
    let ws := pick.map fun e =>
      let x := expOf (at_ e) smax
      let q := f32.divR .rne (decodeF f32 x.1) (decodeF f32 tot.1)
      (w32 q, x.2 ||| q.2)
    (ws.map Prod.fst, ws.foldl (fun m w => m ||| w.2) tot.2)

/-- A token before capacity: poisoned, or its ranking and weights (R108, R109). -/
structure Token where
  order : List Nat
  wts : List W32
  poisoned : Bool
  flags : W64
  deriving DecidableEq, Repr

/-- Token t (R108, R109). -/
def RouteBlk.token (b : RouteBlk) (st : Memory) (t : Nat) : Token :=
  let sc := (List.range b.experts).map (b.score st t)
  if sc.any fun w => (dec32 w).isNaN then ⟨[], [], true, Flag.invalid⟩
  else
    let o := ranking sc
    let (ws, fl) := weights b.norm sc o b.k
    ⟨o, ws, false, fl⟩

/-- A record entry (R110). -/
def routeEntry (spilled : Bool) (e slot : Nat) (w : W32) : W64 :=
  BitVec.ofNat 64 (b2n spilled * 2 ^ 63 + e % 256 * 2 ^ 48 + slot % 2 ^ 16 * 2 ^ 32 + w.toNat)

/-- What capacity assignment has done: fill counts, per token the experts named and the entries so far, moves (token, expert,
slot), and the three counts of CORE.ROUTE_STAT. -/
structure Assign where
  fill : List Nat
  named : List (List Nat)
  recs : List (List W64)
  moves : List (Nat × Nat × Nat)
  assigned : Nat
  drops : Nat
  spills : Nat
  deriving DecidableEq, Repr

/-- Append to one of a list of lists. -/
def addTo {α : Type} (ls : List (List α)) (t : Nat) (x : α) : List (List α) := ls.set t (ls.getD t [] ++ [x])

/-- The choice of rank i of token t (R110). -/
def RouteBlk.choose (b : RouteBlk) (es : List Expert) (toks : List Token) (i t : Nat) (a : Assign) : Assign :=
  let tok := toks.getD t ⟨[], [], true, 0⟩
  let free := fun e => decide (a.fill.getD e 0 < (es.getD e ⟨0, false, 0, 0, 0, 0, false⟩).cap)
  if tok.poisoned then { a with recs := addTo a.recs t (routeEntry false 0 0xFFFF 0x7FC00000) }
  else
    let e := tok.order.getD i 0
    let w := tok.wts.getD i 0
    let spill := if b.capMode = 1 then
        ((tok.order.take (min (2 * b.k) b.experts)).drop b.k).find? fun x => !(a.named.getD t []).contains x && free x
      else none
    match (if free e then some (e, false) else spill.map fun x => (x, true)) with
    | some (x, sp) =>
      let j := a.fill.getD x 0
      { fill := a.fill.set x (j + 1), named := addTo a.named t x, recs := addTo a.recs t (routeEntry sp x j w)
        moves := a.moves ++ [(t, x, j)], assigned := a.assigned + 1, drops := a.drops, spills := a.spills + b2n sp }
    | none => { a with named := addTo a.named t e, recs := addTo a.recs t (routeEntry false e 0xFFFF 0), drops := a.drops + 1 }

/-- Capacity in rank-major order (R110). -/
def RouteBlk.assign (b : RouteBlk) (es : List Expert) (toks : List Token) : Assign :=
  (List.range b.k).foldl (fun a i => (List.range b.tokens).foldl (fun a t => b.choose es toks i t a) a)
    ⟨List.replicate b.experts 0, List.replicate b.tokens [], List.replicate b.tokens [], [], 0, 0, 0⟩

/-- A whole routing: the store with records, fill counts and local rows, the remote copies as (row, endpoint, remote address,
counter), flags and counts (R107 to R111). -/
structure RouteOut where
  store : Memory
  copies : List (Nat × Nat × Nat × Nat)
  flags : W64
  assigned : Nat
  drops : Nat
  spills : Nat
  deriving DecidableEq, Repr

/-- Run a routing on the store (R108 to R111). -/
def RouteBlk.run (b : RouteBlk) (st : Memory) : RouteOut :=
  let es := (List.range b.experts).map (b.expert st)
  let toks := (List.range b.tokens).map (b.token st)
  let a := b.assign es toks
  let pad := List.replicate (8 - b.k) (routeEntry false 0 0xFFFF 0)
  let st := (List.range b.tokens).foldl (fun st t =>
    Memory.write st (b.recordAddr + 64 * t) (bytesOf (a.recs.getD t [] ++ pad))) st
  let st := Memory.write st b.fillAddr (a.fill.flatMap fun n => toBytes 2 n)
  let slotAt := fun (x : Expert) (j : Nat) => x.buf + (x.base + j) * b.rowBytes
  let ex := fun e => es.getD e ⟨0, false, 0, 0, 0, 0, false⟩
  let st := a.moves.foldl (fun st (t, e, j) =>
    if (ex e).isLocal then Memory.write st (slotAt (ex e) j) (Memory.bytes st (b.rowsAddr + t * b.rowBytes) b.rowBytes) else st) st
  { store := st
    copies := (a.moves.filter fun m => !(ex m.2.1).isLocal).map fun (t, e, j) =>
      (b.rowsAddr + t * b.rowBytes, (ex e).dest, slotAt (ex e) j % 2 ^ 45, (ex e).cnt)
    flags := toks.foldl (fun m t => m ||| t.flags) 0
    assigned := a.assigned, drops := a.drops, spills := a.spills }

end Sys2Proof.Machine
end

