-- ==== Sys2Proof/Machine/RackOps.lean ====
section
/-! DEFINITION. What remote operations do to the bytes of a granule (R226, R242, R244, R250). -/
namespace Sys2Proof.Machine

/-- Bytes of an atomic's operand by packet type (R226, R256). -/
def atomicBytes (t : Nat) : Nat := if t % 2 = 1 ∧ t ≠ 0x0B then 8 else 4

/-- The value that an atomic leaves (R226): type, old value, operand and compare value. -/
def atomicNew (t old x cmp : Nat) : Nat :=
  let w := 8 * atomicBytes t
  let smin := fun (a b : Nat) => if signed w a < signed w b then a else b
  match t with
  | 0x08 => (old + x) % 2 ^ 32
  | 0x09 => (old + x) % 2 ^ 64
  | 0x0A => (f32.addV .rne (decodeF f32 old) (decodeF f32 x)).1
  | 0x0B =>
    (bf16.addV .rne (decodeF bf16 (old % 2 ^ 16)) (decodeF bf16 (x % 2 ^ 16))).1
      + (bf16.addV .rne (decodeF bf16 (old / 2 ^ 16 % 2 ^ 16)) (decodeF bf16 (x / 2 ^ 16 % 2 ^ 16))).1 * 2 ^ 16
  | 0x0C => x
  | 0x0D => x
  | 0x0E => if old = cmp then x else old
  | 0x0F => if old = cmp then x else old
  | 0x10 => smin old x
  | 0x11 => smin old x
  | 0x12 => if smin old x = old then x else old
  | 0x13 => if smin old x = old then x else old
  | 0x14 => old &&& x
  | 0x15 => old &&& x
  | 0x16 => old ||| x
  | 0x17 => old ||| x
  | 0x18 => old ^^^ x
  | _ => old ^^^ x

/-- A slice of a byte list replaced from a position. -/
def spliceBytes (bs : List Byte) (at_ : Nat) (xs : List Byte) : List Byte := bs.take at_ ++ xs ++ bs.drop (at_ + xs.length)

/-- An atomic on the bytes of a granule (R226). -/
def atomicOn (t at_ : Nat) (x cmp : W64) (bs : List Byte) : List Byte :=
  let n := atomicBytes t
  let m := 2 ^ (8 * n)
  spliceBytes bs at_ (toBytes n (atomicNew t (ofBytes ((bs.drop at_).take n)) (x.toNat % m) (cmp.toNat % m)))

/-- One element of a reduce-on-write: destination, source (R242). -/
def reduceElem (rop : BitVec 2) (fmt : BitVec 6) (d s : Nat) : Nat :=
  if rop = 0 then (addElem fmt d s).1
  else if fmt = 8 then
    let lt := decide (signed 32 s < signed 32 d)
    if (rop == 1) == lt then s else d
  else
    let f := if fmt = 1 then bf16 else f32
    (f.minMax (rop != 1) (decodeF f d) (decodeF f s)).1

/-- A reduce-on-write of n elements (R242). -/
def reduceOn (rop : BitVec 2) (fmt : BitVec 6) : Nat → List Byte → List Byte → List Byte
  | 0, _, _ => []
  | n + 1, ds, ss =>
    let k := elemBytes fmt
    toBytes k (reduceElem rop fmt (ofBytes (ds.take k)) (ofBytes (ss.take k))) ++ reduceOn rop fmt n (ds.drop k) (ss.drop k)

/-- Double an element of GF(2^8) with the polynomial of R194. -/
def gfDouble (x : Nat) : Nat := if 128 ≤ x then (2 * x) ^^^ 0x11D else 2 * x

/-- Product in GF(2^8), over the low `n` bits of b (R194, R250). -/
def gfMulFrom : Nat → Nat → Nat → Nat
  | 0, _, _ => 0
  | n + 1, a, b => (if b % 2 = 1 then a else 0) ^^^ gfMulFrom n (gfDouble a) (b / 2)

/-- Product in GF(2^8) (R194, R250). -/
def gfMul (a b : Nat) : Nat := gfMulFrom 8 a b

/-- GFXOR of source bytes into destination bytes (R242). -/
def gfxorOn (coef : Byte) (ds ss : List Byte) : List Byte :=
  List.zipWith (fun d s => d ^^^ BitVec.ofNat 8 (gfMul coef.toNat s.toNat)) ds ss

/-- 64 zero bytes. -/
def zeroGranule : List Byte := List.replicate 64 0

end Sys2Proof.Machine
end

