-- ==== Sys2Proof/Machine/Packet.lean ====
section
/-! DEFINITION. Qortin fabric packets and link frames (R222, R255 to R259): header fields, header check, sizes, and what is reserved. -/
namespace Sys2Proof.Machine

/-! ### Header fields (R255) -/

/-- DEST_EID. -/
def qDest (q : Packet) : Nat := fld q.w0 63 48
/-- SRC_EID. -/
def qSrc (q : Packet) : Nat := fld q.w0 47 32
/-- JOB_TAG. -/
def qTag (q : Packet) : Nat := fld q.w0 31 20
/-- TYPE. -/
def qType (q : Packet) : Nat := fld q.w0 19 14
/-- ARG. -/
def qArg (q : Packet) : Nat := fld q.w0 13 6
/-- TRAV. -/
def qTrav (q : Packet) : Nat := fld q.w0 5 0
/-- SEQ. -/
def qSeq (q : Packet) : Nat := fld q.w1 63 40
/-- ACK_SEQ. -/
def qAckSeq (q : Packet) : Nat := fld q.w1 39 24
/-- ACK_VALID. -/
def qAckValid (q : Packet) : Bool := bit q.w1 23
/-- SYNC. -/
def qSync (q : Packet) : Bool := bit q.w1 22
/-- RETRY. -/
def qRetry (q : Packet) : Bool := bit q.w1 21
/-- SCHED. -/
def qSched (q : Packet) : Bool := bit q.w1 20
/-- LAST. -/
def qLast (q : Packet) : Bool := bit q.w1 18
/-- SIGNAL. -/
def qSignal (q : Packet) : Bool := bit q.w1 17
/-- DST_CNT. -/
def qDstCnt (q : Packet) : Nat := fld q.w1 16 12
/-- STREAM. -/
def qStream (q : Packet) : Nat := fld q.w1 11 0
/-- INJ_TS. -/
def qTs (q : Packet) : Nat := fld q.w2 63 16
/-- LENGTH. -/
def qLen (q : Packet) : Nat := fld q.w3 63 55
/-- ZMASK. -/
def qZmask (q : Packet) : Nat := fld q.w3 54 51
/-- PMASK. -/
def qPmask (q : Packet) : Nat := fld q.w3 50 47
/-- REMOTE_ADDR. -/
def qAddr (q : Packet) : Nat := fld q.w3 44 0

/-- Field [hi:lo] of header word 1 replaced. -/
def qPut1 (q : Packet) (hi lo v : Nat) : Packet := { q with w1 := setFld q.w1 hi lo v }

/-- The header check (R258): over the header with HCRC, TRAV, DETOUR and SCHED zero. -/
def qCheck (q : Packet) : Nat :=
  crc16 (bytesOf [q.w0 &&& ~~~ maskOf 5 0, q.w1 &&& ~~~ maskOf 20 19, q.w2 &&& ~~~ maskOf 15 0, q.w3])

/-- A packet with its header check in place. -/
def qSeal (q : Packet) : Packet := { q with w2 := setFld q.w2 15 0 (qCheck q) }

/-- The header check holds. -/
def qIntact (q : Packet) : Bool := decide (fld q.w2 15 0 = qCheck q)

/-- A packet before its injection: no sequence, flag, acknowledgement or timestamp. -/
def qMake (dest src tag type arg seq len addr : Nat) (payload : List Byte) : Packet :=
  { w0 := BitVec.ofNat 64 (dest % 2 ^ 16 * 2 ^ 48 + src % 2 ^ 16 * 2 ^ 32 + tag % 2 ^ 12 * 2 ^ 20 + type % 2 ^ 6 * 2 ^ 14
      + arg % 2 ^ 8 * 2 ^ 6)
    w1 := BitVec.ofNat 64 (seq % 2 ^ 24 * 2 ^ 40)
    w2 := 0
    w3 := BitVec.ofNat 64 (len % 2 ^ 9 * 2 ^ 55 + addr % 2 ^ 45)
    payload := payload }

/-! ### Types (R256) -/

/-- A load. -/
def isLoad (t : Nat) : Bool := t == 1 || t == 2
/-- A store. -/
def isStore (t : Nat) : Bool := t == 3 || t == 4
/-- An atomic. -/
def isAtomic (t : Nat) : Bool := decide (0x08 ≤ t ∧ t ≤ 0x19)
/-- A load or an atomic: it is answered by a reply (R227). -/
def hasReply (t : Nat) : Bool := isLoad t || isAtomic t
/-- A copy packet: WRITE, REDUCE, GFXOR or READ_REQ. -/
def isCopy (t : Nat) : Bool := decide (0x20 ≤ t ∧ t ≤ 0x23)
/-- The reply class: TYPE[5:4] = 0b11. -/
def isReplyClass (t : Nat) : Bool := decide (0x30 ≤ t)
/-- A request packet that takes a sequence of its pair (R229). -/
def isRequest (t : Nat) : Bool := hasReply t || isStore t || isCopy t
/-- The types with granules. -/
def hasGranules (t : Nat) : Bool := isCopy t || t == 0x33

/-- Bytes that a load, store or atomic accesses. -/
def accessBytes (t : Nat) : Nat := if isAtomic t then atomicBytes t else if t % 2 = 0 then 8 else 4

/-- Ones of a small number. -/
def popcount (n w : Nat) : Nat := (List.range w).foldl (fun k i => k + n / 2 ^ i % 2) 0

/-- Payload bytes that a well-formed packet of a type has. -/
def payloadBytes (q : Packet) : Nat :=
  let t := qType q
  if isLoad t || t == 0x23 || t == 0x31 || t == 0x32 then 0
  else if isStore t then accessBytes t
  else if isAtomic t then (if t = 0x0E ∨ t = 0x0F then 2 else 1) * accessBytes t
  else if hasGranules t then qLen q - 64 * popcount (qZmask q) 4
  else if t = 0x30 then (if qLen q = 8 then 8 else 4)
  else q.payload.length

/-- Reserved values and bits of the header are absent (R13, R222, R242, R255, R256). -/
def qValid (q : Packet) : Bool :=
  let t := qType q
  let arg := qArg q
  let argOk :=
    if t = 0x21 then decide (arg / 64 < 3) && (arg % 64 == 0 || arg % 64 == 1 || arg % 64 == 8)
    else if t = 0x22 then true
    else if t = 0x31 then decide (1 ≤ arg ∧ arg ≤ 7)
    else arg == 0
  let lenOk := if hasGranules t then qLen q % 64 == 0 && decide (64 ≤ qLen q ∧ qLen q ≤ 256) && decide (qZmask q < 2 ^ (qLen q / 64))
    else if t = 0x30 then qLen q == 4 || qLen q == 8
    else decide (qLen q ≤ 256)
  let a := qAddr q
  let addrOk := if isReplyClass t then a == 0
    else if isRequest t then fieldOf a 43 40 == 0 && (fieldOf a 44 44 == 0 || fieldOf a 39 32 == 0) else true
  (isRequest t || t == 0x24 || decide (0x30 ≤ t ∧ t ≤ 0x33)) && argOk && lenOk && addrOk && fld q.w3 46 45 == 0
    && q.payload.length == payloadBytes q

/-- The granules of a packet, each with its bytes, its zero mark and its poison mark (R244, R248, R256). -/
def qGranules (q : Packet) : List (List Byte × Bool × Bool) :=
  (List.range (qLen q / 64)).map fun g =>
    let z := qZmask q / 2 ^ g % 2 = 1
    let at_ := 64 * (g - popcount (qZmask q) g)
    (if z then zeroGranule else (q.payload.drop at_).take 64, decide z, decide (qPmask q / 2 ^ g % 2 = 1))

/-! ### What a request addresses (R222) -/

/-- Bytes that a request accesses. -/
def qExtent (q : Packet) : Nat := if isCopy (qType q) then qLen q else accessBytes (qType q)

/-- A SPACE 1 address. -/
def qInStore (q : Packet) : Bool := decide (fieldOf (qAddr q) 44 44 = 1)
/-- The core of a SPACE 1 address. -/
def qCore (q : Packet) : Nat := fieldOf (qAddr q) 31 20
/-- The store address of a SPACE 1 address. -/
def qStore (q : Packet) : Nat := fieldOf (qAddr q) 19 0
/-- The module offset of a SPACE 0 address. -/
def qOff (q : Packet) : Nat := fieldOf (qAddr q) 39 0

/-- The granules of a request in module memory. -/
def qOffsets (q : Packet) : List Nat :=
  (List.range ((qOff q + qExtent q - 1) / 64 - qOff q / 64 + 1)).map fun i => qOff q / 64 * 64 + 64 * i

/-- Bytes of a request on a die-to-die link: its header and its payload (log 123). -/
def linkBytes (q : Packet) : Nat := 32 + q.payload.length

/-- Bytes of the reply that a request brings back over a die-to-die link (R207, log 123). -/
def replyBytes (q : Packet) : Nat := if hasReply (qType q) then 40 else if qType q = 0x23 then 32 + qLen q else 0

/-- A request that is performed without an effect: its die went before it was performed (R202). It still takes its place in the
sequence of its pair. -/
def qVoid (q : Packet) : Packet := { q with w0 := setFld q.w0 19 14 0x32 }

/-- A packet whose bits a parity error hit (R210): the poison value of a reply, or POISON on each granule. -/
def qPoison (q : Packet) : Packet :=
  let p := setFld q.w3 50 47 (if hasGranules (qType q) then 2 ^ (qLen q / 64) - 1 else 1)
  qSeal { q with w3 := p, payload := if qType q = 0x30 then List.replicate q.payload.length 0xFF else q.payload }

/-! ### Frames (R259) -/

/-- Flits of a frame with a body of so many bytes. -/
def flitsOf (body : Nat) : Nat := ceilDiv (8 + body + 4) 32

/-- Flits of a packet's DATA frame. -/
def qFlits (q : Packet) : Nat := flitsOf (32 + q.payload.length)

/-- The frame's check: CRC-32C over prefix, body and padding. -/
def frameCrc (pfx : W64) (body : List Byte) : W32 :=
  let bs := toBytes 8 pfx.toNat ++ body
  BitVec.ofNat 32 (crc32c (bs ++ List.replicate (32 * flitsOf body.length - 4 - bs.length) 0))

/-- The body of a DATA frame. -/
def qBytes (q : Packet) : List Byte := bytesOf [q.w0, q.w1, q.w2, q.w3] ++ q.payload

/-- The empty packet of a frame without one. -/
def noPacket : Packet := { w0 := 0, w1 := 0, w2 := 0, w3 := 0, payload := [] }

/-- FTYPE. -/
def fType (f : Frame) : Nat := fld f.pfx 63 60
/-- FLITS. -/
def fFlits (f : Frame) : Nat := fld f.pfx 59 56
/-- FSEQ. -/
def fSeq (f : Frame) : Nat := fld f.pfx 55 40
/-- FACK. -/
def fAck (f : Frame) : Nat := fld f.pfx 39 24

/-- The body of a frame that is not CONTROL. -/
def fBody (f : Frame) : List Byte := if fType f = 1 then qBytes f.q else []

/-- A codeword corrects up to 8 symbol errors (R292). -/
def cwBad (e : Nat) : Bool := decide (8 < e)

/-- Every codeword that the frame touches is good (R292). -/
def frameClean (f : Frame) : Bool := !f.errs.any cwBad && !f.tail
/-- Every codeword that the frame touches is good (R292). -/
def ctlClean (f : CtlFrame) : Bool := !f.errs.any cwBad && !f.tail

/-- The frame passes its CRC. -/
def fIntact (f : Frame) : Bool := f.crc == frameCrc f.pfx (fBody f)

/-- Reserved values of the prefix are absent (R13, R259). -/
def fValid (f : Frame) : Bool :=
  decide (fType f < 4) && fFlits f == flitsOf (fBody f).length && fld f.pfx 23 0 == 0 && (fType f == 1 || fSeq f == 0)

/-- A frame as sent. -/
def frameOf (type fseq fack : Nat) (q : Packet) : Frame :=
  let body := if type = 1 then qBytes q else []
  let pfx := BitVec.ofNat 64 (type * 2 ^ 60 + flitsOf body.length * 2 ^ 56 + fseq % 2 ^ 16 * 2 ^ 40 + fack % 2 ^ 16 * 2 ^ 24)
  { pfx := pfx, q := if type = 1 then q else noPacket, crc := frameCrc pfx body, errs := [] }

/-! ### CONTROL frames (R259) -/

/-- The bytes of a CONTROL frame's body. -/
def cfBytes (f : CtlFrame) : List Byte := bytesOf [f.body.w0, f.body.w1, f.body.w2, f.body.w3]

/-- CTYPE. -/
def cfType (f : CtlFrame) : Nat := fld f.pfx 23 20
/-- FACK. -/
def cfAck (f : CtlFrame) : Nat := fld f.pfx 39 24

/-- The frame passes its CRC. -/
def cfIntact (f : CtlFrame) : Bool := f.crc == frameCrc f.pfx (cfBytes f)

/-- Reserved values of the prefix are absent (R13, R259). -/
def cfValid (f : CtlFrame) : Bool :=
  fld f.pfx 63 60 == 2 && fld f.pfx 59 56 == 2 && fld f.pfx 55 40 == 0 && decide (cfType f < 2) && fld f.pfx 19 0 == 0

/-- A CONTROL frame as sent. -/
def ctlFrameOf (ctype fack : Nat) (b : Words4) : CtlFrame :=
  let pfx := BitVec.ofNat 64 (2 * 2 ^ 60 + 2 * 2 ^ 56 + fack % 2 ^ 16 * 2 ^ 24 + ctype * 2 ^ 20)
  { pfx := pfx, body := b, crc := frameCrc pfx (bytesOf [b.w0, b.w1, b.w2, b.w3]), errs := [] }

/-! ### Age (R40, R41) -/

/-- Signed difference of two 48-bit timestamps (R41). -/
def age48 (newer older : Nat) : Int := signed 48 ((newer + 2 ^ 48 - older % 2 ^ 48) % 2 ^ 48)

/-- The 64-bit value nearest a counter with these low 48 bits (R40); of two equally near ones the later (DESIGN CHOICE, log 109). -/
def widen48 (now : W64) (ts : Nat) : W64 := now - BitVec.ofInt 64 (age48 now.toNat ts)

/-- A packet's age has reached 20 µs (R274). -/
def State.tooOld (s : State) (q : Packet) : Bool := decide (40000 ≤ age48 s.now.toNat (qTs q))

/-- A packet as injected now (R40, R258). -/
def State.stamp (s : State) (q : Packet) : Packet := qSeal { q with w2 := BitVec.ofNat 64 (s.now.toNat % 2 ^ 48 * 2 ^ 16) }

end Sys2Proof.Machine
end

