-- ==== Sys2Proof/Machine/TopoView.lean ====
section
/-! DEFINITION. What the active configuration says: endpoints, tags, grants, streams and slices (R223, R276, R320), read from the items in
force. -/
namespace Sys2Proof.Machine

/-- A word of an entry. -/
def entryWord (e : List W64) (i : Nat) : W64 := e.getD i 0

/-- The entries of a record type among the items in force (R320). -/
def State.entries (s : State) (rtype : Nat) : List (List W64) :=
  ((Tab.vals s.topo.items).flatten.filter fun e => e.1 == rtype).map Prod.snd

/-- A position [p0, p1, p2] (R253). -/
abbrev Position := Nat × Nat × Nat

/-- The coordinate of a position in a dimension. -/
def coord (p : Position) (d : Nat) : Nat := if d = 0 then p.1 else if d = 1 then p.2.1 else p.2.2

/-- EID of a MODULE or EXTERNAL entry. -/
def entryEid (e : List W64) : Nat := fld (entryWord e 0) 63 48

/-- The position of a MODULE entry. -/
def entryPos (e : List W64) : Position :=
  (fld (entryWord e 0) 4 0, fld (entryWord e 0) 9 5, fld (entryWord e 0) 14 10)

/-- The MODULE entry of an EID. -/
def State.moduleEntry (s : State) (eid : Nat) : Option (List W64) := (s.entries 0x0001).find? fun e => entryEid e == eid

/-- The position of a module (R223). -/
def State.posOfEid (s : State) (eid : Nat) : Option Position := (s.moduleEntry eid).map entryPos

/-- The module's own position. -/
def State.ownPos (s : State) : Option Position := if s.topo.ownEid = 0xFFFF then none else s.posOfEid s.topo.ownEid

/-- The module at a position. -/
def State.eidAt (s : State) (p : Position) : Option Nat :=
  ((s.entries 0x0001).find? fun e => decide (entryPos e = p)).map entryEid

/-- The port that reaches an external endpoint (R223). -/
def State.externalPort (s : State) (eid : Nat) : Option Nat :=
  ((s.entries 0x0002).find? fun e => entryEid e == eid).map fun e => fld (entryWord e 0) 47 41

/-- An endpoint that may be sent to (R223). -/
def State.knownEid (s : State) (eid : Nat) : Bool :=
  decide (eid < 0xFFF0) && ((s.moduleEntry eid).isSome || (s.externalPort eid).isSome)

/-- Entry x of the rack table: the module at [x, p1, p2] (R223). -/
def State.rackEid (s : State) (x : Nat) : Option Nat := s.ownPos.bind fun p => s.eidAt (x, p.2)

/-- An endpoint in the module's rack (R224). -/
def State.inRack (s : State) (eid : Nat) : Bool :=
  match s.posOfEid eid, s.ownPos with
  | some a, some b => decide (a.2 = b.2)
  | _, _ => false

/-- The partition that a job tag is mapped to (R224); tag 0 belongs to none (R276). -/
def State.tagPart (s : State) (tag : Nat) : Option Nat :=
  if tag = 0 then none
  else ((s.entries 0x0010).find? fun e => fld (entryWord e 0) 59 48 == tag).map fun e => fld (entryWord e 0) 63 60

/-- The job tag of a partition; 0 where it has none. -/
def State.partTag (s : State) (k : Nat) : Nat :=
  (((s.entries 0x0010).find? fun e => fld (entryWord e 0) 63 60 == k).map fun e => fld (entryWord e 0) 59 48).getD 0

/-- The ranges of module offsets granted to a partition: first byte and end. -/
def State.grants (s : State) (k : Nat) : List (Nat × Nat) :=
  ((s.entries 0x0012).filter fun e => fld (entryWord e 0) 63 60 == k).map fun e =>
    (fld (entryWord e 0) 39 0, fld (entryWord e 0) 39 0 + fld (entryWord e 1) 39 0)

/-- A span lies in ranges taken together, with at most `n` ranges in its way (R224). -/
def spanCovered (l : List (Nat × Nat)) : Nat → Nat → Nat → Bool
  | 0, lo, hi => decide (hi ≤ lo)
  | n + 1, lo, hi =>
    decide (hi ≤ lo) || match l.find? fun r => decide (r.1 ≤ lo ∧ lo < r.2) with
      | some r => spanCovered l n r.2 hi
      | none => false

/-- Every byte of an extent is granted to a partition (R224). -/
def State.granted (s : State) (k off len : Nat) : Bool := spanCovered (s.grants k) 17 off (off + len)

/-- The partition that a scheduled stream is granted to (R263). -/
def State.streamPart (s : State) (stream : Nat) : Option Nat :=
  ((s.entries 0x0042).find? fun e => fld (entryWord e 0) 63 52 == stream).map fun e => fld (entryWord e 0) 51 48

/-- A SLICE entry admits a position. -/
def admits (e : List W64) (p : Position) : Bool :=
  bit (entryWord e 1) p.1 && bit (entryWord e 1) (32 + p.2.1) && bit (entryWord e 2) p.2.2

/-- A module is allowed for a tag: its position lies in the slice or in a transit grant (R276). -/
def State.allowedAt (s : State) (tag : Nat) (p : Position) : Bool :=
  tag == 0 || (s.entries 0x0003).any fun e => fld (entryWord e 0) 63 52 == tag && admits e p

/-! ### Ports (R253) -/

/-- The dimension of a port. -/
def portDim (p : Nat) : Nat := p / 31

/-- The coordinate that port p leads to from coordinate c of its dimension. -/
def portCoord (c p : Nat) : Nat := let j := p % 31; if j < c then j else j + 1

/-- The port from coordinate c to coordinate x of dimension d. -/
def portTo (d c x : Nat) : Nat := 31 * d + (if x < c then x else x - 1)

/-- A position with one coordinate replaced. -/
def moveTo (p : Position) (d x : Nat) : Position :=
  if d = 0 then (x, p.2) else if d = 1 then (p.1, x, p.2.2) else (p.1, p.2.1, x)

/-- The position at the far end of a port. -/
def State.farPos (s : State) (p : Nat) : Option Position :=
  s.ownPos.map fun o => moveTo o (portDim p) (portCoord (coord o (portDim p)) p)

/-- The external endpoint behind a port. -/
def State.externalAt (s : State) (p : Nat) : Option Nat :=
  ((s.entries 0x0002).find? fun e => fld (entryWord e 0) 47 41 == p).map entryEid

/-- The endpoint that the tables expect behind a port. -/
def State.farEid (s : State) (p : Nat) : Option Nat :=
  match s.externalAt p with
  | some e => some e
  | none => (s.farPos p).bind s.eidAt

/-! ### Memory of partitions -/

/-- Spans [a, b) and [c, e) share an offset. -/
def overlaps (a b c e : Nat) : Bool := decide (a < e ∧ c < b)

/-- A partition has memory on a die: in its own segments, or in an interleaved segment of any die (R179, R217). -/
def State.hasMemoryOn (s : State) (k d : Nat) : Bool :=
  (s.grants k).any fun g =>
    overlaps g.1 g.2 (d * 2 ^ 38) ((d + 1) * 2 ^ 38)
    || (List.range 64).any fun j =>
      bit (s.reg (A.memMap (j / 16))) (j % 16) && overlaps g.1 g.2 (j * 2 ^ 34) ((j + 1) * 2 ^ 34)

end Sys2Proof.Machine
end

