-- ==== Sys2Proof/Machine/RemoteCache.lean ====
section
/-! DEFINITION. The remote-data cache of each die (R214 to R216, R220). -/
namespace Sys2Proof.Machine

/-- A die's cache. -/
def State.rcDie (s : State) (d : Nat) : RcDie := Tab.get RcDie.init s.rc d
/-- The lines of a die's cache. -/
def State.rcAt (s : State) (d : Nat) : List RcLine := (s.rcDie d).lines
/-- Store the lines of a die's cache. -/
def State.setRc (s : State) (d : Nat) (l : List RcLine) : State := { s with rc := Tab.put s.rc d { s.rcDie d with lines := l } }

/-- Loads may use the cache: the core domain is up and RC_CTRL.EN is 1 (R220). -/
def State.rcOn (s : State) (d : Nat) : Bool := s.coreDom d && bit (s.reg (A.rcCtrl d)) 6

/-- The line of a granule for a partition and a home. -/
def rcIs (part gran home : Nat) (l : RcLine) : Bool := l.part == part && l.gran == gran && l.home == home

/-- The valid bits that an access of a rack address needs. -/
def rcWords (addr : Nat) (wide : Bool) : BitVec 16 := BitVec.ofNat 16 ((if wide then 3 else 1) * 2 ^ (addr % 64 / 4))

/-- A load's value where a line holds every word that it reads (R214). -/
def State.rcRead (s : State) (d part home addr : Nat) (wide : Bool) : Option Nat :=
  if !s.rcOn d then none
  else ((s.rcAt d).find? fun l => rcIs part (addr / 64) home l && l.valid &&& rcWords addr wide == rcWords addr wide).map fun l =>
    l.data.toNat / 2 ^ (8 * (addr % 64)) % 2 ^ (if wide then 64 else 32)

/-- A line with the words of an access written and valid. -/
def RcLine.withWords (l : RcLine) (addr : Nat) (wide : Bool) (v : Nat) : RcLine :=
  let w := if wide then 64 else 32
  let lo := 8 * (addr % 64)
  let mask : BitVec 512 := BitVec.ofNat 512 ((2 ^ w - 1) * 2 ^ lo)
  { l with valid := l.valid ||| rcWords addr wide, data := (l.data &&& ~~~ mask) ||| BitVec.ofNat 512 (v % 2 ^ w * 2 ^ lo) }

/-- The set of a granule: 32,768 sets (R214, log 11). -/
def rcSetOf (gran : Nat) : Nat := Config.rcSet gran % 32768

/-! The pseudo-LRU order of a set is the usual tree of 15 bits over its 16 ways (R214, log 11): bit n of nodes 1 to 15 says which half of
its ways the next victim lies in. -/

/-- The bits after a use of a way: every node on its path points away from it. -/
def lruUse (t : BitVec 16) (w : Nat) : BitVec 16 :=
  [(1, w / 8 % 2), (2 + w / 8, w / 4 % 2), (4 + w / 4, w / 2 % 2), (8 + w / 2, w % 2)].foldl (fun t (n, b) =>
    if b = 1 then t &&& ~~~ BitVec.ofNat 16 (2 ^ n) else t ||| BitVec.ofNat 16 (2 ^ n)) t

/-- The way that the bits lead to. -/
def lruVictim (t : BitVec 16) : Nat :=
  (List.range 4).foldl (fun n _ => 2 * n + b2n (t.getLsbD n)) 1 - 16

/-- A line of a set is used. -/
def State.rcUse (s : State) (d : Nat) (l : RcLine) : State :=
  let x := s.rcDie d
  let k := rcSetOf l.gran
  { s with rc := Tab.put s.rc d { x with lru := Tab.put x.lru k (lruUse (Tab.get 0 x.lru k) l.way) } }

/-- A hit uses its line (R214). -/
def State.rcHit (s : State) (d part home addr : Nat) : State :=
  match (s.rcAt d).find? (rcIs part (addr / 64) home) with
  | some l => s.rcUse d l
  | none => s

/-- The way for a new line of a set: a free one, else the one that pseudo-LRU order gives up. -/
def State.rcWay (s : State) (d gran : Nat) : Nat :=
  let k := rcSetOf gran
  let used := ((s.rcAt d).filter fun x => rcSetOf x.gran == k).map RcLine.way
  ((List.range 16).find? fun w => !used.contains w).getD (lruVictim (Tab.get 0 (s.rcDie d).lru k))

/-- A fill of the words read (R214): into the matching line, else into a new one in the way that `rcWay` names. -/
def State.rcFill (s : State) (d part home addr : Nat) (wide : Bool) (v : Nat) : State :=
  if !s.rcOn d then s
  else
    let l := s.rcAt d
    let gran := addr / 64
    if l.any (rcIs part gran home) then
      (s.setRc d (l.map fun x => if rcIs part gran home x then x.withWords addr wide v else x)).rcHit d part home addr
    else
      let new := RcLine.withWords ⟨part, gran, home, 0, 0, s.rcWay d gran⟩ addr wide v
      (s.setRc d (new :: l.filter fun x => !(rcSetOf x.gran == rcSetOf gran && x.way == new.way))).rcUse d new

/-- The touch concerns a line. -/
def RcTouch.hits (t : RcTouch) (part gran home : Nat) : Bool :=
  t.part.all (· == part) && t.gran.all (· == gran) && t.home.all (· == home)

/-- Something reached the line in this tick (R215 rule 6). -/
def State.rcTouched (s : State) (d part gran home : Nat) : Bool :=
  (s.rcDie d).touch.any fun (t : RcTouch) => t.at_ == s.clk && t.hits part gran home

/-- A store, atomic or invalidation reaches lines (R215 rule 6): the fills of the loads in flight for them are not installed, and those
of loads that issue in this tick will not be. -/
def State.rcSpoil (s : State) (d : Nat) (part gran home : Option Nat) : State :=
  let t : RcTouch := ⟨s.clk, part, gran, home⟩
  let x := s.rcDie d
  let spoil := fun (r : Remote) => if t.hits r.part (r.addr / 64) r.home then { r with noFill := true } else r
  { s with
    rc := Tab.put s.rc d { x with touch := t :: x.touch.filter fun (y : RcTouch) => y.at_ == s.clk && y != t }
    core := s.core.map fun e => if dieOf e.1 = d then (e.1, { e.2 with rem := e.2.rem.map spoil }) else e }

/-- Rule 2 of R215: a store of a core of the die writes through into a line of its partition. -/
def State.rcStore (s : State) (d part home addr : Nat) (wide : Bool) (v : Nat) : State :=
  (s.setRc d ((s.rcAt d).map fun l => if rcIs part (addr / 64) home l then l.withWords addr wide v else l)).rcSpoil d
    (some part) (some (addr / 64)) none

/-- Lines of a partition with a granule are removed (R215 rules 3 and 4): of one home, or of any. -/
def State.rcDropGran (s : State) (d part gran : Nat) (home : Option Nat) : State :=
  (s.setRc d ((s.rcAt d).filter fun l => !(l.part == part && l.gran == gran && (home.all fun h => l.home == h)))).rcSpoil d
    (some part) (some gran) none

/-- An invalidation by partition (R216). -/
def State.rcDropPart (s : State) (d part : Nat) : State :=
  (s.setRc d ((s.rcAt d).filter fun l => l.part != part)).rcSpoil d (some part) none none

/-- An invalidation by home die (R216). -/
def State.rcDropHome (s : State) (d home : Nat) : State :=
  (s.setRc d ((s.rcAt d).filter fun l => l.home != home)).rcSpoil d none none (some home)

/-- An entire invalidation (R216). -/
def State.rcDropAll (s : State) (d : Nat) : State := (s.setRc d []).rcSpoil d none none none

/-- A write to D2D.RC_CTRL (R216, R220): EN, INV_ALL, INV_PART; ignored while the core domain is down. -/
def State.writeRcCtrl (s : State) (d : Nat) (v : W64) : State :=
  if !s.coreDom d then s
  else
    let on := bit (s.reg (A.rcCtrl d)) 6
    let s := s.setReg (A.rcCtrl d) (v &&& maskOf 6 6)
    let s := if bit v 5 || (!on && bit v 6) then s.rcDropAll d else s
    if bit v 4 then s.rcDropPart d (fld v 3 0) else s

/-- INV_ALL (R216): D2D.RC_CTRL.INV_ALL written 1. -/
def execInvAll (d : Nat) (s : State) : Host.Outcome State Fault Refusal :=
  onUnit (d < 4) (if s.coreDom d then s.rcDropAll d else s)

/-- INV_PART (R216): D2D.RC_CTRL.INV_PART written 1 with a partition. -/
def execInvPart (d k : Nat) (s : State) : Host.Outcome State Fault Refusal :=
  onUnit (d < 4 ∧ k < 16) (if s.coreDom d then s.rcDropPart d k else s)

/-- RC_ENABLE (R216): a write of D2D.RC_CTRL; EN going from 0 to 1 starts an entire invalidation. -/
def execRcEnable (d : Nat) (v : W64) (s : State) : Host.Outcome State Fault Refusal :=
  onUnit (d < 4) (s.writeRcCtrl d v)

end Sys2Proof.Machine
end

