-- ==== Sys2Proof/Machine/LocalStore.lean ====
section
/-! DEFINITION. Local accesses to the core store (R92, R133). -/
namespace Sys2Proof.Machine

/-- The store address sA + IMM (R133). -/
def localAddr (c : Core) (f : IF) : Nat := (c.sreg f.a.toNat + IF.wimm f).toNat

/-- A local access of w bytes: MISALIGNED before STORE_RANGE, the lower code (R126). -/
def State.access (s : State) (n a w : Nat) (run : State) : State :=
  if a % w ≠ 0 then s.takeException n .misaligned (s.coreAt n).pc
  else if storeSize < a + w then s.takeException n .storeRange (s.coreAt n).pc
  else run

/-- Bytes of the core store as a number, least significant first (R5). -/
def Core.loadN (c : Core) (a w : Nat) : Nat := ofBytes (Memory.bytes c.store a w)

/-- Write the low w bytes of a number into the core store. -/
def Core.storeN (c : Core) (a w v : Nat) : Core := { c with store := Memory.write c.store a (toBytes w v) }

/-- sD ← w bytes, extended by `ext`. -/
def State.ldInstr (s : State) (n : Nat) (f : IF) (w : Nat) (ext : Nat → W64) : State :=
  s.runI n f .s .s true fun c =>
    s.access n (localAddr c f) w (s.done n (c.setS f.d.toNat (ext (c.loadN (localAddr c f) w))))

/-- The low w bytes of sD to the store. -/
def State.stInstr (s : State) (n : Nat) (f : IF) (w : Nat) : State :=
  s.runI n f .s .s true fun c =>
    s.access n (localAddr c f) w (s.done n (c.storeN (localAddr c f) w (c.sreg f.d.toNat).toNat))

/-- Sign extension of a number of b bits. -/
def sext (b : Nat) (v : Nat) : W64 := BitVec.ofInt 64 (signed b v)

/-- LD.B (R133). sD ← byte, sign-extended. -/
def execLdB (n : Nat) (f : IF) (s : State) : Host.Outcome State Fault Refusal :=
  onUnit (n < numCores) (s.ldInstr n f 1 (sext 8))

/-- LD.BU (R133). sD ← byte, zero-extended. -/
def execLdBu (n : Nat) (f : IF) (s : State) : Host.Outcome State Fault Refusal :=
  onUnit (n < numCores) (s.ldInstr n f 1 (BitVec.ofNat 64))

/-- LD.H (R133). sD ← 16 bits, sign-extended. -/
def execLdH (n : Nat) (f : IF) (s : State) : Host.Outcome State Fault Refusal :=
  onUnit (n < numCores) (s.ldInstr n f 2 (sext 16))

/-- LD.HU (R133). sD ← 16 bits, zero-extended. -/
def execLdHu (n : Nat) (f : IF) (s : State) : Host.Outcome State Fault Refusal :=
  onUnit (n < numCores) (s.ldInstr n f 2 (BitVec.ofNat 64))

/-- LD.W (R133). sD ← 32 bits, sign-extended. -/
def execLdW (n : Nat) (f : IF) (s : State) : Host.Outcome State Fault Refusal :=
  onUnit (n < numCores) (s.ldInstr n f 4 (sext 32))

/-- LD.WU (R133). sD ← 32 bits, zero-extended. -/
def execLdWu (n : Nat) (f : IF) (s : State) : Host.Outcome State Fault Refusal :=
  onUnit (n < numCores) (s.ldInstr n f 4 (BitVec.ofNat 64))

/-- LD.D (R133). sD ← 64 bits. -/
def execLdD (n : Nat) (f : IF) (s : State) : Host.Outcome State Fault Refusal :=
  onUnit (n < numCores) (s.ldInstr n f 8 (BitVec.ofNat 64))

/-- ST.B (R133). Low byte of sD. -/
def execStB (n : Nat) (f : IF) (s : State) : Host.Outcome State Fault Refusal :=
  onUnit (n < numCores) (s.stInstr n f 1)

/-- ST.H (R133). Low 16 bits of sD. -/
def execStH (n : Nat) (f : IF) (s : State) : Host.Outcome State Fault Refusal :=
  onUnit (n < numCores) (s.stInstr n f 2)

/-- ST.W (R133). Low 32 bits of sD. -/
def execStW (n : Nat) (f : IF) (s : State) : Host.Outcome State Fault Refusal :=
  onUnit (n < numCores) (s.stInstr n f 4)

/-- ST.D (R133). sD. -/
def execStD (n : Nat) (f : IF) (s : State) : Host.Outcome State Fault Refusal :=
  onUnit (n < numCores) (s.stInstr n f 8)

/-- Store address of lane i of a vector access. -/
def vecAddr (base i : Nat) : Nat := (base + 4 * i) % 2 ^ 64

/-- A vector access with active lanes g: alignment 64, and every byte of an active lane inside the store (R127, R133). -/
def State.vecAccess (s : State) (n base : Nat) (g : W64) (run : State) : State :=
  if base % 64 ≠ 0 then s.takeException n .misaligned (s.coreAt n).pc
  else if (List.range 64).any fun i => bit g i && decide (storeSize < vecAddr base i + 4) then
    s.takeException n .storeRange (s.coreAt n).pc
  else run

/-- A lane-wise format I instruction. -/
def State.runIV (s : State) (n : Nat) (f : IF) (run : W64 → Core → State) : State :=
  s.issue n (IF.legal f .v .s true) (IF.stalls f .v .s) fun c => s.lanewise n f.gneg f.guard c run

/-- The core with the active lanes of a vector written to its store. -/
def Core.storeLanes (c : Core) (base : Nat) (g : W64) (v : Vec) : Core :=
  (List.range 64).foldl (fun c i => if bit g i then c.storeN (vecAddr base i) 4 (lane v i).toNat else c) c

/-- VLD (R133). vD lane i ← 32-bit word i of 256 bytes. -/
def execVld (n : Nat) (f : IF) (s : State) : Host.Outcome State Fault Refusal :=
  onUnit (n < numCores) (s.runIV n f fun g c =>
    let a := localAddr c f
    s.vecAccess n a g (s.done n (c.setV f.d.toNat
      (blend g (c.vreg f.d.toNat) fun i => BitVec.ofNat 32 (c.loadN (vecAddr a i) 4)))))

/-- VST (R133). Word i ← lane i of vD. -/
def execVst (n : Nat) (f : IF) (s : State) : Host.Outcome State Fault Refusal :=
  onUnit (n < numCores) (s.runIV n f fun g c =>
    let a := localAddr c f
    s.vecAccess n a g (s.done n (c.storeLanes a g (c.vreg f.d.toNat))))

/-- PLD (R133). pD ← 64 bits. -/
def execPld (n : Nat) (f : IF) (s : State) : Host.Outcome State Fault Refusal :=
  onUnit (n < numCores) (s.runI n f .p .s true fun c =>
    s.access n (localAddr c f) 8 (s.done n (c.setP f.d.toNat (BitVec.ofNat 64 (c.loadN (localAddr c f) 8)))))

/-- PST (R133). 64 bits ← pD. -/
def execPst (n : Nat) (f : IF) (s : State) : Host.Outcome State Fault Refusal :=
  onUnit (n < numCores) (s.runI n f .p .s true fun c =>
    s.access n (localAddr c f) 8 (s.done n (c.storeN (localAddr c f) 8 (c.preg f.d.toNat).toNat)))

end Sys2Proof.Machine
end

