-- ==== Sys2Proof/Machine/Memory.lean ====
section
/-! DEFINITION. Module memory (R178 to R203): where a module offset lies, the symbol code, compressed ranges, regulators, and the events of
a die's controllers. -/
namespace Sys2Proof.Machine

/-! ### The address map -/

/-- Where a granule lies: compute die, die channel and channel-local address (R178 to R181). -/
structure Place where
  die : Nat
  chan : Nat
  addr : Nat
  deriving DecidableEq, Repr

/-- Key of a place in the byte memory: module channel and channel-local address. -/
def Place.key (p : Place) : Nat := (128 * p.die + p.chan) * 2 ^ 31 + p.addr

/-- Die channel of a die offset in a die-local segment (R180). -/
def dieHash (a : Nat) : Nat :=
  fieldOf a 14 8 ^^^ fieldOf a 21 15 ^^^ fieldOf a 28 22 ^^^ fieldOf a 35 29 ^^^ fieldOf a 37 36

/-- Die-local placement (R180). -/
def placeLocal (die a : Nat) : Place := ⟨die, dieHash a, fieldOf a 37 15 * 2 ^ 8 + fieldOf a 7 0⟩

/-- Interleaved placement (R181). -/
def placeInterleaved (o : Nat) : Place :=
  let q := fieldOf o 39 38 * 2 ^ 34 + fieldOf o 33 0
  let m := fieldOf q 16 8 ^^^ fieldOf q 25 17 ^^^ fieldOf q 34 26 ^^^ fieldOf q 35 35
  ⟨m / 128, m % 128, fieldOf o 37 34 * 2 ^ 27 + fieldOf q 35 17 * 2 ^ 8 + fieldOf q 7 0⟩

/-- Segment j of a die is interleaved (R179). -/
def State.interleaved (s : State) (die j : Nat) : Bool := bit (s.reg (A.memMap die)) j

/-- Where a module offset lies (R179). -/
def State.place (s : State) (o : Nat) : Place :=
  let die := fieldOf o 39 38
  let a := fieldOf o 37 0
  if s.interleaved die (fieldOf a 37 34) then placeInterleaved o else placeLocal die a

/-- Bank of a channel-local address (R182). -/
def bankOf (l : Nat) : Nat := fieldOf l 14 11 ^^^ fieldOf l 18 15
/-- Row of a channel-local address (R182). -/
def rowOf (l : Nat) : Nat := fieldOf l 30 15
/-- Column of a channel-local address: the byte in the row of 2 KiB (R182). -/
def columnOf (l : Nat) : Nat := fieldOf l 10 0

/-- The die offset that a channel and a channel-local address hold in a die-local segment: the inverse of R180. -/
def dieOffset (c l : Nat) : Nat :=
  let hi := l / 2 ^ 8
  let a := hi * 2 ^ 15 + l % 2 ^ 8
  a + (c ^^^ dieHash a) * 2 ^ 8

/-! ### Controllers and regulators -/

/-- A die's controllers. -/
def State.memAt (s : State) (d : Nat) : MemDie := Tab.get MemDie.init s.mem.die d
/-- Store a die's controllers. -/
def State.setMem (s : State) (d : Nat) (x : MemDie) : State := { s with mem := { s.mem with die := Tab.put s.mem.die d x } }
/-- A stack of a die. -/
def State.stackAt (s : State) (d i : Nat) : Stack := Tab.get Stack.init (s.memAt d).stack i
/-- Store a stack of a die. -/
def State.setStack (s : State) (d i : Nat) (x : Stack) : State :=
  s.setMem d { s.memAt d with stack := Tab.put (s.memAt d).stack i x }

/-- The value of MEM.REGk in force (R188). -/
def State.regulator (s : State) (d k : Nat) : W64 := Tab.get 0 (s.memAt d).regEff k
/-- DEPTH of a regulator value. -/
def depthOf (r : W64) : Int := fld r 47 32
/-- RATE of a regulator value: above 8,192 it acts as 8,192 (R203). -/
def rateOf (r : W64) : Int := min 8192 (fld r 29 16)
/-- Credit of a partition: DEPTH until something changes it, and while EN is 0 (R188, R203). -/
def State.credit (s : State) (d k : Nat) : Int :=
  let r := s.regulator d k
  if bit r 63 then Tab.get (depthOf r) (s.memAt d).credit k else depthOf r

/-- Requests of indices 3 to 5 are charged to no partition (R187). -/
def chargeable (req : Nat) : Bool := decide (req < 3 ∨ req = 6)

/-- Charge granules to a partition; credit saturates at −2^31 (R188, R189, R203). Of a request that is not `paid` the credit has come
while it waited (log 21), so that only the counters move. -/
def State.chargeIf (s : State) (paid : Bool) (d k req g : Nat) (lc : Bool) : State :=
  if !chargeable req || g == 0 then s
  else
    let m := s.memAt d
    let s := if bit (s.regulator d k) 63 && paid then s.setMem d { m with credit := Tab.put m.credit k (max (-(2 ^ 31)) (s.credit d k - g)) } else s
    let s := s.bumpKi (A.memPcnt d k) 63 32 g
    if lc then s.bumpKi (A.memPcnt d k) 31 0 g else s

/-- Charge granules to a partition. -/
def State.charge (s : State) (d k req g : Nat) (lc : Bool) : State := s.chargeIf true d k req g lc

/-- Credit for work that a block of the module does at once (log 21): a normal request with no credit left has waited for it. -/
def State.hasCredit (s : State) (d k : Nat) : Bool := !bit (s.regulator d k) 63 || decide (0 < s.credit d k)

/-! ### The symbol code -/

/-- Damaged symbols by number, each once, those without a differing bit left out. -/
def normDamage (dam : Damage) : List (Nat × Byte) :=
  (List.range 74).filterMap fun w =>
    let x := dam.foldl (fun (x : Byte) e => if e.1 = w then x ^^^ e.2 else x) 0
    if x = 0 then none else some (w, x)

/-- What the decoder makes of a codeword (R194, R195). -/
inductive Decoded where
  | clean
  | corrected (symbol : Nat) (left : List (Nat × Byte))
  | address
  | uncorrectable
  /-- The damage is itself a difference of codewords, so that the decoder sees none. -/
  | unseen (left : List (Nat × Byte))
  deriving DecidableEq, Repr

/-- α^n in GF(2^8) with α = 0x02 (R194). -/
def gfPower : Nat → Nat
  | 0 => 1
  | n + 1 => gfDouble (gfPower n)

/-- The syndromes of damage at the roots 1, α and α² of the generator polynomial (R194). The code is linear, so they depend on the
damage alone. -/
def syndromes (dam : List (Nat × Byte)) : List Nat :=
  (List.range 3).map fun j => dam.foldl (fun x e => x ^^^ gfMul e.2.toNat (gfPower (j * Config.symbolPlace e.1 % 255))) 0

/-- The damage without, or with, a difference in one symbol. -/
def toggleSymbol (dam : List (Nat × Byte)) (w : Nat) (x : Byte) : List (Nat × Byte) := normDamage (dam ++ [(w, x)])

/-- What the decoder of R194 makes of three or more damaged symbols: a single difference that gives the same syndromes is taken for the
error; where none does, the error is detected. -/
def decodeMany (dam : List (Nat × Byte)) : Decoded :=
  let s := syndromes dam
  if s.all fun x => x == 0 then .unseen dam
  else
    let x : Byte := BitVec.ofNat 8 (s.getD 0 0)
    match (List.range 74).find? fun w => syndromes [(w, x)] == s with
    | some w => if w < 72 then .corrected w (toggleSymbol dam w x) else .address
    | none => .uncorrectable

/-- Decode a codeword with this damage (R194): any one symbol is corrected, any two detected; where each symbol stands in the codeword,
and so what becomes of more, the spec leaves open (log 12). -/
def decodeSymbols (dam : List (Nat × Byte)) : Decoded :=
  match dam with
  | [] => .clean
  | [(w, _)] => if w < 72 then .corrected w [] else .address
  | [_, _] => .uncorrectable
  | more => decodeMany more

/-- MEM.ECC_CAPT: the first uncorrectable error, failing that the first corrected one (R203). -/
def State.eccCapture (s : State) (p : Place) (unc : Bool) (symbol part : Nat) : State :=
  let w := s.reg (A.eccCapt p.die)
  if bit w 63 && (!unc || bit w 62) then s
  else (s.event (A.eccCapt p.die) fun _ => BitVec.ofNat 64 (2 ^ 63 + b2n unc * 2 ^ 62 + p.chan * 2 ^ 55 + symbol * 2 ^ 48
    + part * 2 ^ 44 + p.addr / 64)).setReg (A.eccTime p.die) s.now

/-- The physical granule number of a place. -/
def Place.granule (p : Place) : Nat := p.key / 64

/-- Poison of a granule. -/
def State.poisoned (s : State) (p : Place) : Bool := Tab.get false s.mem.poison p.granule
/-- Set or clear the poison of a granule. -/
def State.setPoison (s : State) (p : Place) (b : Bool) : State :=
  { s with mem := { s.mem with poison := Tab.set false s.mem.poison p.granule b } }
/-- The 64 bytes of a granule. -/
def State.granuleBytes (s : State) (p : Place) : List Byte := Memory.bytes s.mem.bytes (p.granule * 64) 64
/-- Store the 64 bytes of a granule. -/
def State.storeGranule (s : State) (p : Place) (bs : List Byte) : State :=
  { s with mem := { s.mem with bytes := Memory.write s.mem.bytes (p.granule * 64) bs } }

/-- Seconds of cluster time (R196). -/
def State.second (s : State) : Nat := s.now.toNat / 2000000000

/-- Count a correction toward MEM.CE_CFG.CE_THRESH (R196). -/
def State.countCorrected (s : State) (p : Place) : State :=
  let m := s.memAt p.die
  let fresh := decide (m.ceSecond ≠ s.second)
  let t := if fresh then [] else m.ce
  let k := Tab.get 0 t p.chan + 1
  let s := s.setMem p.die { m with ce := Tab.put t p.chan k, ceSecond := s.second }
  let th := s.field (A.ceCfg p.die) 15 0
  if th ≠ 0 ∧ k = th then
    (s.setBit (A.memEvents p.die) 1).report { sev := 2, index := 128 * p.die + p.chan, code := 0x6002, p0 := k }
  else s

/-- A newly found uncorrectable granule is written back with POISON; counters, event, record and datagram (R195). -/
def State.uncorrectable (s : State) (p : Place) (part req : Nat) : State :=
  let s := ((s.setPoison p true).bump (A.eccCnt p.die) 31 16 1).eccCapture p true 127 part
  (s.setBit (A.memEvents p.die) 0).report
    { sev := 3, index := 128 * p.die + p.chan, code := 0x6001, p0 := p.addr / 64, p1 := part, p2 := req }

/-- What is left of the damage after a miscorrection, in the stored data and the POISON bit. -/
def State.applyDamage (s : State) (p : Place) (left : List (Nat × Byte)) : State :=
  let bs := left.foldl (fun bs (w, x) => if w < 64 then bs.set w (bs.getD w 0 ^^^ x) else bs) (s.granuleBytes p)
  let s := if left.isEmpty then s else s.storeGranule p bs
  if left.any fun e => e.1 == 67 && e.2.getLsbD 0 then s.setPoison p (!s.poisoned p) else s

/-- Read a codeword from the channel and act on the decode result (R195); the answer is whether the granule is poison. -/
def State.readCode (s : State) (p : Place) (part req : Nat) (dam : Damage) : State × Bool :=
  let d := normDamage dam
  let part := if chargeable req then part else 0
  match decodeSymbols d with
  | .clean => (s, s.poisoned p)
  | .corrected w left =>
    let s := ((s.bump (A.eccCnt p.die) 63 32 1).eccCapture p false w part).countCorrected p
    let s := s.applyDamage p left
    (s, s.poisoned p)
  | .unseen left => let s := s.applyDamage p left; (s, s.poisoned p)
  | .address => ((s.bump (A.eccCnt p.die) 15 0 1).uncorrectable p part req, true)
  | .uncorrectable => (s.uncorrectable p part req, true)

/-! ### Requests -/

/-- Bytes that a request touches. -/
def MemReq.extent (r : MemReq) : Nat :=
  match r.op with
  | .read => r.len
  | .write => r.data.length
  | .atomic t _ _ => atomicBytes t.toNat
  | .reduce _ _ => r.data.length
  | .gfxor _ => r.data.length

/-- The part of a request that lies in granule g. -/
def MemReq.piece (r : MemReq) (g : Nat) : MemReq :=
  let lo := max r.off (64 * g)
  let hi := min (r.off + (MemReq.extent r)) (64 * g + 64)
  { r with off := lo, len := hi - lo, data := (r.data.drop (lo - r.off)).take (hi - lo) }

/-- A request as one request a granule (R178, R185). -/
def MemReq.pieces (r : MemReq) : List MemReq :=
  if (MemReq.extent r) = 0 then []
  else (List.range ((r.off + (MemReq.extent r) - 1) / 64 - r.off / 64 + 1)).map fun i => MemReq.piece r (r.off / 64 + i)

/-- Granules that a request costs on the channel (R186). -/
def MemReq.granules (r : MemReq) : Nat :=
  match r.op with
  | .read => 1
  | .write => if r.data.length = 64 then 1 else 2
  | _ => 2

/-- The change that a locked operation makes to a granule (R185, R226, R242). -/
def MemReq.change (r : MemReq) (bs : List Byte) : List Byte :=
  match r.op with
  | .read => bs
  | .write => spliceBytes bs (r.off % 64) r.data
  | .atomic t x cmp => atomicOn t.toNat (r.off % 64) x cmp bs
  | .reduce rop fmt => reduceOn rop fmt (64 / elemBytes fmt) bs r.data
  | .gfxor c => gfxorOn c bs r.data

/-- What the requests that a channel still owes a granule leave there (R185): poison, and its bytes. A full write ends poison; no other
write is performed on it. -/
def State.settled (s : State) (p : Place) (bad : Bool) : Bool × List Byte :=
  let owed := (Tab.get [] (s.memAt p.die).chan p.chan).filter fun (r : MemReq) => (s.place r.off).granule == p.granule
  owed.foldl (fun (x : Bool × List Byte) r =>
    if r.op = .write ∧ r.data.length = 64 then (false, r.data)
    else if x.1 then x else (false, MemReq.change r x.2)) (bad, s.granuleBytes p)

/-- A channel's granules of a request are served (R363): at the higher limits of its stack one in 2 ns, or in 4 ns, so that the last of
them takes the channel up to the tick that is kept. -/
def State.serveGranules (s : State) (d c g : Nat) : State :=
  let m := s.memAt d
  let l := 4 * (s.stackAt d (c / 16)).limit
  let first := if l = 0 then s.clk else
    match Tab.find m.served c with
    | some t => max s.clk (t + l)
    | none => s.clk
  s.setMem d { m with served := Tab.put m.served c (first + (g - 1) * l) }

/-- A channel of a throttled stack is not yet free for its next granule: one in 2 ns, or in 4 ns at the higher limit (R363). -/
def State.throttled (s : State) (d c : Nat) : Bool :=
  let l := (s.stackAt d (c / 16)).limit
  l != 0 && (Tab.find (s.memAt d).served c).any fun t => decide (s.clk < t + 4 * l)

/-- No channel of a die is held by the limit of a throttled stack (R363): what a block of the die does at once may begin. -/
def State.dieFree (s : State) (d : Nat) : Bool := (s.memAt d).served.all fun e => !s.throttled d e.1

/-! ### Compressed ranges -/

/-- The span of a range within its die: first offset and end (R198, R203). -/
def zspan (w : W64) : Nat × Nat := (fld w 16 0 * 2 ^ 21, (fld w 16 0 + fld w 47 31 + 1) * 2 ^ 21)

/-- The enabled range that holds a die offset of a die-local segment (R198). -/
def State.zrangeOf (s : State) (d a : Nat) : Option Nat :=
  if s.interleaved d (fieldOf a 37 34) then none
  else (List.range 8).find? fun k =>
    let w := s.reg (A.zrange d k)
    bit w 63 && decide ((zspan w).1 ≤ a ∧ a < (zspan w).2)

/-- The map line of a granule, as die offset / 64, and the granule's bit in it (R198). -/
def State.mapPlace (s : State) (d k a : Nat) : Nat × Nat :=
  let g := (a - (zspan (s.reg (A.zrange d k))).1) / 64
  (fld (s.reg (A.zmap d k)) 31 0 + g / 512, g % 512)

/-- Write a map line back (R195, R200): a full write, which clears POISON. -/
def State.writeMapLine (s : State) (d line : Nat) (bits : BitVec 512) : State :=
  let p := placeLocal d (line * 64)
  (s.setPoison p false).storeGranule p (toBytes 64 bits.toNat)

/-- Put a map line in the zero-map cache of 4,096 lines, writing back one that has to go (R200, log 11). -/
def State.zcachePut (s : State) (d line k : Nat) (bits : BitVec 512) (dirty : Bool) : State :=
  let m := s.memAt d
  let full := decide (4096 ≤ m.zcache.length) && (Tab.find m.zcache line).isNone
  match (if full then m.zcache[s.freeW.toNat % 4096]? else none) with
  | some (l, _, b, dirt) =>
    let s := if dirt then s.writeMapLine d l b else s
    ({ s with free := s.free + 1 }).setMem d { m with zcache := Tab.put (Tab.erase m.zcache l) line (k, bits, dirty) }
  | none => s.setMem d { m with zcache := Tab.put m.zcache line (k, bits, dirty) }

/-- A map line as memory has it, behind what its channel still owes it (R185, R200). -/
def State.mapLine (s : State) (d line : Nat) : BitVec 512 :=
  BitVec.ofNat 512 (ofBytes (s.settled (placeLocal d (line * 64)) false).2)

/-- Read a map line into the cache as a requester 3 request (R185, R200): an uncorrectable one is remembered and MAP_POISON set. -/
def State.zfill (s : State) (d k line : Nat) (dam : Damage) : State × Option (BitVec 512) :=
  let p := placeLocal d (line * 64)
  let s := (s.bump (A.zstat d) 31 0 1).serveGranules d p.chan 1
  let (s, bad) := s.readCode p 0 3 dam
  let (bad, bs) := s.settled p bad
  if bad then
    let m := s.memAt d
    ((s.setMem d { m with zbad := if m.zbad.contains line then m.zbad else line :: m.zbad }).setBit (A.memEvents d) 4, none)
  else
    let bits := BitVec.ofNat 512 (ofBytes bs)
    (s.zcachePut d line k bits false, some bits)

/-- The map line of an access: cached, read now, or unreadable (R200). -/
def State.zline (s : State) (d k line : Nat) : State × Option (BitVec 512) :=
  let m := s.memAt d
  if m.zbad.contains line then (s, none)
  else match Tab.find m.zcache line with
    | some (_, b, _) => (s, some b)
    | none => s.zfill d k line []

/-- Set or clear a granule's bit in a cached map line. -/
def State.zset (s : State) (d k line i : Nat) (bits : BitVec 512) (v : Bool) : State :=
  let one : BitVec 512 := BitVec.ofNat 512 (2 ^ i)
  s.zcachePut d line k (if v then bits ||| one else bits &&& ~~~ one) true

/-! ### One granule -/

/-- A write that software makes to a map line ends its being unreadable (R200). -/
def State.rewriteMap (s : State) (o : Nat) : State :=
  let d := fieldOf o 39 38
  let m := s.memAt d
  if m.zbad.contains (fieldOf o 37 6) then s.setMem d { m with zbad := m.zbad.erase (fieldOf o 37 6) } else s

/-- Read a granule, or run a locked operation on it (R185, R195, R199): poison, or the bytes before. A locked operation on a poisoned
granule is not performed. -/
def State.granuleOp (s : State) (o part req : Nat) (dam : Damage) (change : Option (List Byte → List Byte)) :
    State × Bool × List Byte :=
  let d := fieldOf o 39 38
  let a := fieldOf o 37 6 * 64
  let p := s.place (o / 64 * 64)
  let onChannel := fun (s : State) =>
    let (s, bad) := s.readCode p part req dam
    let old := s.granuleBytes p
    match change with
    | none => (s, bad, old)
    | some f => if bad then (s, true, old) else ((s.storeGranule p (f old)).rewriteMap o, false, old)
  match s.zrangeOf d a with
  | none => onChannel s
  | some k =>
    let (line, i) := s.mapPlace d k a
    match s.zline d k line with
    | (s, none) => (s, true, zeroGranule)
    | (s, some bits) =>
      if bits.getLsbD i then onChannel s
      else match change with
        | none => (s.bumpKi (A.zstat d) 63 32 1, false, zeroGranule)
        | some f =>
          let new := f zeroGranule
          if new = zeroGranule then (s, false, zeroGranule)
          else (((s.setPoison p false).storeGranule p new).zset d k line i bits true, false, zeroGranule)

/-- Write a whole granule (R195, R199), marked with POISON where `bad` (R210, R248). -/
def State.writeGranule (s : State) (o : Nat) (bs : List Byte) (bad : Bool) : State :=
  let d := fieldOf o 39 38
  let a := fieldOf o 37 6 * 64
  let p := s.place (o / 64 * 64)
  let onChannel := fun (s : State) => ((s.setPoison p bad).storeGranule p bs).rewriteMap o
  match s.zrangeOf d a with
  | none => onChannel s
  | some k =>
    let (line, i) := s.mapPlace d k a
    match s.zline d k line with
    | (s, none) => s
    | (s, some bits) =>
      if bs = zeroGranule ∧ ¬ bad then s.zset d k line i bits false
      else (onChannel s).zset d k line i bits true

/-- The granule lies in a compressed range with its bit 0, as the cache or memory has it (R199). -/
def State.mapZero (s : State) (o : Nat) : Bool :=
  let d := fieldOf o 39 38
  let a := fieldOf o 37 6 * 64
  match s.zrangeOf d a with
  | none => false
  | some k =>
    let (line, i) := s.mapPlace d k a
    match Tab.find (s.memAt d).zcache line with
    | some (_, b, _) => !b.getLsbD i
    | none => !(s.memAt d).zbad.contains line
        && !(s.mapLine d line).getLsbD i

/-- Granules charged for a request: none for what the map answers (R186, R199). -/
def State.cost (s : State) (r : MemReq) : Nat :=
  match r.op with
  | .read => if s.mapZero r.off then 0 else 1
  | .write =>
    if r.data = zeroGranule ∧ (s.zrangeOf (fieldOf r.off 39 38) (fieldOf r.off 37 6 * 64)).isSome then 0 else (MemReq.granules r)
  | _ => (MemReq.granules r)

/-- Perform a request on one granule: poison, and the bytes of a read or the value before an atomic. -/
def State.perform (s : State) (r : MemReq) (dam : Damage) : State × Bool × List Byte :=
  let cut := fun (x : State × Bool × List Byte) => (x.1, x.2.1, (x.2.2.drop (r.off % 64)).take (MemReq.extent r))
  match r.op with
  | .read => cut (s.granuleOp r.off r.part r.req dam none)
  | .write =>
    if r.data.length = 64 ∧ r.off % 64 = 0 then (s.writeGranule r.off r.data false, false, [])
    else
      let x := s.granuleOp r.off r.part r.req dam (some (MemReq.change r))
      (x.1, x.2.1, [])
  | _ => cut (s.granuleOp r.off r.part r.req dam (some (MemReq.change r)))

/-- The answer of a request goes to its requester. -/
def State.answerMem (s : State) (d : Nat) (r : MemReq) (bad : Bool) (bs : List Byte) : State :=
  s.emit (.memResp d r.req r.tag bad bs)

/-- LC granules that a channel has served ahead in the running slot (R189). -/
def State.lcServed (s : State) (d c : Nat) : Nat := Tab.get 0 (s.memAt d).lcUsed c

/-- Room for an LC request of g granules within LC_MAX of the running slot (R189). -/
def State.lcRoom (s : State) (d c g : Nat) : Bool := decide (s.lcServed d c + g ≤ s.field (A.memCtrl d) 6 0)

/-- An LC request is served: ahead, within the cap of its channel, or beyond it as a normal one (R189). -/
def State.lcTake (s : State) (d c g : Nat) (ahead : Bool) : State :=
  if ahead then s.setMem d { s.memAt d with lcUsed := Tab.put (s.memAt d).lcUsed c (s.lcServed d c + g) }
  else s.setBit (A.memEvents d) 5

/-- A request of g granules uses its channel (R189, R190, R363): the row of its bank, its granules, and its count as LC, ahead where the
cap has room. One that the map answers uses no channel (R199). -/
def State.useChannel (s : State) (r : MemReq) (g : Nat) : State :=
  if g = 0 then s
  else
    let p := s.place r.off
    let m := s.memAt p.die
    let s := (s.setMem p.die { m with row := Tab.put m.row (16 * p.chan + bankOf p.addr) (rowOf p.addr) }).serveGranules p.die p.chan g
    if r.lc then s.lcTake p.die p.chan g (s.lcRoom p.die p.chan g) else s

/-- A request is served on its channel, and its requester answered. -/
def State.serve (s : State) (d : Nat) (r : MemReq) (dam : Damage) : State :=
  let (s, bad, bs) := (s.useChannel r (s.cost r)).perform r dam
  s.answerMem d r bad bs

/-- What waits in a channel's queue for a bank is served first (R185, R190): a request that a block makes at once stands behind every
earlier one that was accepted for its bank. -/
def State.settle (s : State) (p : Place) : State :=
  let m := s.memAt p.die
  let q := Tab.get [] m.chan p.chan
  let mine := fun (r : MemReq) => bankOf (s.place r.off).addr == bankOf p.addr
  (q.filter mine).foldl (fun s r => s.serve p.die r [])
    (s.setMem p.die { m with chan := Tab.put m.chan p.chan (q.filter fun r => !mine r) })

/-- The granules of one request as admission takes them: at most 8 granules charged at once (R188). -/
def reqGroups (l : List MemReq) : List (List MemReq) :=
  l.foldr (fun q acc => match acc with
    | g :: rest => if (g.map MemReq.granules).sum + MemReq.granules q ≤ 8 then (q :: g) :: rest else [q] :: acc
    | [] => [[q]]) []

/-- The controllers of a die serve a requester: all while its domains are up; those that come through the hub, zero-map and scrubber
requests while only the memory domain is (R202). -/
def State.serves (s : State) (d req : Nat) : Bool :=
  s.memDom d && (s.coreDom d || decide (req = 0 ∨ req = 3 ∨ req = 4 ∨ req = 5))

/-- One granule of a request that a block makes at once comes to its channel, which it costs g granules. -/
def State.takePiece (s : State) (paid : Nat → Bool) (q : MemReq) (g : Nat) : State :=
  let d := (s.place q.off).die
  (s.chargeIf (q.lc || paid d) d q.part q.req g q.lc).useChannel q g

/-- One granule of a request that a block makes at once, behind what waits for its bank (R185); controllers that do not serve the block
give poison (R202). -/
def State.requestPiece (s : State) (paid : Nat → Bool) (q : MemReq) : State × Bool × List Byte :=
  if s.serves (s.place q.off).die q.req then
    let s := s.settle (s.place q.off)
    (s.takePiece paid q (s.cost q)).perform q []
  else (s, true, List.replicate (MemReq.extent q) 0xFF)

/-- One granule written as poison with the bytes of the request (R195, R248). -/
def State.poisonPiece (s : State) (paid : Nat → Bool) (q : MemReq) : State :=
  if s.serves (s.place q.off).die q.req then
    ((s.settle (s.place q.off)).takePiece paid q 1).writeGranule q.off q.data true
  else s

/-- Perform at once a request that a block of the module makes, granule after granule, and charge it as admission would (R188, log 21):
whether any granule was poison, and the bytes. -/
def State.request (s : State) (r : MemReq) : State × Bool × List Byte :=
  (reqGroups (MemReq.pieces r)).foldl (fun (acc : State × Bool × List Byte) g =>
    let start := acc.1
    g.foldl (fun (acc : State × Bool × List Byte) q =>
      let (s, b, x) := acc.1.requestPiece (fun d => start.hasCredit d r.part) q
      (s, acc.2.1 || b, acc.2.2 ++ x)) acc) (s, false, [])

/-- Read n bytes of module memory for a partition, as a requester (R184, R187). -/
def State.readMem (s : State) (req part o n : Nat) (lc : Bool) : State × Bool × List Byte :=
  s.request ⟨req, part, lc, s.now, .read, o, n, [], 0, false⟩

/-- Write bytes of module memory for a partition, as a requester. -/
def State.writeMem (s : State) (req part o : Nat) (bs : List Byte) : State × Bool :=
  let x := s.request ⟨req, part, false, s.now, .write, o, 0, bs, 0, false⟩
  (x.1, x.2.1)

/-- A request waits for credit (R188, R189). -/
def State.mustWait (s : State) (d : Nat) (r : MemReq) : Bool :=
  chargeable r.req && !r.lc && bit (s.regulator d r.part) 63 && decide (s.credit d r.part ≤ 0)

/-- Admit a request: charge it and put it in its channel's queue (R187 to R189). -/
def State.admitReq (s : State) (d : Nat) (r : MemReq) : State :=
  let c := (s.place r.off).chan
  let s := s.charge d r.part r.req (s.cost r) r.lc
  let m := s.memAt d
  s.setMem d { m with chan := Tab.put m.chan c (Tab.get [] m.chan c ++ [r]) }

/-- The granules of one request reach the controller: admitted together, or waiting at admission, under a number of their own, behind
their partition's earlier ones (R188). -/
def State.arrive (s : State) (d : Nat) (r : MemReq) (g : List MemReq) : State :=
  let m := s.memAt d
  if s.mustWait d r || (chargeable r.req && !r.lc && m.waiting.any fun w => w.2.part == r.part) then
    let n := m.waiting.foldl (fun x w => max x (w.1 + 1)) 0
    s.setMem d { m with waiting := m.waiting ++ g.map fun q => (n, q) }
  else g.foldl (fun s q => s.admitReq d q) s

/-- The hub's answer to a request for a die that cannot serve it (R217 step 2): poison to loads and atomics, the refusal with cause die
offline to the rest, copies among them. -/
def State.answerOffline (s : State) (d : Nat) (r : MemReq) : State :=
  let waits := match r.op with
    | .read => !r.copy
    | .atomic _ _ _ => true
    | _ => false
  if waits then s.answerMem d r true [] else s.emit (.memRefuse d r.req r.tag 4)

/-- Requests that came through the hub and that a die's controllers have not answered (R217 step 2). -/
def State.hubRequests (s : State) (d : Nat) : List MemReq :=
  let m := s.memAt d
  (m.waiting.map Prod.snd ++ m.chan.flatMap Prod.snd).filter fun r => r.req == 0

/-- Bytes of a request on a die-to-die link: 32 of its header, and the bytes it writes (log 123). -/
def MemReq.linkBytes (r : MemReq) : Nat := 32 + r.data.length
/-- Bytes of the reply that a request brings back over the link (log 123). -/
def MemReq.replyBytes (r : MemReq) : Nat :=
  match r.op with
  | .read => 32 + r.len
  | .atomic _ _ _ => 40
  | _ => 0

/-- The hub may send a request over a die's link (R207): the die's receive buffer of 64 KiB for the request class has room beside what
waits there, and reply space of 64 KiB at the hub's end is reserved for its answer. -/
def State.linkRoom (s : State) (d bytes reply : Nat) : Bool :=
  let l := s.hubRequests d
  decide ((l.map MemReq.linkBytes).sum + bytes ≤ 0x10000 ∧ (l.map MemReq.replyBytes).sum + reply ≤ 0x10000)

/-- MEMORY_REQUEST (R185, R187, R188, R207, R217): the granules that lie on the die; while its link is not UP the hub answers at once, and
while the link has no room the request waits in the hub. -/
def execMemoryRequest (d : Nat) (r : MemReq) (s : State) : Host.Outcome State Fault Refusal :=
  onUnit (d < 4 ∧ r.part < 16 ∧ r.req < 7)
    (if r.req = 0 ∧ ¬ s.linkUp d then s.answerOffline d r
     else if r.req = 0 ∧ !s.linkRoom d (MemReq.linkBytes r) (MemReq.replyBytes r) then s
     else if s.serves d r.req then
      (reqGroups ((MemReq.pieces r).filter fun q => (s.place q.off).die == d)).foldl (fun s g => s.arrive d r g) s
     else s)

/-- Take an element out of a list at an index. -/
def removeAt {α : Type} (l : List α) (i : Nat) : List α := l.take i ++ l.drop (i + 1)

/-- The order of R18 among requests that wait: older timestamp, then index under the rotating pointer. -/
def State.servedBefore (s : State) (x y : MemReq) : Bool :=
  decide (x.ct < y.ct) || (x.ct == y.ct && decide (rotIndex x.req s.slot 7 < rotIndex y.req s.slot 7))

/-- The first of some candidates by the order of R18, by index. -/
def State.firstServed (s : State) (l : List (Nat × MemReq)) : Option (Nat × MemReq) :=
  l.foldl (fun b x => match b with
    | none => some x
    | some y => if s.servedBefore x.2 y.2 then some x else some y) none

/-- Ticks of a refresh interval by its code (R192). -/
def refreshTicks (code : Nat) : Nat := if code = 0 then 7800 else if code = 1 then 3900 else 1950

/-- The first refresh of bank b after a tick: at offset b × interval / 16 of each interval (R192). -/
def nextRefresh (b t interval : Nat) : Nat :=
  let off := b * interval / 16
  if t < off then off else ((t - off) / interval + 1) * interval + off

/-- The tick at which a bank's next refresh command is due (R192). -/
def State.refreshDue (s : State) (d c b : Nat) : Nat :=
  Tab.get (nextRefresh b (s.memAt d).upAt (refreshTicks 0)) (s.memAt d).due (16 * c + b)

/-- The bank of a channel whose refresh command has been due longest (R190, R192). -/
def State.dueBank (s : State) (d c : Nat) : Option Nat :=
  ((List.range 16).filter fun b => decide (s.refreshDue d c b ≤ s.clk)).foldl (fun x b => match x with
    | none => some b
    | some y => if s.refreshDue d c b < s.refreshDue d c y then some b else some y) none

/-- A refresh command holds its bank for 60 ns (R192). -/
def State.refreshing (s : State) (d c b : Nat) : Bool :=
  match Tab.find (s.memAt d).refreshed (16 * c + b) with
  | some t => decide (s.clk < t + 120)
  | none => false

/-- The refresh command of a bank (R192): the next one is due at the bank's offset in the interval that the stack has now. -/
def State.refreshBank (s : State) (d c b : Nat) : State :=
  let m := s.memAt d
  let k := 16 * c + b
  s.setMem d { m with
    refreshed := Tab.put m.refreshed k s.clk
    due := Tab.put m.due k (nextRefresh b s.clk (refreshTicks (s.stackAt d (c / 16)).interval)) }

/-- A request may go to its bank (R190): not one that refreshes, or that is busy with another row. -/
def State.bankFree (s : State) (d c : Nat) (busy : BitVec 16) (l : Nat) : Bool :=
  let b := bankOf l
  !s.refreshing d c b && (!busy.getLsbD b || Tab.find (s.memAt d).row (16 * c + b) == some (rowOf l))

/-- Requests of a channel that may issue now: their bank takes them, no earlier one waits on the same bank, and the controllers serve
their requester (R190, R202). -/
def State.issuable (s : State) (d c : Nat) (q : List MemReq) (busy : BitVec 16) : List (Nat × MemReq) :=
  let at_ := fun (r : MemReq) => (s.place r.off).addr
  (q.zipIdx.filter fun (r, i) => s.serves d r.req && s.bankFree d c busy (at_ r)
    && (q.take i).all fun e => bankOf (at_ e) != bankOf (at_ r)).map fun (r, i) => (i, r)

/-- Requests of partitions with SHARE that wait for credit and may issue now (R190): their bank takes them, and no accepted request waits
for it. -/
def State.sharing (s : State) (d c : Nat) (busy : BitVec 16) : List (Nat × MemReq) :=
  let m := s.memAt d
  let ahead := (Tab.get [] m.chan c).map fun (r : MemReq) => bankOf (s.place r.off).addr
  (m.waiting.zipIdx.filter fun (r, _) =>
    let p := s.place r.2.off
    p.chan == c && s.serves d r.2.req && s.bankFree d c busy p.addr && bit (s.regulator d r.2.part) 48
      && !ahead.contains (bankOf p.addr)).map fun (r, i) => (i, r.2)

/-- What a channel serves next (R190): from its queue at an index, latency-critical requests within the cap first, or a request of a
partition with SHARE that waits for credit. -/
def State.nextServed (s : State) (d c : Nat) (busy : BitVec 16) : Option (Bool × Nat × MemReq) :=
  let l := s.issuable d c (Tab.get [] (s.memAt d).chan c) busy
  let lcs := l.filter fun x => x.2.lc && s.lcRoom d c (s.cost x.2)
  match s.firstServed (if lcs.isEmpty then l else lcs) with
  | some (i, r) => some (true, i, r)
  | none => (s.firstServed (s.sharing d c busy)).map fun (i, r) => (false, i, r)

/-- CHANNEL_SERVE (R189, R190, R192, R195, R363): a refresh command that is due comes first. -/
def execChannelServe (d c : Nat) (busy : BitVec 16) (dam : Damage) (s : State) : Host.Outcome State Fault Refusal :=
  onUnit (d < 4 ∧ c < 128)
    (if !s.memDom d then s
     else match s.dueBank d c with
     | some b => s.refreshBank d c b
     | none => match (if s.throttled d c then none else s.nextServed d c busy) with
       | none => s
       | some (queued, i, r) =>
         let m := s.memAt d
         let s :=
           if queued then s.setMem d { m with chan := Tab.put m.chan c (removeAt (Tab.get [] m.chan c) i) }
           else (s.setMem d { m with waiting := removeAt m.waiting i }).charge d r.part r.req (s.cost r) r.lc
         s.serve d r dam)

/-- The credit of one regulator at a slot boundary (R188). -/
def State.creditTick (s : State) (d k : Nat) : State :=
  let m := s.memAt d
  let new := s.reg (A.memReg d k)
  let held := if bit (s.regulator d k) 63 then s.credit d k else depthOf new
  let base := if bit new 63 then min held (depthOf new) else depthOf new
  let c := if bit new 63 then min (base + rateOf new) (depthOf new) else depthOf new
  s.setMem d { m with regEff := Tab.put m.regEff k new, credit := Tab.put m.credit k c }

/-- REGULATOR_CREDIT_TICK (R188, R189): once at each slot boundary. -/
def execRegulatorCreditTick (d : Nat) (s : State) : Host.Outcome State Fault Refusal :=
  onUnit (d < 4)
    (let at_ := s.boundaryOf 128
     if s.memDom d ∧ at_.isSome ∧ (s.memAt d).creditAt ≠ at_ then
      let s := (List.range 16).foldl (fun s k => s.creditTick d k) s
      s.setMem d { s.memAt d with lcUsed := [], creditAt := at_ }
     else s)

/-! ### Refresh, scrubbing and start-up -/

/-- REFRESH_COMMAND (R192): the bank's refresh, when it is due. -/
def execRefreshCommand (d c b : Nat) (s : State) : Host.Outcome State Fault Refusal :=
  onUnit (d < 4 ∧ c < 128 ∧ b < 16)
    (if s.memDom d ∧ s.refreshDue d c b ≤ s.clk then s.refreshBank d c b else s)

/-- An instant lies at least so many ticks back. -/
def State.since (s : State) (t : Option Nat) (ticks : Nat) : Bool :=
  match t with
  | some t => decide (t + ticks ≤ s.clk)
  | none => false

/-- REFRESH_INTERVAL_RELAX (R192): after 10 ms with both sensors 2 °C below a threshold. -/
def execRefreshIntervalRelax (d i : Nat) (s : State) : Host.Outcome State Fault Refusal :=
  onUnit (d < 4 ∧ i < 8)
    (let k := s.stackAt d i
     let aim := if s.since k.cool85 (10 * 2000000) then 0 else if s.since k.cool95 (10 * 2000000) then 1 else 2
     s.setStack d i { k with interval := min k.interval aim })

/-- The scrubber may read a channel's next granule: 2 ms after the last one, or after the memory domain came up (R197), and not before the
limit of a throttled stack lets it (R363). -/
def State.scrubDue (s : State) (d c : Nat) : Bool :=
  let m := s.memAt d
  s.memDom d && s.field (A.memCtrl d) 15 15 == 1 && !s.throttled d c && decide (Tab.get m.upAt m.scrubAt c + 4000000 ≤ s.clk)

/-- SCRUB_READ (R195, R197): the channel's next granule, every 2 ms. -/
def execScrubRead (d c : Nat) (dam : Damage) (s : State) : Host.Outcome State Fault Refusal :=
  onUnit (d < 4 ∧ c < 128)
    (if s.scrubDue d c then
      let l := Tab.get 0 (s.memAt d).scrubL c
      let s := ((s.serveGranules d c 1).readCode ⟨d, c, l⟩ 0 4 dam).1
      let m := s.memAt d
      s.setMem d { m with scrubL := Tab.put m.scrubL c ((l + 64) % 2 ^ 31), scrubAt := Tab.put m.scrubAt c s.clk }
     else s)

/-- Memory without what a range of its keys holds. -/
def Tab.outside {α : Type} (t : Tab α) (lo hi : Nat) : Tab α := t.filter fun e => decide (e.1 < lo ∨ hi ≤ e.1)

/-- Every granule of a die's stack written with zero data and a valid code (R197). -/
def State.initStack (s : State) (d i : Nat) : State :=
  let lo := (128 * d + 16 * i) * 2 ^ 31
  let hi := lo + 16 * 2 ^ 31
  let s := { s with mem := { s.mem with bytes := Tab.outside s.mem.bytes lo hi, poison := Tab.outside s.mem.poison (lo / 64) (hi / 64) } }
  s.setStack d i { s.stackAt d i with trained := true }

/-! ### Compressed ranges: events and controls -/

/-- The enabled range whose map holds a line. -/
def State.mapOwner (s : State) (d line : Nat) : Option Nat :=
  (List.range 8).find? fun k =>
    let w := s.reg (A.zrange d k)
    let b := fld (s.reg (A.zmap d k)) 31 0
    bit w 63 && decide (b ≤ line ∧ line < b + (fld w 47 31 + 1) * 64)

/-- ZERO_MAP_FILL (R200): a map line that is not cached is read from memory. -/
def execZeroMapFill (d a : Nat) (dam : Damage) (s : State) : Host.Outcome State Fault Refusal :=
  onUnit (d < 4)
    (match s.mapOwner d a with
     | some k => if s.memDom d ∧ (Tab.find (s.memAt d).zcache a).isNone then (s.zfill d k a dam).1 else s
     | none => s)

/-- EN may be set (R198): the span and the map lie in die-local segments of the die, the map overlaps no compressed range, and the span
no enabled range's map, which would then lie in a compressed range (log 11). -/
def State.zrangeOk (s : State) (d k : Nat) (w : W64) : Bool :=
  let (lo, hi) := zspan w
  let m := fld (s.reg (A.zmap d k)) 31 0 * 64
  let mEnd := m + (fld w 47 31 + 1) * 4096
  let segs := fun a b => (List.range 16).all fun j => !overlaps a b (j * 2 ^ 34) ((j + 1) * 2 ^ 34) || !s.interleaved d j
  decide (hi ≤ 2 ^ 38 ∧ mEnd ≤ 2 ^ 38) && segs lo hi && segs m mEnd && !overlaps m mEnd lo hi
    && (List.range 8).all fun i =>
      let v := s.reg (A.zrange d i)
      let u := fld (s.reg (A.zmap d i)) 31 0 * 64
      i == k || !bit v 63 || (!overlaps m mEnd (zspan v).1 (zspan v).2 && !overlaps lo hi u (u + (fld v 47 31 + 1) * 4096))

/-- A write of ZRANGEk with EN 1 (R198, R203). -/
def State.enableZrange (s : State) (d k : Nat) (v : W64) : State :=
  let old := s.reg (A.zrange d k)
  if bit old 63 || bit old 62 then s
  else
    let w := v &&& (maskOf 47 31 ||| maskOf 16 0)
    s.setReg (A.zrange d k) (if s.zrangeOk d k w then w ||| maskOf 63 63 else w)

/-- ZRANGE_ENABLE (R198, R201, R203): a write of ZRANGEk with EN 1. -/
def execZrangeEnable (d k : Nat) (v : W64) (s : State) : Host.Outcome State Fault Refusal :=
  onUnit (d < 4 ∧ k < 8) (if s.memDom d then s.enableZrange d k v else s)

/-- A write of ZRANGEk with EN 0 starts the flush of an enabled range, and sets the fields of one that is not (R201, R203). -/
def State.disableZrange (s : State) (d k : Nat) (v : W64) : State :=
  let old := s.reg (A.zrange d k)
  if bit old 62 then s
  else if bit old 63 then
    (s.setReg (A.zrange d k) (old ||| maskOf 62 62)).setMem d { s.memAt d with zflush := k :: (s.memAt d).zflush }
  else s.setReg (A.zrange d k) (v &&& (maskOf 47 31 ||| maskOf 16 0))

/-- ZRANGE_DISABLE (R201, R203): a write of ZRANGEk with EN 0. -/
def execZrangeDisable (d k : Nat) (v : W64) (s : State) : Host.Outcome State Fault Refusal :=
  onUnit (d < 4 ∧ k < 8) (if s.memDom d then s.disableZrange d k v else s)

/-- The bit of a granule in the map of a range, from the cache or from memory. -/
def State.mapBit (s : State) (d k a : Nat) : Bool :=
  let (line, i) := s.mapPlace d k a
  match Tab.find (s.memAt d).zcache line with
  | some (_, b, _) => b.getLsbD i
  | none => (s.mapLine d line).getLsbD i

/-- A stored byte or mark of a key belongs to a granule of the range whose bit is 0. -/
def State.mappedOut (s : State) (d k key : Nat) : Bool :=
  let m := key / 2 ^ 31
  let a := dieOffset (m % 128) (key % 2 ^ 31 / 64 * 64)
  decide (m / 128 = d ∧ s.zrangeOf d a = some k) && !s.mapBit d k a

/-- ZRANGE_FLUSH_COMPLETE (R201): zero codewords for the granules whose bit is 0, dirty map lines back in memory, EN 0. -/
def execZrangeFlushComplete (d k : Nat) (s : State) : Host.Outcome State Fault Refusal :=
  onUnit (d < 4 ∧ k < 8)
    (if (s.memAt d).zflush.contains k then
      let t := { s with mem := { s.mem with
        bytes := s.mem.bytes.filter fun e => !s.mappedOut d k e.1
        poison := s.mem.poison.filter fun e => !s.mappedOut d k (e.1 * 64) } }
      let mine := (t.memAt d).zcache.filter fun e => e.2.1 == k
      let t := mine.foldl (fun t e => if e.2.2.2 then t.writeMapLine d e.1 e.2.2.1 else t) t
      let m := t.memAt d
      let t := t.setMem d { m with zcache := m.zcache.filter (fun e => e.2.1 != k), zflush := m.zflush.erase k }
      t.setReg (A.zrange d k) (t.reg (A.zrange d k) &&& (maskOf 47 31 ||| maskOf 16 0))
     else s)

end Sys2Proof.Machine
end

