-- ==== Sys2Proof/Machine/Formats.lean ====
section
/-! DEFINITION. Block formats (R46, R49 to R54, R62, R63): elements, scales, packing, and conversions both ways. -/
namespace Sys2Proof.Machine

/-- How an element of a block format is encoded (R50, R53): a small float with m mantissa bits, a bias and a largest finite code;
MXINT8; or sign and magnitude. -/
inductive ElemKind where
  | small (m : Nat) (bias : Nat) (top : Nat)
  | int8
  | kbi
  deriving DecidableEq, Repr

/-- A block format (R46): code, element bits, elements per block, encoding, emax. -/
structure BFmt where
  code : Nat
  bits : Nat
  block : Nat
  kind : ElemKind
  emax : Int
  deriving DecidableEq, Repr

/-- The block format of a code; `none` for the codes that are not MX or KBI codes (R46). -/
def bfmt (code : Nat) : Option BFmt :=
  match code with
  | 0x02 => some ⟨2, 8, 32, .small 3 7 0x7E, 8⟩
  | 0x03 => some ⟨3, 8, 32, .small 2 15 0x7B, 15⟩
  | 0x04 => some ⟨4, 6, 32, .small 2 3 0x1F, 4⟩
  | 0x05 => some ⟨5, 6, 32, .small 3 1 0x1F, 2⟩
  | 0x06 => some ⟨6, 4, 32, .small 1 1 0x7, 2⟩
  | 0x07 => some ⟨7, 8, 32, .int8, 0⟩
  | n =>
    if 0x10 ≤ n ∧ n ≤ 0x1E then some ⟨n, n - 0x10 + 2, 16, .kbi, (n - 0x10 : Int)⟩
    else if 0x20 ≤ n ∧ n ≤ 0x2E then some ⟨n, n - 0x20 + 2, 32, .kbi, (n - 0x20 : Int)⟩
    else none

/-- The codes of R46 that PACK and UNPACK accept (R138). -/
def blockCodes : List (BitVec 6) :=
  ((List.range 64).filter fun n => (bfmt n).isSome).map (BitVec.ofNat 6)

/-- Bytes that n elements of a format occupy (R51, R53). -/
def BFmt.bytes (f : BFmt) (n : Nat) : Nat := n * f.bits / 8

/-- Element i of a packed number (R51, R53). -/
def BFmt.elem (f : BFmt) (packed i : Nat) : Nat := packed / 2 ^ (f.bits * i) % 2 ^ f.bits

/-- What one element is: NaN, ∞ with its sign, or a signed magnitude times a power of two (R50, R52, R53). -/
def BFmt.value (f : BFmt) (e : Nat) : FV :=
  match f.kind with
  | .kbi =>
    let h := 2 ^ (f.bits - 1)
    .fin (decide (h ≤ e)) (e % h) 0
  | .int8 =>
    let v := signed 8 e
    .fin (decide (v < 0)) v.natAbs (-6)
  | .small m bias top =>
    let h := 2 ^ (f.bits - 1)
    let neg := decide (h ≤ e)
    let mag := e % h
    let qmin : Int := 1 - bias - m
    if top < mag then (if f.code = 3 ∧ mag = 0x7C then .inf neg else .nan false)
    else
      let x := mag / 2 ^ m
      let frac := mag % 2 ^ m
      if x = 0 then .fin neg frac qmin else .fin neg (2 ^ m + frac) (qmin + x - 1)

/-- Round a finite value over the block's scale to the element grid (R62): code, saturation, whether the value changed. -/
def BFmt.encode (f : BFmt) (rm : Rm) (neg : Bool) (man : Nat) (exp : Int) : Nat × Bool × Bool :=
  match f.kind with
  | .small m bias top =>
    if man = 0 then (0, false, false) else
    let (bits, ix) := FFmt.roundMag ⟨m + 1, 1 - bias - m⟩ rm man exp false
    let sat := decide (top < bits)
    let b := if sat then top else bits
    (if b = 0 then 0 else b + b2n neg * 2 ^ (f.bits - 1), sat, ix || sat)
  | k =>
    let (unit, top) : Int × Nat := if k = .int8 then (-6, 127) else (0, 2 ^ (f.bits - 1) - 1)
    let (v, ix) := if unit ≤ exp then (man * 2 ^ (exp - unit).toNat, false) else roundShift rm man (unit - exp).toNat false
    let sat := decide (top < v)
    let v := if sat then top else v
    let b := if v = 0 then 0
      else if k = .int8 then unsigned 8 (if neg then -(v : Int) else v) else v + b2n neg * 2 ^ (f.bits - 1)
    (b, sat, ix || sat)

/-- Exponent of a finite value's leading bit. -/
def FV.ilog2 : FV → Option Int
  | .fin _ m e => if m = 0 then none else some (e + bitLen m - 1)
  | _ => none

/-- Is the value finite. -/
def FV.isFin : FV → Bool
  | .fin _ _ _ => true
  | _ => false

/-- The scale code of a block (R62): `none` for a block of zeros. -/
def BFmt.scale (f : BFmt) (xs : List FV) : Option Nat :=
  (xs.foldl (fun a x => match a, x.ilog2 with
    | some u, some v => some (max u v)
    | none, v => v
    | u, none => u) (none : Option Int)).map fun l => (max 1 (min 254 (l - f.emax + 127))).toNat

/-- A block converted: scale byte, element codes, flags. -/
structure BlockOut where
  scale : Nat
  elems : List Nat
  flags : W64
  deriving DecidableEq, Repr

/-- Convert one block of values (R62, R63), a signalling NaN setting INVALID too (R48); `mode j` is the rounding mode of the
block's element j. -/
def BFmt.packBlock (f : BFmt) (mode : Nat → Rm) (xs : List FV) : BlockOut :=
  if xs.any fun x => !x.isFin then ⟨0xFF, xs.map fun _ => 0, Flag.nonfinite ||| (if xs.any FV.isSNaN then Flag.invalid else 0)⟩
  else match f.scale xs with
  | none => ⟨0, xs.map fun _ => 0, 0⟩
  | some e =>
    let rs := xs.zipIdx.map fun (x, j) => match x with
      | .fin n m q => f.encode (mode j) n m (q - ((e : Int) - 127))
      | _ => (0, false, false)
    ⟨e, rs.map fun r => r.1,
     (if rs.any fun r => r.2.1 then Flag.saturation else 0) ||| (if rs.any fun r => r.2.2 then Flag.inexact else 0)⟩

/-- An element back to a float format (R63): zero for scale 0x00, NaN for 0xFF. A product of element and scale beyond the format's largest
finite value, which R63 names in neither exception, rounds by R61 with OVERFLOW (DESIGN CHOICE, log 116). -/
def BFmt.unpackElem (f : BFmt) (t : FFmt) (rm : Rm) (scale e : Nat) : FRes :=
  if scale = 0 then (0, 0)
  else if scale = 0xFF then (t.nanBits, 0)
  else match f.value e with
  | .nan _ => (t.nanBits, 0)
  | .inf n => (t.withSign n t.infBits, 0)
  | .fin n m q => t.round rm n m (q + ((scale : Int) - 127)) false

/-- The number that a list of element codes packs into (R51, R53). -/
def BFmt.packElems (f : BFmt) (es : List Nat) : Nat := packN f.bits (fun i => es.getD i 0) es.length

/-- Consecutive groups of k items. -/
def chunks {α : Type} (k : Nat) : Nat → List α → List (List α)
  | 0, _ => []
  | n + 1, xs => xs.take k :: chunks k n (xs.drop k)

end Sys2Proof.Machine
end

