-- ==== Sys2Proof/Machine/Array.lean ====
section
/-! DEFINITION. The arithmetic of the bit-serial array (R52 to R58, R66 to R77, R81): the integers that the feeder and the loader
make of a block, the planes that a streamed row costs, and one step's effect on the running sums and marks. -/
namespace Sys2Proof.Machine

/-- Streamed width in planes, the sign plane counted (R54). -/
def BFmt.streamWidth (f : BFmt) (w : Nat) : Nat :=
  match f.code with
  | 2 => w
  | 3 => w
  | 4 => 10
  | 5 => 7
  | 6 => 5
  | 7 => 8
  | _ => f.bits

/-- Stationary width (R54). -/
def BFmt.statWidth (f : BFmt) : Nat :=
  match f.code with
  | 5 => 7
  | 6 => 5
  | n => if n < 8 then 9 else min 9 f.bits

/-- Exponent offset of the exact expansion (R54). -/
def BFmt.offset (f : BFmt) : Int :=
  match f.kind with
  | .small m bias _ => (m + bias : Int) - 1
  | .int8 => 6
  | .kbi => 0

/-- The exact integer of an element, and whether the element is NaN or infinite (R54, R58). -/
def BFmt.exactInt (f : BFmt) (e : Nat) : Int × Bool :=
  match f.value e with
  | .fin neg man exp =>
    let v : Int := (man * 2 ^ (exp + f.offset).toNat : Nat)
    (if neg then -v else v, false)
  | _ => (0, true)

/-- How far a fold to w bits shifts: the least s at which the rounded largest magnitude fits (R55). -/
def foldShift (top amax : Nat) : Nat → Nat → Nat
  | 0, s => s
  | fuel + 1, s => if (roundShift .rne amax s false).1 ≤ top then s else foldShift top amax fuel (s + 1)

/-- The fold of R55 to width w: the integers and the shift. It changes nothing where they fit already. -/
def fold (w : Nat) (xs : List Int) : List Int × Nat :=
  let s := foldShift (2 ^ (w - 1) - 1) (xs.foldl (fun a x => max a x.natAbs) 0) 48 0
  (xs.map fun x => let m : Int := (roundShift .rne x.natAbs s false).1; if x < 0 then -m else m, s)

/-- One array block of 16 integers (R54): its values, its scale code, its exponent offset, whether it is non-finite (R58), and
whether it holds an element that streaming saturates (R52). -/
structure ABlk where
  ints : List Int
  scale : Nat
  off : Int
  nan : Bool
  sat : Bool
  deriving DecidableEq, Repr

/-- A block that reads as zero and marks nothing (R49, R142). -/
def ABlk.zero : ABlk := ⟨List.replicate 16 0, 0, 0, false, false⟩

/-- An array block from its scale and element codes, folded to a width (R49, R54, R55, R58). A non-finite element of a block counts as the
integer 0, beside elements that are folded as usual (DESIGN CHOICE, log 128). -/
def BFmt.blockOf (f : BFmt) (w scale : Nat) (streamed : Bool) (es : List Nat) : ABlk :=
  if scale = 0 then ABlk.zero
  else if scale = 0xFF then { ABlk.zero with scale := scale, nan := true }
  else
    let vs := es.map f.exactInt
    let sat := streamed && decide (f.kind = .int8) && vs.any fun v => v.1 == -128
    let xs := vs.map fun v => if streamed && decide (f.kind = .int8) && v.1 == -128 then -127 else v.1
    let (m, s) := fold w xs
    ⟨m, scale, f.offset - s, vs.any fun v => v.2, sat⟩

/-- Array block b of a packed row of elements in a store: elements at or above `limit` are zero (R51, R53, R142). -/
def BFmt.readBlock (f : BFmt) (w : Nat) (streamed : Bool) (st : Memory) (base sbase b limit : Nat) : ABlk :=
  if limit ≤ 16 * b then ABlk.zero
  else
    let packed := ofBytes (Memory.bytes st (base + 2 * f.bits * b) (2 * f.bits))
    let scale := (Memory.byte st (sbase + 16 * b / f.block)).toNat
    f.blockOf w scale streamed ((List.range 16).map fun i => if 16 * b + i < limit then f.elem packed i else 0)

/-! ### Sparse stationary columns -/

/-- Reduction indices of a step (R66, R75). -/
def spanOf (sparse : Nat) : Nat := 16 * 2 ^ sparse

/-- Rows of a chain (R71, R75). -/
def chainRows (sparse : Nat) : Nat := 16 / 2 ^ sparse

/-- One stationary column of a step: its block, the 2-bit index of each row, the reduction index of each row within the span, and
whether it marks its column (R58, R75 to R77). -/
structure ACol where
  blk : ABlk
  idx : List Nat
  at_ : List Nat
  mark : Bool
  badIndex : Bool
  deriving DecidableEq, Repr

/-- A dense column. -/
def ACol.dense (b : ABlk) : ACol := ⟨b, List.replicate 16 0, List.range 16, b.nan, false⟩

/-- The 2-bit position of row r in an index word (R76). -/
def sparseIdx (word r : Nat) : Nat := word / 2 ^ (2 * r) % 4

/-- The reduction index of row r within its span (R75). -/
def sparseAt (sparse word r : Nat) : Nat := (if sparse = 1 then 4 * (r / 2) else 4 * r) + sparseIdx word r

/-- A 2:4 group that begins below `limit` and whose first position is not below its second (R77); a group of a last span that begins at or
above what K leaves of it is not checked (DESIGN CHOICE, log 128). -/
def badGroup (sparse word limit g : Nat) : Bool :=
  decide (sparse = 1) && decide (4 * g < limit) && decide (sparseIdx word (2 * g + 1) ≤ sparseIdx word (2 * g))

/-- A sparse column from its block of packed values and its index word (R75 to R77); `limit` is what K leaves of the span. A bad group
marks its column and sets the flag even where the block's own scale is 0x00 (DESIGN CHOICE, log 117). -/
def BFmt.sparseCol (f : BFmt) (sparse scale packed word limit : Nat) : ACol :=
  let at_ := (List.range 16).map (sparseAt sparse word)
  let es := (List.range 16).map fun r =>
    if limit ≤ sparseAt sparse word r || badGroup sparse word limit (r / 2) then 0 else f.elem packed r
  let b := f.blockOf f.statWidth scale false es
  let bad := (List.range 8).any (badGroup sparse word limit)
  ⟨b, (List.range 16).map (sparseIdx word), at_, b.nan || bad, bad⟩

/-! ### Streaming a step -/

/-- Ones in the plane of a weight across the streamed elements of a row-step. -/
def planeOnes (xs : List Int) (w : Nat) : Nat := xs.foldl (fun k x => k + x.natAbs / 2 ^ w % 2) 0

/-- Ones in the sign plane: signs of non-zero elements. -/
def signOnes (xs : List Int) : Nat := xs.foldl (fun k x => k + b2n (decide (x < 0))) 0

/-- The ones of each plane sent for a row-step, in the order of R69, under the skipping of R72 and R74. -/
def planesSent (width : Nat) (row : List ABlk) : List Nat :=
  if row.any fun b => b.nan then []
  else
    let xs := row.flatMap fun b => b.ints
    if xs.all fun x => x == 0 then []
    else ((signOnes xs) :: (List.range (width - 1)).map fun i => planeOnes xs (width - 2 - i)).filter fun k => k != 0

/-- The product sum of one chain for a row-step (R56, R71). -/
def chainSum (sparse : Nat) (row : List ABlk) (col : ACol) (ch : Nat) : Int :=
  let r0 := ch * chainRows sparse
  let x := (row.getD ch ABlk.zero).ints
  (List.range (chainRows sparse)).foldl (fun a i =>
    a + col.blk.ints.getD (r0 + i) 0 * x.getD (col.at_.getD (r0 + i) 0 - 16 * ch) 0) 0

/-- The running sum after one converted block, with the flags of the two roundings (R56, R71). -/
def addBlock (acc : W32 × W64) (S : Int) (exp : Int) : W32 × W64 :=
  let c := f32.round .rne (decide (S < 0)) S.natAbs exp false
  let r := f32.addV .rne (dec32 acc.1) (decodeF f32 c.1)
  (w32 r, acc.2 ||| c.2 ||| r.2)

/-- The running sum of one element after every chain of a step, in ascending chain number (R71). -/
def stepElem (sparse : Nat) (row : List ABlk) (col : ACol) (acc : W32 × W64) : W32 × W64 :=
  (List.range row.length).foldl (fun a ch =>
    let b := row.getD ch ABlk.zero
    addBlock a (chainSum sparse row col ch)
      ((col.blk.scale : Int) + b.scale - 254 - col.blk.off - b.off)) acc

/-- What one step does: sums in order 16·m + n, marks, flags, planes sent row by row, planes skipped (R71 to R77, R90). -/
structure StepOut where
  sums : List W32
  rowNaN : BitVec 16
  colNaN : BitVec 16
  flags : W64
  planes : List Nat
  skipped : Nat
  deriving DecidableEq, Repr

/-- A mark of every index at which a list holds true. -/
def marksOf (bs : List Bool) : BitVec 16 := BitVec.ofNat 16 (packN 1 (fun i => b2n (bs.getD i false)) 16)

/-- No row of the step is streamed: every loaded scale is 0x00, or every loaded magnitude is zero (R73). A non-finite block, which has no
integers, counts as magnitudes of zero (DESIGN CHOICE, log 117). -/
def emptyStep (cols : List ACol) : Bool := cols.all fun c => c.blk.scale == 0 || c.blk.ints.all fun x => x == 0

/-- One step over M streamed rows and N loaded columns (R56, R71 to R77). In a zero step, which loads no element, a bad 2:4 group sets no
flag and marks no column (DESIGN CHOICE, log 117). A row-step with a non-finite streamed block is not sent: it adds nothing and sets no
other flag (R74). A column that is marked, now or before, is summed and converted like any other, so that its sums may set INEXACT, OVERFLOW,
UNDERFLOW and INVALID, and a stationary element that is not a number is loaded as 0 (DESIGN CHOICE, log 128). -/
def arrayStep (sparse width : Nat) (rows : List (List ABlk)) (cols : List ACol) (sums : List W32)
    (rowNaN colNaN : BitVec 16) : StepOut :=
  let loaded := cols.any fun c => c.blk.scale != 0
  let rowNaN := rowNaN ||| marksOf (rows.map fun r => r.any fun b => b.nan)
  let colNaN := if loaded then colNaN ||| marksOf (cols.map fun c => c.mark) else colNaN
  let bad := if loaded && cols.any fun c => c.badIndex then Flag.sparseIndex else 0
  if emptyStep cols then ⟨sums, rowNaN, colNaN, bad, [], rows.length * width⟩
  else
    let sent := rows.map (planesSent width)
    let res := (List.range 256).map fun i =>
      if i / 16 < rows.length ∧ i % 16 < cols.length ∧ !((rows.getD (i / 16) []).any fun b => b.nan) then
        stepElem sparse (rows.getD (i / 16) []) (cols.getD (i % 16) (ACol.dense ABlk.zero)) (sums.getD i 0, 0)
      else (sums.getD i 0, 0)
    let sat := if (rows.zip sent).any fun (r, p) => p != [] && r.any fun b => b.sat then Flag.saturation else 0
    let planes := sent.flatten
    ⟨res.map fun r => r.1, rowNaN, colNaN, res.foldl (fun m r => m ||| r.2) (bad ||| sat), planes,
     rows.length * width - planes.length⟩

/-! ### The cells -/

/-- The dummy stationary pattern of columns that are not loaded (R81): sign 1, magnitude 0x55. -/
def dummyCell : BitVec 11 := 0x155

/-- A stationary register: index in bits [10:9], sign in bit 8, magnitude below (R68). -/
def cellOf (v : Int) (idx : Nat) : BitVec 11 :=
  BitVec.ofNat 11 (idx % 4 * 2 ^ 9 + b2n (decide (v < 0)) * 2 ^ 8 + v.natAbs % 2 ^ 8)

/-- The 256 cells of a load, row after row (R78, R81). -/
def cellsOf (cols : List ACol) : List (BitVec 11) :=
  (List.range 256).map fun i =>
    match cols[i % 16]? with
    | some c => cellOf (c.blk.ints.getD (i / 16) 0) (c.idx.getD (i / 16) 0)
    | none => dummyCell

/-- The streamed element that reaches a cell: row r's own, or the one that its index selects of four (R68, R75). -/
def streamedAt (sparse : Nat) (row : List ABlk) (cell : BitVec 11) (r : Nat) : Int :=
  let xs := row.flatMap fun b => b.ints
  let i := cell.toNat / 2 ^ 9
  xs.getD (if sparse = 0 then r else if sparse = 1 then 4 * (r / 2) + i else 4 * r + i) 0

/-- Product-sign and streamed-bit latches of the cells after the planes of a row-step (R68): the sign of stationary value and
streamed element together, and the bit of the last plane sent. -/
def latchesOf (sparse width : Nat) (row : List ABlk) (cells : List (BitVec 11)) : BitVec 256 × BitVec 256 :=
  let xs := row.flatMap fun b => b.ints
  let last := (List.range (width - 1)).find? fun w => planeOnes xs w != 0
  let at_ := fun i => streamedAt sparse row (cells.getD i 0) (i / 16)
  (BitVec.ofNat 256 (packN 1 (fun i => b2n ((cells.getD i 0).getLsbD 8 != decide (at_ i < 0))) 256),
   BitVec.ofNat 256 (packN 1 (fun i => (at_ i).natAbs / 2 ^ last.getD 0) 256))

end Sys2Proof.Machine
end

