-- ==== Sys2Proof/Machine/CoreControl.lean ====
section
/-! DEFINITION. Core states (R97 to R99, R450): entry to RESET, IDLE, ARMED and FENCED, and writes of CORE.CTRL. -/
namespace Sys2Proof.Machine

/-- Work of the core's own units is outstanding (R97, CORE.STATE.BUSY). -/
def Core.busy (c : Core) : Bool :=
  (c.queue.any fun e => !e.2.isEmpty) || (c.pos.any fun e => !e.2.held.isEmpty || !e.2.wb.isEmpty) || !c.gs.isEmpty
    || c.route.isSome || c.routeQ.isSome || !c.routeOut.isEmpty || decide (0 < c.upd)

/-- Feeder path of a position: the nominal one of R84 unless its fuse says otherwise. -/
def Fuse.path (f : Fuse) (n j : Nat) : Nat :=
  Tab.get (if j < 6 then 0 else if j < 12 then 1 else if j < 16 then 2 else 3) f.feedPath (n * 17 + j)

/-- Every enabled position's path and trim make 8 cycles, and no logical number is claimed twice (R84). -/
def State.trimmed (s : State) (n : Nat) : Bool :=
  let js := (List.range 17).filter (s.fuse.posOk n)
  (js.all fun j => decide (5 + s.fuse.path n j + (s.posAt n j).trim = 8))
    && (js.all fun j => js.all fun k => j == k || decide ((s.posAt n j).logical ≠ (s.posAt n k).logical)
      || decide ((s.posAt n j).logical = 31))

/-- Positions on which a probe runs, each with whether it is a follow-up. -/
def Core.probing (c : Core) : List (Nat × Bool) := c.pos.filterMap fun e => e.2.run.map fun r => (e.1, r.1)

/-- A position with its tile operations abandoned and a running probe cut short (R99). -/
def Pos.abandon (p : Pos) : Pos := { p with held := [], wb := [], wait := [], run := none }

/-- Ask for a probe of a position: as a follow-up of a mismatch (R370), which goes first, or as one of a round (R368). -/
def State.askProbe (s : State) (n j : Nat) (followUp : Bool) : State :=
  let p := s.posAt n j
  if p.asks.any fun a => a.2 == followUp then s
  else s.setPos n j { p with asks := if followUp then (s.clk, true) :: p.asks else p.asks ++ [(s.clk, false)] }

/-- Enabled positions of an enabled core, A0 to A15 and then AS (R3, R368). -/
def State.enabledPos (s : State) (n : Nat) : List Nat :=
  if s.fuse.arrays n = 0 then [] else (List.range 17).filter (s.fuse.posOk n)

/-- The round goes on with the first position from `from_` on (R368). -/
def State.probeNext (s : State) (n from_ : Nat) : State :=
  match (s.enabledPos n).find? fun j => decide (from_ ≤ j) with
  | some j => s.askProbe n j false
  | none => s

/-- A running probe was cut short (R99, R368, R369): it counts neither way, and its round goes on with the next position. -/
def State.probeCut (s : State) (n j : Nat) (followUp : Bool) : State :=
  let s := s.followUpDone n j followUp false
  if followUp then s else s.probeNext n (j + 1)

/-- Which lines of the i-th abandoned transfer were written: not specified (R99, log 3). -/
def State.linePick (s : State) (i l : Nat) : Bool := (Config.freeValue (s.free + 12288 * i + l)).getLsbD 0

/-- The core store after its gathers, scatters and routing have stopped at a line boundary, each of them on its own (R99). -/
def State.stopped (s : State) (c : Core) : Memory :=
  let st := c.gs.zipIdx.foldl (fun m (g, i) => mergeLines m (g.run m 0).store (s.linePick i)) c.store
  match c.route with
  | some r => mergeLines st (r.blk.run st).store (s.linePick c.gs.length)
  | none => st

/-- Work waited on a position in the last 100 ns (R88): a queued or accepted operation that has planes, a warm-up, or a probe. -/
def State.waiting (s : State) (n j : Nat) : Bool :=
  let p := s.posAt n j
  (p.held.any fun r => decide (0 < r.op.blk.k)) || ((Tab.get [] (s.coreAt n).queue p.logical).any fun o => decide (0 < o.blk.k))
    || (match p.warm with
        | some t => decide (s.clk < t + 200)
        | none => false)
    || p.run.isSome

/-- The core's asynchronous work ends (R99): tile operations and probes abandoned, gathers, scatters and routing stopped. -/
def State.abandonWork (s : State) (n : Nat) : State :=
  let c := s.coreAt n
  let probes := c.probing
  let s := s.setCore n { c with
    store := s.stopped c, wait := none, fence := none, halting := false, copyWait := none, queue := []
    pos := c.pos.map fun e => (e.1, { e.2.abandon with active := e.2.active || s.waiting n e.1 })
    gs := [], route := none, routeQ := none, routeOut := [] }
  probes.foldl (fun s e => s.probeCut n e.1 e.2) { s with free := s.free + 12288 * (c.gs.length + 1) }

/-- Entering RESET (R97, R99): FENCE and FAULT are cleared, every completion counter is 0, and the core store stays. -/
def State.enterReset (s : State) (n : Nat) : State :=
  let s := if (s.coreAt n).st = .reset then s
    else
      let s := s.abandonWork n
      (s.setCore n { s.coreAt n with st := .reset, cnt := [], rem := [] }).setReg (A.coreFault n) 0
  s.setReg (A.coreCtrl n) 2

/-- RESET_HOLD written 0: a core in RESET goes to IDLE when it is enabled and meets R84 (R97). -/
def State.releaseReset (s : State) (n : Nat) : State :=
  let s := s.setReg (A.coreCtrl n) (s.reg (A.coreCtrl n) &&& ~~~ 2)
  if (s.coreAt n).st = .reset ∧ 0 < s.fuse.arrays n ∧ s.trimmed n then s.setCore n { s.coreAt n with st := .idle } else s

/-- FENCE written 1, by software or by policy: any state but RESET goes to FENCED, with a job fault on entry (R97, R99). -/
def State.fenceCore (s : State) (n : Nat) : State :=
  let st := (s.coreAt n).st
  if st = .reset ∨ st = .fenced then s
  else
    let s := s.abandonWork n
    let s := s.setCore n { s.coreAt n with st := .fenced }
    let s := s.setReg (A.coreCtrl n) (s.reg (A.coreCtrl n) ||| 4)
    s.jobFault n 7 (s.corePart n) (s.coreTag n) 0xFFFF 0 0

/-- RUN written 1: an IDLE, HALTED or FAULTED core becomes ARMED (R96, R97, R115), its registers zero (R120). -/
def State.arm (s : State) (n : Nat) : State :=
  let c := s.coreAt n
  if c.st = .idle ∨ c.st = .halted ∨ c.st = .faulted then
    let seed := BitVec.ofNat 32 n ^^^ (s.reg (A.coreStartCt n)).truncate 32
    s.setCore n { c with st := .armed, ibuf := [], pc := fld (s.reg (A.coreStart n)) 19 3 * 8
                         s := [], v := [], p := [], shadowR := if seed = 0 then 1 else seed }
  else s

/-- A write to CORE.CTRL (R450). -/
def State.writeCtrl (s : State) (n : Nat) (v : W64) : State :=
  if !s.coreDom (dieOf n) then s
  else if bit v 1 then s.enterReset n
  else
    let s := s.releaseReset n
    let s := if bit v 2 then s.fenceCore n else s
    if bit v 0 then s.arm n else s

end Sys2Proof.Machine
end

