-- ==== Sys2Proof/Machine/Time.lean ====
section
/-! DEFINITION. Cluster time (R27 to R45): the tick, time frames, the parent and the primary root, the time states, 1588 at a root, and
waits on time. Times in commands are compared with `clk`. -/
namespace Sys2Proof.Machine

/-- Ticks in 1 ms. -/
abbrev ms1 : Nat := 2000000
/-- Ticks in 1 µs. -/
abbrev us1 : Nat := 2000

/-- Cluster time as the bounds of R45 measure it: the hub counter, steps among what it moves by, but not the value that a module without
hall time loads. -/
def State.ct (s : State) : Nat := ((s.time.counter.toNat : Int) + s.time.ctShift).toNat

/-- Capacity counted up to now, and from the slot that a new counter value lies in (R284). -/
def Port.rebase (x : Port) (old new : Nat) : Port :=
  let lanes := ((List.range 8).filter fun l => x.txLanes.getLsbD l).length
  { x with tel := { x.tel with cap := x.tel.cap + 25 * lanes * (old - x.tel.capSlot), capSlot := new } }

/-- The hub counter takes a value of its own accord, in place of the next tick (R36, R37). -/
def State.jumpTo (s : State) (v : W64) : State :=
  let old := s.slot
  { s with
    time := { s.time with counter := v }
    hub := { s.hub with port := s.hub.port.map fun (e : Nat × Port) => (e.1, e.2.rebase old (v.toNat / 128)) } }

/-- A module without hall time loads the counter (R36). -/
def State.loadCounter (s : State) (v : W64) : State :=
  let t := s.jumpTo v
  { t with time := { t.time with ctShift := t.time.ctShift + s.time.counter.toNat - v.toNat } }

/-- What one local tick adds to the counter at the rate in force, and the part of a tick left over (R37). -/
def TimeS.advance (t : TimeS) : Nat × Int :=
  let f := t.frac + t.rate
  if 1000000000 ≤ f then (2, f - 1000000000) else if f ≤ -1000000000 then (0, f + 1000000000) else (1, f)

/-- One local tick: the hub counter advances by 1, at the corrected rate, and at half rate during a backward correction (R7, R37). -/
def State.tick (s : State) : State :=
  let t := s.time
  if t.slewing && decide (0 < t.slewBack) then
    if t.slewPhase then
      { s with clk := s.clk + 1, edge := Edge.none, time := { t with slewPhase := false, slewBack := t.slewBack - 1, moved := 0 } }
    else { s with clk := s.clk + 1, edge := Edge.none, time := { t with slewPhase := true, counter := t.counter + 1, moved := 1 } }
  else
    { s with
      clk := s.clk + 1, edge := Edge.none, time := { t with counter := t.counter + BitVec.ofNat 64 t.advance.1, frac := t.advance.2, moved := t.advance.1 } }

/-- The rate correction for an offset in sixteenths of a tick, within a bound (R31, R37): its size is the servo's own (log 101). -/
def steer (bound : Nat) (off : Int) : Int := off.sign * (min bound (Config.servo off) : Nat)

/-- Correct the counter's rate by at most 20 ppm (R37). -/
def State.steerBy (s : State) (off : Int) : State := { s with time := { s.time with rate := steer 20000 off } }

/-- What is held of the neighbour on a port. -/
def State.nbrAt (s : State) (p : Nat) : Nbr := Tab.get Nbr.init s.time.nbr p
/-- Store what is held of a neighbour. -/
def State.setNbr (s : State) (p : Nat) (x : Nbr) : State := { s with time := { s.time with nbr := Tab.put s.time.nbr p x } }

/-- This module's priority among the roots that TIME.ROOTS names (R28). -/
def State.ownPrio (s : State) : Option Nat :=
  if s.topo.ownEid = 0xFFFF then none
  else (List.range 4).find? fun i => s.field A.timeRoots (63 - 16 * i) (48 - 16 * i) == s.topo.ownEid

/-- The state advertised: the worse of the module's own state and its parent's (R30). -/
def worseState (own parent : TState) : TState :=
  match own with
  | .locked => parent
  | .holdover => if parent = .locked then .holdover else parent
  | o => o

/-- The state that this module advertises. -/
def State.advertised (s : State) : TState :=
  match s.time.parent with
  | some p => worseState s.time.st (s.nbrAt p).st
  | none => s.time.st

/-! ### Time states -/

/-- Enter a time state: record and event (R38), counters and events of R44; leaving LOCKED or HOLDOVER for LOST stops scheduled
traffic. In LOST the module is no primary root; its parent is chosen afresh by what follows. Outside ACQUIRE no half-rate correction
runs on (R37), and in FREE and LOST no rate correction. -/
def State.enterTime (s : State) (new : TState) : State :=
  let old := s.time.st
  let isLost := decide (new = TState.lost)
  let isLocked := decide (new = TState.locked)
  if new = old then s
  else
    let t := s.time
    let stop := isLost && (decide (old = .locked) || decide (old = .holdover))
    let s := { s with time := { t with
      st := new, since := s.clk, run := []
      schedStopped := t.schedStopped || stop
      relockedAt := if isLocked then some s.clk else none
      primary := if isLost then false else t.primary
      rootEid := if isLost && t.primary then 0xFFFF else t.rootEid
      rootGen := if isLost && t.primary then 0 else t.rootGen
      rootPrio := if isLost && t.primary then 0 else t.rootPrio
      untraceable := t.untraceable && !(isLost && t.primary)
      slewing := false
      slewBack := 0
      rate := if isLost then 0 else t.rate
      correct := if isLost then false else t.correct } }
    let s := if isLost then (s.setBit A.timeEvents 0).bump A.timeCounts 63 48 1 else s
    let s := if isLost && t.primary && decide (t.rootEid ≠ 0xFFFF) then s.setBit A.timeEvents 2 else s
    let s := if new = TState.holdover then s.bump A.timeCounts 15 0 1 else s
    s.report { sev := if isLost then 2 else 1, index := 0, code := 0x1001, p0 := new.code + old.code * 256,
               p1 := s.time.rootEid, p2 := s.time.parent.getD 0x7F }

/-- Follow a parent, or none: root, hops and UNTRACEABLE come from it (R30, R31); changes set their events (R44). -/
def State.follow (s : State) (p : Option Nat) : State :=
  let nb := (p.map s.nbrAt).getD Nbr.init
  let t := s.time
  let root := if p.isSome then nb.rootEid else 0xFFFF
  let moved := decide (t.parent ≠ p)
  let s' := { s with time := { t with
    parent := p, primary := false, rootEid := root
    rootGen := if p.isSome then nb.rootGen else 0
    rootPrio := if p.isSome then nb.rootPrio else 0
    hops := if p.isSome then nb.hops + 1 else 0
    rate := if p.isSome then t.rate else 0
    untraceable := p.isSome && nb.untraceable
    run := if moved then [] else t.run } }
  let s' := if moved then (s'.setBit A.timeEvents 1).bump A.timeCounts 47 32 1 else s'
  if root = t.rootEid then s' else s'.setBit A.timeEvents 2

/-- The 1588 time now, in ticks of cluster time. -/
def State.ptpNow (s : State) : Nat := s.time.ptpTicks.toNat + (s.clk - s.time.ptpAt)

/-- A primary root steers toward its 1588 time by at most 100 ns per second (R28, R31). -/
def State.steerPtp (s : State) : State :=
  { s with time := { s.time with rate := steer 100 (16 * ((s.ptpNow : Int) - s.time.counter.toNat)) } }

/-- Become, or stay, the primary root (R29, R31): ROOT_GEN rises each time it becomes primary. -/
def State.bePrimary (s : State) (prio : Nat) : State :=
  let t := s.time
  if t.primary then { s with time := { t with rootPrio := prio, untraceable := decide (t.ptpState ≠ 2) } }
  else
    let gen := (t.ownGen + 1) % 256
    let s' := { s with time := { t with
      parent := none, primary := true, rootEid := s.topo.ownEid, rootGen := gen, ownGen := gen, rootPrio := prio, hops := 0
      untraceable := decide (t.ptpState ≠ 2), run := [] } }
    let s' := s'.steerPtp
    let s' := if t.parent.isSome then (s'.setBit A.timeEvents 1).bump A.timeCounts 47 32 1 else s'
    if t.rootEid = s.topo.ownEid then s' else s'.setBit A.timeEvents 2

/-- The correction of R37 on an offset in ticks: one step forward, or half rate until the offset is gone; each writes a record. -/
def State.correctBy (s : State) (ticks : Int) : State :=
  if 0 < ticks then
    let n := ticks.toNat
    let s := s.jumpTo (s.time.counter + BitVec.ofNat 64 n)
    let s := { s with time := { s.time with correct := false, moved := s.time.moved + n } }
    (s.setBit A.timeEvents 3).note { sev := 2, index := 0, code := 0x1002, p0 := n, p1 := n / 2 ^ 32 }
  else if ticks < 0 then
    let s := { s with time := { s.time with slewing := true, slewBack := ticks.natAbs, slewPhase := false, correct := true } }
    (s.setBit A.timeEvents 4).note { sev := 2, index := 0, code := 0x1003, p0 := unsigned 32 ticks }
  else { s with time := { s.time with correct := false } }

/-- Reject a parent for 1 s (R36); the event is that of a rejection for its offset (R44). -/
def State.rejectParent (s : State) (p : Nat) (far : Bool) : State :=
  let s := (s.setNbr p { s.nbrAt p with rejectedUntil := some (s.clk + 1000 * ms1) }).bump A.timeCounts 31 16 1
  if far then s.setBit A.timeEvents 5 else s

/-- The frames of a neighbour are fresh: received within the last 1 ms (R30). -/
def State.nbrFresh (s : State) (p : Nat) : Bool :=
  match (s.nbrAt p).rxAt with
  | some t => decide (s.clk ≤ t + ms1)
  | none => false

/-- A neighbour that may be chosen as parent (R30, R36). -/
def State.mayParent (s : State) (p : Nat) : Bool :=
  let nb := s.nbrAt p
  s.portUp p && s.nbrFresh p && (decide (nb.st = .locked) || decide (nb.st = .holdover)) && decide (nb.hops < 3)
    && decide (nb.rootEid ≠ 0xFFFF) && nb.rejectedUntil.isNone && nb.measured

/-- The order of R30: root priority, hops, LOCKED before HOLDOVER, port. -/
def State.parentKey (s : State) (p : Nat) : Nat :=
  let nb := s.nbrAt p
  ((nb.rootPrio * 4 + nb.hops) * 2 + b2n (decide (nb.st ≠ .locked))) * 128 + p

/-- The best of the ports by the order of R30. -/
def State.bestPort (s : State) (ps : List Nat) : Option Nat :=
  ps.foldl (fun b p => match b with
    | none => some p
    | some q => if s.parentKey p < s.parentKey q then some p else some q) none

/-- The root priority that the module follows or has as primary. -/
def TimeS.following (t : TimeS) : Option Nat := if t.primary || t.parent.isSome then some t.rootPrio else none

/-- A better root that R31 refuses: its offset exceeds 8 ns. -/
def State.refusesRoot (s : State) (p : Nat) : Bool :=
  match s.time.following with
  | some r => decide ((s.nbrAt p).rootPrio < r) && decide (256 < (s.nbrAt p).offset.natAbs)
  | none => false

/-- Refusing a better root is reported when TIME.EVENTS.ROOT_CONFLICT was 0 (R31, log 18). -/
def State.conflict (s : State) (p : Nat) : State :=
  if bit (s.reg A.timeEvents) 7 then s
  else (s.setBit A.timeEvents 7).report
    { sev := 2, index := 0, code := 0x1004, p0 := (s.nbrAt p).rootEid, p1 := unsigned 32 (s.nbrAt p).offset }

/-- The parent's time now, in ticks: its time at sending, the measured delay and the time since (R36). -/
def State.parentTime (s : State) (p : Nat) : Nat :=
  let nb := s.nbrAt p
  (((nb.txTicks.toNat * 16 + nb.txFine : Nat) + nb.delay) / 16).toNat + (s.clk - nb.rxAt.getD s.clk)

/-- Take the state that R36 gives to a module with this parent, which is valid. -/
def State.withParent (s : State) (p : Nat) (linkLost : Bool) : State :=
  let t := s.time
  let nb := s.nbrAt p
  match t.st with
  | .free =>
    (s.loadCounter (BitVec.ofNat 64 (s.parentTime p))).enterTime .acquire
  | .lost =>
    if t.oscFault then s
    else (s.enterTime .acquire).correctBy (nb.offset.tdiv 16)
  | .acquire => if linkLost then s.enterTime .lost else s
  | .locked => if linkLost || decide (nb.st ≠ .locked) then s.enterTime .holdover else s
  | .holdover => s

/-- Take the state that R36 gives to a module that has no parent and is not primary root. -/
def State.withoutParent (s : State) (linkLost : Bool) : State :=
  match s.time.st with
  | .acquire => if linkLost then s.enterTime .lost else s
  | .locked => s.enterTime .holdover
  | _ => s

/-- Take the state that R36 gives to the primary root. -/
def State.asPrimary (s : State) (prio : Nat) : State :=
  let d : Int := (s.ptpNow : Int) - s.time.counter.toNat
  match s.time.st with
  | .free =>
    let s := s.loadCounter (BitVec.ofNat 64 s.ptpNow)
    (s.bePrimary prio).enterTime .locked
  | .lost =>
    if s.time.oscFault || s.time.slewing then s
    else if d < 0 then s.correctBy d
    else ((s.correctBy d).bePrimary prio).enterTime .locked
  | _ => (s.bePrimary prio).enterTime .locked

/-- A trained neighbour's fresh frames announce a root of better priority: its frames have not stopped (R29, R31). -/
def State.betterHeard (s : State) (i : Nat) : Bool :=
  (Tab.keys s.time.nbr).any fun p =>
    let nb := s.nbrAt p
    s.portUp p && s.nbrFresh p && (decide (nb.st = .acquire) || decide (nb.st = .locked) || decide (nb.st = .holdover))
      && decide (nb.rootEid ≠ 0xFFFF) && decide (nb.rootPrio < i)

/-- The parent was lost in the sense of R36: its link is down, its frames are stale, or its state is not one to follow. -/
def State.parentLost (s : State) (p : Nat) : Bool :=
  let nb := s.nbrAt p
  match s.time.st with
  | .acquire => !s.portUp p || !s.nbrFresh p || !(decide (nb.st = .locked) || decide (nb.st = .holdover))
  | _ => !s.portUp p || decide (nb.st ≠ .locked)

/-- Choose the parent or the primary root's part, and the state that follows (R29 to R31, R36). A root that is not primary becomes it
only while no better root is announced; a primary root stays it until it follows a better one. -/
def State.evalTime1 (s : State) : State :=
  let cands := (Tab.keys s.time.nbr).filter s.mayParent
  let best := s.bestPort cands
  let chosen := s.bestPort (cands.filter fun p => !s.refusesRoot p)
  let s := match best with
    | some b => if s.refusesRoot b then s.conflict b else s
    | none => s
  let primaryPrio := match s.ownPrio with
    | some i =>
      if s.time.everLocked && (chosen.all fun p => i ≤ (s.nbrAt p).rootPrio) && (s.time.primary || !s.betterHeard i) then some i else none
    | none => none
  match primaryPrio with
  | some i => s.asPrimary i
  | none =>
    let lost := s.time.parent.any s.parentLost
    match chosen with
    | some p => (s.follow (some p)).withParent p lost
    | none => (s.follow none).withoutParent lost

/-- The parent and the state: a module that goes to LOST chooses a parent afresh from there (R36). -/
def State.evalTime (s : State) : State := s.evalTime1.evalTime1

/-! ### Time frames -/

/-- Offset and delay of an exchange in sixteenths of a tick (R33). The halves of an odd difference are truncated toward zero, and so are
sixteenths where a whole tick is needed (DESIGN CHOICE, log 106). -/
def exchange (t1 t2 t3 t4 asym : Int) : Int × Int :=
  ((((t2 - t1) - (t4 - t3)).tdiv 2) - asym, ((t2 - t1) + (t4 - t3)).tdiv 2)

/-- What a frame says of its sender. -/
def State.hear (s : State) (p : Nat) (f : Words4) (fine : BitVec 4) (st : TState) : State :=
  s.setNbr p { s.nbrAt p with
    rxAt := some s.clk, txTicks := f.w0, txFine := fld f.w3 31 28, rxTicks := s.time.counter, rxFine := fine.toNat
    seq := fld f.w3 15 8, rootEid := fld f.w3 63 48, rootGen := fld f.w3 47 40, rootPrio := fld f.w3 39 38
    hops := fld f.w3 37 36, st := st, untraceable := bit f.w3 32 }

/-- One parent exchange (R33, R36): the run of the last 64 exchanges within 1.0 ns, and a rejection beyond 8 ns; else the offset steers
the counter's rate (R37). -/
def State.parentExchange (s : State) (p : Nat) (off delay : Int) : State :=
  let t := s.time
  let good := decide (off.natAbs ≤ 32)
  let s := { s with time := { t with
    parentOffset := off, parentDelay := delay
    run := if good then (t.run ++ [(off, s.clk)]).drop (t.run.length - 63) else [] } }
  if 256 < off.natAbs then
    match t.st with
    | .acquire => if t.correct then s else (s.rejectParent p true).enterTime .lost
    | .locked => (s.rejectParent p true).enterTime .holdover
    | _ => s
  else
    let s := if t.st = .free ∨ t.st = .lost ∨ t.slewing then s else s.steerBy off
    let run := s.time.run
    let (off0, at0) := run.headD (off, s.clk)
    let steady := decide ((off - off0).natAbs * 10000000 ≤ 16 * (s.clk - at0))
    match t.st with
    | .acquire => if run.length = 64 && steady then s.enterTime .locked else s
    | .holdover => if run.length = 64 then s.enterTime .locked else s
    | _ => s

/-- A valid exchange on a port: measured on every port, steering on the parent's only (R33). In HOLDOVER one beyond 8 ns to any LOCKED
neighbour loses the time (R36); the exchange that leaves LOCKED for HOLDOVER is none of them. -/
def State.takeExchange (s : State) (p : Nat) (off delay : Int) : State :=
  let loses := decide (s.time.st = .holdover) && decide ((s.nbrAt p).st = .locked) && decide (256 < off.natAbs) && !s.time.primary
  let s := s.setNbr p { s.nbrAt p with offset := off, delay := delay, measured := true }
  let s := if s.time.parent = some p then s.parentExchange p off delay else s
  if loses then s.enterTime .lost else s

/-- The time state that a code of R32 stands for. -/
def TState.ofCode : Nat → Option TState
  | 0 => some .free
  | 1 => some .acquire
  | 2 => some .locked
  | 3 => some .holdover
  | 4 => some .lost
  | _ => none

/-- A received time frame (R33). A reserved encoding discards the frame and is counted (R13). The exchange is discarded when it
echoes no frame sent on the port within the last 1 ms. -/
def State.timeFrame (s : State) (p : Nat) (f : Words4) (fine : BitVec 4) : State :=
  match TState.ofCode (fld f.w3 35 33) with
  | none => s.bump A.drops 15 0 1
  | some st =>
    if fld f.w3 19 16 ≠ 0 then s.bump A.drops 15 0 1
    else
      let echoed := (s.nbrAt p).sent.any fun e => e.1 == fld f.w3 7 0 && s.clk ≤ e.2 + ms1
      let t1 : Int := (f.w1.toNat * 16 + fld f.w3 27 24 : Nat)
      let t2 : Int := (f.w2.toNat * 16 + fld f.w3 23 20 : Nat)
      let t3 : Int := (f.w0.toNat * 16 + fld f.w3 31 28 : Nat)
      let t4 : Int := (s.time.counter.toNat * 16 + fine.toNat : Nat)
      let (off, delay) := exchange t1 t2 t3 t4 (signed 16 (s.field (A.timeAsym p) 15 0))
      let s := s.hear p f fine st
      let s := if echoed then s.takeExchange p off delay else s
      s.evalTime

/-- PARENT_FRAMES_STALE (R30). -/
def execParentFramesStale (p : Nat) (s : State) : Host.Outcome State Fault Refusal :=
  onUnit (p < numPorts) (if s.nbrFresh p then s else s.evalTime)

/-! ### 1588 at a root (R28) -/

/-- The time receiver on an Ethernet port. -/
def State.ptpSide (s : State) (e : Nat) : PtpSide := Tab.get PtpSide.init s.time.ptp e
/-- Store a port's time receiver. -/
def State.setPtpSide (s : State) (e : Nat) (x : PtpSide) : State := { s with time := { s.time with ptp := Tab.put s.time.ptp e x } }

/-- One announced clock is better than another by the default best master clock algorithm (R28, log 105): the grandmaster's data in
order; of the same grandmaster the fewer steps, then the lower identity of the sender. -/
def ptpBetter (a b : PtpTx) : Bool :=
  let rank (d : PtpData) : Nat :=
    ((((d.priority1.toNat * 2 ^ 8 + d.clockClass.toNat) * 2 ^ 8 + d.accuracy.toNat) * 2 ^ 16 + d.variance.toNat) * 2 ^ 8
      + d.priority2.toNat) * 2 ^ 64 + d.grandmaster.toNat
  if a.data.grandmaster = b.data.grandmaster then
    decide (a.data.steps.toNat * 2 ^ 80 + a.source.toNat < b.data.steps.toNat * 2 ^ 80 + b.source.toNat)
  else decide (rank a.data < rank b.data)

/-- The transmitter that a port selects among those it hears (R28). -/
def PtpSide.selected (x : PtpSide) : Option PtpTx :=
  x.heard.foldl (fun b t => match b with
    | none => some t
    | some u => if ptpBetter t u then some t else some u) none

/-- The port that a root takes time from: the preferred one while a transmitter is selected there, else the other (R28); the preferred
one again where neither port hears any (DESIGN CHOICE, log 107). -/
def State.ptpChoose (s : State) : Nat :=
  let pref := s.field A.timePtpCfg 10 10
  if (s.ptpSide pref).selected.isSome then pref else if (s.ptpSide (1 - pref)).selected.isSome then 1 - pref else pref

/-- The port in use as the transmitters that are heard give it (R28). -/
def State.ptpTurn (s : State) : State := { s with time := { s.time with ptpPort := s.ptpChoose } }

/-- A time of the 1588 network in units of 2^-16 ns since ct 0, which TIME.EPOCH places (R44). -/
def State.ptpUnits (s : State) (t : PtpTime) : Int :=
  (((t.sec.toNat : Int) - s.field A.timeEpoch 63 16) * 1000000000 + t.ns.toNat) * 65536 + signed 64 t.correction.toNat

/-- The hub counter in units of 2^-16 ns. -/
def State.nowUnits (s : State) : Int := (s.time.counter.toNat * 32768 : Nat)

/-- The identity of the module's own 1588 port (log 105): the EUI-64 of the first MAC address and the port's number from 1. -/
def State.ptpIdentity (s : State) (e : Nat) : BitVec 80 :=
  let m := s.fuse.mac0.toNat
  BitVec.ofNat 80 (((m / 2 ^ 24 * 2 ^ 16 + 0xFFFE) * 2 ^ 24 + m % 2 ^ 24) * 2 ^ 16 + e + 1)

/-- A primary root without 1588 lock serves hall time on its oscillator (R31): no rate correction is in force. -/
def State.onOscillator (s : State) : State := { s with time := { s.time with rate := 0 } }

/-- What the port in use has measured: 1588 time minus cluster time, the source's time, and the lock (R31, R44). A primary root steers
toward it, but not once it has lost the lock. -/
def State.ptpMeasured (s : State) (e : Nat) (offset : Int) (lock : Option Bool) : State :=
  if e ≠ s.time.ptpPort then s
  else
    let t := s.time
    let st := match lock with
      | some true => 2
      | some false => if t.ptpState = 2 ∨ t.ptpState = 3 then 3 else 1
      | none => if t.ptpState = 0 then 1 else t.ptpState
    let s' := { s with time := { t with
      ptpState := st, ptpTicks := BitVec.ofInt 64 ((t.counter.toNat : Int) + offset.tdiv 32768), ptpAt := s.clk
      ptpOffset := offset.tdiv 65536
      everLocked := t.everLocked || lock == some true
      untraceable := if t.primary then decide (st ≠ 2) else t.untraceable } }
    let s' := if t.ptpState = 2 ∧ st = 3 then s'.setBit A.timeEvents 6 else s'
    (if t.primary then (if st = 3 then s'.onOscillator else s'.steerPtp) else s').evalTime

/-- A Sync of the selected transmitter whose sending time is known (R28): the root asks for the delay, and knows its offset where the
delay has been measured. -/
def State.ptpSynced (s : State) (e : Nat) (t1 t2 : Int) : State :=
  let x := s.ptpSide e
  let s := (s.setPtpSide e { x with
      sync := none, t1 := t1, t2 := t2, req := some (x.nextSeq, s.nowUnits), nextSeq := (x.nextSeq + 1) % 2 ^ 16 }).emit
    (.delayReq e (s.field A.timePtpCfg 7 0) (s.field A.timePtpCfg 9 8) (s.ptpIdentity e) x.nextSeq)
  match x.delay with
  | some d => s.ptpMeasured e (t1 + d - t2) none
  | none => s

/-- An announcement: the transmitter is heard, with these data. -/
def PtpSide.hear (x : PtpSide) (t : PtpTx) : PtpSide :=
  { x with heard := t :: x.heard.filter fun u => u.source != t.source }

/-- The port's time receiver starts afresh when another transmitter is selected. -/
def PtpSide.turn (x y : PtpSide) : PtpSide :=
  if x.selected.map (·.source) = y.selected.map (·.source) then y else { y with sync := none, req := none, delay := none }

/-- A 1588 message at a root (R28): announcements choose the transmitter; Sync, Follow_Up and the answers to delay requests count from
the selected one only. -/
def State.ptpTake (s : State) (e : Nat) (m : PtpMsg) : State :=
  let cfg := s.reg A.timePtpCfg
  let x := s.ptpSide e
  if m.domain.toNat ≠ fld cfg 7 0 ∨ m.transport.toNat ≠ fld cfg 9 8 then s
  else
    match m.body with
    | .announce d => (s.setPtpSide e (x.turn (x.hear ⟨m.source, d⟩))).ptpTurn
    | .sync twoStep seq origin =>
      if x.selected.map (·.source) ≠ some m.source then s
      else if twoStep then s.setPtpSide e { x with sync := some (seq.toNat, s.nowUnits, signed 64 origin.correction.toNat) }
      else s.ptpSynced e (s.ptpUnits origin) s.nowUnits
    | .followUp seq origin =>
      match x.sync with
      | some (n, t2, c) =>
        if x.selected.map (·.source) = some m.source ∧ n = seq.toNat then s.ptpSynced e (s.ptpUnits origin + c) t2 else s
      | none => s
    | .delayResp seq who receipt locked =>
      match x.req with
      | some (n, t3) =>
        if x.selected.map (·.source) = some m.source ∧ n = seq.toNat ∧ who = s.ptpIdentity e then
          let t4 := s.ptpUnits { receipt with correction := 0 } - signed 64 receipt.correction.toNat
          let d := ((x.t2 - x.t1) + (t4 - t3)).tdiv 2
          (s.setPtpSide e { x with req := none, delay := some d }).ptpMeasured e (x.t1 + d - x.t2) (some locked)
        else s
      | none => s

/-- PTP_MESSAGE (R28): a module that is not a root ignores and counts it, in DISCARDS (R338, log 107). -/
def execPtpMessage (e : Nat) (m : PtpMsg) (s : State) : Host.Outcome State Fault Refusal :=
  onUnit (e < 2)
    (if !s.eth.linkUp.getLsbD e then s
     else if s.ownPrio.isNone then s.bump (A.ethCnt e) 15 0 1
     else s.ptpTake e m)

/-- PTP_LOCK_LOST (R31): a primary root keeps serving hall time on its oscillator and is UNTRACEABLE. -/
def execPtpLockLost (s : State) : Host.Outcome State Fault Refusal :=
  .next (if s.ownPrio.isSome ∧ s.time.ptpState = 2 then
      let t := s.time
      let s := if t.primary then s.onOscillator else s
      ({ s with time := { s.time with ptpState := 3, untraceable := t.primary || t.untraceable } }).setBit A.timeEvents 6
    else s)

/-- A port no longer hears a transmitter, or any (R28): it selects among the others, and the root takes time from the port that R28 gives. -/
def State.ptpForget (s : State) (e : Nat) (gone : PtpTx → Bool) : State :=
  let x := s.ptpSide e
  (s.setPtpSide e (x.turn { x with heard := x.heard.filter fun t => !gone t })).ptpTurn

/-- PTP_TRANSMITTER_NOT_HEARD (R28): the port's selected transmitter is heard no more. -/
def execPtpTransmitterNotHeard (e : Nat) (s : State) : Host.Outcome State Fault Refusal :=
  onUnit (e < 2)
    (if s.ownPrio.isSome then s.ptpForget e fun t => (s.ptpSide e).selected.any fun u => u.source == t.source else s)

/-! ### Timeouts, the oscillator and corrections -/

/-- HOLDOVER_TIMEOUT (R36). -/
def execHoldoverTimeout (s : State) : Host.Outcome State Fault Refusal :=
  .next (if s.time.st = .holdover ∧ 100 * ms1 ≤ s.sinceTick s.time.since then (s.enterTime .lost).evalTime else s)

/-- ACQUIRE_TIMEOUT (R36): that parent is rejected for 1 s. -/
def execAcquireTimeout (s : State) : Host.Outcome State Fault Refusal :=
  .next (if s.time.st = .acquire ∧ 100 * ms1 ≤ s.sinceTick s.time.since then
      let s := match s.time.parent with
        | some p => s.rejectParent p false
        | none => s
      (s.enterTime .lost).evalTime
    else s)

/-- OSCILLATOR_FAULT (R36): while the fault persists, the module stays LOST. -/
def execOscillatorFault (present : Bool) (s : State) : Host.Outcome State Fault Refusal :=
  let s := { s with time := { s.time with oscFault := present } }
  .next (if present then (s.enterTime .lost).evalTime else s.evalTime)

/-- PARENT_REJECT_EXPIRY (R36). -/
def execParentRejectExpiry (p : Nat) (s : State) : Host.Outcome State Fault Refusal :=
  onUnit (p < numPorts)
    (match (s.nbrAt p).rejectedUntil with
     | some t => if t ≤ s.clk then (s.setNbr p { s.nbrAt p with rejectedUntil := none }).evalTime else s
     | none => s)

/-- SLEW_BACK_END (R37): the offset is below 1 tick. -/
def execSlewBackEnd (s : State) : Host.Outcome State Fault Refusal :=
  .next (if s.time.slewing ∧ s.time.slewBack = 0 then
      ({ s with time := { s.time with slewing := false, correct := false } }).evalTime
    else s)

/-- The pitch boundary at which the hub counter stands, or which it has just passed (R7, R27, R37). -/
def State.pitchAt (s : State) : Option W64 := s.boundaryOf (128 * 2 ^ s.hub.log2P)
/-- The hub counter stands at a pitch boundary, or has just passed it. -/
def State.atPitch (s : State) : Bool := s.pitchAt.isSome

/-- SCHEDULED_TRAFFIC_RESUME (R38): the first pitch boundary at least 1 ms after LOCKED is entered again. A fall to HOLDOVER before it
ends that millisecond, which then runs afresh from the next entry to LOCKED (DESIGN CHOICE, log 108). -/
def execScheduledTrafficResume (s : State) : Host.Outcome State Fault Refusal :=
  .next (match s.time.relockedAt with
    | some t =>
      if s.time.schedStopped ∧ s.time.st = .locked ∧ t + ms1 ≤ s.clk ∧ s.atPitch then
        { s with time := { s.time with schedStopped := false } }
      else s
    | none => s)

/-! ### Waits on time -/

/-- The core of a wait whose condition holds goes on RUNNING (R97, R114). -/
def Core.resumed (c : Core) : Core := { c with st := .running, wait := none }

/-- Another core's wait on time comes before that of core n to target t (R43): an earlier target that is passed, or an equal one on the
same die that R18 serves first, by (index − slot) mod 640. -/
def State.waitsBefore (s : State) (n : Nat) (t : W64) : Bool :=
  let turn (m : Nat) : Nat := (m % 640 + 640 - s.slot % 640) % 640
  s.core.any fun e => match e.2.st, e.2.wait with
    | .waiting, some (.time u) =>
      decide (u ≤ s.now) && (decide (u < t) || (decide (u = t) && decide (e.1 / 640 = n / 640) && decide (turn e.1 < turn n)))
    | _, _ => false

/-- WAIT_TIME_RESUME (R43, R114): in order of target time. -/
def execWaitTimeResume (n : Nat) (s : State) : Host.Outcome State Fault Refusal :=
  onUnit (n < numCores)
    (match (s.coreAt n).st, (s.coreAt n).wait with
     | .waiting, some (.time t) => if t ≤ s.now ∧ !s.waitsBefore n t then s.setCore n (s.coreAt n).resumed else s
     | _, _ => s)

end Sys2Proof.Machine
end

