-- ==== Sys2Proof/Machine/Policy.lean ====
section
/-! DEFINITION. Policy on wrong results (R370 to R374) and known-answer probes (R368, R369, R379). -/
namespace Sys2Proof.Machine

/-- FAULTS and SUSPECTS of a position (R370, R371). -/
def State.faultsOf (s : State) (n j : Nat) : Nat × Nat := Tab.get (0, 0) s.self.faults (n * 17 + j)
/-- Store FAULTS and SUSPECTS of a position. -/
def State.setFaults (s : State) (n j : Nat) (x : Nat × Nat) : State :=
  { s with self := { s.self with faults := Tab.put s.self.faults (n * 17 + j) x } }

/-- A fence raises the die's guard band by GB_STEP, up to GB_MAX (R372); a software write of the same tick stands, and the raise is lost
(R11). -/
def State.raiseGuardBand (s : State) (d : Nat) : State :=
  if s.writesTo (A.pwrOp d) ≠ [] then s else
  let o := s.opAt d
  let want := o.gband + s.bound 6
  let new := max o.gband (min want (s.bound 5))
  let s := if s.bound 5 < want then s.setBit A.selfEvents 6 else s
  if o.gband < new then (s.setOp d { o with gband := new }).setBit A.selfEvents 5 else s

/-- AS can take the logical number of position j (R371): SPARE_REMAP, and AS enabled, unfenced and unused. -/
def State.spareFree (s : State) (n : Nat) : Bool :=
  decide (s.bound 9 = 1) && s.fuse.posOk n 16 && !(s.posAt n 16).fenced && decide ((s.posAt n 16).logical = 31)

/-- Policy fences position j of core n: steps 2 to 5 of R371, and step 1 where `whole`. -/
def State.fenceArray (s : State) (n j : Nat) (whole : Bool) : State :=
  let s := if whole then s.fenceCore n else s
  let s := (s.setPos n j { s.posAt n j with fenced := true }).setBit A.selfEvents 2
  let remap := s.spareFree n
  let s :=
    if remap then
      let a := (s.posAt n j).logical
      let s := (s.setPos n 16 { s.posAt n 16 with logical := a }).setPos n j { s.posAt n j with logical := 31 }
      ((s.writeCtrl n 2).writeCtrl n 0).setBit A.selfEvents 4
    else s.setBit A.selfEvents 3
  let s := s.raiseGuardBand (dieOf n)
  s.report { sev := 3, index := n, code := 0xD003, p0 := j, p1 := b2n remap, p2 := (s.opAt (dieOf n)).gband }

/-- One fault of a position (R371, R374); a firmware switch holds the fence back (R430). -/
def State.addFault (s : State) (n j : Nat) : State :=
  let f := s.faultsOf n j
  let k := satAdd 255 f.1 1
  let s := s.setFaults n j (k, f.2)
  if s.bound 8 = 1 ∧ s.bound 7 ≤ k ∧ ¬ (s.posAt n j).fenced ∧ s.svc.switching = none then s.fenceArray n j true else s

/-- A shadow mismatch reaches the SELF block (R117, R370). -/
def State.mismatch (s : State) (n named shadow fmt seq : Nat) : State :=
  let s := (s.bump A.selfCounts 15 0 1).setBit A.selfEvents 1
  let sus := fun (s : State) j => s.setFaults n j ((s.faultsOf n j).1, satAdd 255 (s.faultsOf n j).2 1)
  let s := sus (sus s named) shadow
  let busy := [named, shadow].filter fun j => (s.posAt n j).run.isSome
  let m : Mismatch := ⟨n, named, shadow, fmt, seq, [named, shadow], busy, false, s.condition (dieOf n)⟩
  (({ s with self := { s.self with open_ := s.self.open_ ++ [m] } }).askProbe n named true).askProbe n shadow true

/-! ### Probes -/

/-- Offset of a core's round (R368). -/
def probeOffset (n period : Nat) : Nat := n * period / 2560

/-- PROBE_ROUND_START (R368): in the first cycle at or after the core's offset within PROBE_PERIOD; a die cycle is at most 2.5
ticks. -/
def execProbeRoundStart (n : Nat) (s : State) : Host.Outcome State Fault Refusal :=
  let m := s.bound 0xB * ms1
  onUnit (n < numCores)
    (if s.coreDom (dieOf n) ∧ (s.now.toNat % m + m - probeOffset n m) % m < 3 then s.probeNext n 0 else s)

/-- PROBE_HOLD_EXPIRY (R368). -/
def execProbeHoldExpiry (n j : Nat) (s : State) : Host.Outcome State Fault Refusal :=
  onUnit (n < numCores ∧ j < 17)
    (if (s.posAt n j).asks.any fun a => decide (a.1 + ms1 ≤ s.clk) then s.setPos n j { s.posAt n j with hold := true } else s)

/-! ### Planes (R86 to R89) -/

/-- The plane that waits to issue, of the step under way or of a probe: its ones, those of a probe's planes being free (log 9). -/
def Pos.nextPlane (p : Pos) (free : Nat) : Option Nat :=
  match p.wait with
  | x :: _ => some x
  | [] => p.run.bind fun r => if 0 < r.2 then some ((Config.freeValue free).toNat % 65) else none

/-- A real plane issues: the last 1,024 of R86 take its ones. An operation leaves its place with its last plane (R79). -/
def Pos.issue (p : Pos) (clk ones : Nat) : Pos :=
  let p := { p with lastReal := some clk, active := true, dummy := false, recent := (ones :: p.recent).take 1024 }
  match p.wait with
  | _ :: rest =>
    match p.held with
    | r :: held =>
      if rest.isEmpty ∧ ceilDiv r.op.blk.k (16 * 2 ^ r.op.blk.sparse) ≤ r.step then { p with wait := rest, held := held, wb := p.wb ++ [r] }
      else { p with wait := rest }
    | [] => { p with wait := rest }
  | [] => { p with run := p.run.map fun r => (r.1, r.2 - 1) }

/-- One cycle of an array (R87, R89): the real plane that waits, as the accumulator lets it issue, else a dummy plane, and at LEVEL 0
none; and whether a real plane issued. -/
def Pos.cycle (p : Pos) (clk free : Nat) : Pos × Bool :=
  match (if p.level = 0 then none else p.nextPlane free) with
  | some ones =>
    let acc := if p.level = 200 then 200 else p.acc + p.level
    if 200 ≤ acc then ({ p.issue clk ones with acc := acc - 200 }, true)
    else ({ p with acc := acc, dummy := true, dummied := true }, false)
  | none => ({ p with acc := if p.level = 200 then 0 else p.acc, dummy := decide (0 < p.level), dummied := p.dummied || decide (0 < p.level) }, false)

/-- One cycle of a position; a real plane counts in REAL_KCYC (R90). -/
def State.posCycle (s : State) (n j : Nat) : State :=
  let p := s.posAt n j
  let (q, real) := p.cycle s.clk s.free
  if real then ({ s.setPos n j q with free := s.free + 1 }).bumpKi (A.acnt n j) 63 32 1 else if q = p then s else s.setPos n j q

/-- A cycle of a die's clock ends in this tick (R358): operating point k has 32 + k cycles in 80 ticks (log 127). -/
def State.dieCycle (s : State) (d : Nat) : Bool :=
  let f := 32 + (s.opAt d).step
  s.coreDom d && decide (s.clk * f / 80 ≠ (s.clk - 1) * f / 80)

/-- The arrays of the dies whose clock has a cycle in this tick (R87, R89). -/
def State.arrayCycles (s : State) : State :=
  s.core.foldl (fun s e => if s.dieCycle (dieOf e.1) then e.2.pos.foldl (fun s x => s.posCycle e.1 x.1) s else s) s

/-- PROBE_START (R368): the position holds no accepted tile operation. Its planes issue once LEVEL is above 0 (R87). -/
def execProbeStart (n j : Nat) (s : State) : Host.Outcome State Fault Refusal :=
  onUnit (n < numCores ∧ j < 17)
    (let p := s.posAt n j
     match p.asks with
     | (_, f) :: rest =>
       if s.coreDom (dieOf n) ∧ p.held = [] ∧ p.run = none then
         s.setPos n j { p with asks := rest, run := some (f, 40000), hold := false, active := true }
       else s
     | [] => s)

/-- A failed follow-up probe: KIND 1 for each mismatch that waits for it (R370, R373). -/
def State.confirm (s : State) (n j : Nat) : State :=
  let ms := s.self.open_.filter fun (m : Mismatch) => m.waitsFor n j
  let s := s.followUpDone n j true true
  ms.foldl (fun s m => (s.wrongResult m.cond 0xD002 n j 1 m.fmt m.seq).addFault n j) s

/-- A probe's result (R369 to R371): a follow-up counts for the mismatches before it, and any other adds its own fault. -/
def State.probeDone (s : State) (n j : Nat) (ok followUp : Bool) : State :=
  let s := (s.setPos n j { s.posAt n j with run := none, active := true }).bump A.selfCounts 63 32 1
  if ok then s.followUpDone n j followUp false
  else
    let s := (s.bump A.selfCounts 31 16 1).setBit A.selfEvents 0
    if followUp then s.confirm n j
    else ((s.followUpDone n j false false).wrongResult (s.condition (dieOf n)) 0xD001 n j 0 0x3F 0).addFault n j

/-- PROBE_COMPLETE (R368, R369): its 40,000 planes have issued; the CRC-32C of the outputs against the fused one, and the next position of
the round. -/
def execProbeComplete (n j : Nat) (crc : BitVec 32) (s : State) : Host.Outcome State Fault Refusal :=
  onUnit (n < numCores ∧ j < 17)
    (match (s.posAt n j).run with
     | some (f, 0) =>
       let s := s.probeDone n j (decide (crc = Config.probeCrc n j)) f
       if f then s else s.probeNext n (j + 1)
     | _ => s)

/-- SELF.CTRL.CLR_FAULTS (R379): FAULTS and SUSPECTS of every position; FENCED too while the core is in RESET. -/
def State.clearFaults (s : State) (n : Nat) : State :=
  (List.range 17).foldl (fun s j =>
    let s := s.setFaults n j (0, 0)
    if (s.coreAt n).st = .reset then s.setPos n j { s.posAt n j with fenced := false } else s) s

/-- CLR_FAULTS (R371, R379). -/
def execClrFaults (n : Nat) (s : State) : Host.Outcome State Fault Refusal :=
  onUnit (n < numCores) (if s.dom.mgmt then s.clearFaults n else s)

/-- SELF.CTRL.PROBE_NOW (R379): every enabled position of the core, out of turn. -/
def State.probeCore (s : State) (n : Nat) : State := if s.coreDom (dieOf n) then s.probeNext n 0 else s

/-- PROBE_NOW (R379). -/
def execProbeNow (n : Nat) (s : State) : Host.Outcome State Fault Refusal := onUnit (n < numCores) (s.probeCore n)

end Sys2Proof.Machine
end

