-- ==== Sys2Proof/Machine/Tile.lean ====
section
/-! DEFINITION. Tile operations (R66 to R90, R100, R101, R115 to R117, R140 to R143): the tile block, issue and sampling, acceptance,
steps, write-back with the shadow comparison, and current keeping. -/
namespace Sys2Proof.Machine

/-! ### The tile block -/

/-- The fields of a tile block (R141). -/
def tileBlkOf (w : List W64) : TileBlk :=
  let w0 := w.getD 0 0
  let w1 := w.getD 1 0
  let w2 := w.getD 2 0
  let w3 := w.getD 3 0
  let w4 := w.getD 4 0
  { aAddr := fld w0 19 0, aScale := fld w0 39 20, bAddr := fld w0 59 40, bScale := fld w1 19 0, bIndex := fld w1 39 20
    oAddr := fld w1 59 40, biasAddr := fld w2 19 0, aStride := fld w2 39 20, aSStride := fld w2 59 40, bStride := fld w3 19 0
    bSStride := fld w3 39 20, oStride := fld w3 59 40, k := fld w4 22 8, nm1 := fld w4 7 4, mm1 := fld w4 3 0
    aFmt := BitVec.ofNat 6 (fld w4 28 23), bFmt := BitVec.ofNat 6 (fld w4 34 29), width := fld w4 41 38
    sparse := fld w4 37 36, bias := bit w4 35 }

/-- Reserved bits of the block (R141). -/
def tileReserved (w : List W64) : Bool :=
  ((w.take 4).any fun x => fld x 63 60 != 0) || fld (w.getD 4 0) 63 42 != 0 || (w.drop 5).any (· != 0)

/-- Steps of the operation (R80). -/
def TileBlk.steps (b : TileBlk) : Nat := ceilDiv b.k (spanOf b.sparse)

/-- Streamed width in planes (R54, R141). -/
def TileBlk.planes (b : TileBlk) : Nat := ((bfmt b.aFmt.toNat).map fun f => f.streamWidth (8 + b.width)).getD 0

/-- INVALID_BLOCK (R143). -/
def TileBlk.invalid (b : TileBlk) (w : List W64) : Bool :=
  tileReserved w || decide (16384 < b.k) || decide (b.sparse = 3) || (bfmt b.aFmt.toNat).isNone || (bfmt b.bFmt.toNat).isNone
    || decide (8 < b.width) || (decide (b.width ≠ 0) && decide (b.aFmt ≠ 2 ∧ b.aFmt ≠ 3)) || b.oAddr % 64 != 0
    || (decide (b.sparse ≠ 0) && b.bIndex % 4 != 0) || (b.bias && b.biasAddr % 64 != 0) || b.oStride % 64 != 0
    || (decide (b.mm1 ≠ 0) && decide (b.oStride < 64))

/-- End of an extent of `count` items, nothing where an item has no bytes (R142, R143). -/
def extentEnd (base stride count size : Nat) : Nat := if size = 0 then 0 else base + (count - 1) * stride + size

/-- An operand, bias or output extent reaches past the end of the store (R143); an operand whose format is no block code has no extent. -/
def TileBlk.outside (b : TileBlk) : Bool :=
  let m := b.mm1 + 1
  let n := b.nm1 + 1
  let out := decide (storeSize < extentEnd b.oAddr b.oStride m (4 * n)) || (b.bias && decide (storeSize < b.biasAddr + 4 * n))
  let streamed := match bfmt b.aFmt.toNat with
    | some f =>
      let na := ceilDiv b.k f.block
      decide (storeSize < extentEnd b.aAddr b.aStride m (na * f.bytes f.block)) || decide (storeSize < extentEnd b.aScale b.aSStride m na)
    | none => false
  let stationary := match bfmt b.bFmt.toNat with
    | some f =>
      let nb := if b.sparse = 0 then ceilDiv b.k f.block else b.steps
      decide (storeSize < extentEnd b.bAddr b.bStride n (nb * f.bytes f.block)) || decide (storeSize < extentEnd b.bScale b.bSStride n nb)
    | none => false
  out || streamed || stationary || (decide (b.sparse ≠ 0) && decide (storeSize < extentEnd b.bIndex 0 1 (4 * n * b.steps)))

/-- A sparse mode with a stationary format other than KBIk.16 (R76). -/
def TileBlk.sparseIllegal (b : TileBlk) : Bool :=
  decide (b.sparse = 1 ∨ b.sparse = 2) && !decide (0x10 ≤ b.bFmt.toNat ∧ b.bFmt.toNat ≤ 0x1E)

/-- The words of a 64-byte control block in the store (R125). -/
def Core.blockWords (c : Core) (a : Nat) : List W64 := wordsOf 8 (Memory.bytes c.store a 64)

/-- The cause that a tile block raises, the lowest code first (R126, R140, R143). -/
def State.tileCause (s : State) (n a addr : Nat) (c : Core) : Option Cause :=
  if addr % 64 ≠ 0 then some .misaligned
  else if storeSize < addr + 64 then some .storeRange
  else
    let w := c.blockWords addr
    let b := tileBlkOf w
    if b.sparseIllegal then some .illegal
    else if b.outside then some .storeRange
    else if b.invalid w then some .invalidBlock
    else if s.fuse.arrays n ≤ a then some .arrayRange
    else none

/-! ### Issue -/

/-- One advance of the sampling register (R115). -/
def shadowNext (r : W32) : W32 := if r.getLsbD 31 then (r <<< 1) ^^^ 0x00400007 else r <<< 1

/-- An operation is sampled at this value of the register and this RATE (R115). -/
def sampledAt (r : W32) (rate : Nat) : Bool := decide (rate ≠ 0) && decide (r.toNat % 2 ^ rate = 0)

/-- The issue queue of a logical array (R100). -/
def Core.queueOf (c : Core) (a : Nat) : List TileOp := Tab.get [] c.queue a

/-- The core after a tile operation has gone into its issue queue (R100, R115). -/
def Core.enqueueTile (c : Core) (a cnt rate : Nat) (b : TileBlk) : Core :=
  if b.k = 0 then { c with queue := Tab.put c.queue a (c.queueOf a ++ [⟨b, cnt, false, c.tileSeq⟩]) }
  else
    let r := shadowNext c.shadowR
    let seq := (c.tileSeq + 1) % 2 ^ 32
    { c with shadowR := r, tileSeq := seq, queue := Tab.put c.queue a (c.queueOf a ++ [⟨b, cnt, sampledAt r rate, seq⟩]) }

/-- Store address sA + IMM of format C. -/
def blockAddr (c : Core) (f : CF) : Nat := (c.sreg f.a.toNat + CF.wimm f).toNat

/-- The tile block at an address of the store names a sparse mode with another stationary format than KBIk.16, a code 0x01 cause (R126). -/
def Core.sparseIllegalAt (c : Core) (addr : Nat) : Bool :=
  decide (addr % 64 = 0) && decide (addr + 64 ≤ storeSize) && (tileBlkOf (c.blockWords addr)).sparseIllegal

/-- TILE (R100, R140). It does not issue while its array's issue queue is full. Its code 0x01 cause is checked whether or not it
executes (R127). -/
def execTile (n : Nat) (f : CF) (s : State) : Host.Outcome State Fault Refusal :=
  onUnit (n < numCores) (s.issue n (CF.legal f true true false true) (CF.stalls f) fun c =>
    if !bit (c.guardWord f.gneg f.guard) 0 then
      (if c.sparseIllegalAt (blockAddr c f) then s.takeException n .illegal c.pc else s.setCore n c.nextPc)
    else if f.n.toNat < s.fuse.arrays n ∧ 2 ≤ (c.queueOf f.n.toNat).length then s
    else match s.tileCause n f.n.toNat (blockAddr c f) c with
      | some cause => s.takeException n cause c.pc
      | none => s.done n (c.enqueueTile f.n.toNat f.cnt.toNat (s.field (A.shadowCfg n) 4 0) (tileBlkOf (c.blockWords (blockAddr c f)))))

/-- Begin or end a warm-up of the position that serves a logical array (R140). -/
def State.warm (s : State) (n a ticks : Nat) : State :=
  match s.posOf n a with
  | some j => s.setPos n j { s.posAt n j with
      warm := if ticks = 0 then none else some (s.clk + ticks), active := (s.posAt n j).active || s.waiting n j }
  | none => s

/-- TWARM (R89, R140): IMM[25:16] intervals of 100 ns for the arrays of IMM[15:0] below E. -/
def execTwarm (n : Nat) (f : CF) (s : State) : Host.Outcome State Fault Refusal :=
  onUnit (n < numCores) (s.runC n f (CF.legal f false false false (f.n == 0 && decide (f.imm.toNat < 2 ^ 26))) fun c =>
    (List.range 16).foldl (fun s a =>
      if f.imm.getLsbD a ∧ a < s.fuse.arrays n then s.warm n a (f.imm.toNat / 2 ^ 16 % 2 ^ 10 * 200) else s) (s.done n c))

/-- TWARM_END (R140). -/
def execTwarmEnd (n j : Nat) (s : State) : Host.Outcome State Fault Refusal :=
  onUnit (n < numCores ∧ j < 17)
    (match (s.posAt n j).warm with
     | some t => if t ≤ s.clk then s.setPos n j { s.posAt n j with warm := none, active := true } else s
     | none => s)

/-! ### Acceptance -/

/-- The shadow array of logical array a (R116): the first after it, modulo E, whose position is not fenced. -/
def State.shadowPos (s : State) (n a : Nat) : Option Nat :=
  let e := s.fuse.arrays n
  ((List.range (e - 1)).filterMap fun i => s.posOf n ((a + 1 + i) % e)).find? fun j => !(s.posAt n j).fenced

/-- Initial sums of an operation, in order 16·m + n: zero or the bias (R66). -/
def TileBlk.init (b : TileBlk) (st : Memory) : List W32 :=
  (List.range 256).map fun i =>
    if b.bias ∧ i % 16 ≤ b.nm1 then BitVec.ofNat 32 (ofBytes (Memory.bytes st (b.biasAddr + 4 * (i % 16)) 4)) else 0

/-- An accepted operation before its first step. -/
def TileOp.run (o : TileOp) (shadow : Bool) (mate : Option Nat) : TileRun := ⟨o, false, 0, [], 0, 0, shadow, mate⟩

/-- A place for an accepted operation (R79, R368). -/
def Pos.takesOp (p : Pos) : Bool := decide (p.held.length < 2) && !p.hold
/-- Both conditions of R79 that a sampled operation waits for, on one of its arrays (R116). -/
def Pos.takesSampled (p : Pos) : Bool := p.held.isEmpty && decide (p.wb.length ≤ 1) && !p.hold

/-- Put an accepted operation in a position; a warm-up ends (R79, R140). `work`: work waited on the position until now (R88). -/
def Pos.accept (p : Pos) (work : Bool) (r : TileRun) : Pos :=
  { p with held := p.held ++ [r], warm := none, active := p.active || work || decide (0 < r.op.blk.k) }

/-- TILE_ACCEPT (R79, R100, R116): the oldest operation of the queue of logical array a goes to its position. -/
def State.acceptTile (s : State) (n a j : Nat) (o : TileOp) (rest : List TileOp) : State :=
  let pop := fun (s : State) => s.setCore n { s.coreAt n with queue := Tab.put (s.coreAt n).queue a rest }
  let plain := fun (s : State) =>
    if (s.posAt n j).takesOp then pop (s.setPos n j ((s.posAt n j).accept (s.waiting n j) (o.run false none))) else s
  if !o.sampled then plain s
  else match s.shadowPos n a with
    | some k =>
      if (s.posAt n j).takesSampled && (s.posAt n k).takesSampled then
        let s := s.setPos n j ((s.posAt n j).accept (s.waiting n j) (o.run false (some k)))
        pop (s.setPos n k ((s.posAt n k).accept (s.waiting n k) (o.run true (some j))))
      else s
    | none => if (s.posAt n j).takesOp then (plain s).bump (A.shadowStat n) 15 0 1 else s

/-- TILE_ACCEPT (R79). -/
def execTileAccept (n a : Nat) (s : State) : Host.Outcome State Fault Refusal :=
  onUnit (n < numCores ∧ a < 16)
    (match (s.coreAt n).queueOf a, s.posOf n a with
     | o :: rest, some j => s.acceptTile n a j o rest
     | _, _ => s)

/-! ### Steps -/

/-- The streamed rows of step b: one array block a chain (R142). -/
def TileBlk.rowsOf (b : TileBlk) (st : Memory) (step : Nat) : List (List ABlk) :=
  match bfmt b.aFmt.toNat with
  | none => []
  | some f =>
    (List.range (b.mm1 + 1)).map fun m => (List.range (2 ^ b.sparse)).map fun i =>
      f.readBlock b.planes true st (b.aAddr + m * b.aStride) (b.aScale + m * b.aSStride) (step * 2 ^ b.sparse + i) b.k

/-- The stationary columns of step b (R73, R76, R142). -/
def TileBlk.colsOf (b : TileBlk) (st : Memory) (step : Nat) : List ACol :=
  match bfmt b.bFmt.toNat with
  | none => []
  | some f =>
    (List.range (b.nm1 + 1)).map fun n =>
      let base := b.bAddr + n * b.bStride
      let sbase := b.bScale + n * b.bSStride
      if b.sparse = 0 then ACol.dense (f.readBlock f.statWidth false st base sbase step b.k)
      else
        let packed := ofBytes (Memory.bytes st (base + 2 * f.bits * step) (2 * f.bits))
        let word := ofBytes (Memory.bytes st (b.bIndex + 4 * (n * b.steps + step)) 4)
        f.sparseCol b.sparse (Memory.byte st (sbase + step)).toNat packed word (b.k - step * spanOf b.sparse)

/-- Cells loaded into the shadow registers of an array, which then become the active ones (R68, R78). -/
def Pos.load (p : Pos) (cells : List (BitVec 11)) : Pos :=
  let r := b2n (!p.sel)
  { p with sel := !p.sel, stat := cells.zipIdx.foldl (fun t (v, i) => Tab.set 0 t (2 * i + r) v) p.stat }


/-- One step of an operation on one position: cells, latches, the planes that now wait to issue, and the skipped ones (R68, R73, R78, R89,
R90). -/
def State.stepPos (s : State) (n j : Nat) (b : TileBlk) (rows : List (List ABlk)) (cols : List ACol) (o : StepOut) : State :=
  let p := s.posAt n j
  let cells := cellsOf cols
  let p := if cols.all fun c => c.blk.scale == 0 then p else p.load cells
  let last := rows.reverse.find? fun r => !emptyStep cols && planesSent b.planes r != []
  let p := match last with
    | some r => let l := latchesOf b.sparse b.planes r cells; { p with psign := l.1, sbit := l.2, dummied := false }
    | none => p
  (s.setPos n j { p with wait := o.planes.map fun k => k * 4 / 2 ^ b.sparse }).bumpKi (A.acnt n j) 31 0 o.skipped

/-- What a step makes of the operation's state. -/
def TileRun.after (r : TileRun) (o : StepOut) : TileRun :=
  { r with started := true, step := r.step + 1, sums := o.sums, rowNaN := o.rowNaN, colNaN := o.colNaN }

/-- The operation at the head of a position's places after a step: it leaves its place with its last plane (R79), at once where none
waits to issue. -/
def Pos.advance (p : Pos) (r : TileRun) : Pos :=
  if r.op.blk.steps ≤ r.step ∧ p.wait = [] then { p with held := p.held.tail, wb := p.wb ++ [r] } else { p with held := r :: p.held.tail }

/-- One step of the operation at the head of position j, and of its shadow alongside (R78, R116), once the planes before it have
issued. -/
def State.tileStep (s : State) (n j : Nat) (r : TileRun) (sums : List W32) : State :=
  let b := r.op.blk
  let st := (s.coreAt n).store
  let rows := b.rowsOf st r.step
  let cols := b.colsOf st r.step
  let o := arrayStep b.sparse b.planes rows cols sums r.rowNaN r.colNaN
  let ready := fun k => (s.posAt n k).wait.isEmpty
  let one := fun (s : State) k => match (s.posAt n k).held with
    | x :: _ => s.setPos n k ((s.posAt n k).advance (x.after o))
    | [] => s
  if ready j && r.mate.all ready then
    let s := (s.stepPos n j b rows cols o).setFlags n o.flags
    let s := match r.mate with
      | some k => one (s.stepPos n k b rows cols o) k
      | none => s
    one s j
  else s

/-- A position may start its next operation: at most one is still to write back, and no probe runs (R79, R368). -/
def Pos.mayStart (p : Pos) : Bool :=
  decide (p.wb.length ≤ 1) && p.run.isNone

/-- TILE_START (R79, R82): the first step, or for K = 0 the initial value straight to write-back. -/
def State.startTile (s : State) (n j : Nat) (r : TileRun) : State :=
  let sums := r.op.blk.init (s.coreAt n).store
  if !(s.posAt n j).mayStart || !(r.mate.all fun k => (s.posAt n k).mayStart) then s
  else if r.op.blk.k = 0 then s.setPos n j ((s.posAt n j).advance { r with started := true, sums := sums })
  else s.tileStep n j r sums

/-- TILE_START (R79). -/
def execTileStart (n j : Nat) (s : State) : Host.Outcome State Fault Refusal :=
  onUnit (n < numCores ∧ j < 17)
    (match (s.posAt n j).held with
     | r :: _ => if r.started || r.shadow then s else s.startTile n j r
     | [] => s)

/-- STATIONARY_SWAP (R78): the next step of a started operation. -/
def execStationarySwap (n j : Nat) (s : State) : Host.Outcome State Fault Refusal :=
  onUnit (n < numCores ∧ j < 17)
    (match (s.posAt n j).held with
     | r :: _ => if r.started && !r.shadow && decide (r.step < r.op.blk.steps) then s.tileStep n j r r.sums else s
     | [] => s)

/-! ### Write-back -/

/-- Elements of the output in order 16·m + n, with the marks of R74 and what a failing array damages. -/
def TileRun.output (r : TileRun) (damage : List (Nat × BitVec 32)) : List W32 :=
  (List.range 256).map fun i =>
    let v : W32 := if r.rowNaN.getLsbD (i / 16) || r.colNaN.getLsbD (i % 16) then 0x7FC00000 else r.sums.getD i 0
    damage.foldl (fun v d => if d.1 = i then v ^^^ d.2 else v) v

/-- Elements inside the output tile. -/
def TileBlk.elements (b : TileBlk) : List Nat := (List.range 256).filter fun i => decide (i / 16 ≤ b.mm1 ∧ i % 16 ≤ b.nm1)

/-- The store with the output tile written (R71, R142). -/
def TileBlk.writeOut (b : TileBlk) (st : Memory) (out : List W32) : Memory :=
  b.elements.foldl (fun st i =>
    Memory.write st (b.oAddr + i / 16 * b.oStride + 4 * (i % 16)) (toBytes 4 (out.getD i 0).toNat)) st

/-- The comparator (R117): counters, the capture and the report to SELF. -/
def State.comparator (s : State) (n named shadow : Nat) (r : TileRun) (out sh : List W32) : State :=
  let s := s.bump (A.shadowStat n) 63 32 1
  match r.op.blk.elements.find? fun i => out.getD i 0 != sh.getD i 0 with
  | none => s
  | some i =>
    let s := s.bump (A.shadowStat n) 31 16 1
    let s := if bit (s.reg (A.shadowCapt n)) 0 then s
      else
        (s.event (A.shadowCapt n) fun _ =>
          BitVec.ofNat 64 (r.op.seq * 2 ^ 32 + named * 2 ^ 27 + shadow * 2 ^ 22 + i * 2 ^ 14 + 1)).setReg
          (A.shadowVals n) (BitVec.ofNat 64 ((out.getD i 0).toNat * 2 ^ 32 + (sh.getD i 0).toNat))
    s.mismatch n named shadow r.op.blk.aFmt.toNat r.op.seq

/-- The shadow run of an operation has reached the head of its position's write-backs, where there is one: an earlier operation of that
position writes back first (R116). -/
def State.shadowReady (s : State) (n : Nat) (r : TileRun) : Bool :=
  r.mate.all fun k => match (s.posAt n k).wb with
    | x :: _ => x.shadow && x.op == r.op
    | [] => false

/-- A write-back ends (R71, R74, R101, R117). All lines of the result appear here, and a line read before shows its old contents (DESIGN
CHOICE, log 129; R95 lets each be old or new). -/
def State.writeBack (s : State) (n j : Nat) (r : TileRun) (flips shadowFlips : List (Nat × BitVec 32)) : State :=
  let drop := fun (s : State) k => s.setPos n k { s.posAt n k with wb := (s.posAt n k).wb.tail }
  let out := r.output flips
  let s := drop s j
  let c := s.coreAt n
  let s := s.setCore n { c with store := r.op.blk.writeOut c.store out }
  let marked := r.op.blk.elements.any fun i => r.rowNaN.getLsbD (i / 16) || r.colNaN.getLsbD (i % 16)
  let s := if marked then s.setFlags n Flag.nonfinite else s
  let s := match r.mate with
    | some k => (drop s k).comparator n j k r out (r.output shadowFlips)
    | none => s
  s.countCore n r.op.cnt

/-- TILE_WRITEBACK_END (R101). -/
def execTileWritebackEnd (n j : Nat) (flips shadowFlips : List (Nat × BitVec 32)) (s : State) : Host.Outcome State Fault Refusal :=
  onUnit (n < numCores ∧ j < 17)
    (match (s.posAt n j).wb with
     | r :: _ => if r.shadow || !s.shadowReady n r then s else s.writeBack n j r flips shadowFlips
     | [] => s)

/-! ### Current keeping -/

/-- The gap since the last real plane is 2 µs or more (R88). -/
def Pos.gap (p : Pos) (clk : Nat) : Bool :=
  match p.lastReal with
  | some t => decide (t + 4000 ≤ clk)
  | none => true

/-- LEVEL at a boundary (R88): the first rule that matches. -/
def Pos.nextLevel (p : Pos) (clk : Nat) (work : Bool) : Nat :=
  if work && decide (p.level < 200) then p.level + 1
  else if p.gap clk && decide (0 < p.level) then p.level - 1
  else p.level

/-- The mean density of ones in the last 1,024 real planes, in steps of 1/16, rounded down (R86, log 9). Of fewer planes than that the
spec gives no mean: the model takes that of those issued so far, and 0 of none (DESIGN CHOICE, log 128). -/
def Pos.onesDensity (p : Pos) : Nat := p.recent.foldl (· + ·) 0 / (4 * max 1 p.recent.length)

/-- The dummy planes of the interval (R86): their density is the mean of the last real planes scaled by LEVEL / 200, and the feeder
registers, and the streamed bits that the cells take from them, are as the spec leaves open (log 9). -/
def Pos.dummyRan (p : Pos) (free : Nat) : Pos :=
  let w := fun i => Config.freeValue (free + i)
  { p with density := p.onesDensity * p.level, lfsr := (List.range 16).map fun r => (r, (w r).truncate 16)
           sbit := w 16 ++ w 17 ++ w 18 ++ w 19, psign := w 20 ++ w 21 ++ w 22 ++ w 23, dummied := false }

/-- LEVEL_UPDATE (R86, R88, R89): once at each 100 ns boundary of the die counter. -/
def execLevelUpdate (n j : Nat) (s : State) : Host.Outcome State Fault Refusal :=
  onUnit (n < numCores ∧ j < 17)
    (let p := s.posAt n j
     let at_ := s.boundaryOf 200
     if s.coreDom (dieOf n) ∧ s.fuse.posOk n j ∧ at_.isSome ∧ p.levelAt ≠ at_ then
       let work := p.active || s.waiting n j
       let l := p.nextLevel s.clk work
       let p := if p.dummied then p.dummyRan s.free else p
       let s := { s with free := s.free + 24 }
       s.setPos n j { p with level := l, levelAt := at_, active := false, acc := if l = 200 then 0 else p.acc }
     else s)

end Sys2Proof.Machine
end

