-- ==== Sys2Proof/Machine/UpdateMath.lean ====
section
/-! DEFINITION. The arithmetic of the update engine and the root unit (R155, R157 to R168): records, step sizes, the four rules on lists
of elements, and the inverse root. -/
namespace Sys2Proof.Machine

/-! ### The group record (R155) -/

/-- A group record's 64-bit word. -/
def recWord (r : List W64) (i : Nat) : W64 := r.getD i 0
/-- A field of a group record. -/
def recField (r : List W64) (i hi lo : Nat) : Nat := fld (recWord r i) hi lo
/-- A binary32 value of a group record: the high or low half of a word. -/
def recF (r : List W64) (i : Nat) (high : Bool) : W32 :=
  BitVec.ofNat 32 (if high then recField r i 63 32 else recField r i 31 0)
/-- RULE. -/
def recRule (r : List W64) : Nat := recField r 0 63 60
/-- VALID. -/
def recValid (r : List W64) : Bool := bit (recWord r 0) 59
/-- FROZEN. -/
def recFrozen (r : List W64) : Bool := bit (recWord r 0) 58
/-- GZERO. -/
def recGzero (r : List W64) : Bool := bit (recWord r 0) 54
/-- SCALE_MEM. -/
def recScaleMem (r : List W64) : Bool := bit (recWord r 0) 17
/-- Bytes of an element of a format of the record: binary32 or BF16. -/
def fmtBytes (f : Nat) : Nat := if f = 1 then 2 else 4
/-- Bytes of a parameter. -/
def recP (r : List W64) : Nat := fmtBytes (recField r 0 51 46)
/-- Bytes of a gradient. -/
def recG (r : List W64) : Nat := fmtBytes (recField r 0 45 40)
/-- Bytes of a state value. -/
def recS (r : List W64) : Nat := fmtBytes (recField r 0 39 34)
/-- ROWS. -/
def recRows (r : List W64) : Nat := recField r 6 63 40
/-- COLS. -/
def recCols (r : List W64) : Nat := recField r 5 23 0
/-- PARAM_BASE. -/
def recBase (r : List W64) : Nat := recField r 5 63 24
/-- KRON block size B. -/
def recB (r : List W64) : Nat := 32 * 2 ^ recField r 0 23 22
/-- SIDE. -/
def recSide (r : List W64) : Nat := recField r 0 25 24
/-- Block rows of a KRON group. -/
def recBR (r : List W64) : Nat := ceilDiv (recRows r) (recB r)
/-- Block columns of a KRON group. -/
def recBC (r : List W64) : Nat := ceilDiv (recCols r) (recB r)

/-- A reserved value of R155. ROWS or COLS 0, outside its range but not called reserved, is none (DESIGN CHOICE, log 131). -/
def recReserved (r : List W64) : Bool :=
  decide (3 < recRule r) || recField r 0 53 52 == 3 || decide (1 < recField r 0 51 46) || decide (1 < recField r 0 45 40)
    || decide (1 < recField r 0 39 34) || recSide r == 3 || recField r 0 23 22 == 3 || recField r 0 16 0 != 0
    || recField r 6 39 32 == 0

/-! ### Scalars -/

/-- Negate a binary32 word. -/
def negF (a : W32) : W32 := a ^^^ 0x80000000
/-- a < b for words that are not NaN. -/
def ltF (a b : W32) : Bool := (dec32 a).lt (dec32 b)
/-- 1.0. -/
abbrev oneF : W32 := 0x3F800000

/-- A sum in ascending order (R158). -/
def sumF : List W32 → W32
  | [] => 0
  | x :: xs => xs.foldl addF x

/-- β^t by binary exponentiation from the most significant bit of t, over its lower n bits (R158). -/
def powFrom (b : W32) (t : Nat) : Nat → W32 → W32
  | 0, r => r
  | n + 1, r => let r2 := mulF r r; powFrom b t n (if t / 2 ^ n % 2 = 1 then mulF r2 b else r2)

/-- β^t (R158); β^0 is 1. -/
def powF (b : W32) (t : Nat) : W32 := if t = 0 then oneF else powFrom b t (bitLen t - 1) b

/-- A knot of a schedule: its step and its multiplier (R177). -/
def knotStep (k : W64) : Nat := fld k 63 32
/-- A knot's multiplier. -/
def knotMult (k : W64) : W32 := BitVec.ofNat 32 (fld k 31 0)

/-- The factor of a schedule at a step (R157). -/
def schedFactor (ks : List W64) (t : Nat) : W32 :=
  let k0 := ks.getD 0 0
  let kn := ks.getD 15 0
  if t ≤ knotStep k0 then knotMult k0
  else if knotStep kn ≤ t then knotMult kn
  else
    let i := (List.range 16).foldl (fun m j => if knotStep (ks.getD j 0) ≤ t then j else m) 0
    let a := ks.getD i 0
    let b := ks.getD (i + 1) 0
    let frac := divF (subF (natF t) (natF (knotStep a))) (subF (natF (knotStep b)) (natF (knotStep a)))
    addF (knotMult a) (mulF (subF (knotMult b) (knotMult a)) frac)

/-- The effective step size (R157). -/
def stepSize (r : List W64) (ks : List W64) (t : Nat) : W32 :=
  if recField r 0 29 26 = 0 then recF r 1 true else mulF (recF r 1 true) (schedFactor ks t)

/-- Widen a stored value to binary32. -/
def widenTo (bytes : Nat) (v : Nat) : W32 := BitVec.ofNat 32 (if bytes = 2 then v * 2 ^ 16 else v)

/-- The SR key of a call (R160). -/
def srKey (r : List W64) (step : Nat) : W64 := recWord r 7 ^^^ (BitVec.ofNat 64 step * 0xD6E8FEB86659FD93)

/-- A parameter or state value as written (R160): element number and which of its values. -/
def narrowTo (r : List W64) (step bytes e q : Nat) (v : W32) : Nat :=
  if bytes = 2 then
    let rm : Rm := match recField r 0 53 52 with
      | 0 => .rne
      | 1 => .rtz
      | _ => .sr (srBits (srKey r step) (BitVec.ofNat 64 (4 * e + q)))
    (bf16.enc rm (dec32 v)).1
  else v.toNat

/-- Clamp to ±c (R159); a NaN stays one. -/
def clampF (g c : W32) : W32 :=
  if (dec32 g).isNaN then g
  else
    let x := if ltF g (negF c) then negF c else g
    if ltF c x then c else x

/-- Prepare a gradient element (R159). -/
def prepare (r : List W64) (scale : W32) (raw : Nat) : W32 :=
  let g := mulF (widenTo (recG r) raw) (recF r 3 false)
  let g := if recScaleMem r then mulF g scale else g
  if bit (recWord r 0) 55 then clampF g (recF r 4 true) else g

/-! ### SGDM and AdamW (R162, R163) -/

/-- SGDM on one element: parameter and momentum. -/
def sgdmF (r : List W64) (lr p g m : W32) : W32 × W32 :=
  let g := addF g (mulF (recF r 1 false) p)
  let m := addF (mulF (recF r 2 true) m) g
  let d := if bit (recWord r 0) 57 then addF g (mulF (recF r 2 true) m) else m
  (subF p (mulF lr d), m)

/-- AdamW on one element: parameter, m and v. -/
def adamF (r : List W64) (lr : W32) (step : Nat) (p g m v : W32) : W32 × W32 × W32 :=
  let b1 := recF r 2 true
  let b2 := recF r 2 false
  let m := addF (mulF b1 m) (mulF (subF oneF b1) g)
  let v := addF (mulF b2 v) (mulF (subF oneF b2) (mulF g g))
  let bias := bit (recWord r 0) 56
  let mh := if bias then mulF m (divF oneF (subF oneF (powF b1 step))) else m
  let vh := if bias then mulF v (divF oneF (subF oneF (powF b2 step))) else v
  let den := addF (sqrtF vh) (recF r 3 true)
  (subF p (mulF lr (addF (divF mh den) (mulF (recF r 1 false) p))), m, v)

/-- One element of an SGDM or AdamW call: stored parameter and state values, and the prepared gradient, give the new stored values. -/
def elementF (r : List W64) (lr : W32) (step e : Nat) (p : Nat) (st : List Nat) (g : W32) : Nat × List Nat :=
  let pw := widenTo (recP r) p
  let m := widenTo (recS r) (st.getD 0 0)
  if recRule r = 0 then
    let (p2, m2) := sgdmF r lr pw g m
    (narrowTo r step (recP r) e 0 p2, [narrowTo r step (recS r) e 1 m2])
  else
    let (p2, m2, v2) := adamF r lr step pw g m (widenTo (recS r) (st.getD 1 0))
    (narrowTo r step (recP r) e 0 p2, [narrowTo r step (recS r) e 1 m2, narrowTo r step (recS r) e 2 v2])

/-! ### FACTORED (R164) -/

/-- The factors after a call: rows and columns. -/
def factors (r : List W64) (gs : List (List W32)) (row col : List W32) : List W32 × List W32 :=
  let eps := recF r 3 true
  let b2 := recF r 2 false
  let sq := fun (g : W32) => addF (mulF g g) eps
  let mix := fun (old new : W32) => addF (mulF b2 old) (mulF (subF oneF b2) new)
  let rs := gs.map fun l => divF (sumF (l.map sq)) (natF (recCols r))
  let cs := (List.range (recCols r)).map fun j => divF (sumF (gs.map fun l => sq (l.getD j 0))) (natF (recRows r))
  (List.zipWith mix row rs, List.zipWith mix col cs)

/-- The momentum step that FACTORED and KRON share: parameter and momentum from the direction u. -/
def momentumF (r : List W64) (lr p m u : W32) : W32 × W32 :=
  let b1 := recF r 2 true
  let m := addF (mulF b1 m) (mulF (subF oneF b1) u)
  (subF p (mulF lr (addF m (mulF (recF r 1 false) p))), m)

/-! ### Matrices -/

/-- A matrix as its rows. -/
abbrev Mat := List (List W32)

/-- An element of a matrix. -/
def Mat.at (a : Mat) (i j : Nat) : W32 := (a.getD i []).getD j 0
/-- The n × n matrix of a function. -/
def Mat.ofFn (n : Nat) (f : Nat → Nat → W32) : Mat := (List.range n).map fun i => (List.range n).map fun j => f i j
/-- The identity. -/
def Mat.one (n : Nat) : Mat := Mat.ofFn n fun i j => if i = j then oneF else 0
/-- The transpose. -/
def Mat.transpose (n : Nat) (a : Mat) : Mat := Mat.ofFn n fun i j => Mat.at a j i
/-- A product, each element accumulated over ascending inner index (R166). -/
def Mat.mul (n : Nat) (a b : Mat) : Mat :=
  Mat.ofFn n fun i j => sumF ((List.range n).map fun k => mulF (Mat.at a i k) (Mat.at b k j))
/-- A matrix times a scalar. -/
def Mat.scale (n : Nat) (c : W32) (a : Mat) : Mat := Mat.ofFn n fun i j => mulF c (Mat.at a i j)
/-- Every element is finite. -/
def Mat.finite (a : Mat) : Bool := a.all fun l => l.all finiteF

/-- Statistics: β2·l + (1 − β2)·x. -/
def Mat.mix (r : List W64) (n : Nat) (l x : Mat) : Mat :=
  let b2 := recF r 2 false
  Mat.ofFn n fun i j => addF (mulF b2 (Mat.at l i j)) (mulF (subF oneF b2) (Mat.at x i j))

/-- Some element lies further than the tolerance from the identity; nothing lies within a tolerance that is a NaN. -/
def Mat.far (n : Nat) (tol : W32) (a : Mat) : Bool :=
  (dec32 tol).isNaN || (List.range n).any fun i => (List.range n).any fun j =>
    ltF tol (subF (Mat.at a i j) (if i = j then oneF else 0) &&& 0x7FFFFFFF)

/-- The coupled Newton iteration (R167): at most `k` more rounds. -/
def newtonFrom (n p : Nat) (tol : W32) : Nat → Mat → Mat → Option Mat
  | 0, _, _ => none
  | k + 1, x, mm =>
    let t := Mat.ofFn n fun i j => divF (subF (if i = j then natF (p + 1) else 0) (Mat.at mm i j)) (natF p)
    let x := Mat.mul n x t
    let tp := Mat.mul n t t
    let tp := if p = 4 then Mat.mul n tp tp else tp
    let mm := Mat.mul n tp mm
    if !(Mat.finite x && Mat.finite mm) then none
    else if Mat.far n tol mm then newtonFrom n p tol k x mm
    else some x

/-- The inverse p-th root of a factor (R167); `none` where it fails. -/
def inverseRoot (r : List W64) (p : Nat) (a : Mat) : Option Mat :=
  let n := recB r
  let tr := sumF ((List.range n).map fun i => Mat.at a i i)
  let d := mulF (recF r 4 false) tr
  let a := Mat.ofFn n fun i j => addF (Mat.at a i j) (if i = j then d else 0)
  let nrm := sqrtF (sumF (a.flatten.map fun x => mulF x x))
  let z := divF (natF (1 + p)) (mulF (natF 2) nrm)
  let rz := if p = 4 then sqrtF (sqrtF z) else sqrtF z
  newtonFrom n p (recF r 6 false) (recField r 6 39 32) (Mat.scale n rz (Mat.one n)) (Mat.scale n z a)

end Sys2Proof.Machine
end

