-- ==== Sys2Proof/Machine/Update.lean ====
section
/-! DEFINITION. The parameter update engines (R151 to R177): checks and acceptance of the update calls (R149, R152, R153), calls and
refreshes at their completion, and the group commands of the UPD block. -/
namespace Sys2Proof.Machine

/-- A die's update engine. -/
def State.updAt (s : State) (d : Nat) : UpdDie := Tab.get UpdDie.init s.upd d
/-- Store a die's update engine. -/
def State.setUpd (s : State) (d : Nat) (x : UpdDie) : State := { s with upd := Tab.put s.upd d x }
/-- A group's record; a group that nothing has named has VALID 0 (R177). -/
def State.groupRec (s : State) (d g : Nat) : List W64 := Tab.get (List.replicate 8 0) (s.updAt d).group g

/-- The record that a call accepted now uses: that from before the commits of this tick (R156). -/
def State.groupNow (s : State) (d g : Nat) : List W64 :=
  match Tab.find (s.updAt d).prior g with
  | some (t, r) => if t = s.clk then r else s.groupRec d g
  | none => s.groupRec d g

/-- A group's record changes by a commit. -/
def State.putGroup (s : State) (d g : Nat) (r : List W64) : State :=
  let u := s.updAt d
  s.setUpd d { u with group := Tab.put u.group g r, prior := Tab.put u.prior g (s.clk, s.groupNow d g) }

/-! ### The call block (R149) -/

/-- GROUP of a call block. -/
def callGroup (w : List W64) : Nat := fld (w.getD 0 0) 15 0
/-- STEP of a call block. -/
def callStep (w : List W64) : Nat := fld (w.getD 0 0) 47 16
/-- PARAM_OFF. -/
def callParam (w : List W64) : Nat := fld (w.getD 1 0) 39 0
/-- GRAD_OFF. -/
def callGrad (w : List W64) : Nat := fld (w.getD 2 0) 39 0
/-- STATE_OFF. -/
def callState (w : List W64) : Nat := fld (w.getD 3 0) 39 0
/-- COUNT. -/
def callCount (w : List W64) : Nat := fld (w.getD 4 0) 31 0
/-- ROWS_ADDR. -/
def callRows (w : List W64) : Nat := fld (w.getD 4 0) 51 32
/-- ROW_LEN. -/
def callRowLen (w : List W64) : Nat := fld (w.getD 5 0) 23 0

/-- A reserved bit of the call block is 1; ROOTREQ and STEPEND leave words 1 to 5 zero (R149). -/
def callReserved (kind : Nat) (w : List W64) : Bool :=
  fld (w.getD 0 0) 63 48 != 0 || w.getD 6 0 != 0 || w.getD 7 0 != 0
    || (if 2 ≤ kind then (List.range 5).any fun i => w.getD (i + 1) 0 != 0
        else fld (w.getD 1 0) 63 40 != 0 || fld (w.getD 2 0) 63 40 != 0 || fld (w.getD 3 0) 63 40 != 0
          || fld (w.getD 4 0) 63 52 != 0 || fld (w.getD 5 0) 63 24 != 0)

/-- The next multiple of 64. -/
def up64 (n : Nat) : Nat := (n + 63) / 64 * 64

/-- Elements of a group. -/
def recElems (r : List W64) : Nat := recRows r * recCols r

/-- State values an element has. -/
def recVals (r : List W64) : Nat := if recRule r = 1 then 2 else 1

/-- Bytes of the whole state of a FACTORED or KRON group (R164, R165). -/
def wholeState (r : List W64) : Nat :=
  let mom := up64 (recElems r * recS r)
  if recRule r = 2 then mom + up64 (recRows r * 4) + recCols r * 4 else mom + recBR r * recBC r * (64 + 24 * recB r ^ 2)

/-- The first element that a call names. -/
def callElem (r w : List W64) : Nat := (callParam w - recBase r) / recP r

/-- Parameter, gradient and state extents of a call, as first offset and bytes (R153, R172). Those of an UPDROW are its listed rows below
ROWS, and the state extent of a KRON call is the group's whole state, whichever block rows it covers (DESIGN CHOICE, log 131). -/
def callSpans (kind : Nat) (r w : List W64) (rows : List Nat) : List (Nat × Nat) :=
  let n := callCount w
  let cols := recCols r
  if n = 0 then []
  else if kind = 1 then
    (callGrad w, n * cols * recG r) :: (rows.filter fun row => decide (row < recRows r)).flatMap fun row =>
      [(callParam w + row * cols * recP r, cols * recP r),
       (callState w + row * cols * recVals r * recS r, cols * recVals r * recS r)]
  else
    [(callParam w, n * recP r), (callGrad w, n * recG r),
     (callState w, if 2 ≤ recRule r then wholeState r else n * recVals r * recS r)]

/-- The extents that must lie in the die: those of `callSpans` and the line of the scale word (R152). -/
def callExtents (kind : Nat) (r w : List W64) (rows : List Nat) : List (Nat × Nat) :=
  callSpans kind r w rows ++ (if recScaleMem r && callCount w != 0 then [(callGrad w - 64, 64)] else [])

/-- A span lies in the die-local segments of a die (R152, R183). -/
def State.dieLocal (s : State) (d lo n : Nat) : Bool :=
  decide (d * 2 ^ 38 ≤ lo ∧ lo + n ≤ (d + 1) * 2 ^ 38)
    && (List.range 16).all fun j => !overlaps lo (lo + n) (d * 2 ^ 38 + j * 2 ^ 34) (d * 2 ^ 38 + (j + 1) * 2 ^ 34) || !s.interleaved d j

/-- The rule-specific conditions of a UPD call with elements (R164, R165). -/
def ruleCovers (r w : List W64) : Bool :=
  match recRule r with
  | 2 => callParam w == recBase r && callCount w == recElems r && decide (recCols r ≤ 65536) && ltF 0 (recF r 3 true)
  | 3 =>
    let row := recB r * recCols r
    (callParam w - recBase r) % (row * recP r) == 0
      && (callCount w % row == 0 || callElem r w + callCount w == recElems r)
  | _ => true

/-- One more than the last element that a call names (R152): of an UPDROW, that of its last listed row below ROWS (DESIGN CHOICE, log 131). -/
def callLast (kind : Nat) (r w : List W64) (rows : List Nat) : Nat :=
  if kind = 1 then
    (rows.filter fun row => decide (row < recRows r)).foldl (fun k row => max k (callElem r w + (row + 1) * recCols r)) 0
  else callElem r w + callCount w

/-- INVALID_BLOCK for UPD and UPDROW (R152, R164, R165, R172). A call with COUNT 0 names no element. PARAM_OFF below PARAM_BASE, or no whole
number of elements from it, names no element of the group and is refused too (DESIGN CHOICE, log 131). -/
def State.callInvalid (s : State) (kind d : Nat) (r w : List W64) (rows : List Nat) : Bool :=
  callParam w % 64 != 0 || callGrad w % 64 != 0 || callState w % 64 != 0
    || (kind == 1 && (decide (2 ≤ recRule r) || callRowLen w != recCols r || recCols r % 32 != 0 || callRows w % 4 != 0))
    || (recRule r == 1 && bit (recWord r 0) 56 && callStep w == 0)
    || (callCount w != 0 &&
        (decide (callParam w < recBase r) || (callParam w - recBase r) % recP r != 0
          || decide (recElems r < callLast kind r w rows)
          || (recScaleMem r && decide (callGrad w < 64))
          || (kind == 0 && !ruleCovers r w)
          || (callExtents kind r w rows).any fun e => !s.dieLocal d e.1 e.2))

/-- The row numbers that an UPDROW lists in its core's store (R172). -/
def Core.callRowList (c : Core) (kind : Nat) (w : List W64) : List Nat :=
  if kind = 1 then (List.range (callCount w)).map fun i => c.loadN (callRows w + 4 * i) 4 else []

/-- INVALID_BLOCK for any update call (R149, R152). -/
def State.updInvalid (s : State) (kind n : Nat) (w : List W64) : Bool :=
  let d := dieOf n
  let r := s.groupNow d (callGroup w)
  callReserved kind w || decide (1024 ≤ callGroup w) || !recValid r || recField r 0 33 30 != s.corePart n || recReserved r
    || (kind == 3 && recRule r != 3) || (decide (kind < 2) && s.callInvalid kind d r w ((s.coreAt n).callRowList kind w))

/-- The cause that an update call raises, the lowest code first (R126, R149, R152). -/
def State.updCause (s : State) (kind n addr : Nat) (c : Core) : Option Cause :=
  if addr % 64 ≠ 0 then some .misaligned
  else if storeSize < addr + 64 then some .storeRange
  else
    let w := c.blockWords addr
    if kind = 1 ∧ callCount w ≠ 0 ∧ storeSize < callRows w + 4 * callCount w then some .storeRange
    else if s.updInvalid kind n w then some .invalidBlock else none

/-! ### Acceptance (R152 to R154, R169, R171) -/

/-- A call that completes (R154, R177): the counters, and LAST_STEP unless the group is frozen. -/
def State.callDone (s : State) (d n cnt g : Nat) (lastStep : Option Nat) : State :=
  let s := s.bump (A.updCounts d) 63 32 1
  let s := match lastStep with
    | some t => s.setUpd d { s.updAt d with gstat := Tab.put (s.updAt d).gstat g (setFld (Tab.get 0 (s.updAt d).gstat g) 63 32 t) }
    | none => s
  s.countCore n cnt

/-- A frozen call counts in GSTAT.SKIPS of its group (R173). -/
def State.skipCall (s : State) (d g : Nat) : State :=
  let u := s.updAt d
  let st := Tab.get 0 u.gstat g
  s.setUpd d { u with gstat := Tab.put u.gstat g (setFld st 31 16 (satAdd 65535 (fld st 31 16) 1)) }

/-- A core whose call ends has one fewer accepted. -/
def State.callLeft (s : State) (n : Nat) : State := s.setCore n { s.coreAt n with upd := (s.coreAt n).upd - 1 }

/-- Bytes of module memory for a partition with the granules that were poison (R175, R187). -/
def State.readSpan (s : State) (part o n : Nat) : State × List Byte × List Nat :=
  (MemReq.pieces ⟨2, part, false, s.now, .read, o, n, [], 0, false⟩).foldl (fun (s, bs, bad) q =>
    let (s, b, x) := s.requestPiece (fun d => s.hasCredit d q.part) q
    (s, bs ++ x, if b then q.off / 64 :: bad else bad)) (s, [], [])

/-- Write bytes, leaving out the granules named. Of work that a teardown stops (`torn`, R176) each 64-byte write has taken place or
not, by a free value. -/
def State.writeSpan (s : State) (torn : Bool) (part o : Nat) (bs : List Byte) (skip : List Nat) : State :=
  (MemReq.pieces ⟨2, part, false, s.now, .write, o, 0, bs, 0, false⟩).foldl (fun s q =>
    let lost := torn && s.freeW.getLsbD 0
    let s := if torn then s.useFree else s
    if lost || skip.contains (q.off / 64) then s
    else (s.requestPiece (fun d => s.hasCredit d q.part) q).1) s

/-- What core `m` presented at an instant yields to what core `n` presents now (R18, R153): it was in this same cycle, it has not begun,
and the index of `n` in the die comes first. -/
def State.updYields (s : State) (n m at_ : Nat) (running : Bool) : Bool :=
  at_ == s.clk && !running && decide (rotIndex (n % 640) s.slot 640 < rotIndex (m % 640) s.slot 640)

/-- Put an accepted UPD, UPDROW or STEPEND call in the engine: record, step size and scale word are fixed now (R152, R157, R159). -/
def State.acceptCall (s : State) (kind n cnt : Nat) (w : List W64) : State :=
  let d := dieOf n
  let g := callGroup w
  let r := s.groupNow d g
  let u := s.updAt d
  let lr := stepSize r (Tab.get (List.replicate 16 0) u.sched (recField r 0 29 26)) (callStep w)
  let (s, bs, bad) := if recScaleMem r && decide (kind < 2) then s.readSpan (s.corePart n) (callGrad w - 64) 4 else (s, [], [])
  let u := s.updAt d
  let call : UCall :=
    { id := u.nextId, kind := kind, core := n, cnt := cnt, group := g, words := w, record := r, lr := lr
      scale := BitVec.ofNat 32 (ofBytes bs), rows := (s.coreAt n).callRowList kind w, bad := !bad.isEmpty, running := false, at_ := s.clk }
  let yields := fun (x : UCall) => s.updYields n x.core x.at_ x.running
  let late := u.calls.drop (u.calls.length - yielding yields u.calls)
  let newest := kind == 0 && !late.any fun (x : UCall) => x.kind == 0 && x.group == g
  let s := s.setUpd d { u with
    calls := placeBefore yields call u.calls, nextId := u.nextId + 1
    stateOff := if newest then Tab.put u.stateOff g (callState w) else u.stateOff }
  s.setCore n { s.coreAt n with upd := (s.coreAt n).upd + 1 }

/-- Queue a refresh of a group, or join the one that is queued or running (R169). -/
def State.acceptRefresh (s : State) (n cnt g : Nat) : State :=
  let d := dieOf n
  let u := s.updAt d
  let s := s.setCore n { s.coreAt n with upd := (s.coreAt n).upd + 1 }
  if u.refresh.any fun (x : URefresh) => x.group == g then
    s.setUpd d { u with refresh := u.refresh.map fun (x : URefresh) =>
      if x.group = g then { x with waiters := x.waiters ++ [(n, cnt)] } else x }
  else
    let x : URefresh := ⟨g, s.groupNow d g, s.corePart n, [(n, cnt)], false, 0, none, s.clk⟩
    let yields := fun (x : URefresh) => x.waiters.any fun (m : Nat × Nat) => s.updYields n m.1 x.at_ x.running
    s.setUpd d { u with refresh := placeBefore yields x u.refresh }

/-- An update call that holds back: the core's ninth, or a ROOTREQ with no room for a refresh (R149, R169). -/
def State.updFull (s : State) (kind n : Nat) (w : List W64) : Bool :=
  let d := dieOf n
  let u := s.updAt d
  decide (8 ≤ (s.coreAt n).upd)
    || (kind == 3 && !recFrozen (s.groupNow d (callGroup w)) && decide (32 ≤ u.refresh.length)
        && !u.refresh.any fun (x : URefresh) => x.group == callGroup w)

/-- One update call that raises nothing. -/
def State.present (s : State) (kind n cnt : Nat) (w : List W64) : State :=
  let d := dieOf n
  let r := s.groupNow d (callGroup w)
  if kind = 3 then
    if recFrozen r then s.callDone d n cnt (callGroup w) none else s.acceptRefresh n cnt (callGroup w)
  else if kind = 2 then s.acceptCall 2 n cnt w
  else if callCount w = 0 then
    if recFrozen r then (s.skipCall d (callGroup w)).callDone d n cnt (callGroup w) none
    else s.callDone d n cnt (callGroup w) (some (callStep w))
  else s.acceptCall kind n cnt w

/-- An update call instruction (R149): kind 0 UPD, 1 UPDROW, 2 STEPEND, 3 ROOTREQ. -/
def State.updIssue (s : State) (kind n : Nat) (f : CF) : State :=
  s.runC n f (CF.legal f true true false (f.n == 0)) fun c =>
    match s.updCause kind n (blockAddr c f) c with
    | some cause => if decide (8 ≤ c.upd) then s else s.takeException n cause c.pc
    | none =>
      let w := c.blockWords (blockAddr c f)
      if s.updFull kind n w then s else (s.done n c).present kind n f.cnt.toNat w

/-- UPD (R149, R152). -/
def execUpd (n : Nat) (f : CF) (s : State) : Host.Outcome State Fault Refusal := onUnit (n < numCores) (s.updIssue 0 n f)

/-- UPDROW (R149, R172). -/
def execUpdrow (n : Nat) (f : CF) (s : State) : Host.Outcome State Fault Refusal := onUnit (n < numCores) (s.updIssue 1 n f)

/-- STEPEND (R149, R171). -/
def execStepend (n : Nat) (f : CF) (s : State) : Host.Outcome State Fault Refusal := onUnit (n < numCores) (s.updIssue 2 n f)

/-- ROOTREQ (R149, R169). -/
def execRootreq (n : Nat) (f : CF) (s : State) : Host.Outcome State Fault Refusal := onUnit (n < numCores) (s.updIssue 3 n f)

/-- Parameter, gradient or state extents of two calls overlap (R153). -/
def callsOverlap (a b : UCall) : Bool :=
  (callSpans a.kind a.record a.words a.rows).any fun x => (callSpans b.kind b.record b.words b.rows).any fun y =>
    overlaps x.1 (x.1 + x.2) y.1 (y.1 + y.2)

/-- The calls that the engine accepted before one (R153). -/
def UpdDie.before (u : UpdDie) (c : UCall) : List UCall := u.calls.takeWhile fun (x : UCall) => x.id != c.id

/-- A queued UPD or UPDROW call may start (R153, R171): every earlier call of the group has started and, where their extents overlap,
written back, and no STEPEND stands before it. -/
def UpdDie.mayStart (u : UpdDie) (c : UCall) : Bool :=
  (u.before c).all fun (x : UCall) =>
    x.group != c.group || (x.kind != 2 && x.running && !callsOverlap x c)

/-- UPDATE_CALL_START (R153). -/
def execUpdateCallStart (d id : Nat) (s : State) : Host.Outcome State Fault Refusal :=
  onUnit (d < 4)
    (let u := s.updAt d
     match u.calls.find? fun (c : UCall) => c.id == id with
     | some c =>
       if c.kind < 2 ∧ u.mayStart c then
         s.setUpd d { u with calls := u.calls.map fun (x : UCall) => if x.id = id then { x with running := true } else x }
       else s
     | none => s)

/-! ### What a call does (R159 to R166, R172, R173) -/

/-- Consecutive elements of `size` bytes as numbers. -/
def elemsOf (size n : Nat) (bs : List Byte) : List Nat := (chunks size n bs).map ofBytes

/-- What a span of elements comes to: new parameters and state values, elements skipped as not finite, and whether memory failed. -/
structure SpanOut where
  params : List Nat
  state : List Nat
  nonfinite : Nat
  failed : Bool
  deriving DecidableEq, Repr

/-- A consecutive span of `n` SGDM or AdamW elements from element number e, with its offsets (R161 to R163, R175). -/
def spanRule (c : UCall) (e pOff gOff sOff : Nat) (ps gs ss : List Nat) (pb gb sb : List Nat) : SpanOut :=
  let r := c.record
  let k := recVals r
  let rows := (ps.zip (gs.zip (chunks k ps.length ss))).zipIdx.map fun ((p, g, st), j) =>
    let lost := c.bad || pb.contains ((pOff + j * recP r) / 64) || gb.contains ((gOff + j * recG r) / 64)
      || sb.contains ((sOff + j * k * recS r) / 64)
    let g := prepare r c.scale g
    if lost then (p, st, 0, true)
    else if !finiteF g then (p, st, 1, false)
    else let (p, st) := elementF r c.lr (callStep c.words) (e + j) p st g; (p, st, 0, false)
  { params := rows.map fun x => x.1
    state := (rows.map fun x => x.2.1).flatten
    nonfinite := rows.foldl (fun m x => m + x.2.2.1) 0
    failed := rows.any fun x => x.2.2.2 }

/-- Elements as bytes. -/
def bytesOfElems (size : Nat) (es : List Nat) : List Byte := es.flatMap (toBytes size)

/-- Count skipped elements, calls or blocks (R161); not for work that a teardown stops (R176). -/
def State.sawNonfinite (s : State) (torn : Bool) (d n k : Nat) : State :=
  if k = 0 || torn then s
  else ((s.bump (A.updCounts d) 31 16 k).setBit (A.updEvents d) 1).setFlags n Flag.nonfinite

/-- Memory failed under a call (R175). -/
def State.updMemError (s : State) (d part : Nat) (failed : Bool) : State :=
  if failed then (s.setBit (A.updEvents d) 3).jobFault d 10 part (s.partTag part) 0xFFFF 0 0 else s

/-- The partition that owns a call's group (R155, R174). -/
def UCall.part (c : UCall) : Nat := recField c.record 0 33 30

/-- Update a span of SGDM or AdamW elements in memory; the answer is the elements skipped and whether memory failed. -/
def State.updateSpan (s : State) (torn : Bool) (c : UCall) (e pOff gOff sOff n : Nat) : State × Nat × Bool :=
  let r := c.record
  let k := recVals r
  let (s, pb, pbad) := s.readSpan c.part pOff (n * recP r)
  let (s, gb, gbad) := s.readSpan c.part gOff (n * recG r)
  let (s, sb, sbad) := s.readSpan c.part sOff (n * k * recS r)
  let o := spanRule c e pOff gOff sOff (elemsOf (recP r) n pb) (elemsOf (recG r) n gb) (elemsOf (recS r) (n * k) sb) pbad gbad sbad
  let s := s.writeSpan torn c.part pOff (bytesOfElems (recP r) o.params) pbad
  let s := s.writeSpan torn c.part sOff (bytesOfElems (recS r) o.state) sbad
  (s, o.nonfinite, o.failed)

/-- Write zeros over n consumed gradients from the i-th on (R155 GZERO). -/
def State.zeroGradAt (s : State) (torn : Bool) (c : UCall) (i n : Nat) : State :=
  if recGzero c.record then
    s.writeSpan torn c.part (callGrad c.words + i * recG c.record) (List.replicate (n * recG c.record) 0) []
  else s
/-- Write zeros over the first n gradients. -/
def State.zeroGrad (s : State) (torn : Bool) (c : UCall) (n : Nat) : State := s.zeroGradAt torn c 0 n

/-- A dense SGDM or AdamW call. -/
def State.runDense (s : State) (torn : Bool) (d : Nat) (c : UCall) : State :=
  let w := c.words
  let n := callCount w
  let (s, nf, failed) := s.updateSpan torn c (callElem c.record w) (callParam w) (callGrad w) (callState w) n
  ((s.zeroGrad torn c n).sawNonfinite torn d c.core nf).updMemError d c.part failed

/-- Entry i of a row-sparse call (R172), whose gradients only a row below ROWS consumes. -/
def State.runRow (s : State) (torn : Bool) (d : Nat) (c : UCall) (i : Nat) : State :=
  let r := c.record
  let w := c.words
  let row := c.rows.getD i 0
  if recRows r ≤ row then
    if torn then s else ((s.bump (A.updCounts d) 15 0 1).setBit (A.updEvents d) 2).setFlags c.core Flag.index
  else
    let cols := recCols r
    let (s, nf, failed) := s.updateSpan torn c (callElem r w + row * cols) (callParam w + row * cols * recP r)
      (callGrad w + i * cols * recG r) (callState w + row * cols * recVals r * recS r) cols
    ((s.zeroGradAt torn c (i * cols) cols).sawNonfinite torn d c.core nf).updMemError d c.part failed

/-- The first `n` rows of a row-sparse call (R172); a scale word that memory could not give is an error whatever the rows (R175). -/
def State.runRows (s : State) (torn : Bool) (d : Nat) (c : UCall) (n : Nat) : State :=
  ((List.range n).foldl (fun s i => s.runRow torn d c i) s).updMemError d c.part c.bad

/-- A FACTORED call (R164): two passes over the gradient, the first for the factors, the second for the elements; the matrix stays as
it is where a gradient is not finite or memory fails. -/
def State.runFactored (s : State) (torn : Bool) (d : Nat) (c : UCall) : State :=
  let r := c.record
  let w := c.words
  let n := recElems r
  let cols := recCols r
  let mom := callState w
  let rowOff := mom + up64 (n * recS r)
  let colOff := rowOff + up64 (recRows r * 4)
  let (s, gb, e1) := s.readSpan c.part (callGrad w) (n * recG r)
  let (s, rb, e2) := s.readSpan c.part rowOff (recRows r * 4)
  let (s, cb, e3) := s.readSpan c.part colOff (cols * 4)
  let (s, gb2, e4) := s.readSpan c.part (callGrad w) (n * recG r)
  let (s, pb, e5) := s.readSpan c.part (callParam w) (n * recP r)
  let (s, mb, e6) := s.readSpan c.part mom (n * recS r)
  let gs := (elemsOf (recG r) n gb).map (prepare r c.scale)
  let gs2 := (elemsOf (recG r) n gb2).map (prepare r c.scale)
  if c.bad || !(e1 ++ e2 ++ e3 ++ e4 ++ e5 ++ e6).isEmpty then (s.zeroGrad torn c n).updMemError d c.part true
  else if gs.any fun g => !finiteF g then (s.zeroGrad torn c n).sawNonfinite torn d c.core 1
  else
    let word := fun (x : Nat) => (BitVec.ofNat 32 x : W32)
    let (row, col) := factors r (chunks cols (recRows r) gs) ((elemsOf 4 (recRows r) rb).map word) ((elemsOf 4 cols cb).map word)
    let rmean := divF (sumF row) (natF (recRows r))
    let out := ((elemsOf (recP r) n pb).zip (gs2.zip (elemsOf (recS r) n mb))).zipIdx.map fun ((p, g, m), e) =>
      let vh := divF (mulF (row.getD (e / cols) 0) (col.getD (e % cols) 0)) rmean
      let (p, m) := momentumF r c.lr (widenTo (recP r) p) (widenTo (recS r) m) (divF g (sqrtF vh))
      (narrowTo r (callStep w) (recP r) e 0 p, narrowTo r (callStep w) (recS r) e 1 m)
    let s := s.writeSpan torn c.part (callParam w) (bytesOfElems (recP r) (out.map Prod.fst)) []
    let s := s.writeSpan torn c.part mom (bytesOfElems (recS r) (out.map Prod.snd)) []
    let s := s.writeSpan torn c.part rowOff (bytesOfElems 4 (row.map BitVec.toNat)) []
    let s := s.writeSpan torn c.part colOff (bytesOfElems 4 (col.map BitVec.toNat)) []
    s.zeroGrad torn c n

/-! ### KRON (R165, R166) -/

/-- Offset of a block's record in a group with this STATE_OFF. -/
def blockRecord (r : List W64) (stateOff idx : Nat) : Nat :=
  stateOff + up64 (recElems r * recS r) + idx * (64 + 24 * recB r ^ 2)

/-- A B × B binary32 matrix in memory. -/
def State.readMat (s : State) (part o b : Nat) : State × Mat × Bool :=
  let (s, bs, bad) := s.readSpan part o (4 * b * b)
  (s, (chunks b b ((elemsOf 4 (b * b) bs).map (BitVec.ofNat 32))), !bad.isEmpty)

/-- Write a matrix. -/
def State.writeMat (s : State) (torn : Bool) (part o : Nat) (a : Mat) : State :=
  s.writeSpan torn part o (bytesOfElems 4 (a.flatten.map BitVec.toNat)) []

/-- Rows of the part of block (a, b) that lies in the matrix: (row, first column, elements). -/
def blockRows (r : List W64) (a b : Nat) : List (Nat × Nat × Nat) :=
  let n := recB r
  (List.range (min n (recRows r - a * n))).map fun i => (a * n + i, b * n, min n (recCols r - b * n))

/-- Elements of the rows of a block, at an offset each: as lists, with whether memory failed. -/
def State.readRows (s : State) (part size : Nat) (off : Nat → Nat) (cols : Nat) (rows : List (Nat × Nat × Nat)) :
    State × List (List Nat) × Bool :=
  rows.foldl (fun (s, l, bad) (i, j, n) =>
    let (s, bs, b) := s.readSpan part (off (i * cols + j)) (n * size)
    (s, l ++ [elemsOf size n bs], bad || !b.isEmpty)) (s, [], false)

/-- Write the elements of a block's rows. -/
def State.writeRows (s : State) (torn : Bool) (part size : Nat) (off : Nat → Nat) (cols : Nat) (rows : List ((Nat × Nat × Nat) × List Nat)) : State :=
  rows.foldl (fun s ((i, j, _), l) => s.writeSpan torn part (off (i * cols + j)) (bytesOfElems size l) []) s

/-- A matrix read only where the step uses it; the one put in its place is used by nothing, or the identity for a root. -/
def State.readMatIf (s : State) (use : Bool) (part o b : Nat) : State × Mat × Bool :=
  if use then s.readMat part o b else (s, Mat.one b, false)

/-- The step takes statistics (R166). -/
def statStep (r : List W64) (step : Nat) : Bool := step % 2 ^ recField r 0 21 18 == 0

/-- The left side of a KRON group is in use (R166, R167). -/
def usesLeft (r : List W64) : Bool := recSide r != 2
/-- The right side of a KRON group is in use (R166, R167). -/
def usesRight (r : List W64) : Bool := recSide r != 1

/-- The factors of a block after a step (R166). -/
def statFactors (r : List W64) (step : Nat) (gb l rt : Mat) : Mat × Mat :=
  let n := recB r
  if !statStep r step then (l, rt)
  else
    let gt := Mat.transpose n gb
    (if usesLeft r then Mat.mix r n l (Mat.mul n gb gt) else l, if usesRight r then Mat.mix r n rt (Mat.mul n gt gb) else rt)

/-- The preconditioned direction of a block (R166). -/
def kronDirection (r : List W64) (ql qr gb : Mat) : Mat :=
  let n := recB r
  if recSide r = 0 then Mat.mul n (Mat.mul n ql gb) qr
  else if recSide r = 1 then Mat.mul n ql gb
  else Mat.mul n gb qr

/-- One block of a KRON call (R161, R166, R175): it reads the factors on a step with statistics and the roots of a valid active set,
each of the sides in use. -/
def State.runBlock (s : State) (torn : Bool) (d : Nat) (c : UCall) (a b : Nat) : State :=
  let r := c.record
  let w := c.words
  let n := recB r
  let cols := recCols r
  let rows := blockRows r a b
  let pOff := fun e => recBase r + e * recP r
  let gOff := fun e => callGrad w + (e - callElem r w) * recG r
  let mOff := fun e => callState w + e * recS r
  let at_ := blockRecord r (callState w) (a * recBC r + b)
  let (s, ps, e1) := s.readRows c.part (recP r) pOff cols rows
  let (s, gs, e2) := s.readRows c.part (recG r) gOff cols rows
  let (s, ms, e3) := s.readRows c.part (recS r) mOff cols rows
  let (s, hb, e4) := s.readSpan c.part at_ 64
  let stats := statStep r (callStep w)
  let (s, l, e5) := s.readMatIf (stats && usesLeft r) c.part (at_ + 64) n
  let (s, rt, e6) := s.readMatIf (stats && usesRight r) c.part (at_ + 64 + 4 * n * n) n
  let active := ofBytes hb % 2
  let valid := decide (ofBytes hb / 2 ^ (2 + active) % 2 = 1)
  let set := at_ + 64 + (8 + 8 * active) * n * n
  let (s, ql, e7) := s.readMatIf (valid && usesLeft r) c.part set n
  let (s, qr, e8) := s.readMatIf (valid && usesRight r) c.part (set + 4 * n * n) n
  let gp := gs.map fun l => l.map (prepare r c.scale)
  if c.bad || e1 || e2 || e3 || !e4.isEmpty || e5 || e6 || e7 || e8 then s.updMemError d c.part true
  else if gp.any fun l => l.any fun g => !finiteF g then s.sawNonfinite torn d c.core 1
  else
    let gb : Mat := Mat.ofFn n fun i j => (gp.getD i []).getD j 0
    let (l, rt) := statFactors r (callStep w) gb l rt
    let ub := kronDirection r ql qr gb
    let new := (rows.zip (ps.zip ms)).zipIdx.map fun (((row, j0, _), p, m), i) =>
      (p.zip m).zipIdx.map fun ((p, m), j) =>
        let (p, m) := momentumF r c.lr (widenTo (recP r) p) (widenTo (recS r) m) (Mat.at ub i j)
        let e := row * cols + j0 + j
        (narrowTo r (callStep w) (recP r) e 0 p, narrowTo r (callStep w) (recS r) e 1 m)
    let s := s.writeRows torn c.part (recP r) pOff cols (rows.zip (new.map fun l => l.map Prod.fst))
    let s := s.writeRows torn c.part (recS r) mOff cols (rows.zip (new.map fun l => l.map Prod.snd))
    let s := if stats && usesLeft r then s.writeMat torn c.part (at_ + 64) l else s
    if stats && usesRight r then s.writeMat torn c.part (at_ + 64 + 4 * n * n) rt else s

/-- The blocks that a KRON call covers, in ascending index (R166). -/
def callBlocks (r w : List W64) : List (Nat × Nat) :=
  let row := recB r * recCols r
  let a0 := callElem r w / row
  let a1 := ceilDiv (callElem r w + callCount w) row
  (List.range (a1 - a0)).flatMap fun a => (List.range (recBC r)).map fun b => (a0 + a, b)

/-- The gradient elements of a call. -/
def callGrads (c : UCall) : Nat := if c.kind = 1 then callCount c.words * recCols c.record else callCount c.words

/-- What a call that runs does (R161 to R166, R172, R173 for a frozen group). One that a teardown stops has come as far as `rows` of its
rows or blocks, and has made some of its writes. -/
def State.runCall (s : State) (torn : Option Nat) (d : Nat) (c : UCall) : State :=
  let r := c.record
  let t := torn.isSome
  if recFrozen r then
    let (s, _, bad) := s.readSpan c.part (callGrad c.words) (callGrads c * recG r)
    (s.zeroGrad t c (callGrads c)).updMemError d c.part (c.bad || !bad.isEmpty)
  else if c.kind = 1 then s.runRows t d c (torn.getD (callCount c.words))
  else match recRule r with
    | 2 => s.runFactored t d c
    | 3 =>
      let blocks := callBlocks r c.words
      ((blocks.take (torn.getD blocks.length)).foldl (fun s x => s.runBlock t d c x.1 x.2) s).zeroGrad t c (callCount c.words)
    | _ => s.runDense t d c

/-- The call has its effect: a UPD or UPDROW call of a group that is not frozen, a STEPEND of a KRON group that is not (R171, R173). -/
def UCall.effective (c : UCall) : Bool := !recFrozen c.record && (c.kind != 2 || recRule c.record == 3)

/-- A call leaves the engine: its counters, and SKIPS for an update of a frozen group (R154, R171, R173, R177). -/
def State.endCall (s : State) (d : Nat) (c : UCall) : State :=
  let u := s.updAt d
  let s := s.setUpd d { u with calls := u.calls.filter fun (x : UCall) => x.id != c.id }
  let s := if recFrozen c.record && decide (c.kind < 2) then s.skipCall d c.group else s
  (s.callLeft c.core).callDone d c.core c.cnt c.group (if c.effective then some (callStep c.words) else none)

/-- The memory accesses of the engine's work may begin: its partition has credit (R174, R188), and no throttled channel of the die is
still taken (R363). -/
def State.mayAccess (s : State) (d k : Nat) : Bool := s.hasCredit d k && s.dieFree d

/-- UPDATE_CALL_COMPLETE (R154): the call's arithmetic and its writes, the last of which needs credit (R174, R188). -/
def execUpdateCallComplete (d id : Nat) (s : State) : Host.Outcome State Fault Refusal :=
  onUnit (d < 4)
    (match (s.updAt d).calls.find? fun (c : UCall) => c.id == id with
     | some c => if c.kind < 2 ∧ c.running ∧ s.mayAccess d c.part then (s.runCall none d c).endCall d c else s
     | none => s)

/-! ### Refreshes and swaps (R167 to R171) -/

/-- A KRON call covers a block (R166, R169). -/
def callCovers (c : UCall) (idx : Nat) : Bool := (callBlocks c.record c.words).any fun x => x.1 * recBC c.record + x.2 == idx

/-- A call that runs is still to write a block's factor (R169). -/
def UpdDie.writing (u : UpdDie) (g idx : Nat) : Bool :=
  u.calls.any fun (c : UCall) => c.kind == 0 && c.group == g && c.running && callCovers c idx

/-- Blocks of a refresh: none where no UPD call has said where the group's state lies (log 22). -/
def UpdDie.refreshBlocks (u : UpdDie) (x : URefresh) : Nat :=
  if (Tab.find u.stateOff x.group).isSome then recBR x.record * recBC x.record else 0

/-- The root unit reads the factors of the refresh's next block, those that SIDE uses (R167, R169). -/
def State.readFactors (s : State) (d : Nat) (x : URefresh) (rest : List URefresh) : State :=
  let r := x.record
  let n := recB r
  let at_ := blockRecord r (Tab.get 0 (s.updAt d).stateOff x.group) x.block
  let (s, l, e1) := s.readMatIf (usesLeft r) x.part (at_ + 64) n
  let (s, rt, e2) := s.readMatIf (usesRight r) x.part (at_ + 64 + 4 * n * n) n
  s.setUpd d { s.updAt d with refresh := { x with running := true, held := some (l, rt, e1 || e2) } :: rest }

/-- ROOT_REFRESH_START (R169, R170): the root unit comes to the next block of the oldest refresh and reads its factors, while it is
free and not held and no call that covers the block is still to write them. -/
def execRootRefreshStart (d g : Nat) (s : State) : Host.Outcome State Fault Refusal :=
  onUnit (d < 4)
    (let u := s.updAt d
     match u.refresh with
     | x :: rest =>
       if x.group = g ∧ x.held.isNone ∧ s.field (A.updCtrl d) 0 0 = 0 ∧ ¬ u.writing g x.block ∧ s.mayAccess d x.part then
         if x.block < u.refreshBlocks x then s.readFactors d x rest
         else s.setUpd d { u with refresh := { x with running := true, held := some ([], [], false) } :: rest }
       else s
     | [] => s)

/-- A block's header as written (R165). -/
def State.writeHeader (s : State) (torn : Bool) (part at_ h : Nat) : State := s.writeSpan torn part at_ (toBytes 8 h) []

/-- A block's refresh has ended in this tick: the swap of it leaves the block READY (R171). -/
def State.blockFresh (s : State) (d g idx : Nat) : State :=
  let u := s.updAt d
  s.setUpd d { u with fresh := (g, idx, s.clk) :: u.fresh.filter fun e => e.2.2 == s.clk }

/-- A failed refresh of a block (R168). -/
def State.refreshFail (s : State) (torn : Bool) (d g part at_ h : Nat) : State :=
  let s := s.writeHeader torn part at_ (h % 2 ^ 16 + min 65535 (h / 2 ^ 16 % 2 ^ 16 + 1) * 2 ^ 16 + h / 2 ^ 32 % 2 ^ 32 * 2 ^ 32)
  if torn then s else
  let s := (s.bump (A.updRootStat d) 31 16 1).setBit (A.updEvents d) 0
  let u := s.updAt d
  let st := Tab.get 0 u.gstat g
  let s := s.setUpd d { u with gstat := Tab.put u.gstat g (setFld st 15 0 (satAdd 65535 (fld st 15 0) 1)) }
  if h / 2 ^ (2 + h % 2) % 2 = 1 then s else s.bump (A.updRootStat d) 15 0 1

/-- The end of a block's refresh, from the factors that were read (R167, R168, R175): the root pair goes to the set that is inactive
now. Work that a teardown stops is not counted (R176). -/
def State.refreshBlock (s : State) (torn : Bool) (d : Nat) (x : URefresh) (f : Mat × Mat × Bool) : State :=
  let r := x.record
  let n := recB r
  let at_ := blockRecord r (Tab.get 0 (s.updAt d).stateOff x.group) x.block
  let p := if recSide r = 0 then 4 else 2
  let (s, hb, e1) := s.readSpan x.part at_ 8
  if f.2.2 || !e1.isEmpty then s.updMemError d x.part true
  else
    let h := ofBytes hb
    let lr := if usesLeft r then inverseRoot r p f.1 else some (Mat.one n)
    let rr := if usesRight r then inverseRoot r p f.2.1 else some (Mat.one n)
    match lr, rr with
    | some a, some b =>
      let other := 1 - h % 2
      let set := at_ + 64 + (8 + 8 * other) * n * n
      let s := if usesLeft r then s.writeMat torn x.part set a else s
      let s := if usesRight r then s.writeMat torn x.part (set + 4 * n * n) b else s
      let s := s.writeHeader torn x.part at_ (h ||| 2 ||| 2 ^ (2 + other))
      if torn then s else (s.blockFresh d x.group x.block).bump (A.updRootStat d) 63 32 1
    | _, _ => s.refreshFail torn d x.group x.part at_ h

/-- A refresh ends, and with it every call that joined it (R154, R169). -/
def State.refreshDone (s : State) (d : Nat) (x : URefresh) (rest : List URefresh) : State :=
  let s := s.setUpd d { s.updAt d with refresh := rest }
  x.waiters.foldl (fun s (n, cnt) => ((s.callLeft n).bump (A.updCounts d) 63 32 1).countCore n cnt) s

/-- ROOT_REFRESH_COMPLETE (R168 to R170): the block that the root unit holds, unless ROOT_PAUSE holds the unit; after the last block the
refresh ends. -/
def execRootRefreshComplete (d g : Nat) (s : State) : Host.Outcome State Fault Refusal :=
  onUnit (d < 4)
    (let u := s.updAt d
     match u.refresh with
     | x :: rest =>
       match x.held with
       | some f =>
         if x.group = g ∧ s.field (A.updCtrl d) 0 0 = 0 ∧ s.mayAccess d x.part then
           let s := if x.block < u.refreshBlocks x then s.refreshBlock false d x f else s
           if x.block + 1 < u.refreshBlocks x then
             s.setUpd d { s.updAt d with refresh := { x with block := x.block + 1, held := none } :: rest }
           else s.refreshDone d x rest
         else s
       | none => s
     | [] => s)

/-- Swap a block's root sets where READY is set (R171); a header that memory cannot give leaves the block as it is (R175). -/
def State.swapBlock (s : State) (d part at_ step : Nat) : State :=
  let (s, hb, bad) := s.readSpan part at_ 8
  let h := ofBytes hb
  if !bad.isEmpty then s.updMemError d part true
  else if h / 2 % 2 = 1 then
    s.writeHeader false part at_ ((1 - h % 2) + h / 4 % 2 ^ 14 * 4 + h / 2 ^ 16 % 2 ^ 16 * 2 ^ 16 + step % 2 ^ 32 * 2 ^ 32)
  else s

/-- Every block of the group swaps, but for those whose refresh ended in this tick (R171). -/
def State.swapBlocks (s : State) (d : Nat) (c : UCall) : State :=
  match Tab.find (s.updAt d).stateOff c.group with
  | some o => ((List.range (recBR c.record * recBC c.record)).filter fun i => !(s.updAt d).fresh.contains (c.group, i, s.clk)).foldl
      (fun (s : State) i => s.swapBlock d c.part (blockRecord c.record o i) (callStep c.words)) s
  | none => s

/-- A STEPEND call's turn has come (R153, R171): every earlier UPD and STEPEND call of the group has completed, and every earlier UPDROW
call has started. -/
def UpdDie.mayEnd (u : UpdDie) (c : UCall) : Bool :=
  (u.before c).all fun (x : UCall) => x.group != c.group || (x.kind == 1 && x.running)

/-- STEPEND_SWAP (R171): on a group that is not KRON, or is frozen, the call completes with no effect. -/
def execStependSwap (d id : Nat) (s : State) : Host.Outcome State Fault Refusal :=
  onUnit (d < 4)
    (let u := s.updAt d
     match u.calls.find? fun (c : UCall) => c.id == id with
     | some c =>
       if c.kind = 2 ∧ u.mayEnd c ∧ s.mayAccess d c.part then (if c.effective then s.swapBlocks d c else s).endCall d c else s
     | none => s)

/-- A running call that a teardown stops (R176): how far it has come, and which of its writes, are free values (log 3). -/
def State.stopCall (s : State) (d : Nat) (c : UCall) : State :=
  let s := if c.running then
      let n := s.freeW.toNat % (callCount c.words + 1)
      s.useFree.runCall (some n) d c
    else s
  s.callLeft c.core

/-- A refresh that a teardown stops (R176). -/
def State.stopRefresh (s : State) (d : Nat) (x : URefresh) : State :=
  let s := match x.held with
    | some f => if x.block < (s.updAt d).refreshBlocks x then s.refreshBlock true d x f else s
    | none => s
  x.waiters.foldl (fun s y => s.callLeft y.1) s

/-- Teardown of a partition (R176): queued calls and refreshes go, running ones stop at a 64-byte write, and none counts. -/
def State.updTeardown (s : State) (d part : Nat) : State :=
  let u := s.updAt d
  let s := (u.calls.filter fun (c : UCall) => c.part == part).foldl (fun s c => s.stopCall d c) s
  let s := (u.refresh.filter fun (x : URefresh) => x.part == part).foldl (fun s x => s.stopRefresh d x) s
  s.setUpd d { s.updAt d with
    calls := u.calls.filter fun (c : UCall) => c.part != part
    refresh := u.refresh.filter fun (x : URefresh) => x.part != part }

/-! ### Group commands (R156, R177) -/

/-- A write of UPD.GSEL loads GDATA0 to GDATA7 from the selected record (R177). -/
def State.loadGroup (s : State) (d : Nat) (v : W64) : State :=
  let g := fld v 9 0
  (List.range 8).foldl (fun s i => s.setReg (A.updGdata d i) (recWord (s.groupRec d g) i))
    (s.setReg (A.updGselReg d) (BitVec.ofNat 64 g))

/-- UPD_GSEL (R177). -/
def execUpdGsel (d : Nat) (v : W64) (s : State) : Host.Outcome State Fault Refusal :=
  onUnit (d < 4) (if s.coreDom d then s.loadGroup d v else s)

/-- A record put in force (R156). -/
def State.commitGroup (s : State) (d g : Nat) (r : List W64) : State :=
  if recReserved r then s else s.putGroup d g r

/-- A write to UPD.GCMD (R177): COMMIT copies the staged record, CLR_STAT clears GSTAT of the selected group. -/
def State.writeGcmd (s : State) (d : Nat) (v : W64) : State :=
  if !s.coreDom d then s
  else
    let g := s.field (A.updGselReg d) 9 0
    let s := if bit v 0 then s.commitGroup d g ((List.range 8).map fun i => s.reg (A.updGdata d i)) else s
    if bit v 1 then s.setUpd d { s.updAt d with gstat := Tab.put (s.updAt d).gstat g 0 } else s

/-- UPD_COMMIT (R156, R177): a write of UPD.GCMD with COMMIT 1. -/
def execUpdCommit (d : Nat) (v : W64) (s : State) : Host.Outcome State Fault Refusal :=
  onUnit (d < 4) (s.writeGcmd d (v ||| 1))

/-- UPD_CLR_STAT (R177): a write of UPD.GCMD with CLR_STAT 1. -/
def execUpdClrStat (d : Nat) (v : W64) (s : State) : Host.Outcome State Fault Refusal :=
  onUnit (d < 4) (s.writeGcmd d (v ||| 2))

/-- The engine after its die's core domain comes up: no call, and the groups and schedules of the image (R177, R218). -/
def State.loadUpd (s : State) (d : Nat) : State :=
  let groups := (s.entries 0x0070).filter fun e => fld (entryWord e 0) 63 62 == d
  let scheds := (s.entries 0x0071).filter fun e => fld (entryWord e 0) 63 62 == d
  s.setUpd d { UpdDie.init with
    nextId := (s.updAt d).nextId
    group := groups.foldl (fun t e => Tab.put t (fld (entryWord e 0) 57 48) (e.drop 1)) []
    sched := scheds.foldl (fun t e => Tab.put t (fld (entryWord e 0) 59 56) (e.drop 1)) [] }

end Sys2Proof.Machine
end

