-- ==== Sys2Proof/Machine/Domains.lean ====
section
/-! DEFINITION. Power domains of the dies (R21, R202, R205, R218, R418): what goes when a core or a memory domain goes, and what stands when
it comes back. -/
namespace Sys2Proof.Machine

/-- Registers of an address range back at their reset values; fields that the topo image sets keep them (R418, log 23). -/
def State.resetRegs (s : State) (lo hi : Nat) : State :=
  { s with regs := s.regs.map fun e =>
      if lo ≤ e.1 ∧ e.1 < hi then
        match regAt e.1 with
        | some (r, _) => (e.1, (e.2 &&& r.maskBy (fun a => a == .rwl)) ||| r.resetBy (fun a => a != .rwl))
        | none => e
      else e }

/-- A core after its domain has been down: in RESET, its positions as fused but for FENCED (R8, R21, R90, R97, R418). -/
def State.freshCore (s : State) (n : Nat) (c : Core) : Core :=
  { Core.init with
    nextId := c.nextId
    pos := c.pos.map fun e => (e.1, { s.fuse.position n e.1 with fenced := e.2.fenced }) }

/-- A requester of the compute core domain (R184). -/
def ofCoreDomain (req : Nat) : Bool := req == 1 || req == 2 || req == 6

/-- The requests of a die's core domain leave its controllers (R202). -/
def MemDie.dropDie (m : MemDie) : MemDie :=
  { m with
    waiting := m.waiting.filter fun w => !ofCoreDomain w.2.req
    chan := m.chan.map fun e => (e.1, e.2.filter fun (r : MemReq) => !ofCoreDomain r.req) }

/-! ### What a die has sent (R183, R207) -/

/-- A request of this module for its own memory that its die reaches without the hub (R183): every granule lies on the issuing die. -/
def State.isDirect (s : State) (d : Nat) (q : Packet) : Bool :=
  s.topo.ownEid != 0xFFFF && qDest q == s.topo.ownEid && isRequest (qType q) && !qInStore q
    && (qOffsets q).all fun o => (s.place o).die == d

/-- Reply space that a request of a die without its answer holds (R207): an owner that waits no longer holds none, nor one whose answer
comes on the direct path. -/
def State.replyOwed (s : State) (d e : Nat) (a : Owner × Nat × Nat) : Nat :=
  if e == s.topo.ownEid && fieldOf a.2.2 44 44 == 0 && (s.place (fieldOf a.2.2 39 0)).die == d then 0
  else match a.1 with
    | .access n id => if dieOf n = d ∧ (Tab.get Core.init s.core n).rem.any fun (r : Remote) => r.id == id then 40 else 0
    | .copy c id _ => if c = d ∧ (Tab.get CopyEng.init s.copy c).descs.any fun (x : Desc) => x.id == id then 288 else 0
    | _ => 0

/-- Reply space that a die has reserved at its end for requests that have left (R207). -/
def State.replyHeld (s : State) (d : Nat) : Nat :=
  s.ep.src.foldl (fun k e => e.2.answers.foldl (fun k a => k + s.replyOwed d e.1 a.2) k) 0

/-- A request that waits behind `kept` has crossed its die's link (R207): the hub's receive buffer of 64 KiB for the request class holds it
beside the others of the die that wait there, and the die has reply space of 64 KiB for it. A later one crosses behind an earlier one. -/
def State.crosses (s : State) (kept : List Unacked) (u : Unacked) : Bool :=
  let mine := kept.filter fun (w : Unacked) => w.die == u.die && qType w.q != 0x24 && !s.isDirect w.die w.q
  qType u.q == 0x24 || s.isDirect u.die u.q ||
    decide ((mine.map fun w => linkBytes w.q).sum + linkBytes u.q ≤ 0x10000
      ∧ s.replyHeld u.die + (mine.map fun w => replyBytes w.q).sum + replyBytes u.q ≤ 0x10000)

/-- The requests of a die that had not crossed its link when it went, and those on its direct path, are not sent (R202, R217). -/
def State.dropUncrossed (s : State) (d : Nat) : State :=
  { s with hub := { s.hub with dynWait := s.hub.dynWait.foldl (fun l (u : Unacked) =>
      if u.die = d ∧ (s.isDirect d u.q ∨ !s.crosses l u) then l else l ++ [u]) [] } }

/-- The sequence of a SYNC packet is the next expected one, and what the destination held for the source goes (R229); the same SYNC packet
once more changes nothing (R231). -/
def DstPair.start (x : DstPair) (q : Packet) : DstPair :=
  let same := match x.sync with
    | some (seq, ts) => seq == qSeq q && (qRetry q || ts == qTs q)
    | none => false
  if qSync q && !same then
    { x with expected := some (qSeq q), reorder := [], waitRec := false, bad := [], sync := some (qSeq q, qTs q) }
  else x

/-- The difference of two sequences modulo 2^24 (R229). -/
def seqDiff (a b : Nat) : Nat := (a + 2 ^ 24 - b % 2 ^ 24) % 2 ^ 24

/-- A request takes its place in the reorder window (R229); one that holds the place already stays. -/
def DstPair.hold (x : DstPair) (q : Packet) : DstPair :=
  if x.expected.any (fun v => decide (seqDiff (qSeq q) v < 256)) && (Tab.find x.reorder (qSeq q)).isNone then
    { x with reorder := Tab.put x.reorder (qSeq q) q }
  else x

/-- Requests on the direct path of a die that goes are performed no more (R202); the sequence of the pair goes on past them (R183). -/
def State.voidDirect (s : State) (d : Nat) : State :=
  let e := s.topo.ownEid
  let sent := (Tab.get SrcPair.init s.ep.src e).unacked
  let ofDie := fun (q : Packet) => sent.any fun (u : Unacked) => u.seq == qSeq q && u.die == d
  let x := Tab.get DstPair.init s.ep.dst e
  let x := { x with reorder := x.reorder.map fun p => if s.isDirect d p.2 && ofDie p.2 then (p.1, qVoid p.2) else p }
  let x := (Tab.get [] s.ep.direct d).foldl (fun (x : DstPair) q => (x.start q).hold (qVoid q)) x
  if (Tab.find s.ep.dst e).isNone ∧ (Tab.get [] s.ep.direct d).isEmpty then s
  else { s with ep := { s.ep with dst := Tab.put s.ep.dst e x, direct := Tab.erase s.ep.direct d } }

/-- A die's compute core domain is removed or reset (R21, R202, R214, R252): cores, engines and the cache stop. -/
def State.coreDown (s : State) (d : Nat) : State :=
  let s := (((s.dropUncrossed d).voidDirect d).endMismatches d).accrueSlow
  let s := { s with
    core := s.core.map fun (e : Nat × Core) => if dieOf e.1 = d then (e.1, s.freshCore e.1 e.2) else e
    dom := { s.dom with core := s.dom.core &&& ~~~ BitVec.ofNat 4 (2 ^ d) }
    rc := Tab.put s.rc d RcDie.init
    mem := { s.mem with die := s.mem.die.map fun (e : Nat × MemDie) => if e.1 = d then (e.1, e.2.dropDie) else e }
    copy := Tab.put s.copy d { Tab.get CopyEng.init s.copy d with descs := [] } }
  let s := s.setUpd d { UpdDie.init with nextId := (s.updAt d).nextId }
  let lo := 0x800000 + d * 640 * 0x1000
  let s := s.resetRegs lo (lo + 640 * 0x1000)
  let s := s.resetRegs (0x1800000 + d * 0x10000) (0x1800000 + (d + 1) * 0x10000)
  let s := s.resetRegs (A.cpyStat d) (A.cpyStat d + 8)
  s.resetRegs (A.rcCtrl d) (A.rcCtrl d + 16)

/-- A die's compute core domain comes up (R419): every core in RESET, operating point 0, the update engine with the image's
groups. -/
def State.coreUp (s : State) (d : Nat) : State :=
  let s := s.accrueSlow
  let o := s.opAt d
  let s := s.setOp d { o with step := 0, gbandEff := o.gband, steppedAt := none, minStep := 0 }
  ({ s with dom := { s.dom with core := s.dom.core ||| BitVec.ofNat 4 (2 ^ d) } }).loadUpd d

/-- The contents of a die's memory are lost (R202, R218). -/
def State.loseMemory (s : State) (d : Nat) : State :=
  let lo := 128 * d * 2 ^ 31
  let hi := 128 * (d + 1) * 2 ^ 31
  { s with mem :=
    { bytes := Tab.outside s.mem.bytes lo hi
      poison := Tab.outside s.mem.poison (lo / 64) (hi / 64)
      die := Tab.put s.mem.die d MemDie.init } }

/-- A die's memory domain is removed or reset (R21, R205): its contents and its controllers' state, its core domain with it, and the
die end of its link. -/
def State.memDown (s : State) (d : Nat) : State :=
  let s := ((s.coreDown d).loseMemory d).resetRegs (0x600000 + d * 0x40000) (0x600000 + (d + 1) * 0x40000)
  let l := s.linkAt d
  let s := s.setLink d (if l.st = .fenced then l else { l with st := .down, rejoining := false, drops := [] })
  { s with dom := { s.dom with mem := s.dom.mem &&& ~~~ BitVec.ofNat 4 (2 ^ d) } }

/-- MEM.REGk of a die as the image has them (R203, R334); a regulator that the image does not name takes EN 0. -/
def State.loadRegulators (s : State) (d : Nat) : State :=
  (List.range 16).foldl (fun s k =>
    let v := ((s.entries 0x0050).filter fun e => fld (entryWord e 0) 63 60 == k && fld (entryWord e 0) 59 58 == d).getLast?.map fun e => entryWord e 1
    let v := v.getD 0 &&& 0x8001FFFF3FFF0000
    if s.reg (A.memReg d k) = v then s else s.setReg (A.memReg d k) v) s

/-- A die's memory domain comes up, its stacks not yet trained (R419), its regulators in force as the image has them (R203). -/
def State.memUp (s : State) (d : Nat) : State :=
  let s := { s with dom := { s.dom with mem := s.dom.mem ||| BitVec.ofNat 4 (2 ^ d) } }
  let s := s.loadRegulators d
  s.setMem d { s.memAt d with
    upAt := s.clk, regEff := (List.range 16).foldl (fun t k => Tab.put t k (s.reg (A.memReg d k))) (s.memAt d).regEff }

/-- A partition owns a core of a die (R217, R320). -/
def State.ownsCoreOn (s : State) (k d : Nat) : Bool :=
  (s.entries 0x0011).any fun e =>
    fld (entryWord e 0) 63 60 == k
      && overlaps (fld (entryWord e 0) 47 36) (fld (entryWord e 0) 23 12 + 1) (640 * d) (640 * (d + 1))

/-- A job fault of a cause for each partition that satisfies a condition. -/
def State.faultParts (s : State) (index cause : Nat) (p : Nat → Bool) : State :=
  ((List.range 16).filter p).foldl (fun s k => s.jobFault index cause k (s.partTag k) 0xFFFF 0 0) s

end Sys2Proof.Machine
end

