-- ==== Sys2Proof/Machine/Links.lean ====
section
/-! DEFINITION. The die-to-die links (R204 to R220): training and width agreement, parity, drops, fences and rejoins. -/
namespace Sys2Proof.Machine

/-- Ones of a 96-bit set. -/
def count96 (x : BitVec 96) : Nat := (List.range 96).foldl (fun k i => k + b2n (x.getLsbD i)) 0

/-- D2D.STATUS.STATE (R220). -/
def LinkSt.code : LinkSt → Nat
  | .down => 0
  | .training => 1
  | .ready => 2
  | .up => 3
  | .fenced => 4
  | .offline => 5

/-! ### Fences (R217, R219) -/

/-- Another die-fence command of this die and cause happens in this tick: it waits in the queue, which empties before time moves on. -/
def State.fencePending (s : State) (d : Nat) (c : FenceCause) : Bool :=
  s.pending.any fun
    | .dieFence e x => e == d && x == c
    | _ => false

/-- The cause that a fence records (R217, R219): the first in the order of R217 of those that meet in this tick. -/
def State.firstCause (s : State) (d cause : Nat) : Nat :=
  if s.fencePending d .clock then min 1 cause else if s.fencePending d .reset then min 2 cause else cause

/-- The die's memory domain is reset (R418): its link, if it is not fenced, and its core domain with it. -/
def State.resetMemory (s : State) (d : Nat) : State := (s.memDown d).memUp d

/-- Enabled dies have all ended their self-test, or there is none: the stage is RUNNING (R419). -/
def State.testsDone (s : State) : State :=
  if s.svc.stage = .dies ∧ (List.range 4).all fun d => !s.coreDom d || s.svc.selfDone.getLsbD d then
    { s with svc := { s.svc with stage := .running } }
  else s

/-- A die's fence (R217): FENCE_CT, the event, record and datagram; its memory and its cores' and engines' state are lost (R21, R218);
the hub answers what it sent there; the other dies' cache lines of it go; the job faults. A reset also resets the die's memory domain
(R418). Causes: 1 clock, 2 reset, 3 below 72, 4 command (R417). -/
def State.fenceDie (s : State) (d own : Nat) : State :=
  let l := s.linkAt d
  let cause := s.firstCause d own
  let s := s.setLink d { l with
    st := .fenced, afterFence := true, rejoining := false, drops := [], since := s.clk, fencedAt := some s.clk }
  let s := (s.setReg (A.fenceCt d) s.now).setBit (A.d2dEvents d) 1
  let s := if cause = 1 then s.setBit (A.d2dEvents d) 0 else s
  let s := s.report { sev := 4, index := d, code := 0x4001, p0 := cause, p1 := s.now.toNat % 2 ^ 32 }
  let lost := s.hubRequests d
  let s := lost.foldl (fun s r => s.answerOffline d r) s
  let s := s.faultParts d 8 fun k => s.partTag k != 0 && (s.ownsCoreOn k d || s.hasMemoryOn k d || lost.any fun r => r.part == k)
  let s := if own = 2 then s.resetMemory d else (s.coreDown d).loseMemory d
  ((List.range 4).foldl (fun s j => if j = d then s else s.rcDropHome j d) s).testsDone

/-- The die has been fenced in this tick (R219). -/
def State.justFenced (s : State) (d : Nat) : Bool := (s.linkAt d).fencedAt == some s.clk

/-- The link enters UP: CTRL.FENCE is cleared (R220). A FENCE written in the same tick stays set and fences the die (R11). -/
def State.linkEnterUp (s : State) (d : Nat) : State :=
  let t := s.setLink d { s.linkAt d with st := .up, afterFence := false, rejoining := false, since := s.clk }
  if (s.writesTo (A.d2dCtrl d)).any fun w => bit w.2 3 then t.fenceDie d 4 else t.putField (A.d2dCtrl d) 3 3 0

/-- A cause that meets a fence of the same tick (R219): the one record names the first cause in the order of R217. -/
def State.amendFence (s : State) (d cause : Nat) : State :=
  let hit := fun (r : CRec) => r.at_ == s.clk && fld r.w0 15 0 == 0x4001 && fld r.w0 27 16 == d && decide (cause < fld r.w2 31 0)
  let fix := fun (r : CRec) => if hit r then { r with w2 := setFld r.w2 31 0 cause } else r
  let body := fun (b : List W64) => match s.cairn.buf.find? fun (r : CRec) => hit r && r.words == b with
    | some r => (fix r).words
    | none => b
  { s with
    cairn := { s.cairn with buf := s.cairn.buf.map fix }
    eth := { s.eth with events := s.eth.events.map fun (e : Ev) => { e with body := body e.body } } }

/-- DIE_FENCE (R217, R219): clock loss or a memory-domain reset; one fence for causes that meet. A reset resets the memory domain, and
fences the die whatever state its link is in, but for one that is fenced already (R21, R418). -/
def execDieFence (d : Nat) (c : FenceCause) (s : State) : Host.Outcome State Fault Refusal :=
  onUnit (d < 4)
    (if s.justFenced d then
       let s := s.setLink d { s.linkAt d with st := .fenced, afterFence := true, since := s.clk }
       let s := (if c = .clock then s.setBit (A.d2dEvents d) 0 else s).amendFence d (if c = .clock then 1 else 2)
       if c = .reset ∧ s.memDom d then s.resetMemory d else s
     else
       match (s.linkAt d).st with
       | .up | .ready | .training => s.fenceDie d (if c = .clock then 1 else 2)
       | .fenced => if c = .reset ∧ s.memDom d then s.resetMemory d else s
       | _ => if c = .reset ∧ s.memDom d then s.fenceDie d 2 else s)

/-- A hardware cause fences the die in this tick: it has, or its command waits (R219). -/
def State.hardFence (s : State) (d : Nat) : Bool := s.fencePending d .clock || s.fencePending d .reset || s.justFenced d

/-- A write of D2D.CTRL.FENCE (R217, R219, R220): an UP link is fenced, training ends; in the tick of a hardware fence it adds
nothing. -/
def State.commandFence (s : State) (d : Nat) : State :=
  if s.hardFence d then s
  else
    let s := s.logWrite (A.d2dCtrl d) 0 (maskOf 3 3)
    let s := s.putField (A.d2dCtrl d) 3 3 1
    match (s.linkAt d).st with
    | .up => s.fenceDie d 4
    | .training => s.setLink d { s.linkAt d with st := .fenced, afterFence := true, since := s.clk }
    | _ => s

/-- D2D_FENCE (R217). -/
def execD2dFence (d : Nat) (s : State) : Host.Outcome State Fault Refusal := onUnit (d < 4) (s.commandFence d)

/-! ### Start-up of the dies (R419) -/

/-- The module enters bivouac (R423), but not before its dies have come up, nor after a commanded power-down. -/
def State.intoBivouac (s : State) : State :=
  if s.svc.stage = .dies ∨ s.svc.stage = .running then { s with svc := { s.svc with stage := .bivouac } }.setBit A.svcEvents 1 else s

/-- The core domains come up (R419 from its DIES row): dies with memory, an UP link and a passed self-test. A module that R364 or R365
holds is in bivouac instead. -/
def State.diesUp (s : State) : State :=
  if s.self.tripped || s.self.hotBivouac then { s with svc := { s.svc with stage := .dies } }.intoBivouac
  else
    let s := (List.range 4).foldl (fun s d =>
      if s.memDom d && s.linkUp d && !s.svc.dieFail.getLsbD d && !s.coreDom d then s.coreUp d else s) s
    { s with svc := { s.svc with stage := .dies, selfDone := 0 } }.testsDone

/-- A die's link is UP with its stacks trained and written, or it will not come UP. -/
def State.dieReady (s : State) (d : Nat) : Bool :=
  let st := (s.linkAt d).st
  decide (st = .offline ∨ st = .fenced) || (decide (st = .up) && (List.range 8).all fun i => (s.stackAt d i).trained)

/-- The stage HUB ends once every die is ready or known not to come up (R419). -/
def State.stageOn (s : State) : State := if s.svc.stage = .hub ∧ (List.range 4).all s.dieReady then s.diesUp else s

/-- MEMORY_INIT_COMPLETE (R197, R419): a stack is trained and written. -/
def execMemoryInitComplete (d i : Nat) (s : State) : Host.Outcome State Fault Refusal :=
  onUnit (d < 4 ∧ i < 8) (if s.memDom d then (s.initStack d i).stageOn else s)

/-! ### Training (R211, R212) -/

/-- Both ends of the link have power. -/
def State.linkPowered (s : State) (d : Nat) : Bool := s.memDom d && s.dom.hub

/-- Training starts (R211): a rejoin that was under way is to be commanded again (R218). -/
def State.startTraining (s : State) (d : Nat) : State :=
  s.setLink d { s.linkAt d with st := .training, attempts := 1, rejoining := false, since := s.clk }

/-- LINK_TRAIN_START (R211): the memory domain has come up, or the clock has returned, OFFLINE or not; a commanded fence waits for
RETRAIN (R219). -/
def execLinkTrainStart (d : Nat) (s : State) : Host.Outcome State Fault Refusal :=
  onUnit (d < 4)
    (let st := (s.linkAt d).st
     if s.linkPowered d ∧ (st = .down ∨ st = .offline ∨ (st = .fenced ∧ s.field (A.d2dCtrl d) 3 3 = 0)) then s.startTraining d else s)

/-- A write of D2D.CTRL.RETRAIN (R211): an UP link is fenced first. -/
def State.commandRetrain (s : State) (d : Nat) : State :=
  let s := if s.linkUp d then s.fenceDie d 4 else s
  if s.linkPowered d then s.startTraining d else s

/-- D2D_RETRAIN (R211). -/
def execD2dRetrain (d : Nat) (s : State) : Host.Outcome State Fault Refusal := onUnit (d < 4) (s.commandRetrain d)

/-- A write of D2D.CTRL.HOLD (R217, R220). -/
def State.commandHold (s : State) (d : Nat) (on : Bool) : State :=
  let s := s.putField (A.d2dCtrl d) 0 0 (b2n on)
  if on && s.linkUp d then s.fenceDie d 4 else s

/-- D2D_HOLD (R217). -/
def execD2dHold (d : Nat) (on : Bool) (s : State) : Host.Outcome State Fault Refusal := onUnit (d < 4) (s.commandHold d on)

/-- Failed wires of a bundle, in ascending order. -/
def failedWires (w : WireFault) : List Nat := (List.range 66).filter fun i => w.failed.getLsbD i

/-- The repair of a bundle (R211): its failed data wires go to RP0, then RP1, in ascending order, past a repair wire that has failed
itself (log 119). -/
def wireRepair (w : WireFault) : RepairEntry :=
  let data := (failedWires w).filter fun i => decide (i < 64)
  if w.failed.getLsbD 64 then { dir := w.dir, bundle := w.bundle, rp0 := none, rp1 := data[0]? }
  else { dir := w.dir, bundle := w.bundle, rp0 := data[0]?, rp1 := data[1]? }

/-- Bundles of a direction with three or more failed wires, which are bad (R211). -/
def badByWires (dir : Bool) (ws : List WireFault) : BitVec 96 :=
  ws.foldl (fun x w => if w.dir == dir && decide (3 ≤ (failedWires w).length) then x ||| BitVec.ofNat 96 (2 ^ w.bundle) else x) 0

/-- The repair map of a training (R211). -/
def repairMap (ws : List WireFault) : List RepairEntry :=
  (ws.filter fun w => decide ((failedWires w).length < 3)).map wireRepair

/-- The agreed sets of an attempt (R211, R212): what the hub's record disables and what an end found bad, by its clock or its wires, is
outside them and enters the record; WIDTH_MISMATCH where the die's map differs from the record. -/
def State.formAgreed (s : State) (d : Nat) (dieFound hubFound : BitVec 96) (ws : List WireFault) : State :=
  let l := s.linkAt d
  let dieGood := dieFound &&& ~~~ badByWires false ws
  let hubGood := hubFound &&& ~~~ badByWires true ws
  let tx := dieGood &&& ~~~ l.badTx
  let rx := hubGood &&& ~~~ l.badRx
  let s := s.setLink d { l with
    enTx := tx, enRx := rx, badTx := ~~~ tx, badRx := ~~~ rx, repair := repairMap ws, parity := [], drops := [] }
  if ~~~ dieGood ≠ l.badTx then (s.setBit (A.d2dEvents d) 4).report
    { sev := 2, index := d, code := 0x4002
      p0 := count96 (~~~ dieGood) * 2 ^ 8 + count96 l.badTx
      p1 := count96 (~~~ hubGood) * 2 ^ 8 + count96 l.badRx }
  else s

/-- TRAIN_ATTEMPT_FAIL (R211, R212): the attempt has formed its agreed sets; after three failed attempts the link is OFFLINE. -/
def execTrainAttemptFail (d : Nat) (dieGood hubGood : BitVec 96) (wires : List WireFault) (s : State) :
    Host.Outcome State Fault Refusal :=
  onUnit (d < 4)
    (if (s.linkAt d).st = .training then
       let s := s.formAgreed d dieGood hubGood wires
       let l := s.linkAt d
       if l.attempts < 3 then s.setLink d { l with attempts := l.attempts + 1 }
       else (((s.setLink d { l with st := .offline }).setBit (A.d2dEvents d) 6).note
         { sev := 3, index := d, code := 0x4004, p0 := l.attempts }).stageOn
     else s)

/-- The end of training (R211, R212). -/
def State.agree (s : State) (d : Nat) (dieGood hubGood : BitVec 96) (ws : List WireFault) : State :=
  let s := s.formAgreed d dieGood hubGood ws
  let l := s.linkAt d
  if count96 l.enTx < 72 ∨ count96 l.enRx < 72 then (s.setLink d { l with st := .offline }).setBit (A.d2dEvents d) 5
  else if s.field (A.d2dCtrl d) 0 0 = 1 then s.setLink d { l with st := .offline }
  else if l.afterFence then s.setLink d { l with st := .ready, since := s.clk }
  else s.linkEnterUp d

/-- LINK_TRAIN_COMPLETE (R211, R212). -/
def execLinkTrainComplete (d : Nat) (dieGood hubGood : BitVec 96) (wires : List WireFault) (s : State) :
    Host.Outcome State Fault Refusal :=
  onUnit (d < 4) (if (s.linkAt d).st = .training then (s.agree d dieGood hubGood wires).stageOn else s)

/-- A write of D2D.CTRL.REJOIN (R218): a READY link's die begins to train its stacks; ignored in any other state. -/
def State.commandRejoin (s : State) (d : Nat) : State :=
  if (s.linkAt d).st = .ready then s.setLink d { s.linkAt d with rejoining := true } else s

/-- D2D_REJOIN (R218). -/
def execD2dRejoin (d : Nat) (s : State) : Host.Outcome State Fault Refusal := onUnit (d < 4) (s.commandRejoin d)

/-- A die's core domain stays down: in bivouac until it ends (R366, R424), and after a failed self-test (R420). -/
def State.coresHeld (s : State) (d : Nat) : Bool :=
  decide (s.svc.stage = .bivouac) || s.svc.dieFail.getLsbD d || !s.linkUp d

/-- LINK_REJOIN_COMPLETE (R218): the stacks are written, the link is UP, the cores are in RESET and the update engine holds the image's
groups. -/
def execLinkRejoinComplete (d : Nat) (s : State) : Host.Outcome State Fault Refusal :=
  onUnit (d < 4)
    (let l := s.linkAt d
     if l.st = .ready ∧ l.rejoining then
       let s := ((List.range 8).foldl (fun s i => s.initStack d i) s).linkEnterUp d
       (if s.coresHeld d then s else s.coreUp d).stageOn
     else s)

/-! ### Parity and drops (R209, R210, R213) -/

/-- Bytes that a granule reads as now. -/
def State.viewGranule (s : State) (o : Nat) : List Byte :=
  if s.mapZero o then zeroGranule else s.granuleBytes (s.place (o / 64 * 64))

/-- A poisoned write marks each granule that it touches (R194, R210). -/
def State.poisonSpan (s : State) (off n : Nat) : State :=
  (MemReq.pieces ⟨0, 0, false, 0, .read, off, n, [], 0, false⟩).foldl (fun s q =>
    let s := s.settle (s.place q.off)
    s.writeGranule (q.off / 64 * 64) (s.viewGranule q.off) true) s

/-- A load or atomic of a core takes the poison value: the register, REMOTE_POISON, and a job fault (R228, R237). -/
def State.remotePoison (s : State) (n : Nat) (r : Remote) : State :=
  let c := s.coreAt n
  let c := { c with rem := c.rem.filter fun (x : Remote) => x.id != r.id }
  let s := s.setCore n (c.setS r.d (if r.wide then BitVec.allOnes 64 else 0xFFFFFFFF))
  let s := s.jobFault n 1 r.part r.tag r.eid r.addr r.addr
  s.takeException n .remotePoison r.pc

/-- A chunk that a copy engine has fetched and not passed on is poison in every granule (R210, R248). -/
def State.poisonChunk (s : State) (d id chunk : Nat) : State :=
  let e : CopyEng := Tab.get CopyEng.init s.copy d
  let hit := fun (x : Desc) => match Tab.find x.got chunk with
    | some (some (bs, _)) => if x.id = id then { x with got := Tab.put x.got chunk (some (bs, 2 ^ (bs.length / 64) - 1)) } else x
    | _ => x
  { s with copy := Tab.put s.copy d { e with descs := e.descs.map hit } }

/-- A packet that waits in the hub takes its poison (R210): for its output, or for its performance, as a reply record, and as what a
retransmission sends. -/
def State.poisonPacket (s : State) (q : Packet) : State :=
  let f := fun (p : Packet) => if p = q then qPoison p else p
  let g := fun (e : Nat) (u : Unacked) => if e = qDest q ∧ u.seq = qSeq q ∧ qType u.q = qType q then { u with q := qPoison u.q } else u
  { s with
    hub := { s.hub with
      inject := s.hub.inject.map fun e => (e.1, f e.2)
      inbound := s.hub.inbound.map f
      dynWait := s.hub.dynWait.map fun (u : Unacked) => { u with q := f u.q } }
    ep := { s.ep with
      src := s.ep.src.map fun (e : Nat × SrcPair) => (e.1, { e.2 with unacked := e.2.unacked.map (g e.1) })
      dst := s.ep.dst.map fun (e : Nat × DstPair) => (e.1, { e.2 with reorder := e.2.reorder.map fun r => (r.1, f r.2) })
      records := s.ep.records.map fun (r : ReplyRec) => { r with reply := f r.reply } } }

/-- One message of a bundle cycle with a parity error (R210): one whose header was hit is discarded. -/
def State.poisonMsg (s : State) (d : Nat) (m : LinkMsg) : State :=
  let s := s.bump (A.d2dErr d) 31 16 1
  match m with
  | .reply n id =>
    match (s.coreAt n).rem.find? fun (r : Remote) => r.id == id with
    | some r => s.remotePoison n r
    | none => s
  | .data c id chunk => s.poisonChunk c id chunk
  | .write off n => s.poisonSpan off n
  | .packet q => s.poisonPacket q
  | .rdma n psn =>
    let x : Qp := Tab.get Qp.init s.eth.qp n
    { s with eth := { s.eth with qp := Tab.put s.eth.qp n { x with hit := psn :: x.hit } } }
  | .header q => { s with hub := { s.hub with
      inbound := s.hub.inbound.erase q
      inject := s.hub.inject.filter fun e => e.2 != q
      dynWait := s.hub.dynWait.filter fun (u : Unacked) => u.q != q } }

/-- Where a message stands among those that one cycle hits: a core's loads and atomics in program order (R126). -/
def msgRank : LinkMsg → Nat
  | .reply _ id => id
  | _ => 0

/-- Put a message into a list by rank. -/
def insertMsg (m : LinkMsg) : List LinkMsg → List LinkMsg
  | [] => [m]
  | x :: l => if msgRank m ≤ msgRank x then m :: x :: l else x :: insertMsg m l

/-- The repair wires of a bundle that data wires use. -/
def Link.repairOf (l : Link) (dir : Bool) (b : Nat) : Option Nat × Option Nat :=
  match l.repair.find? fun (r : RepairEntry) => r.dir == dir && r.bundle == b with
  | some r => (r.rp0, r.rp1)
  | none => (none, none)

/-- An odd number of the wires in a range are wrong. -/
def oddWrong (wrong : BitVec 66) (lo n : Nat) : Bool := (List.range n).foldl (fun x i => x ^^ wrong.getLsbD (lo + i)) false

/-- The receiver sees a parity error (R209): no clock edge, or an odd number of wrong wires among the data wires that a free repair wire
covers and that wire itself. -/
def Link.detects (l : Link) (dir : Bool) (b : Nat) (wrong : BitVec 66) (edge : Bool) : Bool :=
  let rp0 := oddWrong wrong 64 1
  let rp1 := oddWrong wrong 65 1
  !edge || match l.repairOf dir b with
    | (none, none) => (oddWrong wrong 0 32 ^^ rp0) || (oddWrong wrong 32 32 ^^ rp1)
    | (some _, some _) => false
    | (none, some _) => oddWrong wrong 0 64 ^^ rp0
    | (some _, none) => oddWrong wrong 0 64 ^^ rp1

/-- The first slot boundary at least so many ticks away, as a slot number (R213, R298). -/
def State.slotAfter (s : State) (ticks : Nat) : Nat := (s.now.toNat + ticks + 127) / 128

/-- The width record with a bundle added. -/
def Link.withBad (l : Link) (dir : Bool) (b : Nat) : Link :=
  let one : BitVec 96 := BitVec.ofNat 96 (2 ^ b)
  if dir then { l with badRx := l.badRx ||| one } else { l with badTx := l.badTx ||| one }

/-- Enabled bundles of a direction that the record does not disable. -/
def Link.good (l : Link) (dir : Bool) : BitVec 96 := if dir then l.enRx &&& ~~~ l.badRx else l.enTx &&& ~~~ l.badTx

/-- A drop in the tick of a fence is recorded and not sent (R219). Where it leaves fewer than 72 bundles it is a hardware cause of the
fence, beside which a FENCE write adds nothing. -/
def State.dropFenced (s : State) (d : Nat) (dir : Bool) (b : Nat) : State :=
  let l := s.linkAt d
  let s := s.setLink d (l.withBad dir b)
  if (l.good dir).getLsbD b ∧ count96 ((s.linkAt d).good dir) < 72 then
    ((s.setBit (A.d2dEvents d) 5).putField (A.d2dCtrl d) 3 3 0).amendFence d 3
  else s

/-- The hub drops a bundle of an UP link (R213): the record, the drop message with its switch slot, and a fence where fewer than 72
bundles are left. -/
def State.dropBundle (s : State) (d : Nat) (dir : Bool) (b : Nat) : State :=
  let l := s.linkAt d
  if s.justFenced d then s.dropFenced d dir b
  else if l.st ≠ .up ∨ (l.good dir).getLsbD b = false then s
  else if s.fencePending d .clock ∨ s.fencePending d .reset then s.setLink d (l.withBad dir b)
  else
    let s := s.setLink d { l.withBad dir b with drops := l.drops ++ [(dir, b, s.slotAfter 512)] }
    let s := (s.bump (A.d2dErr d) 15 0 1).setBit (A.d2dEvents d) 3
    let s := s.note { sev := 2, index := d, code := 0x4003, p0 := b2n dir * 128 + b }
    if count96 ((s.linkAt d).good dir) < 72 then (s.setBit (A.d2dEvents d) 5).fenceDie d 3 else s

/-- PARITY_ERROR (R209, R210, R213): a beat of a bundle of the agreed set with wrong data wires, or with no clock edge; errors that reach
D2D.CFG.PARITY_THRESH within 1 ms drop the bundle. -/
def execParityError (d : Nat) (dir : Bool) (b : Nat) (wrong : BitVec 66) (edge : Bool) (hits : List LinkMsg) (s : State) :
    Host.Outcome State Fault Refusal :=
  onUnit (d < 4 ∧ b < 96)
    (let l := s.linkAt d
     if l.st ≠ .up ∨ (if dir then l.enRx else l.enTx).getLsbD b = false ∨ l.detects dir b wrong edge = false then s
     else
       let key := b2n dir * 96 + b
       let times := s.clk :: (Tab.get [] l.parity key).filter fun t => decide (s.clk < t + 2000000)
       let s := s.setLink d { l with parity := Tab.put l.parity key times }
       let s := (s.bump (A.d2dErr d) 63 32 1).setBit (A.d2dEvents d) 2
       let s := (hits.foldr insertMsg []).foldl (fun s m => s.poisonMsg d m) s
       let th := s.field (A.d2dCfg d) 15 0
       if th ≠ 0 ∧ th ≤ times.length then s.dropBundle d dir b else s)

/-- BUNDLE_DROP (R213): a bundle's clock shows no edge for 32 ns, or the die end reports a fault of a hub-to-die bundle. -/
def execBundleDrop (d : Nat) (dir : Bool) (b : Nat) (s : State) : Host.Outcome State Fault Refusal :=
  onUnit (d < 4 ∧ b < 96) (s.dropBundle d dir b)

/-- BUNDLE_RESTRIPE (R213): from the switch slot both ends stripe without the bundle. -/
def execBundleRestripe (d : Nat) (dir : Bool) (b : Nat) (s : State) : Host.Outcome State Fault Refusal :=
  onUnit (d < 4 ∧ b < 96)
    (let l := s.linkAt d
     let one : BitVec 96 := BitVec.ofNat 96 (2 ^ b)
     if l.st = .up ∧ l.drops.any fun x => x.1 == dir && x.2.1 == b && decide (x.2.2 ≤ s.slot) then
       s.setLink d { l with
         enTx := if dir then l.enTx else l.enTx &&& ~~~ one
         enRx := if dir then l.enRx &&& ~~~ one else l.enRx
         drops := l.drops.filter fun x => !(x.1 == dir && x.2.1 == b) }
     else s)

end Sys2Proof.Machine
end

