-- ==== Sys2Proof/Machine/Route.lean ====
section
/-! DEFINITION. What the router decides (R253, R259, R262 to R272, R276, R279): lanes, room, productive ports, the schedule in force,
budgets, and sending a frame on a port. -/
namespace Sys2Proof.Machine

/-! ### Ports -/

/-- The default position of a port (R287). -/
def defaultPos (p : Nat) : Nat := if p < 31 then p else if p < 62 then p + 1 else p + 2

/-- The position that serves a port, and whether adoption set it. -/
def State.pmapAt (s : State) (p : Nat) : Nat × Bool := Tab.get (defaultPos p, false) s.opt.pmap p
/-- The position that serves a port. -/
def State.posServing (s : State) (p : Nat) : Nat := (s.pmapAt p).1

/-- Lanes of a port at full width (R253). -/
def fullLanes (p : Nat) : Nat := if p < 31 then 8 else 4

/-- Lanes in a set. -/
def laneCount (m : BitVec 8) : Nat := popcount m.toNat 8

/-- Bytes of a belay buffer (R262). -/
def belayLimit (p : Nat) : Nat := if p < 31 then 0x10000 else 0x100000

/-- Bytes held in a port's belay buffer. -/
def Port.belayBytes (x : Port) : Nat := x.belay.foldl (fun k b => k + 32 * b.flits) 0

/-- The belay buffer has no room for so many flits. -/
def Port.belayFull (x : Port) (p flits : Nat) : Bool := decide (belayLimit p < x.belayBytes + 32 * flits)

/-- The lane that frees first among those free now, the lowest on a tie (R259). -/
def State.freeLane (s : State) (p : Nat) : Option Nat :=
  let x := s.portAt p
  (List.range 8).foldl (fun b l =>
    let t := Tab.get 0 x.laneFree l
    if x.txLanes.getLsbD l && decide (t ≤ 25 * s.clk) then
      match b with
      | some m => if t < Tab.get 0 x.laneFree m then some l else b
      | none => some l
    else b) none

/-- The lane takes a frame of so many flits once it is free: 25 flits in a slot of 128 ticks (R259). -/
def State.useLane (s : State) (p l flits : Nat) : State :=
  let x := s.portAt p
  s.setPort p { x with
    laneFree := Tab.put x.laneFree l (max (Tab.get 0 x.laneFree l) (25 * s.clk) + 128 * flits)
    lastSent := Tab.put x.lastSent l s.clk }

/-- Flits sent in free capacity (R284). -/
def State.countDyn (s : State) (p n : Nat) : State :=
  let x := s.portAt p
  s.setPort p { x with tel := { x.tel with dyn := x.tel.dyn + n } }

/-- The lowest-numbered working lane of a port's transmit direction (R32, R259). -/
def State.lowLane (s : State) (p : Nat) : Option Nat := (List.range 8).find? fun l => (s.portAt p).txLanes.getLsbD l

/-- FACK: the last FSEQ received in order. -/
def Port.fack (x : Port) : Nat := (x.rxSeq + 0xFFFF) % 2 ^ 16

/-- Send a CONTROL frame on a lane of a position that a port uses (R259). -/
def State.sendControl (s : State) (p q l ctype : Nat) (b : Words4) : State :=
  (if p < numPorts then (s.useLane p l 2).countDyn p 2 else s).emit (.control p q l (ctlFrameOf ctype (s.portAt p).fack b))

/-- Capacity counted up to the running slot (R284). -/
def State.accrue (s : State) (p : Nat) : State :=
  let x := s.portAt p
  let t := x.tel
  s.setPort p { x with tel := { t with cap := t.cap + 25 * laneCount x.txLanes * (s.slot - t.capSlot), capSlot := s.slot } }

/-- Change the working lanes of a port. -/
def State.setLanes (s : State) (p : Nat) (tx rx : BitVec 8) : State :=
  let s := s.accrue p
  let x := s.portAt p
  s.setPort p { x with txLanes := tx, rxLanes := rx, tel := { x.tel with lanesMin := min x.tel.lanesMin (laneCount tx) } }

/-! ### Productive ports (R269, R279) -/

/-- The ports that lead to the destination's coordinates, preferred first; for an external endpoint the port that reaches it. -/
def State.basePorts (s : State) (dest : Nat) : List Nat :=
  match s.externalPort dest, s.ownPos, s.posOfEid dest with
  | some p, _, _ => [p]
  | none, some o, some t =>
    (List.range 3).filterMap fun d => if coord o d = coord t d then none else some (portTo d (coord o d) (coord t d))
  | _, _, _ => []

/-- The preferred output (R269). -/
def State.preferred (s : State) (dest : Nat) : Option Nat := (s.basePorts dest).head?

/-- The alternates of a port (R279, R285). -/
def State.alternates (s : State) (p : Nat) : List Nat :=
  (List.range 4).filterMap fun i =>
    if s.field (A.detour p) (16 * i + 15) (16 * i + 15) = 1 then some (s.field (A.detour p) (16 * i + 6) (16 * i)) else none

/-- The detour entry of a port applies (R278, R279, R281): until DETOUR_RELEASE, and while a port that was not LOST is not UP. -/
def State.detoured (s : State) (p : Nat) : Bool :=
  let x := s.portAt p
  x.detour || (!s.portUp p && decide (x.st ≠ .lost) && !(s.alternates p).isEmpty)

/-- The productive ports of a frame, in order, each with whether it is an alternate. -/
def State.productive (s : State) (dest : Nat) : List (Nat × Bool) :=
  (s.basePorts dest).flatMap fun p =>
    (if s.portUp p || !s.detoured p then [(p, false)] else []) ++ (if s.detoured p then (s.alternates p).map fun a => (a, true) else [])

/-- The far module of a port is allowed for a frame (R254, R276); an external endpoint takes only what is addressed to it. -/
def State.farAllowed (s : State) (p : Nat) (q : Packet) : Bool :=
  match s.externalAt p, s.farPos p with
  | some e, _ => e == qDest q
  | none, some x => (s.eidAt x).isSome && s.allowedAt (qTag q) x
  | none, none => false

/-- A port is eligible for a frame (R269). -/
def State.eligible (s : State) (p : Nat) (q : Packet) : Bool :=
  s.portUp p && !(s.portAt p).belayFull p (qFlits q) && s.farAllowed p q

/-! ### The schedule (R263 to R266) -/

/-- The stream and its flits in a slot index, from entries in order; a port without entries has every slot free. -/
def slotEntry : List W32 → Nat → Nat × Nat
  | [], _ => (0, 0)
  | e :: es, i =>
    let run := fieldOf e.toNat 11 0 + 1
    if i < run then (fieldOf e.toNat 31 20, fieldOf e.toNat 19 12) else slotEntry es (i - run)

/-- Stream and flits that a port's table names for a slot. -/
def State.slotOf (s : State) (p slot : Nat) : Nat × Nat :=
  slotEntry (Tab.get [] s.hub.sched (93 * s.hub.bank + p)) (slot % 2 ^ s.hub.log2P)

/-- Scheduled traffic may be injected and forwarded (R38, R265). -/
def State.schedOk (s : State) : Bool :=
  !s.time.schedStopped && (s.time.st == .locked || s.time.st == .holdover)

/-- A scheduled frame is demoted for an output (R265). -/
def State.countDemoted (s : State) (p : Nat) : State :=
  let s := (s.setBit A.hubEvents 2).bump (A.pcnt p) 15 0 1
  let x := s.portAt p
  s.setPort p { x with tel := { x.tel with demoted := x.tel.demoted + 1 } }

/-- A packet with SCHED cleared (R258, R265). -/
def qDemote (q : Packet) : Packet := qPut1 q 20 20 0

/-- The first slot of the stream that begins at or after now, if within 128 ns (R265). -/
def State.stageSlot (s : State) (p stream : Nat) : Option Nat :=
  let first := ceilDiv s.now.toNat 128
  let n := (s.now.toNat + 256) / 128 + 1 - first
  ((List.range n).map fun i => first + i).find? fun k => (s.slotOf p k).1 == stream

/-- The last slot that begins within 128 ns from now. -/
def State.stageLast (s : State) : Nat := (s.now.toNat + 256) / 128

/-- Flits in a stage. -/
def Port.staged (x : Port) : Nat := x.stage.foldl (fun k e => k + qFlits e.q) 0

/-! ### Capacity and allocation (R263, R267, R270 to R272) -/

/-- What the running slot's stream has sent on a port. -/
def State.slotUsed (s : State) (p : Nat) : Nat := let x := s.portAt p; if x.slotNum = s.slot then x.slotSent else 0

/-- A frame of a stream waits here for a port: in its stage, among frames sent again, or among requests not sent yet. -/
def State.streamWaits (s : State) (p st : Nat) : Bool :=
  let mine := fun (q : Packet) => qSched q && qStream q == st
  (s.portAt p).stage.any (fun e => mine e.q)
    || s.hub.inject.any (fun e => mine e.2 && s.preferred (qDest e.2) == some p)
    || s.hub.dynWait.any fun (u : Unacked) => mine u.q && s.preferred (qDest u.q) == some p

/-- Flits that the working lanes of a port can begin and end between two times of the lanes' clock. -/
def laneRoom (lanes : BitVec 8) (free : Tab Nat) (lo hi : Nat) : Nat :=
  ((List.range 8).map fun l => if lanes.getLsbD l then (hi - max lo (Tab.get 0 free l)) / 128 else 0).sum

/-- A dynamic frame leaves room for the reserved flits (R263): in the running slot for what its stream may still send, where a frame of
the stream waits, and in the next slot for the whole reservation; where the lanes have less room than that, it takes none of it. -/
def State.dynFits (s : State) (p l : Nat) (q : Packet) : Bool :=
  let x := s.portAt p
  let t := 25 * s.clk
  let slotEnd := t + 25 * (128 - s.now.toNat % 128)
  let free := Tab.put x.laneFree l (max (Tab.get 0 x.laneFree l) t + 128 * qFlits q)
  let (st, n) := s.slotOf p s.slot
  let (next, m) := s.slotOf p (s.slot + 1)
  let leaves := fun (n lo hi : Nat) => decide (min n (laneRoom x.txLanes x.laneFree lo hi) ≤ laneRoom x.txLanes free lo hi)
  (st == 0 || !s.streamWaits p st || leaves (n - s.slotUsed p) t slotEnd)
    && (next == 0 || !s.schedOk || leaves m slotEnd (slotEnd + 3200))

/-- Working lanes of a port that are free now. -/
def State.freeLanes (s : State) (p : Nat) : Nat :=
  let x := s.portAt p
  ((List.range 8).filter fun l => x.txLanes.getLsbD l && decide (Tab.get 0 x.laneFree l ≤ 25 * s.clk)).length

/-- A port is eligible for a frame and free: more of its lanes are free than older frames have claimed, and a dynamic frame leaves the
reservation its room. -/
def State.takesBut (s : State) (claimed : List Nat) (p : Nat) (q : Packet) : Bool :=
  s.eligible p q && decide (claimed.count p < s.freeLanes p) && (qSched q || match s.freeLane p with
    | some l => s.dynFits p l q
    | none => false)

/-- A port is eligible for a frame and free. -/
def State.takes (s : State) (p : Nat) (q : Packet) : Bool := s.takesBut [] p q

/-- The ports in the order in which a traverse looks (R272). -/
def State.traverseOrder (s : State) (q : Packet) : List Nat :=
  let ring := (List.range numPorts).map fun i => (s.slot + i) % numPorts
  let differs := fun (p : Nat) => match s.ownPos, s.posOfEid (qDest q) with
    | some o, some t => decide (coord o (portDim p) ≠ coord t (portDim p))
    | _, _ => false
  let ring := ring.filter fun p => !((s.productive (qDest q)).any fun e => e.1 == p)
  ring.filter differs ++ ring.filter fun p => !differs p

/-- How a frame leaves: its port, and whether as an alternate or as a traverse. -/
structure Leave where
  port : Nat
  alt : Bool
  trav : Bool
  deriving DecidableEq, Repr

/-- The allocation of one frame (R270, R272) past what older frames have claimed: the first eligible, free productive port, else a
traverse. -/
def State.allocate (s : State) (claimed : List Nat) (q : Packet) : Option Leave :=
  match (s.productive (qDest q)).find? fun e => s.takesBut claimed e.1 q with
  | some (p, alt) => some ⟨p, alt, false⟩
  | none => ((s.traverseOrder q).find? fun p => s.takesBut claimed p q).map fun p => ⟨p, false, true⟩

/-- A frame that contends for the outputs in this tick: its requester index and packet (R270). -/
abbrev Contender := Nat × Packet

/-- One contender is served before another (R18, R41, R270): by the signed difference of their timestamps, then by the rotating pointer. -/
def State.olderFrame (s : State) (x y : Contender) : Bool :=
  let ahead := age48 (qTs y.2) (qTs x.2)
  decide (0 < ahead) || (ahead == 0 && decide (rotIndex x.1 s.slot 100 < rotIndex y.1 s.slot 100))

/-- The first frame of each injection requester, as it would leave now; belay re-injections keep their timestamp (R40). -/
def State.injectHeads (s : State) : List Contender :=
  (List.range 7).filterMap fun k => (s.hub.inject.find? fun e => e.1 == 93 + k).map fun e =>
    (e.1, if e.1 = 99 then e.2 else s.stamp e.2)

/-- Put a contender into a list in the order of service. -/
def State.insertFrame (s : State) (x : Contender) : List Contender → List Contender
  | [] => [x]
  | y :: l => if s.olderFrame x y then x :: y :: l else y :: s.insertFrame x l

/-- The ports that the contenders served before a frame take (R270). -/
def State.claimedBy (s : State) (x : Contender) (others : List Contender) : List Nat :=
  let older := (others.filter fun y => s.olderFrame y x).foldr s.insertFrame []
  older.foldl (fun claimed y => match s.allocate claimed y.2 with
    | some v => v.port :: claimed
    | none => claimed) []

/-- Free eligible outputs for a frame (R271). -/
def State.freeOutputs (s : State) (q : Packet) : Nat := ((List.range numPorts).filter fun p => s.takes p q).length

/-- Productive ports that refuse a frame before it is placed count the slot as busy (R284). -/
def State.countBusy (s : State) (claimed : List Nat) (q : Packet) : State :=
  ((s.productive (qDest q)).takeWhile fun e => !s.takesBut claimed e.1 q).foldl (fun s e =>
    let x := s.portAt e.1
    if s.portUp e.1 && decide (x.tel.busySlot ≠ some s.slot) then
      s.setPort e.1 { x with tel := { x.tel with busy := x.tel.busy + 1, busySlot := some s.slot } }
    else s) s

/-! ### Sending (R259, R262, R272, R284) -/

/-- A DATA frame leaves on a port: belay buffer, sequence, lane and counts. -/
def State.sendData (s : State) (v : Leave) (q : Packet) (transit : Bool) : State :=
  match s.freeLane v.port with
  | none => s
  | some l =>
    let p := v.port
    let q := if v.alt then qPut1 q 19 19 1 else q
    let q := if v.trav then { q with w0 := setFld q.w0 5 0 (min 63 (qTrav q + 1)) } else q
    let n := qFlits q
    let s := s.useLane p l n
    let x := s.portAt p
    let f := frameOf 1 x.txSeq x.fack q
    let belay := x.belay ++ [⟨x.txSeq, q, n⟩]
    let t := x.tel
    let t := if qSched q then { t with sched := t.sched + n } else { t with dyn := t.dyn + n }
    let t := { t with fwd := t.fwd + b2n transit, trav := t.trav + b2n v.trav }
    let x := { x with txSeq := (x.txSeq + 1) % 2 ^ 16, belay := belay }
    let x := { x with tel := { t with belayPeak := max t.belayPeak (ceilDiv x.belayBytes 1024) } }
    let s := s.setPort p x
    let s := if v.trav then s.bump (A.pcnt p) 63 48 1 else s
    s.emit (.frame p l f)

/-- A discarded frame that came by a port counts for it (R284). -/
def State.countDrop (s : State) (from_ : Option Nat) : State :=
  match from_ with
  | some p =>
    let x := s.portAt p
    s.setPort p { x with tel := { x.tel with drops := x.tel.drops + 1 } }
  | none => s

/-- A frame without any eligible, free port (R272). -/
def State.noRoute (s : State) (from_ : Option Nat) : State :=
  ((s.bump A.drops 47 32 1).setBit A.hubEvents 4).countDrop from_

/-- A frame past its lifetime (R274). -/
def State.lifetime (s : State) (from_ : Option Nat) : State :=
  ((s.bump A.drops 63 48 1).setBit A.hubEvents 3).countDrop from_

/-! ### Budgets (R267) -/

/-- The budget that a packet is charged to: 16 for tag 0. -/
def budgetOf (tag part : Nat) : Nat := if tag = 0 then 16 else part

/-- The budget field of a partition in a dimension; `none`: no limit. -/
def State.budgetField (s : State) (k d : Nat) : Option Nat :=
  let v := s.field (A.budget k) (20 * d + 19) (20 * d)
  if v = 0xFFFFF then none else some (1024 * v)

/-- Flits that a request is charged: a READ_REQ those of the READ_DATA it will cause (R268). -/
def chargedFlits (q : Packet) : Nat := if qType q = 0x23 then flitsOf (32 + qLen q) else qFlits q

/-- The dimension of a packet's first hop; `none` where it leaves by no port. -/
def State.firstDim (s : State) (dest : Nat) : Option Nat := (s.preferred dest).map portDim

/-- What is left of a budget in the running pitch; `none`: no limit, as the field stood at the pitch boundary (R267, R334). -/
def State.budgetLeft (s : State) (k d : Nat) : Option Nat := Tab.get (some 0) s.hub.budget (3 * k + d)

/-- A request may be admitted against its budget. -/
def State.affordable (s : State) (q : Packet) (k : Nat) : Bool :=
  match s.firstDim (qDest q) with
  | none => true
  | some d => (s.budgetLeft k d).all fun left => decide (chargedFlits q ≤ left)

/-- Admission subtracts a request's flits. -/
def State.chargeBudget (s : State) (q : Packet) (k : Nat) : State :=
  match s.firstDim (qDest q) with
  | none => s
  | some d =>
    { s with hub := { s.hub with budget := Tab.put s.hub.budget (3 * k + d) ((s.budgetLeft k d).map (· - chargedFlits q)) } }

end Sys2Proof.Machine
end

