-- ==== Sys2Proof/Machine/Endpoint.lean ====
section
/-! DEFINITION. The endpoint (R223 to R234, R242, R244, R248, R257, R273): pairs and their sequences, sending, what a target does with a
request, and what a source does with an answer. -/
namespace Sys2Proof.Machine

/-! ### Pairs -/

/-- The source side of the pair to an endpoint. -/
def State.srcAt (s : State) (e : Nat) : SrcPair := Tab.get SrcPair.init s.ep.src e
/-- Store the source side of a pair. -/
def State.setSrc (s : State) (e : Nat) (x : SrcPair) : State := { s with ep := { s.ep with src := Tab.put s.ep.src e x } }
/-- The destination side of the pair from an endpoint. -/
def State.dstAt (s : State) (e : Nat) : DstPair := Tab.get DstPair.init s.ep.dst e
/-- Store the destination side of a pair. -/
def State.setDst (s : State) (e : Nat) (x : DstPair) : State := { s with ep := { s.ep with dst := Tab.put s.ep.dst e x } }

/-- The packet is addressed to this module. -/
def State.isOwn (s : State) (q : Packet) : Bool := s.topo.ownEid != 0xFFFF && qDest q == s.topo.ownEid

/-! ### Sending -/

/-- The sequence from which on nothing may be acknowledged to an endpoint yet (R257): that of the oldest refusal to it that has not been
sent, else the next expected one. -/
def State.ackLimit (s : State) (q : Packet) : Option Nat :=
  match (s.dstAt (qDest q)).expected with
  | none => none
  | some v => some (match s.hub.inject.find? fun e => qType e.2 == 0x31 && qArg e.2 != 7 && qDest e.2 == qDest q && e.2 != q with
    | some e => qSeq e.2
    | none => v)

/-- A packet with the acknowledgement of its pair (R231, R257) and its timestamp; a RESYNC refusal acknowledges nothing (R230). -/
def State.dress (s : State) (q : Packet) : Packet :=
  s.stamp (match (if qType q = 0x31 ∧ qArg q = 7 then none else s.ackLimit q) with
    | some v => qPut1 (qPut1 q 39 24 (v + 0xFFFFFF)) 23 23 1
    | none => qPut1 (qPut1 q 39 24 0) 23 23 0)

/-- The request leaves its source hub: its times of sending (R232), as those of its answer, start now. -/
def State.sentNow (s : State) (q : Packet) : State :=
  let x := s.srcAt (qDest q)
  let sent := fun (u : Unacked) => if u.seq = qSeq q ∧ !u.lost then
    { u with lastAt := s.clk, firstAt := if u.tries = 0 then s.clk else u.firstAt } else u
  let first := !qRetry q
  let due := fun (a : Nat × Owner × Nat × Nat) => if a.1 = qSeq q ∧ first then (a.1, a.2.1, s.clk, a.2.2.2) else a
  if isRequest (qType q) then s.setSrc (qDest q) { x with unacked := x.unacked.map sent, answers := x.answers.map due } else s

/-- A packet of the endpoint as its hub first sends it (R40, R257): the acknowledgement of its pair and the timestamp; one of the
management domain takes the timestamp alone, a belay re-injection stays as it is. -/
def State.leaving (s : State) (index : Nat) (q : Packet) : State × Packet :=
  if index = 99 then (s, q)
  else if index = 98 then (s, s.stamp q)
  else
    let q := s.dress q
    let s := if qAckValid q then s.setDst (qDest q) { s.dstAt (qDest q) with ackDue := none } else s
    (s.sentNow q, q)

/-- A packet goes to the router through a requester, or, to this module, to its own inbound buffer; a request that its die reaches itself
takes the direct path (R183). -/
def State.forward (s : State) (index : Nat) (q : Packet) : State :=
  if s.isOwn q then
    let (s, q) := s.leaving index q
    if s.isDirect (index - 93) q then
      { s with ep := { s.ep with direct := Tab.put s.ep.direct (index - 93) (Tab.get [] s.ep.direct (index - 93) ++ [q]) } }
    else { s with hub := { s.hub with inbound := s.hub.inbound ++ [q] } }
  else { s with hub := { s.hub with inject := s.hub.inject ++ [(index, q)] } }

/-- Send a packet of the reply class (R268, R271). -/
def State.answer (s : State) (q : Packet) : State := s.forward 97 q

/-- A request finds room in the inbound buffer of 4 MiB, which the reply class does not use (R273), with so many bytes of others. -/
def State.inboundRoom (s : State) (q : Packet) (others : Nat) : Bool :=
  decide ((s.hub.inbound.filter fun x => !isReplyClass (qType x)).foldl (fun k x => k + 32 + x.payload.length) 0
    + others + 32 + q.payload.length ≤ 0x400000)

/-- A pair may send a request (R229): no SYNC waits for its acknowledgement, and fewer than 256 packets do. -/
def State.pairOpen (s : State) (e : Nat) : Bool :=
  let l := (s.srcAt e).unacked.filter fun (u : Unacked) => !u.lost
  !(l.any fun u => qSync u.q) && decide (l.length < 256)

/-- The first sending of a request (R229): it takes the next sequence of its pair. -/
def State.launch (s : State) (u : Unacked) (demote : Bool) : State × Packet :=
  let e := qDest u.q
  let x := s.srcAt e
  let q := qPut1 (qPut1 u.q 63 40 x.next) 22 22 (b2n x.needSync)
  let q := if demote then qDemote q else q
  let v : Unacked := { u with seq := x.next, q := q, firstAt := s.clk, lastAt := s.clk }
  let awaits := hasReply (qType q) || qType q == 0x23
  (s.setSrc e { x with
    next := (x.next + 1) % 2 ^ 24
    needSync := false
    unacked := x.unacked ++ [v]
    answers := if awaits then Tab.put x.answers x.next (u.own, s.clk, qAddr u.q) else x.answers }, q)

/-- A waiting scheduled request is sent demoted, because its preferred output is not UP or its stream has not resumed (R265, R281,
R282). -/
def State.mustDemote (s : State) (q : Packet) : Bool :=
  match s.preferred (qDest q) with
  | some p => !s.portUp p || s.detoured p
  | none => true

/-- What keeps the requests that wait to be sent, as far as they have been looked through: those kept, and the budgets on which one
waits (R267). -/
structure Pump where
  kept : List Unacked
  poor : List Nat

/-- Look at one waiting request (R207, R229, R264, R267): it goes when it has crossed its die's link, its pair is open, none of its pair
waits before it, and its budget allows it. -/
def State.pumpOne (x : State × Pump) (u : Unacked) : State × Pump :=
  let (s, p) := x
  let e := qDest u.q
  let keep : State × Pump := (s, { p with kept := p.kept ++ [u] })
  if qType u.q = 0x24 then
    (if p.poor.contains 16 || !s.affordable u.q 16 then (s, ⟨p.kept ++ [u], 16 :: p.poor⟩)
     else
       let s := s.chargeBudget u.q 16
       ({ s with hub := { s.hub with inject := s.hub.inject ++ [(98, u.q)] } }, p))
  else
  if (p.kept.any fun w => qDest w.q == e) || !s.pairOpen e || !s.crosses p.kept u then keep
  else if s.isOwn u.q then
    if !(s.isDirect u.die u.q || s.inboundRoom u.q 0) then keep else
    let (s, q) := s.launch u true
    (s.forward (93 + u.die) q, p)
  else if qSched u.q then
    if s.mustDemote u.q then
      let s := match s.preferred e with
        | some port => s.countDemoted port
        | none => s
      let (s, q) := s.launch u true
      (s.forward (93 + u.die) q, p)
    else keep
  else
    let k := budgetOf (qTag u.q) u.part
    if p.poor.contains k || !s.affordable u.q k then (s, ⟨p.kept ++ [u], k :: p.poor⟩)
    else
      let (s, q) := (s.chargeBudget u.q k).launch u false
      (s.forward (93 + u.die) q, p)

/-- Send every waiting request that may go. -/
def State.pump (s : State) : State :=
  let (t, p) := s.hub.dynWait.foldl State.pumpOne ({ s with hub := { s.hub with dynWait := [] } }, ⟨[], []⟩)
  { t with hub := { t.hub with dynWait := p.kept } }

/-- A packet of a routing's remote copy (R148): its descriptor has no counter. -/
def State.routedCopy (s : State) (own : Owner) : Bool :=
  match own with
  | .copy d id _ => (Tab.get CopyEng.init s.copy d).descs.any fun (x : Desc) => x.id == id && x.cnt.isNone
  | _ => false

/-- A request enters the endpoint: it takes the next entry number. -/
def State.enqueue (s : State) (q : Packet) (part core : Nat) (own : Owner) : State :=
  let u : Unacked :=
    { no := s.ep.count, seq := 0, q := q, part := part, core := core, die := dieOf core, own := own, firstAt := s.clk,
      lastAt := s.clk, tries := 0, lost := false, routed := s.routedCopy own }
  let s := { s with ep := { s.ep with count := s.ep.count + 1 } }
  { s with hub := { s.hub with dynWait := s.hub.dynWait ++ [u] } }.pump

/-- DYNAMIC_ADMIT (R267): the first request that waits on a budget and may now go, with what it held back. -/
def execDynamicAdmit (k : Nat) (s : State) : Host.Outcome State Fault Refusal :=
  onUnit (k < 17)
    (if s.hub.dynWait.any fun (u : Unacked) => budgetOf (qTag u.q) u.part == k && s.affordable u.q k then s.pump else s)

/-! ### Owners of requests -/

/-- A copy engine's state. -/
def State.copyAt (s : State) (d : Nat) : CopyEng := Tab.get CopyEng.init s.copy d
/-- Store a copy engine's state. -/
def State.setCopy (s : State) (d : Nat) (x : CopyEng) : State := { s with copy := Tab.put s.copy d x }
/-- Change a descriptor. -/
def State.onDesc (s : State) (d id : Nat) (f : Desc → Desc) : State :=
  s.setCopy d { s.copyAt d with descs := (s.copyAt d).descs.map fun (x : Desc) => if x.id = id then f x else x }

/-- LC of a descriptor (R240). -/
def descLc (w : List W64) : Bool := bit (w.getD 0 0) 57
/-- OP of a descriptor (R240). -/
def descOp (w : List W64) : Nat := fld (w.getD 0 0) 63 58
/-- The descriptor fetches its bytes from an endpoint (R240). -/
def descFetches (w : List W64) : Bool := decide (descOp w < 4) && fld (w.getD 1 0) 47 46 == 1
/-- Rows of a descriptor. -/
def descRows (w : List W64) : Nat := fld (w.getD 3 0) 63 48 + 1
/-- ROW_BYTES of a descriptor. -/
def descRowBytes (w : List W64) : Nat := fld (w.getD 3 0) 23 0
/-- Chunks of a descriptor: up to 256 bytes of a row (R245), a whole row for RDMA (R243). -/
def descChunks (w : List W64) : Nat := descRows w * (if 4 ≤ descOp w then 1 else ceilDiv (descRowBytes w) 256)

/-- The first failure of a descriptor (R247); a refusal and poison end its signal, a time-out alone does not (R246). -/
def Desc.fail (x : Desc) (status peer addr : Nat) : Desc :=
  let x := { x with spoiled := x.spoiled || decide (3 ≤ status ∧ status ≤ 5) }
  if x.status = 0 then { x with status := status, peer := peer, failAddr := addr } else x

/-- A descriptor ends at once with a status. -/
def Desc.endWith (x : Desc) (status peer addr : Nat) : Desc :=
  { x.fail status peer addr with outstanding := 0, next := descChunks x.words, given := descChunks x.words, got := [] }

/-- A core's remote store is over. -/
def State.dropStore (s : State) (n id : Nat) : State :=
  s.setCore n { s.coreAt n with rstores := (s.coreAt n).rstores.filter fun (r : RStore) => r.id != id }

/-- A load or atomic that is refused (R228): the poison value, the exception and the job fault. -/
def State.refuseAccess (s : State) (n cause : Nat) (r : Remote) : State :=
  let c := s.coreAt n
  let s := s.setCore n ({ c with rem := c.rem.filter fun (x : Remote) => x.id != r.id }.setS r.d
    (if r.wide then BitVec.allOnes 64 else 0xFFFFFFFF))
  let s := s.jobFault n (if cause = 6 then 4 else 2) r.part r.tag r.eid r.addr (if cause = 6 then 0 else r.addr)
  s.takeException n (if cause = 6 then .atomicRefused else .remoteRefused) r.pc

/-- A store that is refused (R228). -/
def State.refuseStore (s : State) (n : Nat) (r : RStore) : State :=
  ((s.dropStore n r.id).jobFault n 2 r.part r.tag r.eid r.addr r.addr).takeException n .remoteRefused r.pc

/-- The owner of a refused request acts on the cause (R228, R247). -/
def State.refuseOwner (s : State) (own : Owner) (cause peer addr : Nat) : State :=
  match own with
  | .none => s
  | .access n id =>
    match (s.coreAt n).rem.find? fun (r : Remote) => r.id == id with
    | some r => s.refuseAccess n cause r
    | none => s
  | .store n id =>
    match (s.coreAt n).rstores.find? fun (r : RStore) => r.id == id with
    | some r => s.refuseStore n r
    | none => s
  | .copy d id chunk =>
    s.onDesc d id fun x =>
      { x.fail (if cause = 4 then 4 else 3) peer addr with
        outstanding := x.outstanding - 1
        got := Tab.put x.got chunk none }

/-- An acknowledged request is over for its owner (R134, R246): a pull waits for its data still. -/
def State.ackOwner (s : State) (u : Unacked) : State :=
  match u.own with
  | .store n id => s.dropStore n id
  | .copy d id _ =>
    if qType u.q = 0x23 then s
    else s.onDesc d id fun x => { x with outstanding := x.outstanding - 1, bytes := x.bytes + qLen u.q }
  | _ => s

/-- The acknowledgement that a packet carries (R257): the value that matches 16 bits within the span from the oldest unacknowledged
sequence minus 1 to the newest sent. -/
def State.ackIn (s : State) (q : Packet) : State :=
  let e := qSrc q
  let x := s.srcAt e
  match x.unacked with
  | [] => s
  | u :: _ =>
    let newest := (x.unacked.getLast?.map Unacked.seq).getD u.seq
    let n := (qAckSeq q + 2 ^ 16 + 1 - u.seq % 2 ^ 16) % 2 ^ 16
    if !qAckValid q || decide (seqDiff newest u.seq + 1 < n) then s
    else
      let gone := x.unacked.filter fun (w : Unacked) => decide (seqDiff w.seq u.seq < n)
      let synced := gone.any fun w => qSync w.q && !w.lost
      let s := s.setSrc e { x with
        unacked := x.unacked.filter fun (w : Unacked) => decide (n ≤ seqDiff w.seq u.seq)
        ignoreResync := x.ignoreResync && !synced }
      (gone.foldl State.ackOwner s).pump

/-! ### The target: checks (R224, R227, R217) -/

/-- The issuing die of a request of this module to itself (R183). -/
def State.sourceDie (s : State) (q : Packet) : Option Nat :=
  if qSrc q = s.topo.ownEid then ((s.srcAt (qSrc q)).unacked.find? fun (u : Unacked) => u.seq == qSeq q).map Unacked.die else none

/-- A pull of this module from itself whose descriptor marks its source reads latency-critical (R189, R240). No packet carries the mark,
so that another module's endpoint reads for it as normal (log 21). -/
def State.sourceLc (s : State) (q : Packet) : Bool :=
  qSrc q == s.topo.ownEid && qType q == 0x23 &&
    match ((s.srcAt (qSrc q)).unacked.find? fun (u : Unacked) => u.seq == qSeq q).map Unacked.own with
    | some (.copy d id _) => (s.copyAt d).descs.any fun (x : Desc) => x.id == id && descLc x.words
    | _ => false

/-- A granule on a die is reached by the issuing die itself (R183), while its compute core domain is up (R202). -/
def State.ownDie (s : State) (q : Packet) (d : Nat) : Bool := s.sourceDie q == some d && s.coreDom d

/-- The die that holds what a request addresses cannot answer (R217): fenced, offline or training, unless the issuing die reaches its
own memory. -/
def State.dieOffline (s : State) (q : Packet) : Bool :=
  if qInStore q then !(s.coreDom (dieOf (qCore q)) && s.linkUp (dieOf (qCore q)))
  else (qOffsets q).any fun o => !(s.ownDie q (s.place o).die || s.linkUp (s.place o).die)

/-- The extent of a request is granted to a partition (R224). -/
def State.inGrant (s : State) (q : Packet) (k : Nat) : Bool :=
  if qInStore q then
    decide (qCore q < numCores) && decide (0 < s.fuse.arrays (qCore q)) && s.corePart (qCore q) == k
      && decide (qStore q + qExtent q ≤ storeSize)
  else s.granted k (qOff q) (qExtent q)

/-- The cause for which a target refuses a request (R224, R227), with the partition of its tag. -/
def State.refusal (s : State) (q : Packet) : Option Nat × Nat :=
  if s.ep.torn.contains (qTag q) then (some 5, 0)
  else match s.tagPart (qTag q) with
    | none => (some 1, 0)
    | some k =>
      if !s.inGrant q k then (some 2, k)
      else if (hasReply (qType q) || isStore (qType q)) && !s.inRack (qSrc q) then (some 3, k)
      else if s.dieOffline q then (some 4, k)
      else (none, k)

/-! ### The target: performing -/

/-- The requester index under which a granule is reached (R183, R184). -/
def State.requester (s : State) (q : Packet) (o : Nat) : Nat :=
  if s.ownDie q (s.place o).die then (if isCopy (qType q) then 1 else 6) else 0

/-- Dies with credit for a packet as it begins: its granules are admitted together (R188). -/
def State.paidNow (s : State) (k d : Nat) : Bool := s.hasCredit d k

/-- Read the bytes that a load or READ_REQ names, granule by granule: bytes and poison of each. -/
def State.readTarget (s : State) (q : Packet) (k : Nat) : State × List (List Byte × Bool) :=
  if qInStore q then
    let st := (s.coreAt (qCore q)).store
    if isLoad (qType q) then (s, [(Memory.bytes st (qStore q) (qExtent q), false)])
    else (s, (List.range (qExtent q / 64)).map fun i => (Memory.bytes st (qStore q + 64 * i) 64, false))
  else
    let lc := s.sourceLc q
    let paid := s.paidNow k
    (qOffsets q).foldl (fun (s, l) o =>
      let lo := max o (qOff q)
      let n := min (o + 64) (qOff q + qExtent q) - lo
      let (s, bad, bs) := s.requestPiece paid
        ⟨s.requester q o, k, isLoad (qType q) || lc, widen48 s.now (qTs q), .read, lo, n, [], 0, isCopy (qType q)⟩
      (s, l ++ [(bs, bad)])) (s, [])

/-- What one granule of a WRITE, REDUCE or GFXOR does to the bytes there (R242, R244); `none`: unchanged. -/
def granuleEffect (q : Packet) (zero : Bool) : Option MemOp :=
  if qType q = 0x20 then some .write
  else if qType q = 0x21 then
    if zero && qArg q / 64 == 0 then none else some (.reduce (BitVec.ofNat 2 (qArg q / 64)) (BitVec.ofNat 6 (qArg q % 64)))
  else if zero then none else some (.gfxor (BitVec.ofNat 8 (qArg q)))

/-- One granule of a copy packet in module memory (R242, R244, R248). -/
def State.copyGranule (s : State) (paid : Nat → Bool) (q : Packet) (k o : Nat) (g : List Byte × Bool × Bool) : State :=
  let (bs, zero, poison) := g
  let r := fun op => (⟨s.requester q o, k, false, widen48 s.now (qTs q), op, o, 0, bs, 0, true⟩ : MemReq)
  if poison then s.poisonPiece paid (r .write)
  else match granuleEffect q zero with
    | none => s
    | some op => (s.requestPiece paid (r op)).1

/-- One granule of a copy packet in a core store (R242, R244, R248). -/
def storeEffect (q : Packet) (st : Memory) (a : Nat) (g : List Byte × Bool × Bool) : Memory :=
  let (bs, zero, poison) := g
  if poison then Memory.write st a (List.replicate 64 0xFF)
  else match granuleEffect q zero with
    | none => st
    | some op => Memory.write st a (MemReq.change ⟨0, 0, false, 0, op, a, 0, bs, 0, true⟩ (Memory.bytes st a 64))

/-- Perform a WRITE, REDUCE or GFXOR. -/
def State.copyTarget (s : State) (q : Packet) (k : Nat) : State :=
  let gs := qGranules q
  if qInStore q then
    let c := s.coreAt (qCore q)
    let st := (gs.zipIdx).foldl (fun m (g, i) => storeEffect q m (qStore q + 64 * i) g) c.store
    s.setCore (qCore q) { c with store := st }
  else
    let paid := s.paidNow k
    (gs.zipIdx).foldl (fun s (g, i) => s.copyGranule paid q k (qOff q + 64 * i) g) s

/-- The operand and compare value of an atomic packet (R256). -/
def qOperands (q : Packet) : W64 × W64 :=
  let n := accessBytes (qType q)
  (BitVec.ofNat 64 (ofBytes (q.payload.take n)), BitVec.ofNat 64 (ofBytes ((q.payload.drop n).take n)))

/-- Perform an atomic (R226): the old bytes and poison. Of one that a parity error hit the granule is poison (R210, log 123). -/
def State.atomicTarget (s : State) (q : Packet) (k : Nat) : State × List Byte × Bool :=
  let (x, cmp) := qOperands q
  let t := qType q
  if qPmask q % 2 = 1 ∧ !qInStore q then (s.poisonSpan (qOff q) (accessBytes t), List.replicate (accessBytes t) 0xFF, true)
  else if qInStore q then
    let c := s.coreAt (qCore q)
    let old := Memory.bytes c.store (qStore q) (accessBytes t)
    (s.setCore (qCore q) { c with store := Memory.write c.store (qStore q) (atomicOn t 0 x cmp old) }, old, false)
  else
    let (s, bad, bs) := s.request
      ⟨s.requester q (qOff q), k, true, widen48 s.now (qTs q), .atomic (BitVec.ofNat 6 t) x cmp, qOff q, 0, [], 0, false⟩
    (s, bs, bad)

/-- Perform a store; one that a parity error hit makes its granule poison (R210). -/
def State.storeTarget (s : State) (q : Packet) (k : Nat) : State :=
  if qInStore q then
    let c := s.coreAt (qCore q)
    s.setCore (qCore q) { c with store := Memory.write c.store (qStore q) q.payload }
  else if qPmask q % 2 = 1 then s.poisonSpan (qOff q) (qExtent q)
  else (s.request ⟨s.requester q (qOff q), k, false, widen48 s.now (qTs q), .write, qOff q, 0, q.payload, 0, false⟩).1

/-- The REFUSAL of a request (R227). -/
def State.refuse (s : State) (q : Packet) (cause : Nat) : State :=
  (s.bump A.epStat 15 0 1).answer (qMake (qSrc q) (qDest q) (qTag q) 0x31 cause (qSeq q) 0 0 [])

/-- The answer to a load or atomic, with its reply record (R227, R228, R233). -/
def State.replyTo (s : State) (q : Packet) (bs : List Byte) (poison : Bool) : State :=
  let n := accessBytes (qType q)
  let r := qMake (qSrc q) (qDest q) (qTag q) 0x30 0 (qSeq q) n 0 (if poison then List.replicate n 0xFF else bs)
  let r := { r with w3 := setFld r.w3 50 47 (b2n poison) }
  let rec_ : ReplyRec := { eid := qSrc q, seq := qSeq q, reply := r, tag := qTag q, at_ := s.ct }
  { s with ep := { s.ep with records := s.ep.records ++ [rec_] } }.answer r

/-- The answer to a READ_REQ: the granules, the poisoned ones marked (R248). -/
def State.readDataTo (s : State) (q : Packet) (gs : List (List Byte × Bool)) : State :=
  let r := qMake (qSrc q) (qDest q) (qTag q) 0x33 0 (qSeq q) (qLen q) 0 (gs.flatMap Prod.fst)
  let m := gs.zipIdx.foldl (fun m (g, i) => m + b2n g.2 * 2 ^ i) 0
  s.answer { r with w3 := setFld r.w3 50 47 m }

/-- A performed request is to be acknowledged within 500 ns (R257). -/
def State.oweAck (s : State) (e : Nat) : State :=
  let x := s.dstAt e
  if x.ackDue.isSome then s else s.setDst e { x with ackDue := some s.clk }

/-- What tells the descriptors of one source apart at their destination (R246): core, counter, stream and tag of their packets. -/
def signalKey (q : Packet) : Nat := qCore q + 4096 * (qDstCnt q + 32 * (qStream q + 4096 * qTag q))

/-- The signal of a descriptor at its last packet, unless one of its packets was refused or carried poison (R246). -/
def State.signal (s : State) (q : Packet) (bad : Bool) : State :=
  let t := qType q
  if !qInStore q || !isCopy t || t == 0x23 then s
  else
    let x := s.dstAt (qSrc q)
    let n := signalKey q
    let worse := bad || x.bad.contains n
    if qLast q then
      let s := s.setDst (qSrc q) { x with bad := x.bad.filter fun m => m != n }
      if qSignal q && !worse then s.countCore (qCore q) (qDstCnt q) else s
    else if bad && qSignal q && !x.bad.contains n then s.setDst (qSrc q) { x with bad := n :: x.bad }
    else s

/-- Perform or refuse the next request of a pair (R224 to R228, R242, R246): its acknowledgement is owed (R257). -/
def State.performReq (s : State) (q : Packet) : State :=
  let t := qType q
  let s := s.oweAck (qSrc q)
  if t = 0x32 then s
  else match s.refusal q with
  | (some 4, _) => if hasReply t then s.replyTo q [] true else (s.signal q true).refuse q 4
  | (some cause, _) => (s.signal q true).refuse q cause
  | (none, k) =>
    if isAtomic t then
      let (s, bs, bad) := s.atomicTarget q k
      s.replyTo q bs bad
    else if isLoad t then
      let (s, gs) := s.readTarget q k
      s.replyTo q (gs.flatMap Prod.fst) (gs.any Prod.snd)
    else if t = 0x23 then
      let (s, gs) := s.readTarget q k
      s.readDataTo q gs
    else if isStore t then s.storeTarget q k
    else (s.copyTarget q k).signal q (qPmask q != 0)

/-- A request for module memory waits: at admission, a normal one, while its partition has no credit at a die that it reaches (R188); at a
channel that a throttled stack holds (R363); and at the hub, while the die's receive buffer or the reply space for it is full (R207). -/
def State.creditHolds (s : State) (q : Packet) : Bool :=
  match s.refusal q with
  | (none, k) => !qInStore q && qType q != 0x32 && (qOffsets q).any fun o =>
      let p := s.place o
      (!hasReply (qType q) && !s.sourceLc q && !s.hasCredit p.die k) || s.throttled p.die p.chan
        || (!s.ownDie q p.die && !s.linkRoom p.die (linkBytes q) (replyBytes q))
  | _ => false

/-- Perform the requests of a source that are next in sequence (R229, R234); a load or atomic waits for a reply record (R233), others
for credit (R188). -/
def State.drain : Nat → Nat → State → State
  | 0, _, s => s
  | n + 1, e, s =>
    let x := s.dstAt e
    match x.expected with
    | none => s
    | some v =>
      match Tab.find x.reorder v with
      | none => s
      | some q =>
        if hasReply (qType q) ∧ 65536 ≤ s.ep.records.length then s.setDst e { x with waitRec := true }
        else if s.creditHolds q then s
        else
          let s := s.setDst e { x with reorder := Tab.erase x.reorder v, expected := some ((v + 1) % 2 ^ 24), waitRec := false }
          State.drain n e (s.performReq q)

/-- A duplicate (R231, R233, R239). -/
def State.duplicate (s : State) (q : Packet) : State :=
  let s := s.bump A.epStat 47 32 1
  if !hasReply (qType q) then s.answer (qMake (qSrc q) (qDest q) 0 0x32 0 0 0 0 [])
  else if s.ep.torn.contains (qTag q) then s.refuse q 5
  else match s.ep.records.find? fun (r : ReplyRec) => r.eid == qSrc q && r.seq == qSeq q && decide (s.ct ≤ r.at_ + 40000) with
    | some r => (s.bump A.epStat 31 16 1).answer r.reply
    | none => (s.bump A.epErr 15 0 1).refuse q 6

/-- A request packet arrives at its target (R229 to R231). -/
def State.takeRequest (s : State) (q : Packet) : State :=
  let e := qSrc q
  let x := (s.dstAt e).start q
  let s := s.setDst e x
  match x.expected with
  | none => s.refuse q 7
  | some v =>
    let n := seqDiff (qSeq q) v
    if 2 ^ 23 ≤ n then s.duplicate q
    else
      let s := s.setDst e (x.hold q)
      if x.waitRec then s else State.drain 257 e s

/-- A packet reaches the endpoint (R13, R258, R262): out of the inbound buffer, whose words may be uncorrectable, its check and reserved
fields looked at, for types of one command. -/
def State.reach (s : State) (q : Packet) (ok : Nat → Bool) (act : State → State) : State :=
  if !s.dom.hub || !s.isOwn q || !ok (qType q) then s
  else
    let s := { s with
      hub := { s.hub with inbound := s.hub.inbound.erase { q with bad := false } }
      ep := { s.ep with direct := s.ep.direct.map fun e => (e.1, e.2.erase q) } }
    if q.bad || !qIntact q then s.bump A.drops 31 16 1
    else if !qValid q then s.bump A.drops 15 0 1
    else (act s).ackIn q

/-- LOAD (R225). -/
def execLoad (q : Packet) (s : State) : Host.Outcome State Fault Refusal := .next (s.reach q isLoad fun s => s.takeRequest q)
/-- STORE (R225). -/
def execStore (q : Packet) (s : State) : Host.Outcome State Fault Refusal := .next (s.reach q isStore fun s => s.takeRequest q)
/-- ATOMIC (R226). -/
def execAtomic (q : Packet) (s : State) : Host.Outcome State Fault Refusal := .next (s.reach q isAtomic fun s => s.takeRequest q)
/-- WRITE (R242): COPY and ZERO. -/
def execWrite (q : Packet) (s : State) : Host.Outcome State Fault Refusal := .next (s.reach q (· == 0x20) fun s => s.takeRequest q)
/-- REDUCE (R242). -/
def execReduce (q : Packet) (s : State) : Host.Outcome State Fault Refusal := .next (s.reach q (· == 0x21) fun s => s.takeRequest q)
/-- GFXOR (R242). -/
def execGfxor (q : Packet) (s : State) : Host.Outcome State Fault Refusal := .next (s.reach q (· == 0x22) fun s => s.takeRequest q)
/-- READ_REQ (R256). -/
def execReadReq (q : Packet) (s : State) : Host.Outcome State Fault Refusal := .next (s.reach q (· == 0x23) fun s => s.takeRequest q)

/-! ### The source: answers (R228, R230, R257) -/

/-- An answer that nothing waits for (R228). -/
def State.lateReply (s : State) : State := s.bump A.epErr 31 16 1

/-- The owner of a load, atomic or pull leaves the list of those without an answer. -/
def State.takeAnswer (s : State) (q : Packet) : State :=
  let x := s.srcAt (qSrc q)
  s.setSrc (qSrc q) { x with answers := Tab.erase x.answers (qSeq q) }

/-- A load or atomic takes its value (R134, R214, R215). -/
def State.takeValue (s : State) (n : Nat) (r : Remote) (v : Nat) : State :=
  let c := s.coreAt n
  let s := s.setCore n ({ c with rem := c.rem.filter fun (x : Remote) => x.id != r.id }.setS r.d (BitVec.ofNat 64 v))
  if r.atomic || r.noFill || r.home == dieOf n then s else s.rcFill (dieOf n) r.part r.home r.addr r.wide v

/-- A REPLY at its source: later than 10 µs it is discarded (R228). -/
def State.takeReply (s : State) (q : Packet) : State :=
  match Tab.find (s.srcAt (qSrc q)).answers (qSeq q) with
  | some (.access n id, _, _) =>
    let s := s.takeAnswer q
    match (s.coreAt n).rem.find? fun (r : Remote) => r.id == id with
    | some r =>
      if r.at_ + 20000 < s.ct then s.lateReply
      else if qPmask q % 2 = 1 then s.remotePoison n r
      else s.takeValue n r (ofBytes (q.payload.take (if r.wide then 8 else 4)))
    | none => s.lateReply
  | _ => s.lateReply

/-- REPLY (R228). -/
def execReply (q : Packet) (s : State) : Host.Outcome State Fault Refusal := .next (s.reach q (· == 0x30) fun s => s.takeReply q)

/-- RESYNC (R230): every unacknowledged request of the pair ends as refused; the next one carries SYNC. What was acknowledged still waits
for its answer. -/
def State.resync (s : State) (e : Nat) : State :=
  let x := s.srcAt e
  if x.ignoreResync then s
  else
    let s := s.setSrc e { x with
      unacked := x.unacked.map fun (u : Unacked) => { u with lost := true, own := .none }
      answers := x.answers.filter fun a => !x.unacked.any fun (u : Unacked) => u.seq == a.1
      needSync := true, ignoreResync := true }
    (x.unacked.foldl (fun s u => s.refuseOwner u.own 7 e (qAddr u.q)) s).pump

/-- A REFUSAL at its source (R228, R230, R247), also of a load, atomic or pull that has been acknowledged. -/
def State.takeRefusal (s : State) (q : Packet) : State :=
  let s := s.bump A.epErr 47 32 1
  let e := qSrc q
  if qArg q = 7 then s.resync e
  else
    let x := s.srcAt e
    match x.unacked.find? fun (u : Unacked) => u.seq == qSeq q && !u.lost with
    | some u =>
      let s := s.setSrc e { x with
        unacked := x.unacked.map fun (w : Unacked) => if w.seq = qSeq q then { w with own := .none } else w
        answers := Tab.erase x.answers (qSeq q) }
      s.refuseOwner u.own (qArg q) e (qAddr u.q)
    | none =>
      match Tab.find x.answers (qSeq q) with
      | some (own, _, addr) => (s.takeAnswer q).refuseOwner own (qArg q) e addr
      | none => s

/-- REFUSAL (R228). -/
def execRefusal (q : Packet) (s : State) : Host.Outcome State Fault Refusal := .next (s.reach q (· == 0x31) fun s => s.takeRefusal q)

/-- ACK (R257). -/
def execAck (q : Packet) (s : State) : Host.Outcome State Fault Refusal := .next (s.reach q (· == 0x32) fun s => s)

/-- READ_DATA (R243): the granules of a chunk, kept until the descriptor delivers them in order. -/
def State.takeData (s : State) (q : Packet) : State :=
  match Tab.find (s.srcAt (qSrc q)).answers (qSeq q) with
  | some (.copy d id chunk, _, _) =>
    let s := s.takeAnswer q
    if (s.copyAt d).descs.any fun (x : Desc) => x.id == id then
      s.onDesc d id fun x => { x with
        got := Tab.put x.got chunk (some ((qGranules q).flatMap Prod.fst, qPmask q))
        outstanding := x.outstanding - 1 }
    else s.lateReply
  | _ => s.lateReply

/-! ### Time-outs (R228, R232, R233, R257) -/

/-- A request that is not sent yet is not sent any more. -/
def State.unsend (s : State) (p : Owner → Bool) : State :=
  { s with hub := { s.hub with dynWait := s.hub.dynWait.filter fun (u : Unacked) => !p u.own } }

/-- REMOTE_ACCESS_TIMEOUT (R228): 10 µs after issue. -/
def execRemoteAccessTimeout (n id : Nat) (s : State) : Host.Outcome State Fault Refusal :=
  onUnit (n < numCores)
    (match (s.coreAt n).rem.find? fun (r : Remote) => r.id == id with
     | some r =>
       if r.at_ + 20000 ≤ s.ct then
         (((s.unsend fun o => o == .access n id).bump A.epErr 63 48 1).remotePoison n r).pump
       else s
     | none => s)

/-- Send a request again (R232): same sequence, the retry flag, a new timestamp, against its budget (R267) unless a scheduled descriptor
sends it (R268). One that has not left yet is not sent twice. -/
def State.retransmit (s : State) (e0 : Nat) (u : Unacked) : State :=
  let k := budgetOf (qTag u.q) u.part
  let free := qStream u.q != 0 || s.isOwn u.q
  let waits := s.hub.inject.any fun e => isRequest (qType e.2) && qDest e.2 == e0 && qSeq e.2 == u.seq
  if waits || (!free && !s.affordable u.q k) || (s.isOwn u.q && !s.isDirect u.die u.q && !s.inboundRoom u.q 0) then s
  else
    let s := if free then s else s.chargeBudget u.q k
    let q := qPut1 u.q 21 21 1
    let x := s.srcAt e0
    let s := s.setSrc e0 { x with unacked := x.unacked.map fun (w : Unacked) =>
      if w.seq = u.seq then { w with q := q, lastAt := s.clk, tries := w.tries + 1 } else w }
    (s.bump A.epStat 63 48 1).forward (93 + u.die) q

/-- RETRANSMIT_TIMEOUT (R232): 4 µs after the last transmission; loads and atomics twice, others four times at most. -/
def execRetransmitTimeout (eid seq : Nat) (s : State) : Host.Outcome State Fault Refusal :=
  .next (match (s.srcAt eid).unacked.find? fun (u : Unacked) => u.seq == seq && !u.lost with
    | some u =>
      if u.lastAt + 8000 ≤ s.clk ∧ u.tries < (if hasReply (qType u.q) then 2 else 4) then s.retransmit eid u else s
    | none => s)

/-- A packet of a descriptor ends for want of an answer (R232): the descriptor's status is TIMEOUT, the rest of it runs to its end
(R247). -/
def State.copyTimedOut (s : State) (eid seq d id chunk addr : Nat) : State :=
  let x := s.srcAt eid
  let s := s.setSrc eid { x with
    unacked := x.unacked.map fun (u : Unacked) => if u.seq = seq then { u with own := .none } else u
    answers := Tab.erase x.answers seq }
  (s.onDesc d id fun x => { x.fail 6 eid addr with
    outstanding := x.outstanding - 1
    got := if descFetches x.words then Tab.put x.got chunk none else x.got }).pump

/-- COPY_TIMEOUT (R232, R246): a copy packet 20 µs after its first transmission, or a pull whose data have not come by then. -/
def execCopyTimeout (eid seq : Nat) (s : State) : Host.Outcome State Fault Refusal :=
  .next (
    let x := s.srcAt eid
    match x.unacked.find? fun (u : Unacked) => u.seq == seq && !u.lost with
    | some u =>
      match u.own with
      | .copy d id c => if u.firstAt + 40000 ≤ s.clk then s.copyTimedOut eid seq d id c (qAddr u.q) else s
      | _ => s
    | none =>
      match Tab.find x.answers seq with
      | some (.copy d id c, t, addr) => if t + 40000 ≤ s.clk then s.copyTimedOut eid seq d id c addr else s
      | _ => s)

/-- REPLY_RECORD_EXPIRY (R233): 20 µs after performing. -/
def execReplyRecordExpiry (eid seq : Nat) (s : State) : Host.Outcome State Fault Refusal :=
  .next { s with ep := { s.ep with records := s.ep.records.filter fun (r : ReplyRec) =>
    !(r.eid == eid && r.seq == seq && decide (r.at_ + 40000 ≤ s.ct)) } }

/-- Requests of other endpoints and of this module's own blocks that waited for credit are performed as far as they may be (R188). -/
def State.resumeCredit (s : State) : State := s.ep.dst.foldl (fun s e => if e.2.waitRec then s else State.drain 257 e.1 s) s

/-- MEMORY_ADMIT (R188): the oldest waiting request of a partition whose credit is positive, or which is not regulated, with all its
granules; where none waits at the controllers, those that the endpoint holds for credit. -/
def execMemoryAdmit (d k : Nat) (s : State) : Host.Outcome State Fault Refusal :=
  onUnit (d < 4 ∧ k < 16)
    (let m := s.memAt d
     match m.waiting.find? fun w => w.2.part == k with
     | some (n, r) =>
       if s.mustWait d r ∨ ¬ s.serves d r.req then s
       else (m.waiting.filter fun w => w.1 == n).foldl (fun s w => s.admitReq d w.2)
         (s.setMem d { m with waiting := m.waiting.filter fun w => w.1 != n })
     | none => if s.hasCredit d k then s.resumeCredit else s)

/-- RECORD_WAIT_PERFORM (R233). -/
def execRecordWaitPerform (eid : Nat) (s : State) : Host.Outcome State Fault Refusal :=
  .next (if (s.dstAt eid).waitRec ∧ s.ep.records.length < 65536 then State.drain 257 eid s else s)

/-- ACK_TIMER (R257): 500 ns after performing without an acknowledgement sent; one that waits for an output is not made twice. -/
def execAckTimer (eid : Nat) (s : State) : Host.Outcome State Fault Refusal :=
  .next (match (s.dstAt eid).ackDue with
    | some t =>
      let waits := s.hub.inject.any fun e => qType e.2 == 0x32 && qDest e.2 == eid
      if t + 1000 ≤ s.clk ∧ !waits then s.answer (qMake eid s.topo.ownEid 0 0x32 0 0 0 0 []) else s
    | none => s)

end Sys2Proof.Machine
end

