-- ==== Sys2Proof/Machine/Rdma.lean ====
section
/-! DEFINITION. RoCEv2 connections (R243, R348 to R351, R355): requester, responder, errors, rates, and their registers. -/
namespace Sys2Proof.Machine

/-- Number of connections (R349). -/
abbrev numConns : Nat := 256
/-- 1 Gbit/s, in the bits per second that rates are kept in. -/
abbrev gbps : Nat := 1000000000

/-- A connection. -/
def State.qpAt (s : State) (n : Nat) : Qp := Tab.get Qp.init s.eth.qp n
/-- Store a connection. -/
def State.setQp (s : State) (n : Nat) (x : Qp) : State := { s with eth := { s.eth with qp := Tab.put s.eth.qp n x } }

/-- QPDATAk of a connection. -/
def Qp.word (x : Qp) (k : Nat) : W64 := x.data.getD k 0
/-- Its Ethernet port. -/
def Qp.port (x : Qp) : Nat := fld (x.word 0) 61 61
/-- Its partition. -/
def Qp.part (x : Qp) : Nat := fld (x.word 0) 59 56
/-- Its PMTU in bytes. -/
def Qp.pmtu (x : Qp) : Nat := 512 * 2 ^ fld (x.word 0) 55 53
/-- Its local timeout in ticks: 4.096 µs × 2^TIMEOUT (R350). -/
def Qp.timeout (x : Qp) : Nat := 8192 * 2 ^ fld (x.word 0) 52 48

/-- A difference of packet sequence numbers modulo 2^24. -/
def psnDiff (a b : Nat) : Nat := seqDiff a b

/-- A port takes and sends frames: enabled, its link up (R337, R355). -/
def State.ethOn (s : State) (p : Nat) : Bool := s.eth.linkUp.getLsbD p && bit (s.reg (A.ethPcfg p)) 63

/-- The 802.1Q tag of what a port sends: one while VLAN_EN is 1 (R355). -/
def State.vlanOf (s : State) (p : Nat) : Option (BitVec 12) :=
  let w := s.reg (A.ethPcfg p)
  if bit w 61 then some (BitVec.ofNat 12 (fld w 59 48)) else none

/-- A frame carries the tag that the port requires (R337, R355); while VLAN_EN is 0 a tag is optional (log 124). -/
def State.vlanFits (s : State) (p : Nat) (v : Option (BitVec 12)) : Bool := (s.vlanOf p).isNone || v == s.vlanOf p

/-- Where a packet of a connection goes (R338, R349): a request to the next hop, a reply to the source of what it answers. -/
def State.roceTo (s : State) (n : Nat) (mac : Option (BitVec 48)) : RoceTo :=
  let x := s.qpAt n
  { eth := { port := x.port, mac := mac.getD (BitVec.ofNat 48 (fld (x.word 0) 47 0)), vlan := s.vlanOf x.port }
    v4 := bit (x.word 0) 60, ipHi := x.word 3, ipLo := x.word 4, sport := 0xC000 + n, qpn := fld (x.word 1) 55 32 }

/-- Bytes of the IP packet of a RoCEv2 packet (R348): IP and UDP headers, BTH with RETH or AETH, data padded to a word, invariant CRC. -/
def roceBytes (o : Out) : Nat :=
  let size := fun (dst : RoceTo) (head : Nat) (data : List Byte) => (if dst.v4 then 20 else 40) + 8 + 12 + head + (data.length + 3) / 4 * 4 + 4
  match o with
  | .roceWrite _ dst _ part _ _ data => size dst (if part = .first ∨ part = .only then 16 else 0) data
  | .roceReadReq _ dst _ _ _ => size dst 16 []
  | .roceReadResp _ dst _ part data => size dst (if part = .middle then 0 else 4) data
  | .roceAck _ dst _ _ => size dst 4 []
  | .cnp _ dst => size dst 16 []
  | _ => 0

/-- Something leaves on a connection's port, if that port is on and sends IP packets as long (R337, log 124). -/
def State.emitRoce (s : State) (x : Qp) (o : Out) : State :=
  if s.ethOn x.port ∧ roceBytes o ≤ s.field (A.ethPcfg x.port) 13 0 then s.emit o else s

/-- A connection takes packets: it is READY and its port is on (R349, R351). -/
def State.roceOn (s : State) (n : Nat) : Bool := decide ((s.qpAt n).st = .ready) && s.ethOn (s.qpAt n).port

/-! ### Errors (R351) -/

/-- The connection that a descriptor names (R243). -/
def descConn (w : List W64) : Option Nat :=
  if descOp w = 4 then some (fld (w.getD 2 0) 63 48) else if descOp w = 5 then some (fld (w.getD 1 0) 63 48) else none

/-- Every descriptor on a connection ends with status RDMA. -/
def State.failConn (s : State) (n : Nat) : State :=
  { s with copy := s.copy.map fun (e : Nat × CopyEng) =>
      (e.1, { e.2 with descs := e.2.descs.map fun (x : Desc) => if descConn x.words = some n then x.endWith 7 0xFFFF 0 else x }) }

/-- Entry to ERROR (R351): its descriptors, the job fault of its partition, the cause. -/
def State.connError (s : State) (n cause : Nat) : State :=
  let x := s.qpAt n
  let s := (s.setQp n { x with st := .error, err := cause, outstanding := [], sentAt := none }).failConn n
  s.jobFault n 11 x.part (s.partTag x.part) 0xFFFF 0 cause

/-! ### Requester (R349, R350) -/

/-- Packets of a message of so many bytes. -/
def Qp.packets (x : Qp) (len : Nat) : Nat := max 1 (ceilDiv len x.pmtu)

/-- The place of packet i among the k of its message (R348). -/
def rocePart (i k : Nat) : RocePart := if k ≤ 1 then .only else if i = 0 then .first else if i + 1 = k then .last else .middle

/-- Send what stands in an entry: data as the store holds them. -/
def State.sendRoce (s : State) (n : Nat) (x : Qp) (r : RoceOut) : State :=
  let dst := s.roceTo n none
  s.emitRoce x (if r.read then .roceReadReq n dst r.psn (BitVec.ofNat 64 r.rva) r.len
    else .roceWrite n dst r.psn r.part (BitVec.ofNat 64 r.rva) r.len (Memory.bytes (s.coreAt r.core).store r.addr r.len))

/-- Send one row of a descriptor: an RDMA WRITE message in packets of up to PMTU bytes, or one RDMA READ Request (R243). Answers how
many entries wait for it. -/
def State.sendRow (s : State) (n : Nat) (r : RoceOut) : State × Nat :=
  let x := s.qpAt n
  let k := x.packets r.len
  let entries :=
    if r.read then [{ r with psn := x.sq }]
    else (List.range k).map fun i =>
      { r with
        psn := (x.sq + i) % 2 ^ 24, addr := r.addr + i * x.pmtu, rva := r.rva + i * x.pmtu, len := min x.pmtu (r.len - i * x.pmtu)
        part := rocePart i k }
  let s := s.setQp n { x with
    sq := (x.sq + k) % 2 ^ 24, outstanding := x.outstanding ++ entries, sentAt := some s.clk }
  (entries.foldl (fun s e => s.sendRoce n x e) s, entries.length)

/-- An entry is answered: its descriptor's count and bytes. -/
def State.roceDone (s : State) (r : RoceOut) (bytes : Nat) (whole : Bool) : State :=
  s.onDesc r.die r.id fun x => { x with outstanding := x.outstanding - b2n whole, bytes := x.bytes + bytes }

/-- Write packets with sequence numbers before one are acknowledged; with progress the retries start again (R350). -/
def State.ackBefore (s : State) (n psn : Nat) : State :=
  let x := s.qpAt n
  let old := fun (r : RoceOut) => !r.read && decide (2 ^ 23 ≤ psnDiff r.psn psn)
  let gone := x.outstanding.filter old
  if gone.isEmpty then s
  else
    let rest := x.outstanding.filter fun r => !old r
    let s := s.setQp n { x with outstanding := rest, retries := 0, sentAt := if rest.isEmpty then none else some s.clk }
    gone.foldl (fun s r => s.roceDone r r.len true) s

/-- Resend everything not acknowledged, the reads as far as their responses have not come; after 7 retries without progress the connection
enters ERROR (R350). -/
def State.resend (s : State) (n : Nat) : State :=
  let x := s.qpAt n
  let again := x.outstanding.map fun (r : RoceOut) => if r.read then { r with part := .only } else r
  if 7 ≤ x.retries then s.connError n 1
  else again.foldl (fun s r => s.sendRoce n x r)
    (s.setQp n { x with outstanding := again, retries := x.retries + 1, sentAt := some s.clk })

/-- Congestion marked on a packet is answered by a CNP, one every 50 µs at most (R350). -/
def State.ecnMark (s : State) (n : Nat) (h : RoceHead) : State :=
  let x := s.qpAt n
  if h.ecn && !(match x.cnpAt with
      | some t => decide (s.clk < t + 100000)
      | none => false) then
    (s.setQp n { x with cnpAt := some s.clk }).emitRoce x (.cnp n (s.roceTo n (some h.mac)))
  else s

/-- A packet reaches a connection: its tag is the port's (R337), its invariant CRC holds (R348), the connection takes packets, and its
congestion mark is answered (R350). -/
def State.onConn (s : State) (n : Nat) (h : RoceHead) (act : State → State) : State :=
  let p := (s.qpAt n).port
  if !s.roceOn n then s
  else if !s.vlanFits p h.vlan then s.bump (A.ethCnt p) 15 0 1
  else if !h.icrc then s
  else act (s.ecnMark n h)

/-- ACKNOWLEDGE (R350, R351). -/
def execAcknowledge (n : Nat) (h : RoceHead) (code : AckCode) (s : State) : Host.Outcome State Fault Refusal :=
  onUnit (n < numConns)
    (s.onConn n h fun s =>
      match code with
      | .ack => s.ackBefore n ((h.psn.toNat + 1) % 2 ^ 24)
      | .seqNak => (s.ackBefore n h.psn.toNat).resend n
      | .otherNak => s.connError n 2)

/-- RDMA_LOCAL_TIMEOUT (R350). -/
def execRdmaLocalTimeout (n : Nat) (s : State) : Host.Outcome State Fault Refusal :=
  onUnit (n < numConns)
    (let x := s.qpAt n
     match x.sentAt with
     | some t => if x.st = .ready ∧ !x.outstanding.isEmpty ∧ t + x.timeout ≤ s.clk then s.resend n else s
     | none => s)

/-- A response continues the read that waits for it (R348): First or Only at its begin, Middle or Last after, with PMTU bytes in all but
the last. -/
def Qp.responseFits (x : Qp) (o : RoceOut) (r : RoceReq) : Bool :=
  let begun := o.part == .middle
  let ends := decide (o.len ≤ x.pmtu)
  r.part == (if begun then (if ends then .last else .middle) else if ends then .only else .first)
    && r.data.length == min o.len x.pmtu

/-- The next response of the oldest read that waits for it, written to the core store; one that does not continue it is dropped (log 124). -/
def State.readResponse (s : State) (n : Nat) (r : RoceReq) : State :=
  let x := s.qpAt n
  match x.outstanding.find? fun (o : RoceOut) => o.read with
  | some o =>
    if r.head.psn.toNat ≠ o.psn || !x.responseFits o r then s
    else
      let data := r.data
      let c := s.coreAt o.core
      let whole := decide (o.len ≤ data.length)
      let s := s.setCore o.core { c with store := Memory.write c.store o.addr data }
      let s := s.ackBefore n o.psn
      let y := s.qpAt n
      let next : RoceOut :=
        { o with
          psn := (o.psn + 1) % 2 ^ 24, addr := o.addr + data.length, rva := o.rva + data.length, len := o.len - data.length
          part := .middle }
      let rest := if whole then y.outstanding.filter (fun e => e != o) else y.outstanding.map fun e => if e = o then next else e
      (s.setQp n { y with outstanding := rest, retries := 0, sentAt := if rest.isEmpty then none else some s.clk }).roceDone o
        data.length whole
  | none => s

/-- RDMA_READ_RESPONSE (R243, R350). -/
def execRdmaReadResponse (n : Nat) (r : RoceReq) (s : State) : Host.Outcome State Fault Refusal :=
  onUnit (n < numConns) (s.onConn n r.head fun s => s.readResponse n r)

/-! ### Responder (R349, R350) -/

/-- An Acknowledge leaves, to the source of what it answers (R338): 0 positive, 1 NAK for a sequence error, 2 NAK for a remote access
error, 3 NAK for an invalid request. -/
def State.roceAck (s : State) (n : Nat) (h : RoceHead) (psn code : Nat) : State :=
  s.emitRoce (s.qpAt n) (.roceAck n (s.roceTo n (some h.mac)) psn code)

/-- The dies of an extent answer: their links are UP. -/
def State.roceDies (s : State) (addr len : Nat) : Bool :=
  (MemReq.pieces ⟨0, 0, false, 0, .read, addr, len, [], 0, false⟩).all fun q => s.linkUp (s.place q.off).die

/-- The host may reach an extent (R349): key, window, grants, and dies that answer. -/
def State.roceMay (s : State) (x : Qp) (r : RoceReq) : Bool :=
  let base := fld (x.word 5) 39 0
  let size := fld (x.word 6) 40 0
  decide (r.rkey.toNat = fld (x.word 2) 63 32) && decide (0 < size ∧ base ≤ r.addr ∧ r.addr + r.len ≤ base + size)
    && s.granted x.part r.addr r.len && s.roceDies r.addr r.len

/-- A request at its responder: in sequence it is performed; one ahead gets a NAK for the sequence, one behind is a duplicate. -/
def State.respond (s : State) (n : Nat) (r : RoceReq) (perform : State → Qp → State) (again : State → State) : State :=
  s.onConn n r.head fun s =>
    let x := s.qpAt n
    let ahead := psnDiff r.head.psn.toNat x.rq
    if ahead = 0 then perform s x else if ahead < 2 ^ 23 then s.roceAck n r.head x.rq 1 else again s

/-- A NAK for a remote access error, and ERROR (R349). -/
def State.accessNak (s : State) (n : Nat) (h : RoceHead) : State := (s.roceAck n h h.psn.toNat 2).connError n 3
/-- A NAK for an invalid request, and ERROR (R348). -/
def State.invalidNak (s : State) (n : Nat) (h : RoceHead) : State := (s.roceAck n h h.psn.toNat 3).connError n 4

/-- A packet of an RDMA WRITE continues its connection's message (R348): First or Only where none is under way, Middle or Last in one, with
PMTU bytes in all but the last, which brings the rest. -/
def Qp.writeFits (x : Qp) (r : RoceReq) : Bool :=
  match x.writing, r.part with
  | none, .only => r.data.length == r.len && decide (r.len ≤ x.pmtu)
  | none, .first => r.data.length == x.pmtu && decide (x.pmtu < r.len)
  | some (_, left), .middle => r.data.length == x.pmtu && decide (x.pmtu < left)
  | some (_, left), .last => r.data.length == left && decide (left ≤ x.pmtu)
  | _, _ => false

/-- One packet of an RDMA WRITE in sequence: the whole message is checked with its first packet. -/
def State.performWrite (s : State) (n : Nat) (r : RoceReq) (x : Qp) : State :=
  let (addr, left) := x.writing.getD (r.addr, r.len)
  let k := r.data.length
  if !x.writeFits r then s.invalidNak n r.head
  else if !(if x.writing.isNone then s.roceMay x r else s.roceDies addr k) then s.accessNak n r.head
  else
    let s := s.setQp n { x with rq := (x.rq + 1) % 2 ^ 24, writing := if left ≤ k then none else some (addr + k, left - k) }
    ((s.writeMem 0 x.part addr r.data).1).roceAck n r.head r.head.psn.toNat 0

/-- RDMA_WRITE (R348, R349): one packet of an RDMA WRITE to this module. -/
def execRdmaWrite (n : Nat) (r : RoceReq) (s : State) : Host.Outcome State Fault Refusal :=
  onUnit (n < numConns) (s.respond n r (fun s x => s.performWrite n r x) fun s => s.roceAck n r.head r.head.psn.toNat 0)

/-- Bytes that the host reads; those of a poisoned granule, or of a reply that a parity error hit, are not stated (log 3). -/
def State.roceBytes (s : State) (x : Qp) (r : RoceReq) : State × List Byte :=
  let hit := x.hit.contains r.head.psn.toNat
  (MemReq.pieces ⟨0, x.part, false, s.now, .read, r.addr, r.len, [], 0, false⟩).foldl (fun (s, l) q =>
    let (s, bad, bs) := s.request q
    if bad || hit then ({ s with free := s.free + 64 }, l ++ (List.range bs.length).map fun i => (Config.freeValue (s.free + i)).truncate 8)
    else (s, l ++ bs)) (s, [])

/-- The responses of an RDMA READ Request, in packets of up to PMTU bytes. -/
def State.sendResponses (s : State) (n : Nat) (x : Qp) (h : RoceHead) (bs : List Byte) : State :=
  let k := x.packets bs.length
  (List.range k).foldl (fun s i =>
    s.emitRoce x (.roceReadResp n (s.roceTo n (some h.mac)) ((h.psn.toNat + i) % 2 ^ 24) (rocePart i k)
      ((bs.drop (i * x.pmtu)).take x.pmtu))) s

/-- The data of a read leave as responses. -/
def State.giveRead (s : State) (n : Nat) (r : RoceReq) : State :=
  let x := s.qpAt n
  let (s, bs) := s.roceBytes x r
  (s.setQp n { s.qpAt n with hit := x.hit.erase r.head.psn.toNat }).sendResponses n x r.head bs

/-- RDMA_READ_REQUEST (R348, R349): not within a WRITE message; it takes one sequence number for each response; a duplicate is answered
again. -/
def execRdmaReadRequest (n : Nat) (r : RoceReq) (s : State) : Host.Outcome State Fault Refusal :=
  onUnit (n < numConns)
    (s.respond n r
      (fun s x =>
        if x.writing.isSome || r.part != .only then s.invalidNak n r.head
        else if !s.roceMay x r then s.accessNak n r.head
        else (s.setQp n { x with rq := (x.rq + x.packets r.len) % 2 ^ 24 }).giveRead n r)
      (fun s => if s.roceMay (s.qpAt n) r then s.giveRead n r else s))

/-- RDMA_UNSUPPORTED_OPCODE (R348): a NAK for an invalid request, and ERROR. -/
def execRdmaUnsupportedOpcode (n : Nat) (h : RoceHead) (s : State) : Host.Outcome State Fault Refusal :=
  onUnit (n < numConns) (s.onConn n h fun s => s.invalidNak n h)

/-- CNP (R350): the rate is halved, to no less than 1 Gbit/s. -/
def execCnp (n : Nat) (s : State) : Host.Outcome State Fault Refusal :=
  onUnit (n < numConns)
    (let x := s.qpAt n
     if s.roceOn n then s.setQp n { x with rate := max gbps (x.rate / 2), rateAt := s.clk } else s)

/-- RDMA_RATE_RAISE (R350): by 5 Gbit/s for each 100 µs without a CNP, up to the line rate. -/
def execRdmaRateRaise (n : Nat) (s : State) : Host.Outcome State Fault Refusal :=
  onUnit (n < numConns)
    (let x := s.qpAt n
     if x.st = .ready ∧ x.rateAt + 200000 ≤ s.clk ∧ x.rate < 100 * gbps then
        s.setQp n { x with rate := min (100 * gbps) (x.rate + 5 * gbps), rateAt := s.clk }
     else s)

/-! ### Registers (R355) -/

/-- The address of QPDATAk. -/
def qpdataAddr (k : Nat) : Nat := A.qpdata0 + 8 * k

/-- QPSEL_WRITE (R355): a write of ETH.QPSEL loads QPDATA0 to QPDATA7 from the connection. -/
def State.selectQp (s : State) (v : W64) : State :=
  let n := fld v 7 0
  let x := s.qpAt n
  (List.range 7).foldl (fun s k => s.setReg (qpdataAddr k) (x.word k &&& (if k = 0 then maskOf 61 0 else maskOf 63 0)))
    (s.putField A.qpsel 7 0 n)

/-- QPSEL_WRITE (R355). -/
def execQpselWrite (v : W64) (s : State) : Host.Outcome State Fault Refusal := .next (s.selectQp v)

/-- The selected connection. -/
def State.qpSelected (s : State) : Nat := s.field A.qpsel 7 0

/-- QPCMD.RESET (R351, R355): RESET; outstanding descriptors complete with RDMA and cause 5. -/
def State.resetQp (s : State) : State :=
  let n := s.qpSelected
  let x := s.qpAt n
  let busy := !x.outstanding.isEmpty || s.copy.any fun e => e.2.descs.any fun (d : Desc) => descConn d.words == some n
  (s.setQp n { x with st := .reset, err := if busy then 5 else x.err, outstanding := [], sentAt := none, retries := 0 }).failConn n

/-- QPCMD.COMMIT (R355): acts only in RESET. -/
def State.commitQp (s : State) : State :=
  let n := s.qpSelected
  let x := s.qpAt n
  if x.st = .reset then
    let data := (List.range 7).map fun k => s.reg (qpdataAddr k)
    s.setQp n { Qp.init with data := data, st := .ready, sq := fld (data.getD 1 0) 23 0, rq := fld (data.getD 2 0) 23 0 }
  else s

/-- A write of QPCMD (R355): with both bits set it acts as RESET alone. -/
def State.writeQpcmd (s : State) (v : W64) : State := if bit v 0 then s.resetQp else if bit v 1 then s.commitQp else s

/-- QP_COMMIT (R355): QPCMD.COMMIT written 1. -/
def execQpCommit (v : W64) (s : State) : Host.Outcome State Fault Refusal := .next (s.writeQpcmd (v ||| 2))

/-- QP_RESET (R351, R355): QPCMD.RESET written 1. -/
def execQpReset (v : W64) (s : State) : Host.Outcome State Fault Refusal := .next (s.writeQpcmd (v ||| 1))

end Sys2Proof.Machine
end

