-- ==== Sys2Proof/Machine/Units.lean ====
section
/-! DEFINITION. The other units of a core: gather and scatter (R104 to R106, R144), the start of a routing (R107, R145), counters and
waits (R112 to R114, R147), HALT, and the events and controls of core states (R97, R118, R119, R450). -/
namespace Sys2Proof.Machine

/-! ### Gather and scatter -/

/-- The operation that a gather or scatter hands to its unit: registers as read at issue (R124, R144). -/
def gsOpOf (op : BitVec 6) (row : Bool) (f : RF) (act : W64) (c : Core) : GsOp :=
  { op := op, idx := c.vreg f.a.toNat, act := act, base := (c.sreg f.b.toNat).toNat, bound := (c.sreg f.c.toNat).toNat
    data := if row then 0 else c.vreg f.d.toNat, dest := if row then 0 else f.d.toNat
    row := if row then (c.sreg f.d.toNat).toNat else 0, lines := f.lm1.toNat + 1, fmt := f.fmt, cnt := f.x.toNat }

/-- A row of an active lane of the contiguous region reaches the end of the store (R144). -/
def GsOp.outside (g : GsOp) : Bool :=
  g.isRow && (List.range 64).any fun i => bit g.act i && decide (storeSize < g.rowAt i + g.size)

/-- Hand an operation to the unit, which holds four (R144). -/
def State.enterGs (s : State) (n : Nat) (g : GsOp) (c : Core) : State :=
  if 4 ≤ c.gs.length then s
  else if g.base % (if g.isRow then 64 else 4) ≠ 0 then s.takeException n .misaligned c.pc
  else if g.outside then s.takeException n .storeRange c.pc
  else s.done n { c with gs := c.gs ++ [g] }

/-- A register form: lane i is active when bit i of the guard word is 1 (R123). -/
def State.gsReg (s : State) (n : Nat) (f : RF) (op : BitVec 6) (fmts : List (BitVec 6)) : State :=
  s.runV n f { d := .v, a := .v, b := .s, c := .s, fmts := fmts, x := true } fun g c => s.enterGs n (gsOpOf op false f g c) c

/-- A row form: it executes when bit 0 of the guard word is 1, and lane i is active when bit i is (R123, R144). -/
def State.gsRow (s : State) (n : Nat) (f : RF) (op : BitVec 6) (fmts : List (BitVec 6)) : State :=
  s.runR n f { d := .s, a := .v, b := .s, c := .s, fmts := fmts, x := true, lm1 := true } fun c =>
    s.enterGs n (gsOpOf op true f (c.guardWord f.gneg f.guard) c) c

/-- GATHER (R104, R144). -/
def execGather (n : Nat) (f : RF) (s : State) : Host.Outcome State Fault Refusal :=
  onUnit (n < numCores) (s.gsReg n f 0x00 [0])

/-- SCATTER (R104, R144). -/
def execScatter (n : Nat) (f : RF) (s : State) : Host.Outcome State Fault Refusal :=
  onUnit (n < numCores) (s.gsReg n f 0x01 [0])

/-- SCATADD (R106, R144). -/
def execScatadd (n : Nat) (f : RF) (s : State) : Host.Outcome State Fault Refusal :=
  onUnit (n < numCores) (s.gsReg n f 0x02 [0, 8])

/-- RGATHER (R105, R144). -/
def execRgather (n : Nat) (f : RF) (s : State) : Host.Outcome State Fault Refusal :=
  onUnit (n < numCores) (s.gsRow n f 0x08 [0])

/-- RSCATTER (R105, R144). -/
def execRscatter (n : Nat) (f : RF) (s : State) : Host.Outcome State Fault Refusal :=
  onUnit (n < numCores) (s.gsRow n f 0x09 [0])

/-- RSCATADD (R105, R106, R144). -/
def execRscatadd (n : Nat) (f : RF) (s : State) : Host.Outcome State Fault Refusal :=
  onUnit (n < numCores) (s.gsRow n f 0x0A [0, 1, 8])

/-- The core after the oldest gather or scatter. -/
def Core.finishGs (c : Core) (g : GsOp) (rest : List GsOp) : Core :=
  let o := g.run c.store (c.vreg g.dest)
  let c := { c with store := o.store, gs := rest }
  if g.op = 0 then c.setV g.dest o.vec else c

/-- A register form that accesses no bank line: it has active lanes, and all of them lie out of bound (R104). -/
def GsOp.accessesNone (g : GsOp) : Bool :=
  !g.isRow && g.act != 0 && (List.range 64).all fun i => !bit g.act i || (g.addr i).isNone

/-- The gather or scatter of a core that completes next: one that accesses no bank line, in the cycle after its issue (R104); else the
oldest (DESIGN CHOICE, log 118). -/
def Core.nextGs (c : Core) : Option GsOp :=
  match c.gs.find? GsOp.accessesNone with
  | some g => some g
  | none => c.gs.head?

/-- GATHER_SCATTER_COMPLETE (R104, R106): the last line is written and the counter increases. -/
def execGatherScatterComplete (n : Nat) (s : State) : Host.Outcome State Fault Refusal :=
  onUnit (n < numCores)
    (let c := s.coreAt n
     match c.nextGs with
     | some g =>
       let fl := (g.run c.store (c.vreg g.dest)).flags
       ((s.setCore n (c.finishGs g (c.gs.erase g))).setFlags n fl).countCore n g.cnt
     | none => s)

/-! ### Routing -/

/-- The cause that a route block raises, the lowest code first (R107, R126). -/
def routeCause (addr : Nat) (c : Core) : Option Cause :=
  if addr % 64 ≠ 0 then some .misaligned
  else if storeSize < addr + 64 then some .storeRange
  else
    let w := c.blockWords addr
    let b := routeBlkOf c.pc w
    if !b.inStore then some .storeRange else if !b.valid w then some .invalidBlock else none

/-- ROUTE (R107, R145). It does not issue while a routing waits already. -/
def execRoute (n : Nat) (f : CF) (s : State) : Host.Outcome State Fault Refusal :=
  onUnit (n < numCores) (s.runC n f (CF.legal f false true false (f.n == 0)) fun c =>
    if c.routeQ.isSome then s
    else match routeCause (blockAddr c f) c with
      | some cause => s.takeException n cause c.pc
      | none => s.done n { c with routeQ := some (routeBlkOf c.pc (c.blockWords (blockAddr c f))) })

/-- ROUTE_START (R107, R145): the expert table is checked before any token is ranked; a fault ends the routing. -/
def execRouteStart (n : Nat) (s : State) : Host.Outcome State Fault Refusal :=
  onUnit (n < numCores)
    (let c := s.coreAt n
     match c.route, c.routeQ with
     | none, some b =>
       match b.tableFault c.store with
       | some cause => (s.setCore n { c with routeQ := none }).takeException n cause b.pc
       | none => s.setCore n { c with routeQ := none, route := some ⟨b, []⟩ }
     | _, _ => s)

/-- ROUTE_COMPLETE (R111): a routing that has left the router and whose copies have completed. -/
def execRouteComplete (n : Nat) (s : State) : Host.Outcome State Fault Refusal :=
  onUnit (n < numCores)
    (let c := s.coreAt n
     match c.routeOut.find? fun (r : RouteRun) => r.ids.isEmpty with
     | some r => (s.setCore n { c with routeOut := c.routeOut.erase r }).countCore n r.blk.counter
     | none => s)

/-! ### Counters and waits -/

/-- A core that starts a wait: it goes to WAITING, its next instruction being the one after (R97, R114). -/
def Core.await (c : Core) (w : Wait) : Core := { c.nextPc with st := .waiting, wait := some w }

/-- The sum sA + IMM of format C. -/
def CF.sum (f : CF) (c : Core) : W64 := c.sreg f.a.toNat + CF.wimm f

/-- WAITT (R43, R114, R147). -/
def execWaitt (n : Nat) (f : CF) (s : State) : Host.Outcome State Fault Refusal :=
  onUnit (n < numCores) (s.runC n f (CF.legal f false true false (f.n == 0)) fun c =>
    if CF.sum f c ≤ s.now then s.done n c else s.setCore n (c.await (.time (CF.sum f c))))

/-- A counter has met its target: their signed difference modulo 2^32 is not negative (R113). -/
def countMet (count target : W32) : Bool := !(count - target).msb

/-- One late event of a core (R375), counted in SELF.PLATEk and for the period. -/
def State.lateEvent (s : State) (n : Nat) : State :=
  let key := s.corePart n * 4096 + n
  let s := s.bump (A.plate (s.corePart n)) 63 32 1
  { s with self := { s.self with late := Tab.put s.self.late key (Tab.get 0 s.self.late key + 1) } }

/-- A counter wait that ends: all 64 bits of its predicate say whether the count was met (R113). -/
def State.endWait (s : State) (n : Nat) (c : Core) (p : Nat) (met : Bool) : State :=
  let s := s.setCore n (c.setP p (if met then BitVec.allOnes 64 else 0))
  if met then s else s.lateEvent n

/-- Does a deadline stand at or before the die counter. -/
def State.passed (s : State) (deadline : Option W64) : Bool :=
  match deadline with
  | some t => decide (t ≤ s.now)
  | none => false

/-- WAITC (R113, R147). -/
def execWaitc (n : Nat) (f : CF) (s : State) : Host.Outcome State Fault Refusal :=
  onUnit (n < numCores) (s.runC n f (CF.legal f true true true (decide (f.n.toNat < 8))) fun c =>
    let v := (CF.sum f c).truncate 32
    let dl := if f.b = 0 then none else some (c.sreg f.b.toNat)
    if countMet (c.counter f.cnt.toNat) v then s.endWait n c.nextPc f.n.toNat true
    else if s.passed dl then s.endWait n c.nextPc f.n.toNat false
    else s.setCore n (c.await (.counter f.cnt.toNat v dl f.n.toNat)))

/-- COUNTER_WAIT_RESUME (R113). -/
def execCounterWaitResume (n : Nat) (s : State) : Host.Outcome State Fault Refusal :=
  onUnit (n < numCores)
    (let c := s.coreAt n
     match c.st, c.wait with
     | .waiting, some (.counter k v dl p) =>
       if countMet (c.counter k) v then s.endWait n c.resumed p true
       else if s.passed dl then s.endWait n c.resumed p false
       else s
     | _, _ => s)

/-- SETCNT (R112, R147). -/
def execSetcnt (n : Nat) (f : CF) (s : State) : Host.Outcome State Fault Refusal :=
  onUnit (n < numCores) (s.runC n f (CF.legal f true true false (f.n == 0)) fun c =>
    s.done n (c.setCounter f.cnt.toNat ((CF.sum f c).truncate 32)))

/-- RDCNT (R147). -/
def execRdcnt (n : Nat) (f : RF) (s : State) : Host.Outcome State Fault Refusal :=
  onUnit (n < numCores) (s.runR n f { d := .s, x := true } fun c =>
    s.done n (c.setS f.d.toNat ((c.counter f.x.toNat).zeroExtend 64)))

/-- HALT (R97, R147): at once where nothing is outstanding, else once it is done. -/
def execHalt (n : Nat) (f : RF) (s : State) : Host.Outcome State Fault Refusal :=
  onUnit (n < numCores) (s.runR n f {} fun c =>
    if c.busy then s.done n { c with halting := true } else s.done n { c with st := .halted })

/-! ### Core states -/

/-- CORE_HALTED (R97). -/
def execCoreHalted (n : Nat) (s : State) : Host.Outcome State Fault Refusal :=
  onUnit (n < numCores)
    (let c := s.coreAt n
     if c.halting ∧ c.st = .running ∧ ¬ c.busy then s.setCore n { c with st := .halted, halting := false } else s)

/-- CORE_START (R97). -/
def execCoreStart (n : Nat) (s : State) : Host.Outcome State Fault Refusal :=
  onUnit (n < numCores)
    (if (s.coreAt n).st = .armed ∧ s.reg (A.coreStartCt n) ≤ s.now then s.setCore n { s.coreAt n with st := .running } else s)

/-- CORE_RESET_HOLD (R97, R450): a write of CORE.CTRL, RESET_HOLD as written. -/
def execCoreResetHold (n : Nat) (v : W64) (s : State) : Host.Outcome State Fault Refusal :=
  onUnit (n < numCores) (s.writeCtrl n v)

/-- CORE_FENCE (R97, R450): a write of CORE.CTRL with FENCE 1. -/
def execCoreFence (n : Nat) (v : W64) (s : State) : Host.Outcome State Fault Refusal :=
  onUnit (n < numCores) (s.writeCtrl n (v ||| 4))

/-- CORE_RUN (R97, R450): a write of CORE.CTRL with RUN 1. -/
def execCoreRun (n : Nat) (v : W64) (s : State) : Host.Outcome State Fault Refusal :=
  onUnit (n < numCores) (s.writeCtrl n (v ||| 1))

/-- ADDR of CORE.SWADDR in bytes (R118). -/
def State.swAddr (s : State) (n : Nat) : Nat := s.field (A.coreSwaddr n) 19 3 * 8

/-- ADDR advances by 8 and wraps from 0xB_FFF8 to 0 (R118). -/
def State.swAdvance (s : State) (n : Nat) : State :=
  s.putField (A.coreSwaddr n) 19 3 ((s.swAddr n + 8) % storeSize / 8)

/-- A read of CORE.SWDATA (R118, R119). -/
def State.swRead (s : State) (n : Nat) : State × W64 :=
  (s.swAdvance n, BitVec.ofNat 64 ((s.coreAt n).loadN (s.swAddr n) 8))

/-- A write of CORE.SWDATA (R118, R119). -/
def State.swWrite (s : State) (n : Nat) (v : W64) : State :=
  (s.setCore n ((s.coreAt n).storeN (s.swAddr n) 8 v.toNat)).swAdvance n

/-- SWDATA_ACCESS (R118, R119): in every core state, while the core's domain is up. -/
def execSwdataAccess (n : Nat) (wr : Option W64) (s : State) : Host.Outcome State Fault Refusal :=
  onUnit (n < numCores)
    (if s.coreDom (dieOf n) then
      match wr with
      | some v => s.swWrite n v
      | none => (s.swRead n).1.emit (.softRead (A.coreSwdata n) (s.swRead n).2)
     else s)

end Sys2Proof.Machine
end

