-- ==== Sys2Proof/Machine/Copy.lean ====
section
/-! DEFINITION. The copy engine (R145, R146, R240 to R249): checks, admission, chunks, completion; and the remote copies of a routing. -/
namespace Sys2Proof.Machine

/-! ### The fields of a descriptor (R240) -/

/-- ZSKIP. -/
def descZskip (w : List W64) : Bool := bit (w.getD 0 0) 56
/-- RECORD. -/
def descRecord (w : List W64) : Bool := bit (w.getD 0 0) 55
/-- SIGNAL. -/
def descSignal (w : List W64) : Bool := bit (w.getD 0 0) 54
/-- FMT. -/
def descFmt (w : List W64) : Nat := fld (w.getD 0 0) 53 48
/-- ROP. -/
def descRop (w : List W64) : Nat := fld (w.getD 0 0) 47 46
/-- COEF. -/
def descCoef (w : List W64) : Nat := fld (w.getD 0 0) 43 36
/-- STREAM. -/
def descStream (w : List W64) : Nat := fld (w.getD 0 0) 35 24
/-- DST_CNT. -/
def descDstCnt (w : List W64) : Nat := fld (w.getD 0 0) 23 19
/-- ID. -/
def descId (w : List W64) : Nat := fld (w.getD 0 0) 15 0
/-- SRC_EID. -/
def srcEid (w : List W64) : Nat := fld (w.getD 1 0) 63 48
/-- SRC_KIND. -/
def srcKind (w : List W64) : Nat := fld (w.getD 1 0) 47 46
/-- SRC_ADDR. -/
def srcAddr (w : List W64) : Nat := fld (w.getD 1 0) 44 0
/-- DST_EID. -/
def dstEid (w : List W64) : Nat := fld (w.getD 2 0) 63 48
/-- DST_KIND. -/
def dstKind (w : List W64) : Nat := fld (w.getD 2 0) 47 46
/-- DST_ADDR. -/
def dstAddr (w : List W64) : Nat := fld (w.getD 2 0) 44 0
/-- SRC_STRIDE. -/
def srcStride (w : List W64) : Nat := fld (w.getD 4 0) 63 32
/-- DST_STRIDE. -/
def dstStride (w : List W64) : Nat := fld (w.getD 4 0) 31 0
/-- RECORD_ADDR. -/
def recordAddr (w : List W64) : Nat := fld (w.getD 5 0) 19 0
/-- RVA. -/
def descRva (w : List W64) : Nat := (w.getD 6 0).toNat

/-- A remote address moved on by so many bytes within its space (R222). -/
def remotePlus (a n : Nat) : Nat := a / 2 ^ 40 * 2 ^ 40 + (a % 2 ^ 40 + n) % 2 ^ 40

/-- A chunk of a descriptor: its row, its first byte in the row, its length. -/
def descChunk (w : List W64) (i : Nat) : Nat × Nat × Nat :=
  let per := ceilDiv (descRowBytes w) 256
  let at_ := 256 * (i % per)
  (i / per, at_, min 256 (descRowBytes w - at_))

/-- Source address of a chunk. -/
def chunkSrc (w : List W64) (i : Nat) : Nat :=
  let (r, at_, _) := descChunk w i
  remotePlus (srcAddr w) (r * srcStride w + at_)
/-- Destination address of a chunk. -/
def chunkDst (w : List W64) (i : Nat) : Nat :=
  let (r, at_, _) := descChunk w i
  remotePlus (dstAddr w) (r * dstStride w + at_)
/-- Length of a chunk. -/
def chunkLen (w : List W64) (i : Nat) : Nat := (descChunk w i).2.2

/-! ### Checks at entry (R241, R243) -/

/-- Reserved bits of a remote address are zero (R222). -/
def remoteOk (a : Nat) : Bool := fieldOf a 43 40 == 0 && (fieldOf a 44 44 == 0 || fieldOf a 39 32 == 0)

/-- Reserved bits and values that every descriptor keeps (R240). -/
def descPlain (w : List W64) : Bool :=
  decide (descOp w ≤ 5) && fld (w.getD 0 0) 45 44 == 0 && fld (w.getD 0 0) 18 16 == 0 && fld (w.getD 1 0) 45 45 == 0
    && fld (w.getD 2 0) 45 45 == 0 && fld (w.getD 3 0) 47 24 == 0 && fld (w.getD 5 0) 63 20 == 0 && w.getD 7 0 == 0
    && srcKind w != 3 && decide (dstKind w ≤ 1) && descRowBytes w % 64 == 0 && decide (64 ≤ descRowBytes w)
    && srcStride w % 64 == 0 && dstStride w % 64 == 0 && srcAddr w % 64 == 0 && dstAddr w % 64 == 0
    && (!descRecord w || recordAddr w % 32 == 0)

/-- OP, FMT, ROP and COEF suit each other (R240, R241). -/
def descSuits (w : List W64) : Bool :=
  (if descOp w = 1 then (descFmt w == 0 || descFmt w == 1 || descFmt w == 8) && descRop w != 3 else descFmt w == 0 && descRop w == 0)
    && (if descOp w = 2 then descCoef w != 0 else descCoef w == 0)

/-- The table of R243. -/
def rdmaOk (w : List W64) : Bool :=
  descRva w % 64 == 0 && descStream w == 0 && !descLc w && !descZskip w && !descSignal w
    && (if descOp w = 4 then srcKind w == 0 && srcEid w == 0 && dstKind w == 1 && dstAddr w == 0
        else srcKind w == 1 && srcAddr w == 0 && dstKind w == 0 && dstEid w == 0)

/-- Nothing for which R241 rejects a descriptor of a partition. -/
def State.descAccepted (s : State) (w : List W64) (part : Nat) : Bool :=
  let own := s.topo.ownEid
  descPlain w && descSuits w &&
    (if 4 ≤ descOp w then rdmaOk w
     else decide ((srcKind w = 2) ↔ (descOp w = 3)) && descRva w == 0
      && (srcKind w != 1 || remoteOk (srcAddr w)) && (dstKind w != 1 || remoteOk (dstAddr w))
      && !(srcKind w == 1 && dstKind w == 1 && srcEid w != own && dstEid w != own)
      && (!descSignal w || (dstKind w == 1 && fieldOf (dstAddr w) 44 44 == 1))
      && (descStream w == 0 || s.streamPart (descStream w) == some part))

/-- Rows from an address of the issuing core's store stay below 0xC_0000. -/
def storeRows (w : List W64) (addr stride : Nat) : Bool := decide (addr + (descRows w - 1) * stride + descRowBytes w ≤ storeSize)

/-- Rows of a side that is this module's memory are granted (R241). -/
def State.rowsGranted (s : State) (w : List W64) (part addr stride : Nat) : Bool :=
  fieldOf addr 44 44 == 1 || (List.range (descRows w)).all fun r => s.granted part (addr + r * stride) (descRowBytes w)

/-- A side that is an endpoint: known, and within grants where it is this module. -/
def State.sideOk (s : State) (w : List W64) (part eid addr stride : Nat) : Bool :=
  s.knownEid eid && (eid != s.topo.ownEid || s.rowsGranted w part addr stride)

/-- Nothing for which R241 or R243 completes a descriptor with RANGE. -/
def State.descInRange (s : State) (w : List W64) (part : Nat) : Bool :=
  (!descRecord w || decide (recordAddr w + 32 ≤ storeSize)) &&
    (if 4 ≤ descOp w then
      let n := (descConn w).getD numConns
      let x := s.qpAt n
      decide (n < numConns) && decide (x.st = .ready) && x.part == part
        && (if descOp w = 4 then storeRows w (srcAddr w) (srcStride w) else storeRows w (dstAddr w) (dstStride w))
     else
      (srcKind w != 0 || storeRows w (srcAddr w) (srcStride w)) && (dstKind w != 0 || storeRows w (dstAddr w) (dstStride w))
        && (srcKind w != 1 || s.sideOk w part (srcEid w) (srcAddr w) (srcStride w))
        && (dstKind w != 1 || s.sideOk w part (dstEid w) (dstAddr w) (dstStride w)))

/-- The first granule of a side's rows that is not granted. -/
def State.firstUngranted (s : State) (w : List W64) (part addr stride : Nat) : Option Nat :=
  (List.range (descRows w)).findSome? fun r =>
    if s.granted part (addr + r * stride) (descRowBytes w) then none
    else ((List.range (descRowBytes w / 64)).find? fun g => !s.granted part (addr + r * stride + 64 * g) 64).map fun g =>
      addr + r * stride + 64 * g

/-- The first granule of an endpoint side that fails the range check (R241, R247): of a side with no endpoint entry its first one. -/
def State.sideFails (s : State) (w : List W64) (part eid addr stride : Nat) : Option Nat :=
  if s.sideOk w part eid addr stride then none
  else if !s.knownEid eid then some addr else s.firstUngranted w part addr stride

/-- FAIL_ADDR of a descriptor that completes with RANGE (R247): the first failing granule of its source, else of its destination; zero
where no remote address fails. -/
def State.rangeAddr (s : State) (w : List W64) (part : Nat) : Nat :=
  if 4 ≤ descOp w then 0
  else
    let src := if srcKind w = 1 then s.sideFails w part (srcEid w) (srcAddr w) (srcStride w) else none
    let dst := if dstKind w = 1 then s.sideFails w part (dstEid w) (dstAddr w) (dstStride w) else none
    (src.orElse fun _ => dst).getD 0

/-- A descriptor as it enters: checked, and ended at once where a check fails. -/
def State.newDesc (s : State) (id core : Nat) (cnt : Option Nat) (w : List W64) : Desc :=
  let part := s.corePart core
  let x : Desc :=
    { id := id, core := core, cnt := cnt, words := w, part := part, tag := s.coreTag core, next := 0, given := 0, got := []
      outstanding := 0, status := 0, peer := 0xFFFF, failAddr := 0, bytes := 0, at_ := s.clk }
  if !s.descAccepted w part then x.endWith 1 0xFFFF 0
  else if !s.descInRange w part then x.endWith 2 0xFFFF (s.rangeAddr w part)
  else x

/-- Descriptors enter a die's engine in order (R146). -/
def State.enterDescs (s : State) (core : Nat) (cnt : Option Nat) (l : List (List W64)) : State :=
  let d := dieOf core
  let e := s.copyAt d
  s.setCopy d { descs := e.descs ++ l.zipIdx.map (fun (w, i) => s.newDesc (e.nextId + i) core cnt w), nextId := e.nextId + l.length }

/-! ### COPY (R146, R249) -/

/-- Descriptors of a core's COPY instructions in its die's engine. -/
def State.coreDescs (s : State) (n : Nat) : Nat :=
  ((s.copyAt (dieOf n)).descs.filter fun (x : Desc) => x.core == n && x.cnt.isSome).length

/-- Descriptors that take room in a die's engine: not those of a router. -/
def State.roomUsed (s : State) (d : Nat) : Nat := ((s.copyAt d).descs.filter fun (x : Desc) => x.cnt.isSome).length

/-- A COPY of some core of the die waits. -/
def State.copyWaits (s : State) (d : Nat) : Bool := s.core.any fun e => dieOf e.1 == d && e.2.copyWait.isSome

/-- The descriptors of a COPY, from consecutive lines of the store. -/
def Core.copyLines (c : Core) (a k : Nat) : List (List W64) := (List.range k).map fun i => c.blockWords (a + 64 * i)

/-- COPY (R146, R249): with no room in the engine, or with another core's COPY waiting, it waits; beyond 64 descriptors of its core it
does not issue. -/
def execCopy (n : Nat) (f : CF) (s : State) : Host.Outcome State Fault Refusal :=
  onUnit (n < numCores) (s.runC n f (CF.legal f true true false (decide (f.n.toNat < 16))) fun c =>
    let a := blockAddr c f
    let k := f.n.toNat + 1
    if a % 64 ≠ 0 then s.takeException n .misaligned c.pc
    else if storeSize < a + 64 * k then s.takeException n .storeRange c.pc
    else if 64 < s.coreDescs n + k then s
    else if s.copyWaits (dieOf n) ∨ 4096 < s.roomUsed (dieOf n) + k then
      s.setCore n { c with copyWait := some (f.cnt.toNat, a, k, s.clk) }
    else (s.done n c).enterDescs n (some f.cnt.toNat) (c.copyLines a k))

/-- A waiting COPY comes before another (R18, R249): the older one, then the order of the rotating pointer. -/
def State.copyBefore (s : State) (x y : Nat × Nat) : Bool :=
  decide (x.2 < y.2) || (x.2 == y.2 && decide (rotIndex (x.1 % 640) s.slot 640 ≤ rotIndex (y.1 % 640) s.slot 640))

/-- COPY_ENGINE_ADMIT (R249): the first waiting COPY by the order of R18, when all its descriptors fit. -/
def execCopyEngineAdmit (d n : Nat) (s : State) : Host.Outcome State Fault Refusal :=
  onUnit (d < 4 ∧ n < numCores ∧ dieOf n = d)
    (let c := s.coreAt n
     match c.copyWait with
     | some (cnt, a, k, t) =>
       let first := s.core.all fun e => match e.2.copyWait with
         | some (_, _, _, u) => dieOf e.1 != d || s.copyBefore (n, t) (e.1, u)
         | none => true
       if first ∧ s.roomUsed d + k ≤ 4096 then
         (s.done n { c with copyWait := none }).enterDescs n (some cnt) (c.copyLines a k)
       else s
     | none => s)

/-! ### Chunks (R183, R242 to R245, R248, R215 rule 4) -/

/-- The cache lines of granules that a copy writes in this module's rack go (R215 rule 4). -/
def State.dropWritten (s : State) (d part eid addr len : Nat) : State :=
  match s.posOfEid eid with
  | some p =>
    if fieldOf addr 44 44 = 0 ∧ s.inRack eid then
      (List.range (len / 64)).foldl (fun s i => s.rcDropGran d part ((p.1 * 2 ^ 40 + fieldOf addr 39 0) / 64 + i) none) s
    else s
  | none => s

/-- The packet type and ARG of a descriptor's writes (R256). -/
def descType (w : List W64) : Nat × Nat :=
  if descOp w = 1 then (0x21, descRop w * 64 + descFmt w) else if descOp w = 2 then (0x22, descCoef w) else (0x20, 0)

/-- Zero marks of a chunk (R244, R256): every granule of ZERO, and the zero granules under ZSKIP that are not poison. -/
def zeroMarks (w : List W64) (bs : List Byte) (poison n : Nat) : Nat :=
  (List.range n).foldl (fun m g =>
    let z := (bs.drop (64 * g)).take 64 == zeroGranule && poison / 2 ^ g % 2 == 0
    m + b2n (descOp w == 3 || (descZskip w && z)) * 2 ^ g) 0

/-- A packet that writes a chunk at its destination; the signal goes only while nothing of the descriptor was
refused or carried poison (R246). -/
def chunkPacket (own : Nat) (x : Desc) (i : Nat) (bs : List Byte) (poison : Nat) : Packet :=
  let w := x.words
  let n := chunkLen w i / 64
  let z := zeroMarks w bs poison n
  let payload := (List.range n).flatMap fun g => if z / 2 ^ g % 2 = 1 then [] else (bs.drop (64 * g)).take 64
  let last := decide (i + 1 = descChunks w)
  let q := qMake (dstEid w) own x.tag (descType w).1 (descType w).2 0 (chunkLen w i) (chunkDst w i) payload
  let q := { q with w3 := setFld (setFld q.w3 54 51 z) 50 47 poison }
  qPut1 (qPut1 (qPut1 (qPut1 (qPut1 q 20 20 (b2n (descStream w != 0))) 18 18 (b2n last)) 17 17 (b2n (descSignal w && !x.spoiled))) 16 12 (descDstCnt w))
    11 0 (descStream w)

/-- The request that fetches a chunk. -/
def fetchPacket (own : Nat) (x : Desc) (i : Nat) : Packet :=
  let w := x.words
  let q := qMake (srcEid w) own x.tag 0x23 0 0 (chunkLen w i) (chunkSrc w i) []
  qPut1 (qPut1 (qPut1 q 20 20 (b2n (descStream w != 0))) 18 18 (b2n (decide (i + 1 = descChunks w)))) 11 0 (descStream w)

/-- A request of a descriptor enters the endpoint. -/
def State.sendChunk (s : State) (d : Nat) (x : Desc) (i : Nat) (q : Packet) : State :=
  (s.onDesc d x.id fun y => { y with outstanding := y.outstanding + 1 }).enqueue q x.part x.core (.copy d x.id i)

/-- Deliver a chunk's bytes (R242, R244, R248): into the issuing core's store, or onward to the destination endpoint. -/
def State.deliver (s : State) (d : Nat) (x : Desc) (i : Nat) (bs : List Byte) (poison : Nat) : State :=
  let w := x.words
  let s := if poison = 0 then s
    else
      let g := ((List.range 4).find? fun g => poison / 2 ^ g % 2 == 1).getD 0
      s.onDesc d x.id fun y => y.fail 5 0xFFFF (remotePlus (chunkSrc w i) (64 * g))
  let q := chunkPacket s.topo.ownEid x i bs poison
  if dstKind w = 1 then (s.dropWritten d x.part (dstEid w) (chunkDst w i) (chunkLen w i)).sendChunk d x i q
  else
    let c := s.coreAt x.core
    let st := ((qGranules q).zipIdx).foldl (fun m (g, k) => storeEffect q m (chunkDst w i + 64 * k) g) c.store
    (s.setCore x.core { c with store := st }).onDesc d x.id fun y => { y with bytes := y.bytes + chunkLen w i }

/-- The bytes of a chunk whose source is the issuing core's store or nothing. -/
def State.localChunk (s : State) (x : Desc) (i : Nat) : List Byte :=
  if srcKind x.words = 0 then Memory.bytes (s.coreAt x.core).store (chunkSrc x.words i) (chunkLen x.words i)
  else List.replicate (chunkLen x.words i) 0

/-- A descriptor of an engine. -/
def State.descAt (s : State) (d id : Nat) : Option Desc := (s.copyAt d).descs.find? fun (x : Desc) => x.id == id

/-- Fetched chunks go on in ascending order, those refused at their source left out. -/
def State.passOn : Nat → Nat → Nat → State → State
  | 0, _, _, s => s
  | k + 1, d, id, s =>
    match s.descAt d id with
    | none => s
    | some x =>
      match Tab.find x.got x.given with
      | none => s
      | some g =>
        let s := s.onDesc d id fun y => { y with given := y.given + 1, got := Tab.erase y.got y.given }
        State.passOn k d id (match g with
          | some (bs, poison) => s.deliver d x x.given bs poison
          | none => s)

/-- The next row of an RDMA descriptor (R243). -/
def State.rdmaRow (s : State) (d : Nat) (x : Desc) : State :=
  let w := x.words
  let n := (descConn w).getD 0
  let read := descOp w == 5
  let r : RoceOut :=
    { psn := 0, die := d, id := x.id, core := x.core, read := read
      addr := (if read then dstAddr w + x.next * dstStride w else srcAddr w + x.next * srcStride w)
      rva := descRva w + x.next * (if read then srcStride w else dstStride w), len := descRowBytes w, part := .only }
  let (s, k) := s.sendRow n r
  s.onDesc d x.id fun y => { y with next := y.next + 1, given := y.next + 1, outstanding := y.outstanding + k }

/-- What a descriptor does next (R245): it passes on what it has fetched, then handles its next chunk. -/
def State.descStep (s : State) (d id : Nat) : State :=
  let s := State.passOn 1024 d id s
  match s.descAt d id with
  | none => s
  | some x =>
    if descChunks x.words ≤ x.next then s
    else if 4 ≤ descOp x.words then s.rdmaRow d x
    else if srcKind x.words = 1 then
      (s.onDesc d id fun y => { y with next := y.next + 1 }).sendChunk d x x.next (fetchPacket s.topo.ownEid x x.next)
    else
      (s.onDesc d id fun y => { y with next := y.next + 1, given := y.next + 1 }).deliver d x x.next (s.localChunk x x.next) 0

/-- A descriptor entered before another: the earlier tick, then the die, then the order of the die's engine (R18, R264). -/
def enteredBefore (c d : Nat) (y x : Desc) : Bool :=
  decide (y.at_ < x.at_) || (y.at_ == x.at_ && (decide (c < d) || (c == d && decide (y.id < x.id))))

/-- The descriptors of one core start in entry order (R245), and those of one stream share its slots in entry order (R264): one sends
when the earlier ones have sent all they have, what they fetched first among it. -/
def State.mayStartDesc (s : State) (d : Nat) (x : Desc) : Bool :=
  ((s.copyAt d).descs.all fun (y : Desc) => y.core != x.core || decide (x.id ≤ y.id) || decide (0 < y.next))
    && (descStream x.words == 0 || (List.range 4).all fun c => (s.copyAt c).descs.all fun (y : Desc) =>
      descStream y.words != descStream x.words || !enteredBefore c d y x
        || decide (descChunks y.words ≤ if dstKind y.words = 1 then y.given else y.next))

/-- COPY_PACKET_SEND (R245). -/
def execCopyPacketSend (d id : Nat) (s : State) : Host.Outcome State Fault Refusal :=
  onUnit (d < 4)
    (match s.descAt d id with
     | some x => if s.mayStartDesc d x then s.descStep d id else s
     | none => s)

/-- READ_DATA (R243): the chunk is kept, and what is next in order goes on. -/
def execReadData (q : Packet) (s : State) : Host.Outcome State Fault Refusal :=
  .next (s.reach q (· == 0x33) fun s =>
    match Tab.find (s.srcAt (qSrc q)).answers (qSeq q) with
    | some (.copy d id _, _, _) => State.passOn 1024 d id (s.takeData q)
    | _ => s.takeData q)

/-! ### Completion (R246, R247) -/

/-- The completion record. -/
def State.copyRecord (s : State) (x : Desc) : List W64 :=
  [s.now, BitVec.ofNat 64 (descId x.words * 2 ^ 48 + x.status * 2 ^ 40 + s.time.st.code * 2 ^ 37), BitVec.ofNat 64 x.bytes,
   BitVec.ofNat 64 (x.peer * 2 ^ 48 + x.failAddr % 2 ^ 45)]

/-- The record is written where it asks for one at an address that can hold it. -/
def State.writeRecord (s : State) (x : Desc) : State :=
  let a := recordAddr x.words
  if descRecord x.words ∧ a % 32 = 0 ∧ a + 32 ≤ storeSize then
    let c := s.coreAt x.core
    s.setCore x.core { c with store := Memory.write c.store a (bytesOf (s.copyRecord x)) }
  else s

/-- A routing's copy is complete (R111). -/
def RouteRun.without (r : RouteRun) (id : Nat) : RouteRun := { r with ids := r.ids.filter fun i => i != id }

/-- The completion of a descriptor: record, counter, counts and job fault. -/
def State.completeDesc (s : State) (d : Nat) (x : Desc) : State :=
  let s := s.writeRecord x
  let s := s.setCopy d { s.copyAt d with descs := (s.copyAt d).descs.filter fun (y : Desc) => y.id != x.id }
  let s := s.bump (A.cpyStat d) 63 32 1
  let s := if x.status = 0 then s else s.bump (A.cpyStat d) 31 16 1
  let s := if 3 ≤ x.status then s.jobFault x.core 5 x.part x.tag x.peer x.failAddr x.status else s
  match x.cnt with
  | some i => s.countCore x.core i
  | none =>
    let c := s.coreAt x.core
    s.setCore x.core { c with routeOut := c.routeOut.map fun (r : RouteRun) => r.without x.id }

/-- Everything that a descriptor waits for is done (R246). -/
def Desc.finished (x : Desc) : Bool :=
  decide (descChunks x.words ≤ x.next) && decide (descChunks x.words ≤ x.given) && x.outstanding == 0

/-- COPY_DESCRIPTOR_COMPLETE (R246). -/
def execCopyDescriptorComplete (d id : Nat) (s : State) : Host.Outcome State Fault Refusal :=
  onUnit (d < 4)
    (let s := State.passOn 1024 d id s
     match s.descAt d id with
     | some x => if x.finished then s.completeDesc d x else s
     | none => s)

/-! ### The router's copies (R107, R111, R145) -/

/-- The descriptor of a remote row: dynamic traffic, with the signal to the destination core where the buffer is a core store. -/
def rowDesc (b : RouteBlk) (m : Nat × Nat × Nat × Nat) : List W64 :=
  let (src, eid, addr, cnt) := m
  let inStore := fieldOf addr 44 44
  [BitVec.ofNat 64 (inStore * 2 ^ 54 + (if inStore = 1 then cnt else 0) * 2 ^ 19), BitVec.ofNat 64 src,
   BitVec.ofNat 64 (eid * 2 ^ 48 + 2 ^ 46 + addr), BitVec.ofNat 64 b.rowBytes, 0, 0, 0, 0]

/-- ROUTE_LEAVE (R108 to R111, R145): records, fill counts and local rows are written, the remote copies handed over. -/
def execRouteLeave (n : Nat) (s : State) : Host.Outcome State Fault Refusal :=
  onUnit (n < numCores)
    (let c := s.coreAt n
     match c.route with
     | some r =>
       let o := r.blk.run c.store
       let id0 := (s.copyAt (dieOf n)).nextId
       let out : RouteRun := { r with ids := (List.range o.copies.length).map fun i => id0 + i }
       let s := s.setCore n { c with store := o.store, route := none, routeOut := c.routeOut ++ [out] }
       let s := (s.setFlags n o.flags).enterDescs n none (o.copies.map (rowDesc r.blk))
       ((s.bump (A.routeStat n) 63 32 o.assigned).bump (A.routeStat n) 31 16 o.drops).bump (A.routeStat n) 15 0 o.spills
     | none => s)

/-! ### Teardown (R176, R239) -/

/-- A core belongs to a partition. -/
def State.coresOf (s : State) (k : Nat) : List Nat := (List.range numCores).filter fun n => s.corePart n == k && decide (0 < s.fuse.arrays n)

/-- Steps 2 to 4 of R239 on a die. -/
def State.tearDie (s : State) (k d : Nat) : State :=
  let s := s.setCopy d { s.copyAt d with descs := (s.copyAt d).descs.filter fun (x : Desc) => x.part != k }
  (s.updTeardown d k).rcDropPart d k

/-- Step 5 of R239: what the endpoint holds for the tag goes, and the tag is refused from now on. -/
def State.tearTag (s : State) (tag : Nat) : State :=
  { s with ep := { s.ep with
      torn := if s.ep.torn.contains tag then s.ep.torn else tag :: s.ep.torn
      records := s.ep.records.filter fun (r : ReplyRec) => r.tag != tag
      dst := s.ep.dst.map fun (e : Nat × DstPair) =>
        let left := e.2.reorder.filter fun p => qTag p.2 != tag
        (e.1, { e.2 with
          reorder := left
          waitRec := e.2.waitRec && e.2.expected.any fun v => (Tab.find left v).isSome
          bad := e.2.bad.filter fun m => m / 2 ^ 29 != tag }) } }

/-- A partition's packets that were not sent yet are its descriptors' and cores' work, which is discarded. -/
def State.tearUnsent (s : State) (k : Nat) : State :=
  { s with hub := { s.hub with dynWait := s.hub.dynWait.filter fun (u : Unacked) => u.part != k } }

/-- Teardown of a partition with a tag at its time T (R239, R417). -/
def State.tearDown (s : State) (k tag : Nat) (t : W64) (late : Bool) : State :=
  let s := s.note
    { sev := 1, index := 0, code := 0x2004, p0 := k * 2 ^ 12 + tag, p1 := t.toNat % 2 ^ 32, p2 := t.toNat / 2 ^ 32, late := late }
  let s := (s.coresOf k).foldl (fun s n => s.enterReset n) s
  let s := ((List.range 4).foldl (fun s d => s.tearDie k d) (s.tearUnsent k)).tearTag tag
  let s := s.setReg A.epJobfault (s.reg A.epJobfault &&& ~~~ maskOf k k)
  { s with ep := { s.ep with teardown := Tab.erase s.ep.teardown k } }.pump

/-- TEARDOWN_AT_T (R239). -/
def execTeardownAtT (k : Nat) (s : State) : Host.Outcome State Fault Refusal :=
  onUnit (k < 16)
    (match Tab.find s.ep.teardown k with
     | some (tag, t) => if t ≤ s.now then s.tearDown k tag t false else s
     | none => s)

end Sys2Proof.Machine
end

