-- ==== Sys2Proof/Machine/Router.lean ====
section
/-! DEFINITION. The router (R258 to R285): frames in and out, order and repair of a link, allocation, ejection, scheduled frames, loss and
return of ports, pitches and telemetry. -/
namespace Sys2Proof.Machine

/-! ### Allocation (R265, R270 to R274) -/

/-- Bytes of older request frames that reach ejection in this tick: the oldest is accepted first (R273). -/
def State.olderBytes (s : State) (q : Packet) : Nat :=
  (s.pending.map fun
    | .dataFrame p _ f =>
      if fIntact f && s.isOwn f.q && !isReplyClass (qType f.q) && s.olderFrame (p, f.q) (100, q) then 32 + f.q.payload.length else 0
    | _ => 0).sum

/-- A frame from an external endpoint's port carries another source (R402). -/
def State.spoofed (s : State) (p : Nat) (q : Packet) : Bool :=
  match s.externalAt p with
  | some e => qSrc q != e
  | none => false

/-- The place of a scheduled transit frame (R265): the port of its stage and the slot in which it may leave first; `none`: it is demoted. -/
def State.stageOf (s : State) (q : Packet) : Option (Nat × Nat) :=
  match s.preferred (qDest q) with
  | none => none
  | some p =>
    let x := s.portAt p
    let room := decide (x.staged + qFlits q ≤ 2 * 25 * (fullLanes p - 1))
    (if s.portUp p && !s.detoured p && s.schedOk && room then s.stageSlot p (qStream q) else none).map fun n => (p, n)

/-- A packet that a port delivers contends for the outputs (R265, R270, R273): one in transit, a scheduled one if it is demoted, and a
request of this module that the inbound buffer has no room for. -/
def State.contends (s : State) (p : Nat) (q : Packet) : Bool :=
  qIntact q && qValid q && !s.spoofed p q && !s.tooOld q &&
    (if s.isOwn q then !isReplyClass (qType q) && !s.inboundRoom q (s.olderBytes q) else !qSched q || (s.stageOf q).isNone)

/-- Frames that have come into order, from a sequence on. -/
def inOrderFrom : Nat → Nat → Tab Packet → List Packet
  | 0, _, _ => []
  | n + 1, v, t => match Tab.find t v with
    | some q => q :: inOrderFrom n ((v + 1) % 2 ^ 16) t
    | none => []

/-- The packets that a port still delivers in this tick: the frames whose commands wait in the queue, which empties before time moves on,
with those held for them (R261). -/
def State.delivers (s : State) (p : Nat) : List Packet :=
  let x := s.portAt p
  let t := s.pending.foldl (fun t i => match i with
    | .dataFrame r l f => if r = p ∧ x.rxLanes.getLsbD l ∧ frameClean f ∧ fIntact f ∧ fValid f then Tab.put t (fSeq f) f.q else t
    | _ => t) x.held
  inOrderFrom t.length x.rxSeq t

/-- Ports with frames whose commands wait. -/
def State.busyPorts (s : State) : List Nat :=
  s.pending.foldl (fun l i => match i with
    | .dataFrame p _ _ => if l.contains p then l else p :: l
    | _ => l) []

/-- Transit frames that reach the router in this tick and are still to be served. -/
def State.transitPending (s : State) : List Contender :=
  s.busyPorts.flatMap fun p => ((s.delivers p).filter fun q => s.contends p q).map fun q => (p, q)

/-- Injection of a requester's frame (R270, R271): behind the older frames that contend in this tick, and only while more outputs are free
than transit frames contend, a transit frame that is being placed among them. -/
def State.inject (s : State) (i : Nat) (e : Contender) (q : Packet) (beside : List Contender := []) : State :=
  let transit := beside ++ s.transitPending
  let claimed := s.claimedBy (i, q) (transit ++ s.injectHeads.filter fun y => y.1 != i)
  match (if transit.length < s.freeOutputs q then s.allocate claimed q else none) with
  | some v => (({ s with hub := { s.hub with inject := s.hub.inject.erase e } }.leaving i q).1.countBusy claimed q).sendData v q false
  | none => s.countBusy claimed q

/-- Injection heads that are older than a transit frame are served before it (R270, R271); the frame is one of those that contend. -/
def State.injectOlder (s : State) (from_ : Nat) (q : Packet) : State :=
  let heads := s.injectHeads.filter fun y => s.olderFrame y (from_, q) && !s.isOwn y.2 && s.knownEid (qDest y.2)
  (heads.foldr s.insertFrame []).foldl (fun s y =>
    match s.hub.inject.find? fun e => e.1 == y.1 with
    | some e => if qSched e.2 then s else s.inject y.1 e y.2 [(from_, q)]
    | none => s) s

/-- Place a transit frame, which must leave (R270 to R272): behind the older frames that contend in this tick, injected ones among them. -/
def State.place1 (s : State) (q : Packet) (from_ : Nat) : State :=
  let s := s.injectOlder from_ q
  let claimed := s.claimedBy (from_, q) s.transitPending
  let s := s.countBusy claimed q
  match s.allocate claimed q with
  | some v => s.sendData v q true
  | none => s.noRoute (some from_)

/-- A request that the inbound buffer has no room for leaves by a traverse (R273). -/
def State.traverse (s : State) (q : Packet) (from_ : Option Nat) : State :=
  match (s.traverseOrder q).find? fun p => s.takes p q with
  | some p => s.sendData ⟨p, false, true⟩ q from_.isSome
  | none => s.noRoute from_

/-- Ejection (R273, R274): the age is checked again. TOPO_CHUNK comes only from the trained neighbour (R326). -/
def State.eject (s : State) (q : Packet) (from_ : Option Nat) : State :=
  if s.tooOld q then s.lifetime from_
  else if isReplyClass (qType q) || s.inboundRoom q (s.olderBytes q) then { s with hub := { s.hub with inbound := s.hub.inbound ++ [q] } }
  else s.traverse q from_

/-- A scheduled transit frame goes to the stage of its preferred output, or is demoted (R265). -/
def State.stageFrame (s : State) (q : Packet) (from_ : Nat) : State :=
  match s.stageOf q with
  | some (p, n) => let x := s.portAt p; s.setPort p { x with stage := x.stage ++ [⟨q, n, s.stageLast, from_⟩] }
  | none => (match s.preferred (qDest q) with
    | some p => s.countDemoted p
    | none => s).place1 (qDemote q) from_

/-- A packet that a port has delivered in order (R258, R262, R269, R274). -/
def State.arrivePacket (s : State) (p : Nat) (q : Packet) : State :=
  if q.bad || !qIntact q then s.bump A.drops 31 16 1
  else if !qValid q then s.bump A.drops 15 0 1
  else if s.spoofed p q then
    ((s.bump A.secCounts 47 32 1).setBit A.secEvents 6).note { sev := 2, index := p, code := 0xB007, p0 := qSrc q }
  else if s.tooOld q then s.lifetime (some p)
  else if s.isOwn q then s.eject q (some p)
  else if qSched q then s.stageFrame q p
  else s.place1 q p

/-! ### Link frames (R259 to R262) -/

/-- A good frame keeps its lane live (R260). -/
def State.laneGood (s : State) (p l : Nat) : State :=
  let x := s.portAt p
  s.setPort p { x with lastGood := Tab.put x.lastGood l s.ct }

/-- FACK frees the belay buffer up to the frame it names (R262). -/
def State.freeBelay (s : State) (p ack : Nat) : State :=
  let x := s.portAt p
  match x.belay with
  | [] => s
  | b :: _ =>
    let n := (ack + 2 ^ 16 + 1 - b.fseq) % 2 ^ 16
    if x.belay.length < n then s else s.setPort p { x with belay := x.belay.drop n }

/-- The codewords that end on a lane (R292): corrected symbols and uncorrectable codewords count in PERRq of its position. -/
def State.countPosWords (s : State) (q : Nat) (errs : List Nat) : State :=
  let fixed := (errs.filter fun e => !cwBad e).foldl (· + ·) 0
  let bad := (errs.filter cwBad).length
  let s := if fixed = 0 then s else s.bumpKi (A.perr q) 63 32 fixed
  if bad = 0 then s else s.bump (A.perr q) 31 16 bad

/-- The codewords that end on a lane of a port: the lane keeps the uncorrectable ones of the last 1 ms (R293). -/
def State.countCodewords (s : State) (p l : Nat) (errs : List Nat) : State :=
  let bad := (errs.filter cwBad).length
  let s := s.countPosWords (s.posServing p) errs
  if bad = 0 then s
  else
    let x := s.portAt p
    let times := (List.replicate bad s.clk ++ Tab.get [] x.fecBad l).filter fun t => decide (s.clk < t + ms1)
    s.setPort p { x with fecBad := Tab.put x.fecBad l times }

/-- A frame as received on a lane of a port: its codewords, CRC and reserved fields (R13, R259, R261, R292). `none`: discarded. -/
def State.receiveFrame (s : State) (p l : Nat) (f : Frame) (type : Nat) : Option State × State :=
  if !s.portUp p || !(s.portAt p).rxLanes.getLsbD l then (none, s)
  else if !frameClean f || !fIntact f then (none, (s.countCodewords p l f.errs).bump (A.pcnt p) 31 16 1)
  else
    let s := s.countCodewords p l f.errs
    let s := s.laneGood p l
    if !fValid f then (none, s.bump A.drops 15 0 1)
    else if fType f ≠ type then (none, s)
    else (some (s.freeBelay p (fAck f)), s)

/-- A CONTROL frame as received on a lane of a trained port: its CRC and reserved fields, the lane and the belay buffer (R13, R259,
R260, R262). `none`: discarded. -/
def State.receiveCtl (s : State) (p l : Nat) (f : CtlFrame) (ctype : Nat) : Option State × State :=
  if !s.portUp p || !(s.portAt p).rxLanes.getLsbD l then (none, s)
  else if !ctlClean f || !cfIntact f then (none, (s.countCodewords p l f.errs).bump (A.pcnt p) 31 16 1)
  else
    let s := s.countCodewords p l f.errs
    let s := s.laneGood p l
    if !cfValid f then (none, s.bump A.drops 15 0 1)
    else if cfType f ≠ ctype then (none, s)
    else (some (s.freeBelay p (cfAck f)), s)

/-! ### Time frames (R32, R33) -/

/-- The body of a time frame (R32). The fine part of the model's own sending time is a free value (log 19); the ECHO fields hold zeros
before any frame of the peer has arrived (DESIGN CHOICE, log 106). -/
def State.timeBody (s : State) (p : Nat) : Words4 :=
  let nb := s.nbrAt p
  let t := s.time
  let w3 := t.rootEid % 2 ^ 16 * 2 ^ 48 + t.rootGen % 256 * 2 ^ 40 + t.rootPrio % 4 * 2 ^ 38 + t.hops % 4 * 2 ^ 36
    + s.advertised.code * 2 ^ 33 + b2n t.untraceable * 2 ^ 32 + s.freeW.toNat % 16 * 2 ^ 28 + nb.txFine * 2 ^ 24 + nb.rxFine * 2 ^ 20
    + nb.nextSeq * 2 ^ 8 + nb.seq
  ⟨t.counter, nb.txTicks, nb.rxTicks, BitVec.ofNat 64 w3⟩

/-- The period of 256 slots that the hub counter stands in (R32). -/
def State.timePeriod (s : State) : Nat := s.slot / 256

/-- Send a time frame on a lane (R32). -/
def State.sendTimeFrame (s : State) (p l : Nat) : State :=
  let nb := s.nbrAt p
  (((s.setNbr p { nb with
      nextSeq := (nb.nextSeq + 1) % 256, sentIn := some s.timePeriod
      sent := (nb.nextSeq, s.clk) :: nb.sent.filter fun e => s.clk ≤ e.2 + ms1 }).useFree).sendControl p (s.posServing p) l 0 (s.timeBody p))

/-- TIME_FRAME_SEND (R32): on the lowest-numbered working lane once that is free, one frame in every 256 slots. -/
def execTimeFrameSend (p : Nat) (s : State) : Host.Outcome State Fault Refusal :=
  onUnit (p < numPorts)
    (match s.lowLane p with
     | some l =>
       if s.portUp p ∧ (s.nbrAt p).sentIn ≠ some s.timePeriod ∧ Tab.get 0 (s.portAt p).laneFree l ≤ 25 * s.clk then s.sendTimeFrame p l
       else s
     | none => s)

/-- TIME_FRAME_RECEIVE (R33). -/
def execTimeFrameReceive (p l : Nat) (f : CtlFrame) (fine : BitVec 4) (s : State) : Host.Outcome State Fault Refusal :=
  onUnit (p < numPorts ∧ l < fullLanes p)
    (match s.receiveCtl p l f 0 with
     | (some s, _) => s.timeFrame p f.body fine
     | (none, s) => s)

/-! ### Order and repair of a link (R261) -/

/-- Deliver held frames that have come into order. -/
def State.inOrder : Nat → Nat → State → State
  | 0, _, s => s
  | n + 1, p, s =>
    let x := s.portAt p
    match Tab.find x.held x.rxSeq with
    | none => s
    | some q =>
      let left := Tab.erase x.held x.rxSeq
      State.inOrder n p ((s.setPort p { x with
        rxSeq := (x.rxSeq + 1) % 2 ^ 16, held := left, gapAt := if left.isEmpty then none else x.gapAt }).arrivePacket p q)

/-- A DATA frame (R259, R261): in order it goes on, ahead of a missing one it is held in one of 32 places, else it is one received
already. Of the held ones some may be lost to an uncorrectable word (R262). -/
def State.takeData1 (s : State) (p : Nat) (f : Frame) : State :=
  let x := s.portAt p
  let n := (fSeq f + 2 ^ 16 - x.rxSeq) % 2 ^ 16
  let x := { x with held := x.held.map fun (e : Nat × Packet) => if f.lost.contains e.1 then (e.1, { e.2 with bad := true }) else e }
  if n = 0 then State.inOrder 33 p (s.setPort p { x with held := Tab.put x.held (fSeq f) f.q })
  else if n < 2 ^ 15 ∧ (x.held.length < 32 ∨ (Tab.find x.held (fSeq f)).isSome) then
    s.setPort p { x with held := Tab.put x.held (fSeq f) f.q, gapAt := some (x.gapAt.getD s.clk) }
  else s

/-- DATA_FRAME (R270). -/
def execDataFrame (p l : Nat) (f : Frame) (s : State) : Host.Outcome State Fault Refusal :=
  onUnit (p < numPorts ∧ l < fullLanes p)
    (match s.receiveFrame p l f 1 with
     | (some s, _) => s.takeData1 p f
     | (none, s) => s)

/-- IDLE (R260). -/
def execIdle (p l : Nat) (f : Frame) (s : State) : Host.Outcome State Fault Refusal :=
  onUnit (p < numPorts ∧ l < fullLanes p)
    (match s.receiveFrame p l f 0 with
     | (some s, _) => s
     | (none, s) => s)

/-- Lanes that a port drives: its working set, or in training and while it sends BAR all its lanes (R306, R312); of an UP port also those
that are out of the set and not DOWN or retired, on which the peer's receiver qualifies (R296, R297). -/
def State.drivenLanes (s : State) (p : Nat) : BitVec 8 :=
  let x := s.portAt p
  let q := s.posServing p
  let out := (List.range (fullLanes p)).foldl (fun m l =>
    let st := (Tab.get Lane.init s.opt.lane ((q * 8 + l) * 2)).st
    m + b2n (st == .locking || st == .recal) * 2 ^ l) 0
  if x.st = .up then x.txLanes ||| BitVec.ofNat 8 out
  else if x.st = .training ∨ x.st = .barred then BitVec.ofNat 8 (2 ^ fullLanes p - 1) else 0

/-- IDLE_SEND (R260, R306): a lane that a port in training or UP drives, which is free and has sent nothing for 100 ns. -/
def execIdleSend (p l : Nat) (s : State) : Host.Outcome State Fault Refusal :=
  onUnit (p < numPorts ∧ l < fullLanes p)
    (let x := s.portAt p
     if (s.portUp p ∧ x.txLanes.getLsbD l ∨ x.st = .training) ∧ Tab.get 0 x.laneFree l ≤ 25 * s.clk then
       (s.useLane p l 1).emit (.frame p l (frameOf 0 0 x.fack noPacket))
     else s)

/-- Belay frames with an uncorrectable word are discarded and counted (R262). -/
def State.losingBelay (s : State) (p : Nat) (bad : List Nat) : State :=
  let x := s.portAt p
  let kept := x.belay.filter fun b => !bad.contains b.fseq
  (s.setPort p { x with belay := kept }).bump A.drops 31 16 (x.belay.length - kept.length)

/-- Resend the belay buffer in order, each frame on the lane that frees first (R261). -/
def State.resendBelay (s : State) (p : Nat) : State :=
  (s.portAt p).belay.foldl (fun s b =>
    let x := s.portAt p
    let l := (List.range 8).foldl (fun (m : Option Nat) l =>
      if x.txLanes.getLsbD l then
        match m with
        | some k => if Tab.get 0 x.laneFree l < Tab.get 0 x.laneFree k then some l else m
        | none => some l
      else m) none
    match l with
    | none => s
    | some l =>
      let t := max (25 * s.clk) (Tab.get 0 x.laneFree l) + 128 * b.flits
      let s := s.setPort p { x with
        laneFree := Tab.put x.laneFree l t, lastSent := Tab.put x.lastSent l s.clk
        tel := { x.tel with retx := x.tel.retx + 1, dyn := x.tel.dyn + b.flits } }
      (s.bump (A.pcnt p) 47 32 1).emit (.frame p l (frameOf 1 b.fseq x.fack b.q))) s

/-- NAK (R261): its FACK frees what was received, the rest is resent, but for frames of the sequences `bad`, which an uncorrectable word of
the belay buffer has spoilt (R262). -/
def execNak (p l : Nat) (f : Frame) (bad : List Nat) (s : State) : Host.Outcome State Fault Refusal :=
  onUnit (p < numPorts ∧ l < fullLanes p)
    (match s.receiveFrame p l f 3 with
     | (some s, _) => (s.losingBelay p bad).resendBelay p
     | (none, s) => s)

/-- REORDER_GAP_TIMEOUT (R261): 200 ns, or 32 frames held; the NAK names the last frame received in order. -/
def execReorderGapTimeout (p : Nat) (s : State) : Host.Outcome State Fault Refusal :=
  onUnit (p < numPorts)
    (let x := s.portAt p
     match x.gapAt, s.freeLane p with
     | some t, some l =>
       if s.portUp p ∧ (t + 400 ≤ s.clk ∨ 32 ≤ x.held.length) then
         ((s.setPort p { x with gapAt := some s.clk }).useLane p l 1).emit (.frame p l (frameOf 3 0 x.fack noPacket))
       else s
     | _, _ => s)

/-! ### Injection (R267, R271) -/

/-- A frame of the endpoint that waits for its own slot (R264, R265). -/
def State.waitsForSlot (s : State) (q : Packet) : Bool := qSched q && !s.mustDemote q

/-- A frame leaves the injection queue with its packet lost: an uncorrectable word of a hub buffer, or a failed header check (R258,
R262). -/
def State.loseInjected (s : State) (e : Contender) : State :=
  ({ s with hub := { s.hub with inject := s.hub.inject.erase e } }.bump A.drops 31 16 1)

/-- FRAME_INJECT (R271): the first frame of a requester, when an output that it may use is free; a scheduled one that may not wait for
its slot goes demoted (R282). One whose destination has no entry any more is discarded as one without a route (R223, log 121).
`bad`: its hub buffer gives an uncorrectable word (R262). -/
def execFrameInject (i : Nat) (bad : Bool) (s : State) : Host.Outcome State Fault Refusal :=
  onUnit (93 ≤ i ∧ i < 100)
    (match s.hub.inject.find? fun e => e.1 == i && !s.waitsForSlot e.2 with
     | some e =>
       let q := (s.leaving i (qDemote e.2)).2
       let gone := { s with hub := { s.hub with inject := s.hub.inject.erase e } }
       if bad || !qIntact q then s.loseInjected e
       else if s.isOwn q then (gone.leaving i q).1.eject q none
       else if !s.knownEid (qDest q) then gone.noRoute none
       else
         let t := s.inject i e q
         match (if qSched e.2 && !t.hub.inject.contains e then s.preferred (qDest q) else none) with
         | some p => t.countDemoted p
         | none => t
     | none => s)

/-! ### Scheduled frames (R264 to R266) -/

/-- Staged frames that have not left in the slots that begin within 128 ns of their arrival, or that may no longer go as scheduled, are
demoted and placed at once (R265, R283); an uncorrectable word loses the first of them (R262). -/
def State.demoteStaged (s : State) (p : Nat) (lost : Bool) : State :=
  let x := s.portAt p
  let late := fun (e : Staged) => decide (e.last < s.slot) || !s.schedOk || !s.portUp p
  let s := s.setPort p { x with stage := x.stage.filter fun e => !late e }
  (x.stage.filter late).zipIdx.foldl (fun s (e, i) =>
    if lost && i == 0 then s.bump A.drops 31 16 1 else (s.countDemoted p).place1 (qDemote e.q) e.from_) s

/-- A frame fits what is left of the running slot and a lane. -/
def State.slotFits (s : State) (p : Nat) (q : Packet) : Bool :=
  let (st, n) := s.slotOf p s.slot
  st != 0 && qStream q == st && decide (s.slotUsed p + qFlits q ≤ n) && s.takes p q

/-- Send a scheduled frame in the running slot. -/
def State.sendInSlot (s : State) (p : Nat) (q : Packet) (transit : Bool) : State :=
  let n := s.slotUsed p + qFlits q
  let s := s.sendData ⟨p, false, false⟩ q transit
  s.setPort p { s.portAt p with slotSent := n, slotNum := s.slot }

/-- The first waiting request of this module that may go on a port in the running slot (R229, R264). -/
def State.localScheduled (s : State) (p : Nat) : Option Unacked :=
  (s.hub.dynWait.zipIdx.find? fun (u, i) =>
    qSched u.q && s.preferred (qDest u.q) == some p && s.slotFits p u.q && s.pairOpen (qDest u.q)
      && (s.hub.dynWait.take i).all fun w => qDest w.q != qDest u.q).map Prod.fst

/-- SCHEDULED_FRAME_SEND (R264 to R266): a staged transit frame, a frame of this module sent again, or its next request of the stream.
`bad`: the hub buffer of the frame that leaves, or is demoted first, gives an uncorrectable word (R262). -/
def execScheduledFrameSend (p : Nat) (bad : Bool) (s : State) : Host.Outcome State Fault Refusal :=
  onUnit (p < numPorts)
    (let late := (s.portAt p).stage.any fun e => decide (e.last < s.slot) || !s.schedOk || !s.portUp p
     let s := s.demoteStaged p bad
     let bad := bad && !late
     if !s.schedOk || !s.portUp p || s.detoured p then s
     else
       let x := s.portAt p
       match x.stage.find? fun e => decide (e.slot ≤ s.slot) && s.slotFits p e.q with
       | some e =>
         let s := s.setPort p { x with stage := x.stage.erase e }
         if bad then s.bump A.drops 31 16 1 else s.sendInSlot p e.q true
       | none =>
         match s.hub.inject.find? fun e => qSched e.2 && s.preferred (qDest e.2) == some p && s.slotFits p e.2 with
         | some e =>
           if bad then s.loseInjected e
           else
             let (s, q) := { s with hub := { s.hub with inject := s.hub.inject.erase e } }.leaving e.1 e.2
             s.sendInSlot p q false
         | none =>
           match s.localScheduled p with
           | some u =>
             let s := { s with hub := { s.hub with dynWait := s.hub.dynWait.erase u } }
             let (s, q) := s.launch u false
             let (s, q) := s.leaving (93 + u.die) q
             if bad then s.bump A.drops 31 16 1 else s.sendInSlot p q false
           | none => s)

/-! ### Loss and return of a port (R260, R278 to R281) -/

/-- A port is declared LOST (R278): event, record and datagram; its staged frames are demoted and placed at once (R265); its lane changes
fall; the time parent goes with it (R30). -/
def State.declareLost (s : State) (p : Nat) : State :=
  let s := s.accrue p
  let x := s.portAt p
  let s := s.setPort p { x with
    st := .lost, lostAt := some s.ct, upAt := none, txLanes := 0, rxLanes := 0, held := [], gapAt := none
    stage := [], tel := { x.tel with lanesMin := 0 } }
  let s := { s with opt := { s.opt with change := s.opt.change.filter fun (c : LaneChange) => c.port != p } }
  let s := (s.setBit A.hubEvents 0).report { sev := 2, index := p, code := 0x3001, p0 := x.peerEid, p1 := x.belay.length }
  (x.stage.foldl (fun s e => (s.countDemoted p).place1 (qDemote e.q) e.from_) s).evalTime

/-- No good frame on any lane for 1 µs. -/
def State.silent (s : State) (p : Nat) : Bool :=
  (List.range (fullLanes p)).all fun l => decide (Tab.get 0 (s.portAt p).lastGood l + 2000 ≤ s.ct)

/-- PORT_LOST (R260, R278). -/
def execPortLost (p : Nat) (s : State) : Host.Outcome State Fault Refusal :=
  onUnit (p < numPorts) (if s.portUp p ∧ s.silent p then s.declareLost p else s)

/-- A LOST port's detour entry comes into use (R278, R279); requests of waiting streams go demoted (R266). -/
def State.applyDetour (s : State) (p : Nat) : State :=
  let x := s.portAt p
  if x.st ≠ .up ∧ x.lostAt.isSome ∧ !x.detour then (s.setPort p { x with detour := true }).pump else s

/-- DETOUR_APPLY (R278, R279): within 2 µs of the declaration. -/
def execDetourApply (p : Nat) (s : State) : Host.Outcome State Fault Refusal := onUnit (p < numPorts) (s.applyDetour p)

/-- Detours that no DETOUR_APPLY has brought into use 2 µs after the loss come into use (R45, R278). -/
def State.detoursDue (s : State) : State :=
  s.hub.port.foldl (fun s e => if e.2.lostAt.any (fun t => decide (t + 4000 ≤ s.ct)) then s.applyDetour e.1 else s) s

/-- BELAY_REINJECT (R280): through requester 99, in FSEQ order, SCHED cleared; frames of the sequences `bad` are lost to an uncorrectable
word of the belay buffer (R262). -/
def execBelayReinject (p : Nat) (bad : List Nat) (s : State) : Host.Outcome State Fault Refusal :=
  onUnit (p < numPorts)
    (let x := s.portAt p
     if x.st ≠ .up ∧ x.lostAt.isSome then
       let t := s.losingBelay p bad
       let kept := (t.portAt p).belay
       let t := t.setPort p { t.portAt p with belay := [] }
       { t with hub := { t.hub with inject := t.hub.inject ++ kept.map fun b => (99, qDemote b.q) } }
     else s)

/-- DETOUR_RELEASE (R281): the first pitch boundary at least 1 ms after the return. -/
def execDetourRelease (p : Nat) (s : State) : Host.Outcome State Fault Refusal :=
  onUnit (p < numPorts)
    (let x := s.portAt p
     match x.upAt with
     | some t =>
       if x.st = .up ∧ x.detour ∧ t + ms1 ≤ s.clk ∧ s.atPitch then
         ((s.setPort p { x with detour := false }).setBit A.hubEvents 1).note { sev := 1, index := p, code := 0x3002, p0 := x.peerEid }
       else s
     | none => s)

/-! ### Pitches and telemetry (R266, R267, R284, R285) -/

/-- Set every budget to its field (R267). -/
def State.resetBudgets (s : State) : State :=
  { s with hub := { s.hub with budget := (List.range 51).foldl (fun t i =>
      Tab.put t i (s.budgetField (i / 3) (i % 3))) s.hub.budget } }

/-- A schedule that has been activated and waits in the inactive bank becomes the active one (R27, R266): at once with the pitch unchanged,
else at a slot that is a multiple of the old and the new pitch. -/
def State.switchBank (s : State) : State :=
  match s.hub.bankWait with
  | some l =>
    if l = s.hub.log2P ∨ (s.atPitch ∧ s.slot % 2 ^ l = 0) then { s with hub := { s.hub with bank := 1 - s.hub.bank, log2P := l, bankWait := none } } else s
  | none => s

/-- The counts of the next map start. -/
def State.freshTel (s : State) (p : Nat) : State :=
  let x := s.portAt p
  s.setPort p { x with tel := { TelPort.init with
    capSlot := s.slot, lanesMin := laneCount x.txLanes, belayPeak := ceilDiv x.belayBytes 1024 } }

/-- The next map starts at the boundary, or now where the counter stands at none; EVERY takes effect (R284, R285). -/
def State.startMap (s : State) : State :=
  let s := (List.range numPorts).foldl (fun s p => s.freshTel p) s
  { s with hub := { s.hub with mapStart := s.pitchAt.getD s.now, mapPitches := 0, mapEvery := s.field A.telCfg 3 0 } }

/-- PITCH_BOUNDARY (R266, R267, R284): a waiting bank, budgets, and one more pitch in the running map; while no maps are made the next
one starts anew. -/
def execPitchBoundary (s : State) : Host.Outcome State Fault Refusal :=
  .next (if s.dom.hub ∧ s.atPitch ∧ s.hub.pitchDone ≠ s.pitchAt then
    let s := { s with hub := { s.hub with pitchDone := s.pitchAt } }
    let s := s.switchBank.resetBudgets
    if s.field A.telCfg 63 63 = 1 then { s with hub := { s.hub with mapPitches := s.hub.mapPitches + 1 } } else s.startMap
  else s)

/-- PSTAT.STATE (R285). -/
def PortSt.code : PortSt → Nat
  | .down => 0
  | .training => 1
  | .up => 2
  | .lost => 3
  | .barred => 4
  | .held => 5

/-- A map's four words for a port (R284). -/
def State.mapPort (s : State) (p : Nat) : List W64 :=
  let x := (s.accrue p).portAt p
  let t := x.tel
  let w32 := fun n => min n 0xFFFFFFFF
  let w16 := fun n => min n 0xFFFF
  [BitVec.ofNat 64 (w32 t.sched * 2 ^ 32 + w32 t.dyn),
   BitVec.ofNat 64 (w32 (t.cap - t.sched - t.dyn) * 2 ^ 32 + w32 t.fwd),
   BitVec.ofNat 64 (w16 t.trav * 2 ^ 48 + w16 t.demoted * 2 ^ 32 + w16 t.drops * 2 ^ 16 + w16 t.belayPeak),
   BitVec.ofNat 64 (t.lanesMin * 2 ^ 56 + x.st.code * 2 ^ 53 + w16 t.retx * 2 ^ 32 + w32 t.busy)]

/-- A map as it closes; MAP_SEQ counts it (log 103). -/
def State.mapWords (s : State) : List W64 :=
  [s.hub.mapStart,
   BitVec.ofNat 64 (s.topo.ownEid * 2 ^ 48 + s.time.st.code * 2 ^ 45 + s.hub.log2P * 2 ^ 40 + s.hub.mapEvery * 2 ^ 36),
   BitVec.ofNat 64 (s.hub.mapSeq + 1), 0, 0, 0, 0, 0] ++ (List.range numPorts).flatMap s.mapPort

/-- The EXPORT datagrams of a map (R284, R346). -/
def State.exportMap (s : State) (ws : List W64) : State :=
  let to_ := (List.range 2).filter fun k => s.field (A.evCfg k) 63 63 == 1
  if s.field A.telCfg 62 62 = 1 then { s with eth := { s.eth with telOut := s.eth.telOut ++ to_.map fun k => (k, ws) } } else s

/-- A closed map goes into the ring of 64; one overwritten unread sets TEL_WRAP. -/
def State.keepMap (s : State) (ws : List W64) : State :=
  let i := (s.hub.mapSeq) % 64
  let unread := match Tab.find s.hub.maps i with
    | some m => !m.touched
    | none => false
  let s := if unread then s.setBit A.hubEvents 5 else s
  { s with hub := { s.hub with maps := Tab.put s.hub.maps i ⟨ws, false⟩, newest := i, mapSeq := s.hub.mapSeq + 1 } }

/-- TELEMETRY_MAP_CLOSE (R284): at every 2^EVERY-th pitch boundary while EN is 1. -/
def execTelemetryMapClose (s : State) : Host.Outcome State Fault Refusal :=
  .next (if s.dom.hub ∧ s.field A.telCfg 63 63 = 1 ∧ s.atPitch ∧ 2 ^ s.hub.mapEvery ≤ s.hub.mapPitches then
    let ws := s.mapWords
    ((s.keepMap ws).exportMap ws).startMap
  else s)

/-- The selected word of a map (R285). -/
def State.telWord (s : State) : W64 :=
  match Tab.find s.hub.maps (s.field A.telSel 15 10) with
  | some m => m.words.getD (s.field A.telSel 8 0) 0
  | none => 0

/-- A read of HUB.TEL_DATA: the map counts as read, and WORD advances, from 379 to 0. -/
def State.readTel (s : State) : State × W64 :=
  let i := s.field A.telSel 15 10
  let w := s.field A.telSel 8 0
  let v := s.telWord
  let s := match Tab.find s.hub.maps i with
    | some m => { s with hub := { s.hub with maps := Tab.put s.hub.maps i { m with touched := true } } }
    | none => s
  (s.putField A.telSel 8 0 (if w = 379 then 0 else w + 1), v)

/-- TEL_DATA_READ (R285). -/
def execTelDataRead (s : State) : Host.Outcome State Fault Refusal :=
  .next (if s.dom.hub then
    let (s, v) := s.readTel
    s.emit (.softRead A.telData v)
  else s)

end Sys2Proof.Machine
end

