-- ==== Sys2Proof/Machine/Hash.lean ====
section
/-! DEFINITION. The hash functions that R338, R380, R383 and R394 name: the Keccak functions of FIPS 202 and SP 800-185, and SHA-512 of FIPS
180-4 (which Ed25519 uses). The spec names these standards and does not restate them (log 13). -/
namespace Sys2Proof.Machine

/-! ### Keccak-p[1600, 24] -/

/-- The round constants of Keccak. -/
def keccakRounds : List W64 :=
  [0x0000000000000001, 0x0000000000008082, 0x800000000000808A, 0x8000000080008000, 0x000000000000808B, 0x0000000080000001]
  ++ [0x8000000080008081, 0x8000000000008009, 0x000000000000008A, 0x0000000000000088, 0x0000000080008009, 0x000000008000000A]
  ++ [0x000000008000808B, 0x800000000000008B, 0x8000000000008089, 0x8000000000008003, 0x8000000000008002, 0x8000000000000080]
  ++ [0x000000000000800A, 0x800000008000000A, 0x8000000080008081, 0x8000000000008080, 0x0000000080000001, 0x8000000080008008]

/-- How far each lane is rotated, lane (x, y) at 5y + x. -/
def keccakOffsets : List Nat :=
  [0, 1, 62, 28, 27] ++ [36, 44, 6, 55, 20] ++ [3, 10, 43, 25, 39] ++ [41, 45, 15, 21, 8] ++ [18, 2, 61, 56, 14]

/-- The columns' parities, mixed into every lane. -/
def keccakTheta (a : List W64) : List W64 :=
  let c := (List.range 5).map fun x =>
    a.getD x 0 ^^^ a.getD (x + 5) 0 ^^^ a.getD (x + 10) 0 ^^^ a.getD (x + 15) 0 ^^^ a.getD (x + 20) 0
  let d := (List.range 5).map fun x => c.getD ((x + 4) % 5) 0 ^^^ (c.getD ((x + 1) % 5) 0).rotateLeft 1
  (List.range 25).map fun i => a.getD i 0 ^^^ d.getD (i % 5) 0

/-- The lanes rotated, and moved: lane (x, y) comes from lane (x + 3y, x). -/
def keccakRhoPi (a : List W64) : List W64 :=
  let r := List.zipWith (fun (v : W64) n => v.rotateLeft n) a keccakOffsets
  (List.range 25).map fun i => r.getD ((i % 5 + 3 * (i / 5)) % 5 + 5 * (i % 5)) 0

/-- Each lane with its two right neighbours of the row. -/
def keccakChi (a : List W64) : List W64 :=
  (List.range 25).map fun i =>
    let lane := fun k => a.getD (5 * (i / 5) + (i + k) % 5) 0
    lane 0 ^^^ (~~~ lane 1 &&& lane 2)

/-- One round. -/
def keccakRound (a : List W64) (rc : W64) : List W64 :=
  match keccakChi (keccakRhoPi (keccakTheta a)) with
  | [] => []
  | x :: l => (x ^^^ rc) :: l

/-- The permutation. -/
def keccak (a : List W64) : List W64 := keccakRounds.foldl keccakRound a

/-- Blocks of `rate` bytes taken in. -/
def absorb (rate : Nat) : Nat → List Byte → List W64 → List W64
  | 0, _, a => a
  | n + 1, m, a =>
    absorb rate n (m.drop rate) (keccak (List.zipWith (· ^^^ ·) a (wordsOf (rate / 8) (m.take rate) ++ List.replicate (25 - rate / 8) 0)))

/-- n blocks of `rate` bytes given out. -/
def squeeze (rate : Nat) : Nat → List W64 → List Byte
  | 0, _ => []
  | n + 1, a => bytesOf (a.take (rate / 8)) ++ squeeze rate n (keccak a)

/-- A message with its suffix and padding, a whole number of blocks: the last byte's top bit is set. -/
def keccakPad (rate : Nat) (suffix : Byte) (m : List Byte) : List Byte :=
  let k := rate - m.length % rate
  m ++ (if k = 1 then [suffix ||| 0x80] else [suffix] ++ List.replicate (k - 2) 0 ++ [0x80])

/-- The first n bytes that a sponge of this rate gives for a message. -/
def sponge (rate : Nat) (suffix : Byte) (m : List Byte) (n : Nat) : List Byte :=
  let p := keccakPad rate suffix m
  (squeeze rate (ceilDiv n rate) (absorb rate (p.length / rate) p (List.replicate 25 0))).take n

/-- SHA3-256 of a message, 32 bytes. -/
def sha3Bytes (m : List Byte) : List Byte := sponge 136 0x06 m 32
/-- SHA3-256 of a message; digest byte 0 is the lowest (R381). -/
def sha3 (m : List Byte) : BitVec 256 := BitVec.ofNat 256 (ofBytes (sha3Bytes m))
/-- SHA3-512 of a message, 64 bytes. -/
def sha3Long (m : List Byte) : List Byte := sponge 72 0x06 m 64
/-- n bytes of SHAKE128. -/
def shake128 (m : List Byte) (n : Nat) : List Byte := sponge 168 0x1F m n
/-- n bytes of SHAKE256. -/
def shake256 (m : List Byte) (n : Nat) : List Byte := sponge 136 0x1F m n

/-! ### KMAC256 -/

/-- The bytes of a length below 65,536, most significant first, no more than it needs and at least one. -/
def lengthBytes (n : Nat) : List Byte := if n < 256 then [BitVec.ofNat 8 n] else [BitVec.ofNat 8 (n / 256), BitVec.ofNat 8 n]

/-- left_encode of SP 800-185, for a length below 65,536. -/
def leftEncode (n : Nat) : List Byte := BitVec.ofNat 8 (lengthBytes n).length :: lengthBytes n
/-- right_encode of SP 800-185, for a length below 65,536. -/
def rightEncode (n : Nat) : List Byte := lengthBytes n ++ [BitVec.ofNat 8 (lengthBytes n).length]
/-- encode_string of SP 800-185. -/
def encodeString (b : List Byte) : List Byte := leftEncode (8 * b.length) ++ b
/-- bytepad of SP 800-185 to blocks of 136 bytes. -/
def bytePad (b : List Byte) : List Byte :=
  let x := leftEncode 136 ++ b
  x ++ List.replicate ((136 - x.length % 136) % 136) 0

/-- The ASCII bytes "KMAC". -/
abbrev kmacName : List Byte := [0x4B, 0x4D, 0x41, 0x43]
/-- The ASCII bytes "UAFADA" (R397). -/
abbrev uafadaName : List Byte := [0x55, 0x41, 0x46, 0x41, 0x44, 0x41]

/-- KMAC256 with customisation "UAFADA" and 128-bit output (R397). -/
def kmac (key : BitVec 256) (m : List Byte) : BitVec 128 :=
  let x := bytePad (encodeString kmacName ++ encodeString uafadaName) ++ bytePad (encodeString (toBytes 32 key.toNat)) ++ m ++ rightEncode 128
  BitVec.ofNat 128 (ofBytes (sponge 136 0x04 x 16))

/-! ### SHA-512 -/

/-- The round constants of SHA-512. -/
def sha512Rounds : List W64 :=
  [0x428A2F98D728AE22, 0x7137449123EF65CD, 0xB5C0FBCFEC4D3B2F, 0xE9B5DBA58189DBBC, 0x3956C25BF348B538]
  ++ [0x59F111F1B605D019, 0x923F82A4AF194F9B, 0xAB1C5ED5DA6D8118, 0xD807AA98A3030242, 0x12835B0145706FBE]
  ++ [0x243185BE4EE4B28C, 0x550C7DC3D5FFB4E2, 0x72BE5D74F27B896F, 0x80DEB1FE3B1696B1, 0x9BDC06A725C71235]
  ++ [0xC19BF174CF692694, 0xE49B69C19EF14AD2, 0xEFBE4786384F25E3, 0x0FC19DC68B8CD5B5, 0x240CA1CC77AC9C65]
  ++ [0x2DE92C6F592B0275, 0x4A7484AA6EA6E483, 0x5CB0A9DCBD41FBD4, 0x76F988DA831153B5, 0x983E5152EE66DFAB]
  ++ [0xA831C66D2DB43210, 0xB00327C898FB213F, 0xBF597FC7BEEF0EE4, 0xC6E00BF33DA88FC2, 0xD5A79147930AA725]
  ++ [0x06CA6351E003826F, 0x142929670A0E6E70, 0x27B70A8546D22FFC, 0x2E1B21385C26C926, 0x4D2C6DFC5AC42AED]
  ++ [0x53380D139D95B3DF, 0x650A73548BAF63DE, 0x766A0ABB3C77B2A8, 0x81C2C92E47EDAEE6, 0x92722C851482353B]
  ++ [0xA2BFE8A14CF10364, 0xA81A664BBC423001, 0xC24B8B70D0F89791, 0xC76C51A30654BE30, 0xD192E819D6EF5218]
  ++ [0xD69906245565A910, 0xF40E35855771202A, 0x106AA07032BBD1B8, 0x19A4C116B8D2D0C8, 0x1E376C085141AB53]
  ++ [0x2748774CDF8EEB99, 0x34B0BCB5E19B48A8, 0x391C0CB3C5C95A63, 0x4ED8AA4AE3418ACB, 0x5B9CCA4F7763E373]
  ++ [0x682E6FF3D6B2B8A3, 0x748F82EE5DEFB2FC, 0x78A5636F43172F60, 0x84C87814A1F0AB72, 0x8CC702081A6439EC]
  ++ [0x90BEFFFA23631E28, 0xA4506CEBDE82BDE9, 0xBEF9A3F7B2C67915, 0xC67178F2E372532B, 0xCA273ECEEA26619C]
  ++ [0xD186B8C721C0C207, 0xEADA7DD6CDE0EB1E, 0xF57D4F7FEE6ED178, 0x06F067AA72176FBA, 0x0A637DC5A2C898A6]
  ++ [0x113F9804BEF90DAE, 0x1B710B35131C471B, 0x28DB77F523047D84, 0x32CAAB7B40C72493, 0x3C9EBE0A15C9BEBC]
  ++ [0x431D67C49C100D4C, 0x4CC5D4BECB3E42B6, 0x597F299CFC657E2A, 0x5FCB6FAB3AD6FAEC, 0x6C44198C4A475817]

/-- The eight words that SHA-512 starts from. -/
def sha512Start : List W64 :=
  [0x6A09E667F3BCC908, 0xBB67AE8584CAA73B, 0x3C6EF372FE94F82B, 0xA54FF53A5F1D36F1]
  ++ [0x510E527FADE682D1, 0x9B05688C2B3E6C1F, 0x1F83D9ABFB41BD6B, 0x5BE0CD19137E2179]

/-- The number that bytes form, most significant first. -/
def ofBytesBig (b : List Byte) : Nat := b.foldl (fun n x => 256 * n + x.toNat) 0

/-- The message schedule continued by n words; the last 16 words stand first, newest at the front. -/
def sha512Extend : Nat → List W64 → List W64
  | 0, w => w
  | n + 1, w =>
    let a := w.getD 1 0
    let b := w.getD 14 0
    let x := (a.rotateRight 19 ^^^ a.rotateRight 61 ^^^ (a >>> 6)) + w.getD 6 0
      + (b.rotateRight 1 ^^^ b.rotateRight 8 ^^^ (b >>> 7)) + w.getD 15 0
    sha512Extend n (x :: w)

/-- One round: the working words a to h, and the constant and schedule word. -/
def sha512Round (v : List W64) (kw : W64 × W64) : List W64 :=
  let a := v.getD 0 0
  let e := v.getD 4 0
  let t1 := v.getD 7 0 + (e.rotateRight 14 ^^^ e.rotateRight 18 ^^^ e.rotateRight 41)
    + ((e &&& v.getD 5 0) ^^^ (~~~ e &&& v.getD 6 0)) + kw.1 + kw.2
  let t2 := (a.rotateRight 28 ^^^ a.rotateRight 34 ^^^ a.rotateRight 39)
    + ((a &&& v.getD 1 0) ^^^ (a &&& v.getD 2 0) ^^^ (v.getD 1 0 &&& v.getD 2 0))
  [t1 + t2, a, v.getD 1 0, v.getD 2 0] ++ [v.getD 3 0 + t1, e, v.getD 5 0, v.getD 6 0]

/-- One block of 128 bytes. -/
def sha512Block (h : List W64) (m : List Byte) : List W64 :=
  let first := (List.range 16).map fun i => BitVec.ofNat 64 (ofBytesBig ((m.drop (8 * i)).take 8))
  let w := (sha512Extend 64 first.reverse).reverse
  List.zipWith (· + ·) h ((List.zip sha512Rounds w).foldl sha512Round h)

/-- n blocks of 128 bytes. -/
def sha512Blocks : Nat → List Byte → List W64 → List W64
  | 0, _, h => h
  | n + 1, m, h => sha512Blocks n (m.drop 128) (sha512Block h (m.take 128))

/-- SHA-512 of a message, 64 bytes. -/
def sha512 (m : List Byte) : List Byte :=
  let pad := m ++ [0x80] ++ List.replicate ((239 - m.length % 128) % 128) 0 ++ (toBytes 16 (8 * m.length)).reverse
  (sha512Blocks (pad.length / 128) pad sha512Start).flatMap fun w => (toBytes 8 w.toNat).reverse

end Sys2Proof.Machine
end

