-- ==== Sys2Proof/Machine/Curve.lean ====
section
/-! DEFINITION. Ed25519 (RFC 8032) and X25519 (RFC 7748), which R380, R383 and R397 name (log 13). -/
namespace Sys2Proof.Machine

/-- The power b^e modulo m, for an exponent of at most n bits. -/
def powMod (m b : Nat) : Nat → Nat → Nat
  | 0, _ => 1 % m
  | n + 1, e =>
    let h := powMod m b n (e / 2)
    if e % 2 = 1 then h * h % m * b % m else h * h % m

/-- The field of the curve: integers modulo 2^255 - 19. -/
abbrev fieldP : Nat := 2 ^ 255 - 19
/-- The order of the group that the base point makes. -/
abbrev groupL : Nat := 2 ^ 252 + 27742317777372353535851937790883648493
/-- The curve's constant d. -/
abbrev curveD : Nat := 37095705934669439343138083508754565189542113879843219016388785533085940283555
/-- A square root of -1. -/
abbrev rootMinus1 : Nat := 19681161376707505956807079304988542015446066515923890162744021073123829784752

/-- A difference in the field. -/
def fsub (a b : Nat) : Nat := (a + fieldP - b % fieldP) % fieldP
/-- An inverse in the field; 0 for 0. -/
def finv (a : Nat) : Nat := powMod fieldP a 255 (fieldP - 2)

/-- A point of the curve in extended coordinates: x = X / Z, y = Y / Z, x y = T / Z. -/
structure EdPoint where
  x : Nat
  y : Nat
  z : Nat
  t : Nat
  deriving DecidableEq, Repr

/-- The neutral point. -/
def EdPoint.zero : EdPoint := { x := 0, y := 1, z := 1, t := 0 }

/-- The sum of two points (RFC 8032 5.1.4). -/
def EdPoint.add (p q : EdPoint) : EdPoint :=
  let a := fsub p.y p.x * fsub q.y q.x % fieldP
  let b := (p.y + p.x) * (q.y + q.x) % fieldP
  let c := p.t * 2 % fieldP * curveD % fieldP * q.t % fieldP
  let d := p.z * 2 * q.z % fieldP
  let e := fsub b a
  let f := fsub d c
  let g := (d + c) % fieldP
  let h := (b + a) % fieldP
  { x := e * f % fieldP, y := g * h % fieldP, z := f * g % fieldP, t := e * h % fieldP }

/-- A point k times, for k of at most n bits. -/
def EdPoint.times (p : EdPoint) : Nat → Nat → EdPoint
  | 0, _ => EdPoint.zero
  | n + 1, k =>
    let h := p.times n (k / 2)
    let h2 := h.add h
    if k % 2 = 1 then h2.add p else h2

/-- Two descriptions of one point. -/
def EdPoint.same (p q : EdPoint) : Bool := fsub (p.x * q.z) (q.x * p.z) == 0 && fsub (p.y * q.z) (q.y * p.z) == 0

/-- The base point. -/
def edBase : EdPoint :=
  let x := 15112221349535400772501151409588531511454012693041857206046113283949847762202
  let y := 46316835694926478169428394003475163141307993866256225615783033603165251855960
  { x := x, y := y, z := 1, t := x * y % fieldP }

/-- The 32 bytes of a point: y, and the lowest bit of x on top. -/
def EdPoint.bytes (p : EdPoint) : List Byte :=
  let i := finv p.z
  toBytes 32 (p.y * i % fieldP + p.x * i % fieldP % 2 * 2 ^ 255)

/-- The point that 32 bytes spell; none where no point has this y, or the encoding is not the canonical one (R383). -/
def edPoint (b : List Byte) : Option EdPoint :=
  let n := ofBytes b
  let sign := n / 2 ^ 255
  let y := n % 2 ^ 255
  let xx := fsub (y * y) 1 * finv ((curveD * (y * y % fieldP) + 1) % fieldP) % fieldP
  let r := powMod fieldP xx 252 ((fieldP + 3) / 8)
  let x := if r * r % fieldP = xx then r else r * rootMinus1 % fieldP
  if b.length ≠ 32 ∨ fieldP ≤ y ∨ x * x % fieldP ≠ xx ∨ (x = 0 ∧ sign = 1) then none
  else
    let x := if x % 2 = sign then x else fieldP - x
    some { x := x, y := y, z := 1, t := x * y % fieldP }

/-- The scalar of 32 bytes with the bits that RFC 7748 and RFC 8032 fix. -/
def clamp (b : List Byte) : Nat :=
  let n := ofBytes b % 2 ^ 254
  n - n % 8 + 2 ^ 254

/-- The Ed25519 public key of a 32-byte seed. -/
def edPublic (seed : List Byte) : List Byte := (edBase.times 256 (clamp ((sha512 seed).take 32))).bytes

/-- The Ed25519 signature (RFC 8032, pure form) that a seed's key makes over a message, 64 bytes. -/
def edSign (seed m : List Byte) : List Byte :=
  let h := sha512 seed
  let a := clamp (h.take 32)
  let r := ofBytes (sha512 (h.drop 32 ++ m)) % groupL
  let rb := (edBase.times 256 r).bytes
  let k := ofBytes (sha512 (rb ++ edPublic seed ++ m)) % groupL
  rb ++ toBytes 32 ((r + k * a) % groupL)

/-- Whether an Ed25519 signature verifies (R383): both points encoded canonically, S below the group order, and the cofactorless equation
[S] B = R + [k] A. -/
def edVerifies (key m sig : List Byte) : Bool :=
  let s := ofBytes (sig.drop 32)
  match edPoint key, edPoint (sig.take 32) with
  | some a, some r =>
    sig.length == 64 && decide (s < groupL)
      && (edBase.times 256 s).same (r.add (a.times 256 (ofBytes (sha512 (sig.take 32 ++ key ++ m)) % groupL)))
  | _, _ => false

/-- One step of the ladder of RFC 7748 for u: the two points (x2 : z2) and (x3 : z3), which differ by u. -/
def ladderStep (u : Nat) (s : (Nat × Nat) × Nat × Nat) (one : Bool) : (Nat × Nat) × Nat × Nat :=
  let p := if one then s.2 else s.1
  let q := if one then s.1 else s.2
  let a := p.1 + p.2
  let b := fsub p.1 p.2
  let aa := a * a % fieldP
  let bb := b * b % fieldP
  let e := fsub aa bb
  let da := fsub q.1 q.2 * a % fieldP
  let cb := (q.1 + q.2) * b % fieldP
  let dbl := (aa * bb % fieldP, e * (aa + 121665 * e) % fieldP)
  let sum := ((da + cb) * (da + cb) % fieldP, u * (fsub da cb * fsub da cb % fieldP) % fieldP)
  if one then (sum, dbl) else (dbl, sum)

/-- X25519 of a 32-byte scalar and a 32-byte u, 32 bytes. -/
def x25519 (k u : List Byte) : List Byte :=
  let n := clamp k
  let v := ofBytes u % 2 ^ 255 % fieldP
  let r := ((List.range 255).map fun i => n.testBit (254 - i)).foldl (ladderStep v) ((1, 0), (v, 1))
  toBytes 32 (r.1.1 * finv r.1.2 % fieldP)

/-- The X25519 public key of a 32-byte scalar. -/
def x25519Public (k : List Byte) : List Byte := x25519 k (toBytes 32 9)

end Sys2Proof.Machine
end

