-- ==== Sys2Proof/Machine/Lattice.lean ====
section
/-! DEFINITION. ML-DSA-65 (FIPS 204) and the encapsulation of ML-KEM-768 (FIPS 203), which R380, R383 and R397 name (log 13).
A polynomial is the list of its 256 coefficients, each below the modulus. -/
namespace Sys2Proof.Machine

/-! ### Polynomials -/

/-- The i lowest bits of n, in reverse order. -/
def revBits : Nat → Nat → Nat
  | 0, _ => 0
  | i + 1, n => n % 2 * 2 ^ i + revBits i (n / 2)

/-- A ring of polynomials: the modulus q, a root of unity, and how many layers its transform has. -/
structure PolyRing where
  q : Nat
  root : Nat
  layers : Nat
  deriving DecidableEq, Repr

/-- The ring of ML-DSA. -/
abbrev dsaRing : PolyRing := { q := 8380417, root := 1753, layers := 8 }
/-- The ring of ML-KEM. -/
abbrev kemRing : PolyRing := { q := 3329, root := 17, layers := 7 }

/-- The root's power that node k of the transform's tree multiplies by. -/
def PolyRing.zeta (r : PolyRing) (k : Nat) : Nat := powMod r.q r.root 8 (revBits r.layers k)
/-- Its inverse. -/
def PolyRing.zetaInv (r : PolyRing) (k : Nat) : Nat := powMod r.q (r.zeta k) 23 (r.q - 2)

/-- The sum of two polynomials. -/
def PolyRing.add (r : PolyRing) (a b : List Nat) : List Nat := List.zipWith (fun x y => (x + y) % r.q) a b
/-- The difference of two polynomials. -/
def PolyRing.sub (r : PolyRing) (a b : List Nat) : List Nat := List.zipWith (fun x y => (x + r.q - y % r.q) % r.q) a b
/-- A polynomial times a number. -/
def PolyRing.scale (r : PolyRing) (k : Nat) (a : List Nat) : List Nat := a.map fun x => k * x % r.q
/-- Coefficient by coefficient. -/
def PolyRing.point (r : PolyRing) (a b : List Nat) : List Nat := List.zipWith (fun x y => x * y % r.q) a b

/-- n layers of the transform from node k on: the halves l and h become l + zeta h and l - zeta h. -/
def PolyRing.ntt (r : PolyRing) : Nat → Nat → List Nat → List Nat
  | 0, _, a => a
  | n + 1, k, a =>
    let half := a.length / 2
    let t := r.scale (r.zeta k) (a.drop half)
    r.ntt n (2 * k) (r.add (a.take half) t) ++ r.ntt n (2 * k + 1) (r.sub (a.take half) t)

/-- The same layers undone, but for a factor of 2 a layer. -/
def PolyRing.unntt (r : PolyRing) : Nat → Nat → List Nat → List Nat
  | 0, _, a => a
  | n + 1, k, a =>
    let half := a.length / 2
    let l := r.unntt n (2 * k) (a.take half)
    let h := r.unntt n (2 * k + 1) (a.drop half)
    r.add l h ++ r.scale (r.zetaInv k) (r.sub l h)

/-- The transform. -/
def PolyRing.to (r : PolyRing) (a : List Nat) : List Nat := r.ntt r.layers 1 a
/-- The inverse transform. -/
def PolyRing.back (r : PolyRing) (a : List Nat) : List Nat :=
  r.scale (powMod r.q (2 ^ r.layers) 23 (r.q - 2)) (r.unntt r.layers 1 a)

/-- The zero polynomial. -/
def polyZero : List Nat := List.replicate 256 0

/-- The sum of the products of two vectors of transformed polynomials. -/
def PolyRing.dot (r : PolyRing) (mul : List Nat → List Nat → List Nat) (a b : List (List Nat)) : List Nat :=
  (List.zipWith mul a b).foldl r.add polyZero

/-- Coefficients of w bits each as bytes, lowest bits first. -/
def packBits (w : Nat) (a : List Nat) : List Byte := toBytes (32 * w) (a.foldr (fun x n => x % 2 ^ w + 2 ^ w * n) 0)

/-- The n values of w bits that a number holds. -/
def splitBits (w : Nat) : Nat → Nat → List Nat
  | 0, _ => []
  | n + 1, v => v % 2 ^ w :: splitBits w n (v / 2 ^ w)

/-- The 256 coefficients of w bits each that bytes hold. -/
def unpackBits (w : Nat) (b : List Byte) : List Nat := splitBits w 256 (ofBytes b)

/-- The i-th piece of n bytes. -/
def piece (n i : Nat) (b : List Byte) : List Byte := (b.drop (n * i)).take n

/-- The first 256 values of a list, with zeros after it where it is shorter. -/
def first256 (l : List Nat) : List Nat := (l ++ polyZero).take 256

/-- Bytes in threes, each three as one number. -/
def threes : Nat → List Byte → List Nat
  | n + 1, a :: b :: c :: l => (a.toNat + 256 * b.toNat + 65536 * c.toNat) :: threes n l
  | _, _ => []

/-! ### ML-DSA-65: 6 rows, 5 columns, eta 4, tau 49, gamma1 2^19, gamma2 (q - 1) / 32, omega 55 -/

/-- Half the step of the high bits. -/
abbrev gamma2 : Nat := 261888

/-- RejNTTPoly: the values below q among those of 23 bits that SHAKE128 gives; six blocks, the standard's own limit rounded up. -/
def dsaUniform (seed : List Byte) : List Nat :=
  first256 (((threes 336 (shake128 seed 1008)).map fun x => x % 2 ^ 23).filter fun x => x < dsaRing.q)

/-- ExpandA: six rows of five transformed polynomials. -/
def dsaMatrix (rho : List Byte) : List (List (List Nat)) :=
  (List.range 6).map fun r => (List.range 5).map fun c => dsaUniform (rho ++ [BitVec.ofNat 8 c, BitVec.ofNat 8 r])

/-- RejBoundedPoly: values from -4 to 4. -/
def dsaBounded (seed : List Byte) (n : Nat) : List Nat :=
  let l := (shake256 (seed ++ toBytes 2 n) 544).flatMap fun b => [b.toNat % 16, b.toNat / 16]
  first256 ((l.filter fun x => x < 9).map fun x => (dsaRing.q + 4 - x) % dsaRing.q)

/-- One byte of SampleInBall's stream; the state is the next index, the signs left and the polynomial. -/
def ballStep (t : Nat × Nat × List Nat) (b : Byte) : Nat × Nat × List Nat :=
  if 256 ≤ t.1 ∨ t.1 < b.toNat then t
  else
    let c := t.2.2.set t.1 (t.2.2.getD b.toNat 0)
    (t.1 + 1, t.2.1 / 2, c.set b.toNat (if t.2.1 % 2 = 1 then dsaRing.q - 1 else 1))

/-- SampleInBall: 49 coefficients of 1 or -1. -/
def dsaBall (seed : List Byte) : List Nat :=
  let b := shake256 seed 272
  ((b.drop 8).foldl ballStep (207, ofBytes (b.take 8), polyZero)).2.2

/-- ExpandMask: values from 1 - 2^19 to 2^19. -/
def dsaMask (seed : List Byte) (n : Nat) : List Nat :=
  (unpackBits 20 (shake256 (seed ++ toBytes 2 n) 640)).map fun x => (dsaRing.q + 2 ^ 19 - x) % dsaRing.q

/-- How far a coefficient is from zero. -/
def absOf (x : Nat) : Nat := min x (dsaRing.q - x)
/-- Every coefficient of every polynomial is nearer to zero than the bound. -/
def dsaSmall (bound : Nat) (v : List (List Nat)) : Bool := v.all fun a => a.all fun x => decide (absOf x < bound)

/-- Decompose: the high part, 0 to 15, and the low part modulo q. -/
def dsaSplit (x : Nat) : Nat × Nat :=
  let m := x % (2 * gamma2)
  let low := if gamma2 < m then m + dsaRing.q - 2 * gamma2 else m
  let rest := if gamma2 < m then x - m + 2 * gamma2 else x - m
  if rest = dsaRing.q - 1 then (0, (low + dsaRing.q - 1) % dsaRing.q) else (rest / (2 * gamma2), low % dsaRing.q)

/-- UseHint: the high part, moved by one where the hint says so. -/
def dsaUseHint (h x : Nat) : Nat :=
  let s := dsaSplit x
  if h = 0 then s.1 else if 0 < s.2 ∧ s.2 ≤ dsaRing.q / 2 then (s.1 + 1) % 16 else (s.1 + 15) % 16

/-- A matrix times a vector, both transformed. -/
def dsaTimes (m : List (List (List Nat))) (v : List (List Nat)) : List (List Nat) := m.map fun row => dsaRing.dot dsaRing.point row v

/-- The key that a 32-byte seed makes: rho, K, s1 and s2, t, and the public key's 1,952 bytes. -/
structure DsaKey where
  rho : List Byte
  k : List Byte
  s1 : List (List Nat)
  s2 : List (List Nat)
  t : List (List Nat)
  pub : List Byte
  deriving DecidableEq, Repr

/-- The upper ten bits of a coefficient of t (Power2Round). -/
def dsaHigh10 (x : Nat) : Nat := (x + 4095) / 8192

/-- Key generation of ML-DSA-65. -/
def dsaKey (seed : List Byte) : DsaKey :=
  let h := shake256 (seed ++ [6, 5]) 128
  let rho := h.take 32
  let s1 := (List.range 5).map (dsaBounded ((h.drop 32).take 64))
  let s2 := (List.range 6).map fun i => dsaBounded ((h.drop 32).take 64) (5 + i)
  let t := List.zipWith dsaRing.add ((dsaTimes (dsaMatrix rho) (s1.map dsaRing.to)).map dsaRing.back) s2
  { rho := rho, k := h.drop 96, s1 := s1, s2 := s2, t := t, pub := rho ++ t.flatMap fun a => packBits 10 (a.map dsaHigh10) }

/-- The ML-DSA-65 public key of a 32-byte seed, 1,952 bytes. -/
def dsaPublic (seed : List Byte) : List Byte := (dsaKey seed).pub

/-- The message's representative mu under a public key, with an empty context. -/
def dsaMu (pub m : List Byte) : List Byte := shake256 (shake256 pub 64 ++ [0, 0] ++ m) 64

/-- The challenge's bytes for mu and the high parts of w. -/
def dsaChallenge (mu : List Byte) (w1 : List (List Nat)) : List Byte := shake256 (mu ++ w1.flatMap (packBits 4)) 48

/-- The places of a polynomial's ones. -/
def onesAt (h : List Nat) : List Nat := (List.range 256).filter fun i => h.getD i 0 == 1

/-- HintBitPack: the places of the ones, 55 bytes, and how many there are up to each polynomial. -/
def packHint (h : List (List Nat)) : List Byte :=
  let places := h.flatMap onesAt
  (places ++ List.replicate (55 - places.length) 0).map (BitVec.ofNat 8)
    ++ (List.range 6).map fun i => BitVec.ofNat 8 ((h.take (i + 1)).flatMap onesAt).length

/-- Each number of the list lies above the one before it. -/
def risingPlaces : List Nat → Bool
  | a :: b :: l => decide (a < b) && risingPlaces (b :: l)
  | _ => true

/-- HintBitUnpack: none where the 61 bytes are no hint. -/
def unpackHint (b : List Byte) : Option (List (List Nat)) :=
  let n := b.map BitVec.toNat
  let ends := 0 :: n.drop 55
  let parts := (List.range 6).map fun i => ((n.take (ends.getD (i + 1) 0)).drop (ends.getD i 0))
  let ok := (List.range 6).all fun i => decide (ends.getD i 0 ≤ ends.getD (i + 1) 0 ∧ ends.getD (i + 1) 0 ≤ 55)
  if ok && parts.all risingPlaces && (((n.take 55).drop (ends.getD 6 0)).all fun x => x == 0) then
    some (parts.map fun p => (List.range 256).map fun i => if p.contains i then 1 else 0)
  else none

/-- One attempt of the signing loop, from counter `c` on: the signature, or none where it is rejected. -/
def dsaAttempt (k : DsaKey) (m : List (List (List Nat))) (mu seed : List Byte) (c : Nat) : Option (List Byte) :=
  let r := dsaRing
  let y := (List.range 5).map fun i => dsaMask seed (c + i)
  let w := (dsaTimes m (y.map r.to)).map r.back
  let ct := dsaChallenge mu (w.map fun a => a.map fun x => (dsaSplit x).1)
  let ch := r.to (dsaBall ct)
  let timesCh := fun (v : List (List Nat)) => v.map fun a => r.back (r.point ch (r.to a))
  let z := List.zipWith r.add y (timesCh k.s1)
  let u := List.zipWith r.sub w (timesCh k.s2)
  let t0 := timesCh (k.t.map fun a => a.map fun x => (x + r.q - 8192 * dsaHigh10 x % r.q) % r.q)
  let hint := List.zipWith (fun a b =>
    List.zipWith (fun x y => if (dsaSplit x).1 = (dsaSplit ((x + y) % r.q)).1 then 0 else 1) a b) u t0
  if dsaSmall (2 ^ 19 - 196) z && dsaSmall (gamma2 - 196) (u.map fun a => a.map fun x => (dsaSplit x).2) && dsaSmall gamma2 t0
      && decide ((hint.flatMap onesAt).length ≤ 55) then
    some (ct ++ (z.flatMap fun a => packBits 20 (a.map fun x => (2 ^ 19 + r.q - x) % r.q)) ++ packHint hint)
  else none

/-- The signing loop of at most n attempts, 814 of which the standard asks for. -/
def dsaLoop (k : DsaKey) (m : List (List (List Nat))) (mu seed : List Byte) : Nat → Nat → List Byte
  | 0, _ => List.replicate 3309 0
  | n + 1, c =>
    match dsaAttempt k m mu seed c with
    | some b => b
    | none => dsaLoop k m mu seed n (c + 5)

/-- The ML-DSA-65 signature (FIPS 204, pure form, empty context) that a seed's key makes over a message with 32 random bytes; 3,309 bytes. -/
def dsaSign (seed m rnd : List Byte) : List Byte :=
  let k := dsaKey seed
  let mu := dsaMu k.pub m
  dsaLoop k (dsaMatrix k.rho) mu (shake256 (k.k ++ rnd ++ mu) 64) 814 0

/-- Whether an ML-DSA-65 signature verifies: key of 1,952 bytes, message, signature of 3,309 bytes. -/
def dsaVerifies (pub m sig : List Byte) : Bool :=
  let r := dsaRing
  let ct := sig.take 48
  let z := (List.range 5).map fun i => (unpackBits 20 (piece 640 i (sig.drop 48))).map fun x => (r.q + 2 ^ 19 - x) % r.q
  match unpackHint (sig.drop 3248) with
  | none => false
  | some h =>
    let ch := r.to (dsaBall ct)
    let t := (List.range 6).map fun i => r.point ch (r.to ((unpackBits 10 (piece 320 i (pub.drop 32))).map fun x => x * 8192 % r.q))
    let w := List.zipWith (fun a b => r.back (r.sub a b)) (dsaTimes (dsaMatrix (pub.take 32)) (z.map r.to)) t
    let w1 := List.zipWith (fun a b => List.zipWith dsaUseHint a b) h w
    pub.length == 1952 && sig.length == 3309 && dsaSmall (2 ^ 19 - 196) z && dsaChallenge (dsaMu pub m) w1 == ct

/-! ### ML-KEM-768: three rows, eta 2, 10 and 4 bits of the ciphertext's coefficients -/

/-- Bytes in threes as pairs of 12 bits. -/
def pairs12 (b : List Byte) : List Nat := (threes (b.length / 3) b).flatMap fun x => [x % 4096, x / 4096]

/-- SampleNTT: the values below q among those of 12 bits that SHAKE128 gives; five blocks, the standard's own limit. -/
def kemUniform (seed : List Byte) : List Nat := first256 ((pairs12 (shake128 seed 840)).filter fun x => x < kemRing.q)

/-- SamplePolyCBD with eta 2: of each four bits, the two low ones less the two high ones. -/
def kemNoise (seed : List Byte) (n : Nat) : List Nat :=
  (unpackBits 4 (shake256 (seed ++ [BitVec.ofNat 8 n]) 128)).map fun x =>
    (kemRing.q + x % 2 + x / 2 % 2 - x / 4 % 2 - x / 8) % kemRing.q

/-- Products of pairs of coefficients modulo X^2 - zeta^(2 rev(i) + 1), from pair i on. -/
def kemPairs : Nat → List Nat → List Nat → List Nat
  | i, a0 :: a1 :: a, b0 :: b1 :: b =>
    let g := powMod kemRing.q kemRing.root 8 (2 * revBits 7 i + 1)
    (a0 * b0 + a1 * b1 % kemRing.q * g) % kemRing.q :: (a0 * b1 + a1 * b0) % kemRing.q :: kemPairs (i + 1) a b
  | _, _, _ => []

/-- MultiplyNTTs. -/
def kemTimes (a b : List Nat) : List Nat := kemPairs 0 a b

/-- A coefficient rounded to d bits. -/
def kemCompress (d x : Nat) : Nat := (2 ^ (d + 1) * x + kemRing.q) / (2 * kemRing.q) % 2 ^ d

/-- K-PKE.Encrypt: key, message and randomness of 32 bytes each but for the key's 1,184; 1,088 bytes. -/
def kemEncrypt (ek m coins : List Byte) : List Byte :=
  let r := kemRing
  let rho := ek.drop 1152
  let t := (List.range 3).map fun i => unpackBits 12 (piece 384 i ek)
  let y := (List.range 3).map fun i => r.to (kemNoise coins i)
  let u := (List.range 3).map fun i =>
    r.add (r.back (r.dot kemTimes ((List.range 3).map fun j => kemUniform (rho ++ [BitVec.ofNat 8 i, BitVec.ofNat 8 j])) y)) (kemNoise coins (3 + i))
  let mu := (unpackBits 1 m).map fun x => x * ((r.q + 1) / 2)
  let v := r.add (r.add (r.back (r.dot kemTimes t y)) (kemNoise coins 6)) mu
  (u.flatMap fun a => packBits 10 (a.map (kemCompress 10))) ++ packBits 4 (v.map (kemCompress 4))

/-- The input check of FIPS 203: every coefficient of the key lies below q. -/
def kemKeyOk (ek : List Byte) : Bool :=
  ek.length == 1184 && (List.range 3).all fun i => (unpackBits 12 (piece 384 i ek)).all fun x => decide (x < kemRing.q)

/-- ML-KEM-768 encapsulation with 32 random bytes m: the shared secret of 32 bytes and the ciphertext of 1,088. -/
def kemEncaps (ek m : List Byte) : List Byte × List Byte :=
  let g := sha3Long (m ++ sha3Bytes ek)
  (g.take 32, kemEncrypt ek m (g.drop 32))

end Sys2Proof.Machine
end

