-- ==== Sys2Proof/Machine/Signatures.lean ====
section
/-! DEFINITION. The identity keys and pair signatures (R380 to R383): how the pair is derived, laid out and judged. -/
namespace Sys2Proof.Machine

/-- The ASCII bytes "KLSIDED1" (R380). -/
abbrev edLabel : List Byte := [0x4B, 0x4C, 0x53, 0x49, 0x44, 0x45, 0x44, 0x31]
/-- The ASCII bytes "KLSIDML1" (R380). -/
abbrev mlLabel : List Byte := [0x4B, 0x4C, 0x53, 0x49, 0x44, 0x4D, 0x4C, 0x31]

/-- The Ed25519 seed of a device secret (R380). -/
def edSeed (secret : BitVec 256) : List Byte := sha3Bytes (edLabel ++ toBytes 32 secret.toNat)
/-- The ML-DSA-65 seed of a device secret (R380). -/
def mlSeed (secret : BitVec 256) : List Byte := sha3Bytes (mlLabel ++ toBytes 32 secret.toNat)

/-- The identity pair key of a device secret (R380, R383): 32 bytes of Ed25519, then 1,952 of ML-DSA-65, as words. -/
def identityKey (secret : BitVec 256) : List W64 := wordsOf 248 (edPublic (edSeed secret) ++ dsaPublic (mlSeed secret))

/-- A pair signature as it is laid out (R316, R383): 64 bytes of Ed25519, 3,309 of ML-DSA-65 and three zero bytes, as words; ML-DSA takes 32
random bytes (log 13). -/
def pairSign (secret rnd : BitVec 256) (msg : List Byte) : List W64 :=
  wordsOf 422 (edSign (edSeed secret) msg ++ dsaSign (mlSeed secret) msg (toBytes 32 rnd.toNat))

/-- A pair of signatures over one message verifies: both halves do (R383). -/
def pairHolds (key msg sig : List Byte) : Bool :=
  edVerifies (key.take 32) msg (sig.take 64) && dsaVerifies (key.drop 32) msg ((sig.drop 64).take 3309)

/-- A pair signature laid out in words verifies (R316, R383). -/
def pairVerifies (key : List W64) (msg : List Byte) (sig : List W64) : Bool := pairHolds (bytesOf key) msg (bytesOf sig)

/-- What a key exchange gives (R397): the two shared secrets, the module's X25519 key and the ML-KEM ciphertext. -/
structure Exchange where
  ss1 : List Byte
  ss2 : List Byte
  own : List W64
  cipher : List W64
  deriving DecidableEq, Repr

/-- The key exchange of R397 with the fresh X25519 key `k` and the fresh ML-KEM value `m`, against the requester's X25519 key and ML-KEM-768
key; `none` when X25519 gives all zeros, or the ML-KEM key fails the input check of FIPS 203 (log 13). -/
def keyExchange (k m : BitVec 256) (peer kem : List W64) : Option Exchange :=
  let kb := toBytes 32 k.toNat
  let ss1 := x25519 kb (bytesOf peer)
  let e := kemEncaps (bytesOf kem) (toBytes 32 m.toNat)
  if ofBytes ss1 = 0 ∨ kemKeyOk (bytesOf kem) = false then none
  else some { ss1 := ss1, ss2 := e.1, own := wordsOf 4 (x25519Public kb), cipher := wordsOf 136 e.2 }

end Sys2Proof.Machine
end

