-- ==== Sys2Proof/Machine/Optics.lean ====
section
/-! DEFINITION. Optical links (R15, R286 to R313): rings, lanes and their changes, cassettes and feeds, bring-up of ports, identity and wiring
checks. -/
namespace Sys2Proof.Machine

/-! ### Positions, lanes and engines (R286, R287, R289) -/

/-- Number of physical positions (R287). -/
abbrev numPos : Nat := 96

/-- The port that a position serves: the one that adopted it, else the one whose default it is (R287, R310). -/
def State.portOfPos (s : State) (q : Nat) : Option Nat :=
  match (List.range numPorts).find? fun p => s.pmapAt p == (q, true) with
  | some p => some p
  | none => (List.range numPorts).find? fun p => s.posServing p == q

/-- The dimension of a position. -/
def posDim (q : Nat) : Nat := q / 32
/-- Lanes of a position. -/
def posLanes (q : Nat) : Nat := if q < 32 then 8 else 4
/-- The engine of a position (R287). -/
def engineOf (q : Nat) : Nat := if q < 32 then q / 4 else 8 + (q - 32) / 8
/-- The wavelength of a lane of a position (R289). -/
def waveOf (q l : Nat) : Nat := if q < 32 then l else if q % 2 = 0 then l else l + 4

/-- The number of a ring: position, lane and direction (false transmit, true receive). -/
def ringOf (q l : Nat) (dir : Bool) : Nat := (q * 8 + l) * 2 + b2n dir

/-- A ring names a lane that its position has. -/
def ringOk (q l : Nat) : Bool := decide (q < numPos) && decide (l < posLanes q)

/-- A lane direction. -/
def State.laneAt (s : State) (q l : Nat) (dir : Bool) : Lane := Tab.get Lane.init s.opt.lane (ringOf q l dir)
/-- Store a lane direction. -/
def State.setLane (s : State) (q l : Nat) (dir : Bool) (x : Lane) : State :=
  { s with opt := { s.opt with lane := Tab.put s.opt.lane (ringOf q l dir) x } }

/-- The working set of one direction of a port: false transmit, true receive. -/
def Port.lanes (x : Port) (dir : Bool) : BitVec 8 := if dir then x.rxLanes else x.txLanes
/-- Put a lane into the working set of a direction, or take it out. -/
def State.setWorking (s : State) (p l : Nat) (dir on : Bool) : State :=
  let x := s.portAt p
  let m : BitVec 8 := BitVec.ofNat 8 (2 ^ l)
  let f := fun (w : BitVec 8) => if on then w ||| m else w &&& ~~~ m
  if dir then s.setLanes p x.txLanes (f x.rxLanes) else s.setLanes p (f x.txLanes) x.rxLanes

/-! ### Rings (R294 to R297) -/

/-- An engine's temperature in units of 0.25 °C. -/
def State.engineTemp (s : State) (e : Nat) : Int := Tab.get 0 s.opt.temp e

/-- The table value of a ring at a temperature (R294): linear between the points from 20 °C to 95 °C, beyond them from the two nearest. -/
def tableCode (ring : Nat) (t : Int) : Int :=
  let i := (max 0 (min 14 ((t - 80) / 20))).toNat
  let a : Int := (Config.heaterTable ring i % 4096 : Nat)
  let b : Int := (Config.heaterTable ring (i + 1) % 4096 : Nat)
  a + (b - a) * (t - 80 - 20 * (i : Int)) / 20

/-- A heater code has 12 bits. -/
def clampCode (v : Int) : Int := max 0 (min 4095 v)

/-- A wavelength of an engine has no feed (R303). -/
def State.isDark (s : State) (e k : Nat) : Bool := (Tab.get 0 s.opt.feedDark e).getLsbD k

/-- The port runs in coherent mode (R290). -/
def State.coherent (s : State) (p : Nat) : Bool := s.field (A.pmapReg p) 0 0 == 1

/-- A ring that is not working holds no heater setting, lock or tone (R294 to R297). -/
def Lane.loose (x : Lane) (st : LaneSt) : Lane :=
  { x with
    st := st, okSince := none, locked := false, lockedAt := none, toned := false, tonedAt := none, outRecal := none, forSwitch := false }

/-- The wavelength that a ring works with (R289, R290): a receive ring of D1 or D2 has that of the far end's pair, as its tone check found it,
or as the far end's position gives it. -/
def State.ringWave (s : State) (q l : Nat) (dir : Bool) : Nat :=
  let x := s.laneAt q l dir
  if !dir || decide (q < 32) then waveOf q l
  else if x.toned then x.tone
  else match Tab.find s.opt.posIdent q with
    | some f => waveOf (fld f.w0 43 37) l
    | none => waveOf q l

/-- A ring is without its feed (R295): a transmit ring, and the receive ring of a coherent port, whose local oscillator comes from the
engine's own feed (R290). A receive ring of an OOK port takes its light from the far end. -/
def State.ringDark (s : State) (q l : Nat) (dir : Bool) : Bool :=
  s.isDark (engineOf q) (s.ringWave q l dir) && (!dir || (s.portOfPos q).any s.coherent)

/-- The spare position of a dimension (R287). -/
def sparePos (d : Nat) : Nat := 31 + 32 * d

/-- A position that serves no port is in use while a port of its dimension trains and swapped cables may be adopted (R310). -/
def State.spareUsed (s : State) (q : Nat) : Bool :=
  s.field A.optCfg 8 8 == 1 && (s.portOfPos q).isNone
    && (List.range numPorts).any fun p => portDim p == posDim q && decide ((s.portAt p).st = .training)

/-- The rings of a position are in use: its port is UP or trains, or it is a spare one that may be adopted. -/
def State.posUsed (s : State) (q : Nat) : Bool :=
  match s.portOfPos q with
  | some p => s.portUp p || decide ((s.portAt p).st = .training)
  | none => s.spareUsed q

/-- A ring is held by the two actions of R295: not retired, not dark, and in use or locked. -/
def State.ringHeld (s : State) (q l : Nat) (dir : Bool) : Bool :=
  let x := s.laneAt q l dir
  x.st != .retired && !s.ringDark q l dir && (x.st != .down || x.locked || s.posUsed q)

/-- An engine at a new temperature (R294, R295): feed-forward on its rings but those whose feed is dark, and the event outside 20 °C to
95 °C. -/
def State.setEngineTemp (s : State) (e : Nat) (t : Int) : State :=
  let old := s.engineTemp e
  let s := { s with opt := { s.opt with
    temp := Tab.put s.opt.temp e t
    lane := s.opt.lane.map fun (r : Nat × Lane) =>
      if engineOf (r.1 / 16) = e ∧ s.ringHeld (r.1 / 16) (r.1 / 2 % 8) (r.1 % 2 == 1) then
        (r.1, { r.2 with heater := clampCode (r.2.heater + tableCode r.1 t - tableCode r.1 old) })
      else r } }
  if t < 80 ∨ 380 < t then s.setBit A.optEvents 10 else s

/-- A ring starts to lock at its table point (R294, R296); without its feed it is DOWN (R303). -/
def State.startLock (s : State) (q l : Nat) (dir : Bool) (x : Lane) : State :=
  s.setLane q l dir (if s.ringDark q l dir then x.loose .down
    else { x.loose .locking with heater := clampCode (tableCode (ringOf q l dir) (s.engineTemp (engineOf q)) + x.offset) })

/-- A recovery under R296 begins, or waits for the feed (R303). -/
def State.startRecovery (s : State) (q l : Nat) (dir : Bool) : State :=
  let dark := s.ringDark q l dir
  let s := s.startLock q l dir (s.laneAt q l dir)
  if dark then s else s.bump A.optCounts 47 32 1

/-- PILOT_LOOP_UPDATE (R295): the loop moves the heater; a ring whose feed is dark holds its code. A ring whose error leaves ±2 GHz no
longer counts as locked, and its next lock is checked again (R296). -/
def execPilotLoopUpdate (q l : Nat) (dir : Bool) (step errMHz : Int) (s : State) : Host.Outcome State Fault Refusal :=
  onUnit (ringOk q l)
    (let x := s.laneAt q l dir
     let near := decide (-2000 ≤ errMHz) && decide (errMHz ≤ 2000)
     if !s.ringHeld q l dir then s
     else s.setLane q l dir { x with
       heater := clampCode (x.heater + step)
       okSince := if near then some (x.okSince.getD s.clk) else none
       locked := x.locked && near, lockedAt := if near then x.lockedAt else none
       toned := x.toned && near, tonedAt := if near then x.tonedAt else none })

/-- RING_LOCK (R295): within ±2 GHz for 20 µs. -/
def execRingLock (q l : Nat) (dir : Bool) (s : State) : Host.Outcome State Fault Refusal :=
  onUnit (ringOk q l)
    (let x := s.laneAt q l dir
     match x.okSince with
     | some t =>
       if s.ringHeld q l dir ∧ !x.locked ∧ t + 40000 ≤ s.clk then s.setLane q l dir { x with locked := true, lockedAt := some s.clk } else s
     | none => s)

/-- Retirement (R299): 1 after failures, 2 by command (R417). -/
def State.retireLane (s : State) (q l : Nat) (dir : Bool) (cause : Nat) : State :=
  let s := s.setLane q l dir ((s.laneAt q l dir).loose .retired)
  ((s.setBit A.optEvents 1).bump A.optCounts 15 0 1).note { sev := 2, index := q * 8 + l, code := 0x5002, p0 := cause }

/-- A failure counts toward FAILS; the third consecutive one retires the lane, another starts a new attempt (R296). -/
def State.countFail (s : State) (q l : Nat) (dir : Bool) : State :=
  let x := s.laneAt q l dir
  let s := s.setLane q l dir { x with fails := min 3 (x.fails + 1) }
  if 2 ≤ x.fails then s.retireLane q l dir 1 else s.startLock q l dir (s.laneAt q l dir)

/-- The tone that a ring's lane expects (R296): for a filter on D1 or D2 either of two. -/
def toneExpected (q l : Nat) (dir : Bool) (tone : Nat) : Bool :=
  if dir && decide (32 ≤ q) then tone == l || tone == l + 4 else tone == waveOf q l

/-! ### CONTROL frames with CTYPE 1 (R305) -/

/-- The module's identity digest (R381). -/
def State.identityDigest (s : State) : BitVec 256 := sha3 (bytesOf (identityKey s.fuse.secret))

/-- SUB of a frame body. -/
def ctlSub (f : Words4) : Nat := fld f.w0 63 60
/-- VER_MAJOR. -/
def ctlMajor (f : Words4) : Nat := fld f.w0 59 52
/-- LOG_PORT. -/
def ctlLogPort (f : Words4) : Nat := fld f.w0 36 30
/-- LANES. -/
def ctlLanes (f : Words4) : BitVec 8 := BitVec.ofNat 8 (fld f.w0 23 16)
/-- EID. -/
def ctlEid (f : Words4) : Nat := fld f.w0 15 0
/-- RX_PEER. -/
def ctlRxPeer (f : Words4) : Nat := fld f.w2 47 32
/-- LANE. -/
def ctlLane (f : Words4) : Nat := fld f.w3 63 61
/-- DIR. -/
def ctlDir (f : Words4) : Bool := bit f.w3 60
/-- CAUSE. -/
def ctlCause (f : Words4) : Nat := fld f.w3 59 56
/-- SWITCH_SLOT. -/
def ctlSlot (f : Words4) : Nat := fld f.w3 55 0

/-- Reserved bits and values are absent (R13, R305). -/
def ctlValid (f : Words4) : Bool :=
  let cause := ctlCause f
  fld f.w0 27 24 == 0 && fld f.w2 31 8 == 0 && decide (ctlSub f < 5) && decide (fld f.w0 29 28 < 2) && decide (fld f.w0 43 37 < numPos)
    && (decide (ctlLogPort f < numPorts) || ctlLogPort f == 127) && ((ctlSub f != 0 && ctlSub f != 4) || ctlSlot f == 0)
    && (ctlSub f != 1 || decide (1 ≤ cause ∧ cause ≤ 4)) && (ctlSub f != 3 || cause == 0 || cause == 15)
    && (ctlSub f != 4 || decide (1 ≤ cause ∧ cause ≤ 5))

/-- Lanes of a port's receive direction that are qualified or working: its working set, and while it trains its qualified lanes. -/
def State.readyLanes (s : State) (p : Nat) : BitVec 8 :=
  if s.portUp p then (s.portAt p).rxLanes
  else BitVec.ofNat 8 ((List.range (fullLanes p)).foldl (fun m l =>
    m + b2n ((s.laneAt (s.posServing p) l true).st == .working) * 2 ^ l) 0)

/-- The logical port whose expected peer an EID is (R310). -/
def State.mappedPort (s : State) (eid : Nat) : Option Nat := (List.range numPorts).find? fun n => s.farEid n == some eid

/-- LOG_PORT of a position that a port uses (R305, R310): under policy adopt the port to which the received EID maps it, 127 until then. -/
def State.logPort (s : State) (q p : Nat) : Nat :=
  if s.field A.optCfg 8 8 = 0 then p
  else match Tab.find s.opt.posIdent q with
    | some f => (s.mappedPort (ctlEid f)).getD 127
    | none => 127

/-- Lanes of a frame's LANES field, where a port uses the position (R305). -/
def State.lanesFor (s : State) (p : Nat) : BitVec 8 := if p < numPorts then s.readyLanes p else 0

/-- The body of a frame that a port sends on a position; port 127 is none. -/
def State.ctlBody (s : State) (q p sub lane : Nat) (dir : Bool) (cause slot : Nat) : Words4 :=
  let log := s.logPort q p
  let rx := ((Tab.find s.opt.posIdent q).map ctlEid).getD 0xFFFF
  { w0 := BitVec.ofNat 64 (sub * 2 ^ 60 + s.svc.protoMajor % 256 * 2 ^ 52 + q * 2 ^ 37 + log * 2 ^ 30
      + (if p < numPorts then s.field (A.pmapReg p) 0 0 else 0) * 2 ^ 28
      + (s.lanesFor p).toNat * 2 ^ 16 + s.topo.ownEid)
    w1 := s.identityDigest.truncate 64
    w2 := BitVec.ofNat 64 ((if log < numPorts then (s.farEid log).getD 0xFFFF else 0xFFFF) * 2 ^ 48 + rx * 2 ^ 32 + s.opt.seq)
    w3 := BitVec.ofNat 64 (lane * 2 ^ 61 + b2n dir * 2 ^ 60 + cause * 2 ^ 56 + slot % 2 ^ 56) }

/-- Send a training and identity frame on lane `on` of a position that a port uses (R259, R305). -/
def State.sendCtlOn (s : State) (q p on sub lane : Nat) (dir : Bool) (cause slot : Nat) : State :=
  let t := { s with opt := { s.opt with seq := (s.opt.seq + 1) % 256 } }
  t.sendControl p q on 1 (s.ctlBody q p sub lane dir cause slot)

/-- Send a lane message on a working lane of the port: the lowest-numbered one (R298). -/
def State.sendCtl (s : State) (p sub lane : Nat) (dir : Bool) (cause slot : Nat) : State :=
  match s.lowLane p with
  | some on => s.sendCtlOn (s.posServing p) p on sub lane dir cause slot
  | none => s

/-- Milliseconds by which a coherent port's bring-up is behind that of another (R306, log 73). -/
def State.bringLate (s : State) (p : Nat) : Nat := if s.coherent p then 5 else 0

/-- The aligned lanes of a position: those whose receive ring has locked and passed its tone check (R306, log 111). -/
def State.alignedLanes (s : State) (q : Nat) : List Nat := (List.range (posLanes q)).filter fun l => (s.laneAt q l true).toned

/-- IDENT on every aligned lane of a position that a port uses. -/
def State.identOn (s : State) (q p : Nat) : State := (s.alignedLanes q).foldl (fun s l => s.sendCtlOn q p l 0 0 false 0 0) s

/-- A port in training is in its IDENT exchange (R306): in the millisecond that the sequence gives it, and in the last one, which announces
LANES. -/
def State.exchanges (s : State) (p : Nat) (t : Nat) : Bool :=
  let n := s.clk - t
  let from_ := (3 + s.bringLate p) * ms1
  decide ((s.portAt p).st = .training ∧ ((from_ ≤ n ∧ n < from_ + ms1) ∨ (14 + s.bringLate p) * ms1 ≤ n))

/-- IDENT every 10 µs on the ports in their exchange, and on a spare position of their dimension that may be adopted, which names the port to
which what it receives maps it (R306, R310). -/
def State.sendIdents (s : State) : State :=
  let now := s.opt.bring.filter fun b => b.2.releasedAt.any fun t => s.exchanges b.1 t && (s.clk - t) % 20000 == 0
  let t := now.foldl (fun s b => s.identOn (s.posServing b.1) b.1) s
  ((List.range 3).filter fun d => s.spareUsed (sparePos d) && now.any fun b => portDim b.1 == d).foldl (fun s d => s.identOn (sparePos d) 127) t

/-- At each even slot number that the counter has reached every driven lane begins a lane block, whose marker names the lane, the position and
the low 16 bits of the slot (R291); a spare position or one that sends BAR drives all its lanes. -/
def State.laneBlocks (s : State) : State :=
  if s.time.moved ≤ s.time.counter.toNat % 256 then s
  else
    let slot := s.slot / 2 * 2 % 2 ^ 16
    let s := s.hub.port.foldl (fun s e =>
      (List.range 8).foldl (fun s l =>
        if (s.drivenLanes e.1).getLsbD l then s.emit (.laneBlock (s.posServing e.1) l slot) else s) s) s
    let free := ((List.range 3).map sparePos).filter fun q => s.spareUsed q && (Tab.find s.opt.posBar q).isNone
    (free ++ Tab.keys s.opt.posBar).foldl (fun s q =>
      (List.range (posLanes q)).foldl (fun s l => s.emit (.laneBlock q l slot)) s) s

/-- What the module does while no command waits: time goes on, lane blocks begin (R291), and ports in bring-up send their IDENT (R306, log 2). -/
def State.idle (s : State) : State := s.tick.laneBlocks.sendIdents

/-! ### Lane changes (R293, R297 to R299) -/

/-- The switch slot of a message sent now: the one-way delay of R33 and 2 µs ahead (R298). -/
def State.switchSlot (s : State) (p : Nat) : Nat := s.slotAfter (4000 + ((s.nbrAt p).delay.toNat + 15) / 16)

/-- Take changes off the list. -/
def State.dropChanges (s : State) (f : LaneChange → Bool) : State :=
  { s with opt := { s.opt with change := s.opt.change.filter fun c => !f c } }
/-- Put a change on the list. -/
def State.addChange (s : State) (c : LaneChange) : State := { s with opt := { s.opt with change := s.opt.change ++ [c] } }

/-- A change that is under way: neither cancelled nor refused. -/
def LaneChange.live (c : LaneChange) : Bool := c.retryAt.isNone && !c.refused

/-- A change of one lane of a port direction. -/
def LaneChange.isFor (c : LaneChange) (p l : Nat) (dir : Bool) : Bool := c.port == p && c.lane == l && c.dir == dir

/-- Propose a planned change: LANE_DROP or LANE_ADD with a switch slot. -/
def State.planChangeAt (s : State) (n p l : Nat) (dir add : Bool) (cause : Nat) : State :=
  (s.addChange
    { port := p, dir := dir, lane := l, add := add, cause := cause, slot := n, ours := true, acked := false, retryAt := none
      refused := false }).sendCtl p
    (if add then 2 else 1) l dir (if add then 0 else cause) n

/-- Propose a planned change at the port's own switch slot. -/
def State.planChange (s : State) (p l : Nat) (dir add : Bool) (cause : Nat) : State := s.planChangeAt (s.switchSlot p) p l dir add cause

/-- A lane whose recalibration is over, with its offset: it waits for its LANE_ADD at the table point (R297). -/
def State.rejoining (s : State) (q l : Nat) (dir : Bool) (x : Lane) : State :=
  s.setLane q l dir { x with
    st := .locking, locked := true, lockedAt := some s.clk, toned := true, tonedAt := some s.clk
    heater := clampCode (tableCode (ringOf q l dir) (s.engineTemp (engineOf q)) + x.offset) }

/-- A recalibration is aborted when a fault leaves a direction with fewer than L − 1 lanes (R297): the lane rejoins at once, by a LANE_ADD,
with its previous offset. -/
def State.abortRecal (s : State) (p : Nat) (dir : Bool) : State :=
  if laneCount ((s.portAt p).lanes dir) + 1 < fullLanes p then
    let q := s.posServing p
    (List.range (fullLanes p)).foldl (fun s l =>
      let x := s.laneAt q l dir
      if x.st = .recal then (s.rejoining q l dir x).planChange p l dir true 0 else s) s
  else s

/-- A lane of a port's receive direction leaves its working set for a fault (R260, R293): the fault LANE_DROP goes to the peer, planned
changes of the lane fall, and recovery begins. -/
def State.faultDrop (s : State) (p l : Nat) : State :=
  let q := s.posServing p
  let s := (s.setWorking p l true false).bump (A.perr q) 15 0 1
  let s := (s.dropChanges fun c => c.isFor p l true).sendCtl p 1 l true 1 (s.switchSlot p)
  (s.startRecovery q l true).abortRecal p true

/-- A lane is in the working set of a port that is UP. -/
def State.inSet (s : State) (q l : Nat) (dir : Bool) : Bool :=
  (s.portOfPos q).any fun p => s.portUp p && ((s.portAt p).lanes dir).getLsbD l

/-- A failure under R296 of a lane: one that is still in its working set leaves it by a fault drop, and its recovery begins (DESIGN CHOICE,
log 112). -/
def State.laneFailed (s : State) (q l : Nat) (dir : Bool) : State :=
  match s.portOfPos q with
  | some p =>
    if s.inSet q l dir then
      let s := ((s.setWorking p l dir false).bump (A.perr q) 15 0 1).dropChanges fun c => c.isFor p l dir
      let s := (s.sendCtl p 1 l dir 1 (s.switchSlot p)).countFail q l dir
      (if (s.laneAt q l dir).st = .locking then s.bump A.optCounts 47 32 1 else s).abortRecal p dir
    else s.countFail q l dir
  | none => s.countFail q l dir

/-- An attempt at recovery fails (R296): the next one begins, unless the lane is retired. -/
def State.attemptFailed (s : State) (q l : Nat) (dir : Bool) : State :=
  let t := s.laneFailed q l dir
  if (t.laneAt q l dir).st = .retired ∨ s.inSet q l dir = true then t else t.bump A.optCounts 47 32 1

/-- TONE_CHECK (R296): after a lock that has not been checked, over 40 µs. -/
def execToneCheck (q l : Nat) (dir : Bool) (tone : Nat) (margin : Int) (s : State) : Host.Outcome State Fault Refusal :=
  onUnit (ringOk q l)
    (let x := s.laneAt q l dir
     if !x.locked || x.toned || x.lockedAt.all (fun t => decide (s.clk < t + 80000)) then s
     else
       let s := s.setLane q l dir { x with tone := tone % 8 }
       if toneExpected q l dir tone ∧ 10 ≤ margin then
         s.setLane q l dir { s.laneAt q l dir with toned := true, tonedAt := some s.clk, fails := 0 }
       else
         let s := (s.bump A.optCounts 63 48 1).setBit A.optEvents 0
         let s := s.note { sev := 2, index := q * 8 + l, code := 0x5001
                           p0 := tone % 8 + min 3 (x.fails + 1) * 2 ^ 3 + b2n dir * 2 ^ 8 }
         s.laneFailed q l dir)

/-- LANE_SILENCE (R260): no good frame on the lane for 1 µs. -/
def execLaneSilence (p l : Nat) (s : State) : Host.Outcome State Fault Refusal :=
  onUnit (p < numPorts ∧ l < fullLanes p)
    (let x := s.portAt p
     if s.portUp p ∧ x.rxLanes.getLsbD l ∧ Tab.get 0 x.lastGood l + 2000 ≤ s.ct then s.faultDrop p l else s)

/-- LANE_FEC_FAULT (R292, R293): four uncorrectable codewords within 1 ms. -/
def execLaneFecFault (p l : Nat) (s : State) : Host.Outcome State Fault Refusal :=
  onUnit (p < numPorts ∧ l < fullLanes p)
    (let bad := (Tab.get [] (s.portAt p).fecBad l).filter fun t => decide (s.clk < t + ms1)
     if s.portUp p ∧ (s.portAt p).rxLanes.getLsbD l ∧ 4 ≤ bad.length then s.faultDrop p l else s)

/-- A lane message of a port (R298, R305): reserved values discard it, and it is counted (R13). -/
def laneMsgOk (p : Nat) (f : Words4) : Bool := ctlValid f && decide (ctlLane f < fullLanes p)

/-- A LANE_DROP or LANE_ADD of the peer (R298): a fault drop needs no answer and prevails over planned changes of the lane; of two planned
changes that cross, neither of them agreed yet, the one from the lower EID proceeds. A LANE_ADD of a lane whose ring here is retired, or has
not passed its tone check, is refused (R296, R299, log 112). -/
def State.takeChange (s : State) (p : Nat) (f : Words4) (add : Bool) : State :=
  if !laneMsgOk p f then s.bump A.drops 15 0 1
  else if ctlSub f ≠ (if add then 2 else 1) then s
  else
    let l := ctlLane f
    let dir := !ctlDir f
    let fault := !add && ctlCause f == 1
    let c : LaneChange :=
      { port := p, dir := dir, lane := l, add := add, cause := ctlCause f, slot := ctlSlot f, ours := false, acked := true, retryAt := none
        refused := false }
    let crosses : LaneChange → Bool := fun c => c.port == p && c.dir == dir && c.ours && !c.acked && c.live
    if fault then (s.dropChanges fun c => c.isFor p l dir).addChange c
    else if s.opt.change.any crosses && decide (s.topo.ownEid < ctlEid f) then s.sendCtl p 3 l dir 15 (ctlSlot f)
    else if add && !(s.laneAt (s.posServing p) l dir).toned then s.sendCtl p 3 l dir 15 (ctlSlot f)
    else
      let s := { s with opt := { s.opt with change := s.opt.change.map fun (x : LaneChange) =>
        (if crosses x then { x with refused := true } else x) } }
      (s.addChange c).sendCtl p 3 l dir 0 (ctlSlot f)

/-- A CONTROL frame of CTYPE 1 on a lane of a trained port, given to `g` with its body. -/
def State.onControl (s : State) (p l : Nat) (f : CtlFrame) (g : State → Words4 → State) : Host.Outcome State Fault Refusal :=
  onUnit (p < numPorts ∧ l < fullLanes p)
    (match s.receiveCtl p l f 1 with
     | (some s, _) => g s f.body
     | (none, s) => s)

/-- LANE_DROP (R298). -/
def execLaneDrop (p l : Nat) (f : CtlFrame) (s : State) : Host.Outcome State Fault Refusal :=
  s.onControl p l f fun s b => s.takeChange p b false

/-- LANE_ADD (R298). -/
def execLaneAdd (p l : Nat) (f : CtlFrame) (s : State) : Host.Outcome State Fault Refusal :=
  s.onControl p l f fun s b => s.takeChange p b true

/-- The peer's answer to a change (R298): accepted, or refused and retried after the change that goes first. -/
def State.takeAck (s : State) (p : Nat) (f : Words4) : State :=
  if !laneMsgOk p f then s.bump A.drops 15 0 1
  else if ctlSub f ≠ 3 then s
  else
    let answered : LaneChange → LaneChange := fun c =>
      if c.isFor p (ctlLane f) (!ctlDir f) && c.ours && c.live then
        (if ctlCause f = 0 then { c with acked := true } else { c with refused := true })
      else c
    { s with opt := { s.opt with change := s.opt.change.map answered } }

/-- LANE_ACK (R298). -/
def execLaneAck (p l : Nat) (f : CtlFrame) (s : State) : Host.Outcome State Fault Refusal := s.onControl p l f fun s b => s.takeAck p b

/-- A change takes effect: the working set, and the ring where the change is this end's own. A lane dropped for a feed switch waits for
the switch (R304); the peer's fault drop may abort a recalibration (R297), and leaves a ring that recovers at it (R302). A retired lane
stays retired (R299). -/
def State.applyChange (s : State) (c : LaneChange) : State :=
  let q := s.posServing c.port
  let s := s.setWorking c.port c.lane c.dir c.add
  let x := s.laneAt q c.lane c.dir
  let put := s.setLane q c.lane c.dir
  if x.st = .retired then s.setWorking c.port c.lane c.dir false
  else if c.add then put { x with st := .working, outRecal := none, forSwitch := false }
  else if !c.ours then
    let s := put { x with
      st := if x.st = .working then .down else x.st
      outRecal := if c.cause = 2 then some false else none }
    if c.cause = 1 then s.abortRecal c.port c.dir else s
  else if c.cause = 4 then put { x with st := .down, forSwitch := true }
  else if c.cause = 2 then put { x.loose .recal with outRecal := some true }
  else if c.cause = 3 then s.retireLane q c.lane c.dir 2
  else s.startRecovery q c.lane c.dir

/-- LANE_CHANGE_SWITCH (R298): at the switch slot; without its acknowledgement a planned change is cancelled and retried. -/
def execLaneChangeSwitch (p : Nat) (dir : Bool) (l : Nat) (s : State) : Host.Outcome State Fault Refusal :=
  onUnit (p < numPorts ∧ l < fullLanes p)
    (match s.opt.change.find? fun (c : LaneChange) => c.isFor p l dir && c.live && decide (c.slot ≤ s.slot) with
     | some c =>
       let t := s.dropChanges fun d => d == c
       if c.ours && !c.acked then t.addChange { c with retryAt := some (s.clk + ms1) } else t.applyChange c
     | none => s)

/-- A change may be tried again (R298): its time has come, or it was refused and no change of the peer in its port direction is under way. -/
def State.mayRetry (s : State) (c : LaneChange) : Bool :=
  (c.retryAt.any fun t => decide (t ≤ s.clk))
    || (c.refused && !s.opt.change.any fun (d : LaneChange) => d.port == c.port && d.dir == c.dir && !d.ours)

/-- Changes that are tried again together: the drops for one feed switch go at one switch slot (R304). -/
def State.retriedWith (s : State) (c d : LaneChange) : Bool :=
  let wave := fun (x : LaneChange) => (engineOf (s.posServing x.port), s.ringWave (s.posServing x.port) x.lane x.dir)
  d == c || (c.cause == 4 && d.cause == 4 && d.ours && s.mayRetry d && wave c == wave d)

/-- LANE_CHANGE_RETRY (R298). -/
def execLaneChangeRetry (p : Nat) (dir : Bool) (l : Nat) (s : State) : Host.Outcome State Fault Refusal :=
  onUnit (p < numPorts ∧ l < fullLanes p)
    (match s.opt.change.find? fun (c : LaneChange) => c.isFor p l dir && s.mayRetry c with
     | some c =>
       let all := s.opt.change.filter (s.retriedWith c)
       let n := all.foldl (fun n (d : LaneChange) => max n (s.switchSlot d.port)) 0
       all.foldl (fun s (d : LaneChange) => s.planChangeAt n d.port d.lane d.dir d.add d.cause) (s.dropChanges (s.retriedWith c))
     | none => s)

/-- The time that a lane's qualification takes and the corrected symbols that it allows (R296, R306): 10 ms from 4 ms after release on a
port in bring-up (9 ms if coherent), else 1 ms after the tone check with a tenth of the symbols (log 111). -/
def State.qualWindow (s : State) (q : Nat) (x : Lane) : Option (Nat × Nat) :=
  match s.portOfPos q with
  | some p =>
    if (s.portAt p).st = .training then
      (Tab.get Bring.init s.opt.bring p).releasedAt.map fun t => (t + (14 + s.bringLate p) * ms1, 131072)
    else x.tonedAt.map fun t => (t + ms1, 13107)
  | none => x.tonedAt.map fun t => (t + ms1, 13107)

/-- LANE_QUALIFIED (R296, R306) with the corrected symbols and uncorrectable codewords of the qualification, which PERRq counts: a
recovering lane rejoins by LANE_ADD, or on a port in bring-up counts as qualified; else it fails. -/
def execLaneQualified (q l : Nat) (dir : Bool) (corrected bad : Nat) (s : State) : Host.Outcome State Fault Refusal :=
  onUnit (ringOk q l)
    (let x := s.laneAt q l dir
     if x.st ≠ .locking ∨ !x.toned ∨ (s.qualWindow q x).all (fun w => decide (s.clk < w.1)) then s
     else
     let ok := decide (bad = 0) && (s.qualWindow q x).any fun w => decide (corrected ≤ w.2)
     let s := if corrected = 0 then s else s.bumpKi (A.perr q) 63 32 corrected
     let s := if bad = 0 then s else s.bump (A.perr q) 31 16 bad
     if !ok then s.attemptFailed q l dir
     else match s.portOfPos q with
       | some p => if s.portUp p then s.planChange p l dir true 0 else s.setLane q l dir { x with st := .working }
       | none => s.setLane q l dir { x with st := .working })

/-- A ring is due for recalibration (R297, R313): by its period, by the drift since its last calibration, or by RECAL_NOW. -/
def State.recalDue (s : State) (q : Nat) (x : Lane) : Bool :=
  decide (max x.calAt s.opt.upAt + s.field A.optCfg 31 24 * 60000 * ms1 ≤ s.clk)
    || (x.calAt != 0 && decide ((s.field A.optCfg 23 16 : Int) ≤ |s.engineTemp (engineOf q) - x.calTemp|))
    || (s.opt.recalAt.any fun t => decide (x.calAt ≤ t))

/-- Lanes of an engine that are out for its recalibration, from drop to add, or on their way. -/
def State.recalsOf (s : State) (e : Nat) : Nat :=
  (s.opt.lane.filter fun r => engineOf (r.1 / 16) == e && r.2.outRecal == some true).length
    + (s.opt.change.filter fun c => c.ours && !c.add && c.cause == 2 && engineOf (s.posServing c.port) == e).length

/-- A port direction has a lane out for recalibration by either end, or on its way. -/
def State.recalOut (s : State) (p : Nat) (dir : Bool) : Bool :=
  ((List.range (fullLanes p)).any fun l => (s.laneAt (s.posServing p) l dir).outRecal.isSome)
    || s.opt.change.any fun (c : LaneChange) => c.port == p && c.dir == dir && !c.add && c.cause == 2

/-- RECAL_START (R297): a planned LANE_DROP, one lane of a port direction and four of an engine at a time. -/
def execRecalStart (q l : Nat) (dir : Bool) (s : State) : Host.Outcome State Fault Refusal :=
  onUnit (ringOk q l)
    (match s.portOfPos q with
     | some p =>
       let x := s.laneAt q l dir
       if s.svc.switching = none ∧ s.portUp p ∧ s.field A.optCtrl 0 0 = 1 ∧ x.st = .working ∧ ((s.portAt p).lanes dir).getLsbD l ∧ s.recalDue q x
           ∧ !s.recalOut p dir ∧ s.recalsOf (engineOf q) < 4 then s.planChange p l dir false 2
       else s
     | none => s)

/-- RECAL_COMPLETE (R297): with its lock, tone check and 1 ms of qualification behind it the lane takes the learned offset and rejoins; one
that fails goes into recovery. -/
def execRecalComplete (q l : Nat) (dir ok : Bool) (offset : Int) (s : State) : Host.Outcome State Fault Refusal :=
  onUnit (ringOk q l)
    (let x := s.laneAt q l dir
     if x.st ≠ .recal then s
     else if !ok then s.attemptFailed q l dir
     else if !x.toned || x.tonedAt.all (fun t => decide (s.clk < t + ms1)) then s
     else
       let s := (s.rejoining q l dir { x with
         offset := offset, calAt := s.clk, calTemp := s.engineTemp (engineOf q), fails := 0 }).bump A.optCounts 31 16 1
       match s.portOfPos q with
       | some p => if s.portUp p then s.planChange p l dir true 0 else s
       | none => s)

/-- OPT.CTRL.RECAL_NOW (R313): every ring is due. -/
def State.recalAll (s : State) : State := { s with opt := { s.opt with recalAt := some s.clk } }

/-- RECAL_NOW (R313). -/
def execRecalNow (s : State) : Host.Outcome State Fault Refusal := .next (if s.dom.hub then s.recalAll else s)

/-- The lane that OPT.LSEL selects: position, lane, direction. -/
def State.laneSelected (s : State) : Nat × Nat × Bool := (s.field A.lsel 9 3, s.field A.lsel 2 0, s.field A.lsel 10 10 == 1)

/-- OPT.LCMD.RETIRE (R299): a working lane by a planned drop. -/
def State.retireSelected (s : State) : State :=
  let (q, l, dir) := s.laneSelected
  if !ringOk q l then s
  else
    match s.portOfPos q with
    | some p =>
      if s.portUp p ∧ ((s.portAt p).lanes dir).getLsbD l then s.planChange p l dir false 3
      else if (s.laneAt q l dir).st = .retired then s else s.retireLane q l dir 2
    | none => if (s.laneAt q l dir).st = .retired then s else s.retireLane q l dir 2

/-- RETIRE (R299). -/
def execRetire (s : State) : Host.Outcome State Fault Refusal := .next (if s.dom.hub then s.retireSelected else s)

/-- OPT.LCMD.RESTORE (R299): recovery of a retired lane, FAILS cleared. -/
def State.restoreSelected (s : State) : State :=
  let (q, l, dir) := s.laneSelected
  let x := s.laneAt q l dir
  if ringOk q l ∧ x.st = .retired then (s.setLane q l dir { x with fails := 0 }).startRecovery q l dir else s

/-- RESTORE (R299). -/
def execRestore (s : State) : Host.Outcome State Fault Refusal := .next (if s.dom.hub then s.restoreSelected else s)

/-! ### Cassettes and feeds (R15, R301 to R304, R426, R427) -/

/-- A cassette. -/
def State.cassAt (s : State) (c : Nat) : Cass := Tab.get Cass.init s.opt.cass c
/-- Store a cassette. -/
def State.setCass (s : State) (c : Nat) (x : Cass) : State := { s with opt := { s.opt with cass := Tab.put s.opt.cass c x } }

/-- A cassette gives light of a wavelength: its fixed source or a spare serves it. -/
def Cass.gives (x : Cass) (k : Nat) : Bool :=
  (decide (x.st = .running) || decide (x.st = .removing)) && (!x.failed.getLsbD k || x.spare0 == some k || x.spare1 == some k)

/-- Wavelengths of an engine on its secondary feed. -/
def State.secAt (s : State) (e : Nat) : BitVec 8 := Tab.get 0 s.opt.feedSec e

/-- Whether a wavelength of an engine has light from the cassette that its switch selects. -/
def State.fed (s : State) (e k : Nat) : Bool := (s.cassAt ((e + b2n ((s.secAt e).getLsbD k)) % 4)).gives k

/-- Lanes after feeds have changed (R303): those without light are DOWN, those whose light has returned recover. A receive lane has the
engine's feed for its local oscillator in coherent mode only (R290). -/
def State.relight (s : State) (was : Tab (BitVec 8)) : State :=
  s.opt.lane.foldl (fun s r =>
    let q := r.1 / 16
    let l := r.1 / 2 % 8
    let dir := r.1 % 2 == 1
    let k := s.ringWave q l dir
    if (dir && !(s.portOfPos q).any s.coherent) || decide (r.2.st = .retired) then s
    else if s.isDark (engineOf q) k then s.setLane q l dir (r.2.loose .down)
    else if (Tab.get 0 was (engineOf q)).getLsbD k ∧ r.2.st = .down ∧ s.posUsed q then s.startRecovery q l dir
    else s) s

/-- FEED_DARK of every engine as its switches and the cassettes stand (R303), and what follows for the lanes. -/
def State.refreshDark (s : State) : State :=
  let was := s.opt.feedDark
  let s := { s with opt := { s.opt with feedDark := (List.range 16).map fun e =>
      (e, BitVec.ofNat 8 ((List.range 8).foldl (fun m k => m + b2n (!s.fed e k) * 2 ^ k) 0)) } }
  s.relight was

/-- The rings that a wavelength of an engine feeds, transmit rings and receive rings in coherent mode, lose their light and recover (R302);
those dropped for a switch back too (R304). -/
def State.relockWave (s : State) (e k : Nat) (back : Bool) : State :=
  s.opt.lane.foldl (fun s r =>
    let q := r.1 / 16
    let l := r.1 / 2 % 8
    let dir := r.1 % 2 == 1
    if engineOf q = e ∧ s.ringWave q l dir = k ∧ (!dir || (s.portOfPos q).any s.coherent) ∧ (r.2.st = .working ∨ (back ∧ r.2.forSwitch)) then
      s.startRecovery q l dir
    else s) s

/-- The switch of one wavelength of an engine moves to its secondary cassette (R302). -/
def State.toSecondary (s : State) (e k : Nat) : State :=
  if (s.secAt e).getLsbD k then s
  else ({ s with opt := { s.opt with feedSec := Tab.put s.opt.feedSec e (s.secAt e ||| BitVec.ofNat 8 (2 ^ k)) } }.setBit A.optEvents
    4).relockWave e k false

/-- The primary engines of a cassette (R15). -/
def primariesOf (c : Nat) : List Nat := (List.range 16).filter fun e => e % 4 == c

/-- A cassette fails or is pulled (R303): 1 failed, 2 removed (R417). -/
def State.failCass (s : State) (c : Nat) (removed : Bool) : State :=
  let x := s.cassAt c
  let s := s.setCass c { x with present := !removed, st := if removed then .absent else .failed, safe := false, spare0 := none, spare1 := none }
  let s := (s.setBit A.optEvents 3).report { sev := 3, index := c, code := 0x5004, p0 := if removed then 2 else 1 }
  ((primariesOf c).foldl (fun s e => (List.range 8).foldl (fun s k => s.toSecondary e k) s) s).refreshDark

/-- CASSETTE_FAIL (R303, R426): a prepared cassette that is pulled does not fail. -/
def execCassetteFail (c : Nat) (removed : Bool) (s : State) : Host.Outcome State Fault Refusal :=
  onUnit (c < 4)
    (let x := s.cassAt c
     if !x.present then s
     else if removed && x.safe then (s.setCass c { Cass.init with st := .absent }).refreshDark
     else s.failCass c removed)

/-- The wavelength of a source: 0 to 7 fixed, 8 and 9 the spares, in service or being tuned. -/
def Cass.waveOfSource (x : Cass) (i : Nat) : Option Nat :=
  if i < 8 then some i else if i = 8 then x.spare0.orElse fun _ => x.tune0 else x.spare1.orElse fun _ => x.tune1

/-- Spares that serve nothing and have not failed. -/
def Cass.idleSpares (x : Cass) : Nat :=
  b2n (x.spare0.isNone && !x.spareBad.getLsbD 0) + b2n (x.spare1.isNone && !x.spareBad.getLsbD 1)

/-- Wavelengths whose fixed source has failed and that no spare serves: a spare is being tuned to each, as far as there are any. -/
def Cass.unserved (x : Cass) : Nat :=
  ((List.range 8).filter fun k => x.failed.getLsbD k && x.spare0 != some k && x.spare1 != some k).length

/-- A spare is free for the last wavelength that lost its source (R302). -/
def Cass.hasSpare (x : Cass) : Bool := decide (x.unserved ≤ x.idleSpares)

/-- The free spare that is tuned to a wavelength (R302): the lower one first; none where both serve, are being tuned or have failed. -/
def Cass.tuneTo (x : Cass) (k : Nat) : Cass :=
  if x.spare0.isNone && x.tune0.isNone && !x.spareBad.getLsbD 0 then { x with tune0 := some k }
  else if x.spare1.isNone && x.tune1.isNone && !x.spareBad.getLsbD 1 then { x with tune1 := some k }
  else x

/-- A cassette with one source failed: a spare is tuned to its wavelength, where one is free. -/
def Cass.fail (x : Cass) (i now : Nat) : Cass :=
  let y := { x with
    failed := if i < 8 then x.failed ||| BitVec.ofNat 8 (2 ^ i) else x.failed
    spareBad := if i < 8 then x.spareBad else x.spareBad ||| BitVec.ofNat 2 (2 ^ (i - 8))
    spare0 := if i = 8 then none else x.spare0, tune0 := if i = 8 then none else x.tune0
    spare1 := if i = 9 then none else x.spare1, tune1 := if i = 9 then none else x.tune1
    failTimes := now :: x.failTimes.filter fun t => decide (now < t + ms1) }
  match x.waveOfSource i with
  | some k => y.tuneTo k
  | none => y

/-- The source has failed already. -/
def Cass.sourceBad (x : Cass) (i : Nat) : Bool := if i < 8 then x.failed.getLsbD i else x.spareBad.getLsbD (i - 8)

/-- SOURCE_FAIL (R302, R303). An idle spare's failure is reported too; the λ of its record is a free value (log 113). -/
def execSourceFail (c i : Nat) (s : State) : Host.Outcome State Fault Refusal :=
  onUnit (c < 4 ∧ i < 10)
    (let x := s.cassAt c
     if (x.st ≠ .running ∧ x.st ≠ .removing) ∨ x.sourceBad i then s
     else
       let y := x.fail i s.clk
       let s := (s.setCass c y).setBit A.optEvents 2
       let s := match x.waveOfSource i with
         | some k =>
           let s := s.report { sev := 2, index := c, code := 0x5003, p0 := k, p1 := b2n y.hasSpare }
           ((primariesOf c).foldl (fun s e => s.toSecondary e k) s).refreshDark
         | none => (s.report { sev := 2, index := c, code := 0x5003, p0 := s.freeW.toNat % 8 }).useFree
       let s := if y.hasSpare then s else s.setBit A.optEvents 11
       if 2 < y.failTimes.length then s.failCass c false else s)

/-- SPARE_VERIFIED (R302): the spare serves the wavelength that it has been tuned to. -/
def execSpareVerified (c i : Nat) (s : State) : Host.Outcome State Fault Refusal :=
  onUnit (c < 4 ∧ i < 2)
    (let x := s.cassAt c
     match (if i = 0 then x.tune0 else x.tune1) with
     | some k =>
       if x.st = .running ∧ s.svc.switching = none then
         (s.setCass c (if i = 0 then { x with spare0 := some k, tune0 := none } else { x with spare1 := some k, tune1 := none })).refreshDark
       else s
     | none => s)

/-- The lanes that a wavelength of an engine feeds, transmit lanes and receive lanes in coherent mode, but for retired ones: port, lane,
direction. -/
def State.lanesOn (s : State) (e k : Nat) : List (Nat × Nat × Bool) :=
  (List.range numPorts).flatMap fun p =>
    let q := s.posServing p
    if s.portUp p && engineOf q == e then
      (List.range (fullLanes p)).flatMap fun l => ([false, true].filter fun dir =>
        (!dir || s.coherent p) && s.ringWave q l dir == k && decide ((s.laneAt q l dir).st ≠ .retired)).map fun dir => (p, l, dir)
    else []

/-- A port direction has a lane out, but for retired ones and lanes that wait for the feed switch of a wavelength (R304). -/
def State.laneOut (s : State) (p : Nat) (dir : Bool) (k : Nat) : Bool :=
  let q := s.posServing p
  (List.range (fullLanes p)).any fun l =>
    let x := s.laneAt q l dir
    !((s.portAt p).lanes dir).getLsbD l && x.st != .retired && !(x.forSwitch && s.ringWave q l dir == k)

/-- The switch of one wavelength of an engine moves back to its primary cassette. -/
def State.toPrimary (s : State) (e k : Nat) : State :=
  ({ s with opt := { s.opt with feedSec := Tab.put s.opt.feedSec e (s.secAt e &&& ~~~ BitVec.ofNat 8 (2 ^ k)) } }.relockWave e k true).refreshDark

/-- FEED_SWITCH_BACK (R304): it waits while one of the port directions has a lane out; then every lane on the wavelength is dropped by a planned
change, all at the latest of their ports' switch slots; with all of them out the switch moves. -/
def execFeedSwitchBack (e k : Nat) (s : State) : Host.Outcome State Fault Refusal :=
  onUnit (e < 16 ∧ k < 8)
    (if !(s.secAt e).getLsbD k || !(s.cassAt (e % 4)).gives k || (s.cassAt (e % 4)).st != .running then s
     else
       let ls := s.lanesOn e k
       let inSet := ls.filter fun (p, l, dir) => ((s.portAt p).lanes dir).getLsbD l
       if ls.any fun (p, _, dir) => s.laneOut p dir k || s.opt.change.any fun (c : LaneChange) => c.port == p && c.dir == dir then s
       else if inSet.isEmpty then s.toPrimary e k
       else
         let n := inSet.foldl (fun n x => max n (s.switchSlot x.1)) 0
         inSet.foldl (fun s (p, l, dir) => s.planChangeAt n p l dir false 4) s)

/-- CASSETTE_INSERT (R427): the bay sensor of an empty bay closes. -/
def execCassetteInsert (c : Nat) (s : State) : Host.Outcome State Fault Refusal :=
  onUnit (c < 4) (if (s.cassAt c).present then s else s.setCass c { Cass.init with present := true, st := .starting })

/-- CASSETTE_VERIFY_END (R427). -/
def execCassetteVerifyEnd (c : Nat) (ok : Bool) (s : State) : Host.Outcome State Fault Refusal :=
  onUnit (c < 4)
    (let x := s.cassAt c
     if x.st = .starting then (s.setCass c { x with st := if ok then .running else .failed }).refreshDark else s)

/-- CASSETTE_SAFE (R426): every switch of the cassette's primary engines has moved to its secondary feed. -/
def execCassetteSafe (c : Nat) (s : State) : Host.Outcome State Fault Refusal :=
  onUnit (c < 4)
    (let x := s.cassAt c
     if x.st = .removing then
       let s := (primariesOf c).foldl (fun s e => (List.range 8).foldl (fun s k => s.toSecondary e k) s) s
       (s.setCass c { x with safe := true }).refreshDark
     else s)

/-! ### Bring-up (R306, R307, R312) -/

/-- A port's bring-up. -/
def State.bringAt (s : State) (p : Nat) : Bring := Tab.get Bring.init s.opt.bring p
/-- Store a port's bring-up. -/
def State.setBring (s : State) (p : Nat) (x : Bring) : State := { s with opt := { s.opt with bring := Tab.put s.opt.bring p x } }

/-- A ring of a port that is released starts to lock, a retired lane's included; one without its feed is DOWN (R299, R303, R306). -/
def State.lockRing (s : State) (q l : Nat) (dir : Bool) : State := s.startLock q l dir { s.laneAt q l dir with fails := 0 }

/-- The rings of a position start to lock. -/
def State.lockPos (s : State) (q : Nat) : State :=
  (List.range (posLanes q)).foldl (fun s l => (s.lockRing q l false).lockRing q l true) s

/-- The rings of a port start to lock (R306), and with the first port of its dimension that trains those of a spare position that may be
adopted (R310). -/
def State.lockRings (s : State) (p : Nat) : State :=
  let q := sparePos (portDim p)
  let others := (List.range numPorts).any fun r => r != p && portDim r == portDim p && decide ((s.portAt r).st = .training)
  let s := s.lockPos (s.posServing p)
  if s.spareUsed q && !others then
    { s with opt := { s.opt with posIdent := Tab.erase s.opt.posIdent q, spareAt := Tab.erase s.opt.spareAt q } }.lockPos q
  else s

/-- Release a port to training (R254, R306): one whose far position holds an endpoint, and which is neither UP nor training. -/
def State.releasePort (s : State) (p : Nat) (fresh : Bool) : State :=
  let x := s.portAt p
  if !s.dom.hub || x.st == .up || x.st == .training then s
  else if (s.farEid p).isNone then (if x.st = .held then s.setPort p { x with st := .down } else s)
  else
    let b := s.bringAt p
    let s := { s with opt := { s.opt with posIdent := Tab.erase s.opt.posIdent (s.posServing p) } }
    let s := s.setBring p { Bring.init with releasedAt := some s.clk, fails := if fresh then 0 else b.fails }
    (s.setPort p { x with st := .training }).lockRings p

/-- RELEASE_PORT (R306, R312): HUB.CTRL.RELEASE_PORT. -/
def execReleasePort (p : Nat) (s : State) : Host.Outcome State Fault Refusal := onUnit (p < numPorts) (s.releasePort p true)

/-- HUB.CTRL.HOLD_PORT (R285): a port that is UP is declared LOST. -/
def State.holdPort (s : State) (p : Nat) : State :=
  if !s.dom.hub then s
  else
    let s := if s.portUp p then s.declareLost p else s
    (s.setPort p { s.portAt p with st := .held }).setBring p Bring.init

/-- HOLD_PORT (R285). -/
def execHoldPort (p : Nat) (s : State) : Host.Outcome State Fault Refusal := onUnit (p < numPorts) (s.holdPort p)

/-- A port comes UP (R306) with the working sets that both ends have announced. -/
def State.comeUp (s : State) (p : Nat) (f : Words4) : State :=
  let rx := s.readyLanes p
  let tx := ctlLanes f &&& BitVec.ofNat 8 (2 ^ fullLanes p - 1)
  let x := s.portAt p
  let good := (List.range 8).foldl (fun (t : Tab Nat) l => Tab.put t l s.ct) []
  let s := s.accrue p
  let s := s.setPort p { x with
    st := .up, peerEid := ctlEid f, txSeq := 0, rxSeq := 0, held := [], gapAt := none, belay := [], lastGood := good, fecBad := [], laneFree := []
    lostAt := none, upAt := some s.clk, slotSent := 0, slotNum := 0 }
  (s.setBring p Bring.init).setLanes p tx rx

/-- PORT_UP (R306): 15 ms after release, 20 ms on a coherent port, at the switch slot that follows the agreement of both directions. -/
def execPortUp (p : Nat) (s : State) : Host.Outcome State Fault Refusal :=
  onUnit (p < numPorts)
    (let b := s.bringAt p
     match b.ident, b.releasedAt with
     | some f, some t =>
       let tx := ctlLanes f &&& BitVec.ofNat 8 (2 ^ fullLanes p - 1)
       if (s.portAt p).st = .training ∧ t + (15 + s.bringLate p) * ms1 ≤ s.clk ∧ tx ≠ 0 ∧ s.readyLanes p ≠ 0
           ∧ b.upSlot.any (fun n => decide (n ≤ s.slot)) then s.comeUp p f
       else s
     | _, _ => s)

/-- An attempt fails (R306): no lane aligns in its time, no lane of a direction qualifies, no IDENT comes for 20 µs of the exchange (DESIGN
CHOICE, log 73), or the port is not UP 1 ms after its time. -/
def State.attemptOver (s : State) (p t : Nat) : Bool :=
  let b := s.bringAt p
  let n := s.clk - t
  let at_ := fun (k : Nat) => (k + s.bringLate p) * ms1
  let heard := b.ident.map ctlLanes
  let quiet := fun (begin : Nat) => decide (begin + 40000 ≤ n) && b.heardAt.all fun h => decide (h + 40000 ≤ s.clk)
  (decide (at_ 3 ≤ n) && (s.alignedLanes (s.posServing p)).isEmpty)
    || (decide (at_ 15 ≤ n) && (s.readyLanes p == 0 || heard.all fun w => w &&& BitVec.ofNat 8 (2 ^ fullLanes p - 1) == 0))
    || (s.exchanges p t && (if n < at_ 4 then quiet (at_ 3) else quiet (at_ 14)))
    || decide (at_ 16 ≤ n)

/-- PORT_ATTEMPT_FAIL (R306, R307): the next attempt follows after 100 ms, after ten failures every second. -/
def execPortAttemptFail (p : Nat) (s : State) : Host.Outcome State Fault Refusal :=
  onUnit (p < numPorts)
    (let b := s.bringAt p
     if (s.portAt p).st = .training ∧ b.releasedAt.any (s.attemptOver p) then
       let n := b.fails + 1
       (s.setPort p { s.portAt p with st := .down }).setBring p
         { Bring.init with fails := n, retryAt := some (s.clk + (if n < 10 then 100 else 1000) * ms1) }
     else s)

/-- PORT_RETRY (R306, R307): a failed port is released when its time has come, a LOST one 100 ms after the loss. -/
def execPortRetry (p : Nat) (s : State) : Host.Outcome State Fault Refusal :=
  onUnit (p < numPorts)
    (let x := s.portAt p
     let due := if x.st = .lost then x.lostAt.any fun t => decide (t + 100 * ms1 ≤ s.ct)
       else x.st == .down && (s.bringAt p).retryAt.any fun t => decide (t ≤ s.clk)
     if due then s.releasePort p false else s)

/-! ### Identity and wiring (R308 to R312) -/

/-- The event, record and datagram of a bar on a position (R312): 1 wiring, 2 version, 3 identity, 4 split, 5 remote. -/
def State.reportBar (s : State) (q cause eid major : Nat) : State :=
  let s := if cause = 1 then s.setBit A.optEvents 5 else if cause = 2 then s.setBit A.optEvents 7
    else if cause = 3 then s.setBit A.optEvents 9 else if cause = 4 then s.setBit A.optEvents 8 else s
  s.report { sev := 3, index := q * 8, code := 0x5006, p0 := cause, p1 := eid, p2 := major }

/-- A port is barred on its position (R308, R309, R311, R312). -/
def State.barPort (s : State) (p cause eid major : Nat) : State :=
  let s := if s.portUp p then s.declareLost p else s
  let s := (s.setPort p { s.portAt p with st := .barred }).setBring p { Bring.init with cause := cause }
  s.reportBar (s.posServing p) cause eid major

/-- A position that serves no port is barred, once (R310, R312). -/
def State.barPos (s : State) (q cause eid major : Nat) : State :=
  if (Tab.find s.opt.posBar q).isSome then s
  else { s with opt := { s.opt with posBar := Tab.put s.opt.posBar q (cause, none) } }.reportBar q cause eid major

/-- The digest that the endpoint tables require of an EID (R311, R320). -/
def State.digestFor (s : State) (eid : Nat) : Option W64 :=
  match s.moduleEntry eid with
  | some e => if bit (entryWord e 0) 15 then some (entryWord e 1) else none
  | none => match (s.entries 0x0002).find? fun e => entryEid e == eid with
    | some e => if entryWord e 1 = 0 then none else some (entryWord e 1)
    | none => none

/-- The port by which the expected peer of port n comes back (R253, R309). -/
def State.peerPort (s : State) (n : Nat) : Option Nat :=
  match s.ownPos, s.farPos n with
  | some o, some x => some (portTo (portDim n) (coord x (portDim n)) (coord o (portDim n)))
  | _, _ => none

/-- What an IDENT received on a position says of logical port n (R309): `none` while the peer still decides, and while its RX_PEER is not
this module's, which R311 judges after 1 ms (log 114). -/
def State.wired (s : State) (n : Nat) (f : Words4) : Option Bool :=
  if s.farEid n ≠ some (ctlEid f) then some false
  else if ctlLogPort f = 127 then none
  else if s.peerPort n ≠ some (ctlLogPort f) then some false
  else if ctlRxPeer f ≠ s.topo.ownEid then none
  else some true

/-- A position receives: its port is UP or trains, or it is a spare one that may be adopted. -/
def State.hearing (s : State) (q : Nat) : Bool :=
  s.posUsed q

/-- The logical port that adoption gives a position (R310). -/
def State.adoptable (s : State) (q : Nat) (f : Words4) : Option Nat :=
  (List.range numPorts).find? fun n =>
    s.farEid n == some (ctlEid f) && portDim n == posDim q
      && !(s.opt.posIdent.any fun e => e.1 != q && ctlEid e.2 == ctlEid f && s.hearing e.1)
      && (decide (q % 32 ≠ 31) || !s.portUp n)

/-- The IDENT of a port has passed. Both directions agree when it names lanes and the port has lanes of its own; the port comes UP at the
switch slot that follows (R306). -/
def State.passIdent (s : State) (p : Nat) (f : Words4) : State :=
  let b := s.bringAt p
  let agreed := ctlLanes f &&& BitVec.ofNat 8 (2 ^ fullLanes p - 1) ≠ 0 ∧ s.readyLanes p ≠ 0
  s.setBring p { b with
    ident := some f, identAt := some (b.identAt.getD s.clk)
    upSlot := if b.upSlot.isSome then b.upSlot else if agreed then some (s.switchSlot p) else none }

/-- A mapping is adopted (R310). -/
def State.adopt (s : State) (n q : Nat) (f : Words4) : State :=
  if s.posServing n = q then s.passIdent n f
  else
    let s := { s with opt := { s.opt with pmap := Tab.put s.opt.pmap n (q, true) } }
    let s := (s.setBit A.optEvents 6).report { sev := 1, index := n, code := 0x5005, p0 := q, p1 := ctlEid f }
    s.passIdent n f

/-- The wiring check of an IDENT under the policy in force (R309, R310). -/
def State.checkWiring (s : State) (q p : Nat) (f : Words4) : State :=
  if s.field A.optCfg 8 8 = 0 then
    match s.wired p f with
    | some true => s.passIdent p f
    | some false => s.barPort p 1 (ctlEid f) (ctlMajor f)
    | none => s
  else match s.adoptable q f with
    | some n =>
      match s.wired n f with
      | some true => s.adopt n q f
      | some false => s.barPort p 1 (ctlEid f) (ctlMajor f)
      | none => s
    | none => s.barPort p 1 (ctlEid f) (ctlMajor f)

/-- The cause for which an IDENT bars its position under either policy (R308, R311): 2 version, 3 identity, and 4 split once the exchange has
lasted 1 ms since `first`. -/
def State.identCause (s : State) (first : Nat) (f : Words4) : Option Nat :=
  let major := ctlMajor f
  let own := s.svc.protoMajor
  if major + 1 < own ∨ own + 1 < major then some 2
  else if (s.digestFor (ctlEid f)).any fun d => d != f.w1 then some 3
  else if ctlRxPeer f ≠ 0xFFFF ∧ ctlRxPeer f ≠ s.topo.ownEid ∧ first + ms1 ≤ s.clk then some 4
  else none

/-- An IDENT on a position whose port trains (R308 to R311). -/
def State.takeIdent (s : State) (q p : Nat) (f : Words4) : State :=
  let s := { s with opt := { s.opt with posIdent := Tab.put s.opt.posIdent q f } }
  let b := s.bringAt p
  let first := b.identAt.getD s.clk
  let s := s.setBring p { b with identAt := some first, heardAt := some s.clk }
  match s.identCause first f with
  | some cause => s.barPort p cause (ctlEid f) (ctlMajor f)
  | none => s.checkWiring q p f

/-- A CONTROL frame of CTYPE 1 on a lane of a position (R259, R292, R305): on a trained port as on every lane of it; else its codewords, its CRC
and its reserved fields decide. `none`: discarded. -/
def State.receiveCtlAt (s : State) (q l : Nat) (f : CtlFrame) (sub : Nat) : Option State × State :=
  let port := s.portOfPos q
  let r := match port.filter s.portUp with
    | some p => s.receiveCtl p l f 1
    | none =>
      if !s.dom.hub then (none, s)
      else
        let s := s.countPosWords q f.errs
        if !ctlClean f || !cfIntact f then (none, match port with
          | some p => s.bump (A.pcnt p) 31 16 1
          | none => s)
        else if !cfValid f then (none, s.bump A.drops 15 0 1)
        else if cfType f ≠ 1 then (none, s)
        else (some s, s)
  match r with
  | (some t, _) =>
    if !ctlValid f.body then (none, t.bump A.drops 15 0 1) else if ctlSub f.body ≠ sub then (none, t) else (some t, t)
  | (none, t) => (none, t)

/-- An IDENT on a position that serves no port (R308, R310, R311): under policy adopt it is adopted for the logical port to which its EID maps
it, or barred; it waits while the peer decides, or while that port does not train. -/
def State.spareIdent (s : State) (q : Nat) (f : Words4) : State :=
  let first := (Tab.find s.opt.spareAt q).getD s.clk
  let s := { s with opt := { s.opt with posIdent := Tab.put s.opt.posIdent q f, spareAt := Tab.put s.opt.spareAt q first } }
  match s.identCause first f with
  | some cause => s.barPos q cause (ctlEid f) (ctlMajor f)
  | none =>
    if s.field A.optCfg 8 8 = 1 then
      match s.adoptable q f with
      | some n =>
        match s.wired n f with
        | some true => if (s.portAt n).st = .training then s.adopt n q f else s
        | some false => s.barPos q 1 (ctlEid f) (ctlMajor f)
        | none => s
      | none => s.barPos q 1 (ctlEid f) (ctlMajor f)
    else s

/-- IDENT (R305, R308 to R311). -/
def execIdent (q l : Nat) (f : CtlFrame) (s : State) : Host.Outcome State Fault Refusal :=
  onUnit (ringOk q l)
    (match s.receiveCtlAt q l f 0 with
     | (some s, _) =>
       match s.portOfPos q with
       | some p => if (s.portAt p).st = .training then s.takeIdent q p f.body else s
       | none => s.spareIdent q f.body
     | (none, s) => s)

/-- BAR (R312): the port is barred with cause REMOTE. -/
def execBar (q l : Nat) (f : CtlFrame) (s : State) : Host.Outcome State Fault Refusal :=
  onUnit (ringOk q l)
    (match s.receiveCtlAt q l f 4 with
     | (some s, _) =>
       match s.portOfPos q with
       | some p =>
         if (s.portAt p).st = .up ∨ (s.portAt p).st = .training then s.barPort p 5 (ctlEid f.body) (ctlMajor f.body) else s
       | none => s
     | (none, s) => s)

/-- A BAR frame on every lane of a position (R312). -/
def State.sendBars (s : State) (q p cause : Nat) : State :=
  (List.range (posLanes q)).foldl (fun s l => s.sendCtlOn q p l 4 0 false cause 0) s

/-- BAR_REPEAT (R312): once every millisecond on the lanes of a barred position. -/
def execBarRepeat (q : Nat) (s : State) : Host.Outcome State Fault Refusal :=
  onUnit (q < numPos)
    (let due (x : Option Nat) : Bool := x.all fun t => decide (t + ms1 ≤ s.clk)
     match s.portOfPos q with
     | some p =>
       let b := s.bringAt p
       if (s.portAt p).st = .barred ∧ due b.barSentAt then (s.setBring p { b with barSentAt := some s.clk }).sendBars q p b.cause else s
     | none =>
       match Tab.find s.opt.posBar q with
       | some (cause, at_) =>
         if due at_ then
           { s with opt := { s.opt with posBar := Tab.put s.opt.posBar q (cause, some s.clk) } }.sendBars q 127 cause
         else s
       | none => s)

end Sys2Proof.Machine
end

