-- ==== Sys2Proof/Machine/Image.lean ====
section
/-! DEFINITION. The topo image as it is checked: records, checks and rejection (R314 to R325, R330, R331, R386, R387). -/
namespace Sys2Proof.Machine

/-! ### Record types (R319, R320, R386) -/

/-- Known record types: type, section type, words of an entry (0: as many as the entry says). -/
def recTypes : List (Nat × Nat × Nat) :=
  [(0x0001, 3, 2), (0x0002, 3, 2), (0x0003, 3, 3), (0x0010, 2, 1), (0x0011, 2, 1), (0x0012, 2, 2), (0x0013, 2, 1), (0x0020, 1, 1),
   (0x0021, 1, 1), (0x0022, 1, 1), (0x0023, 1, 1), (0x0030, 4, 2), (0x0031, 4, 2), (0x0040, 5, 1), (0x0041, 5, 0), (0x0042, 5, 1),
   (0x0050, 6, 2), (0x0060, 7, 1), (0x0061, 7, 1), (0x0070, 8, 9), (0x0071, 8, 17), (0x0080, 9, 2)]
  ++ [(0x0090, 10, 249), (0x0091, 10, 1), (0x0092, 10, 1), (0x0093, 10, 1), (0x0094, 10, 1), (0x0095, 10, 1)]

/-- The section type that carries a record type, and its entry words. -/
def recType (rt : Nat) : Option (Nat × Nat) := (recTypes.find? fun e => e.1 == rt).map Prod.snd

/-- Words of an entry that begins with a word. -/
def entrySize (words : Nat) (w : W64) : Nat := if words = 0 then 1 + ceilDiv (fld w 14 0) 2 else words

/-- The protected section types (R319). -/
def sectProtected (t : Nat) : Bool := [1, 2, 3, 4, 7, 10].contains t

/-- The key of an entry, from its first word (R320); 0 for a record type without one. -/
def entryKey (rt : Nat) (w : W64) : Nat :=
  if rt = 0x0001 ∨ rt = 0x0002 ∨ rt = 0x0080 ∨ rt = 0x0090 ∨ rt = 0x0091 then fld w 63 48
  else if rt = 0x0003 ∨ rt = 0x0042 then fld w 63 52
  else if rt = 0x0010 ∨ rt = 0x0011 ∨ rt = 0x0012 then fld w 63 60
  else if rt = 0x0022 ∨ rt = 0x0030 ∨ rt = 0x0041 ∨ rt = 0x0061 then fld w 63 57
  else if rt = 0x0031 then fld w 63 59
  else if rt = 0x0050 then fld w 63 58
  else if rt = 0x0070 then fld w 63 62 * 1024 + fld w 57 48
  else if rt = 0x0071 then fld w 63 62 * 16 + fld w 59 56
  else 0

/-- Record types whose key stands for several entries (R323). -/
def multiKey (rt : Nat) : Bool := rt == 0x0003 || rt == 0x0011 || rt == 0x0012

/-- Record types whose entries have no key (R320, R386). -/
def keyless (rt : Nat) : Bool := [0x0013, 0x0020, 0x0021, 0x0023, 0x0040, 0x0060, 0x0092, 0x0093, 0x0094, 0x0095].contains rt

/-- Record types that carry one entry (R320, R386). -/
def oneEntry (rt : Nat) : Bool := keyless rt && rt != 0x0093 && rt != 0x0094

/-! ### Reading a section (R314 to R318) -/

/-- A record as it lies in the section: its word number, type, REMOVE, whether its reserved bits are zero, and its body. -/
structure RawRec where
  at_ : Nat
  rtype : Nat
  remove : Bool
  plain : Bool
  body : List W64
  deriving DecidableEq, Repr

/-- The records from a word number on; `none` where a body runs past the end. -/
def rawRecs : Nat → Nat → List W64 → Option (List RawRec)
  | _, _, [] => some []
  | 0, _, _ => none
  | n + 1, i, w :: ws =>
    let len := fld w 31 0
    if ws.length < len then none
    else
      (rawRecs n (i + 1 + len) (ws.drop len)).map fun l =>
        { at_ := i, rtype := fld w 63 48, remove := bit w 47, plain := fld w 46 32 == 0, body := ws.take len } :: l

/-- The whole records at the start of these words, from a word number on. -/
def rawStart : Nat → Nat → List W64 → List RawRec
  | _, _, [] => []
  | 0, _, _ => []
  | n + 1, i, w :: ws =>
    let len := fld w 31 0
    if ws.length < len then []
    else
      { at_ := i, rtype := fld w 63 48, remove := bit w 47, plain := fld w 46 32 == 0, body := ws.take len }
        :: rawStart n (i + 1 + len) (ws.drop len)

/-- The entries of a body; `none` where its length is not that of whole entries. -/
def splitEntries (words : Nat) : Nat → List W64 → Option (List (List W64))
  | _, [] => some []
  | 0, _ => none
  | n + 1, w :: ws =>
    let k := entrySize words w
    if ws.length + 1 < k then none else (splitEntries words n (ws.drop (k - 1))).map fun l => (w :: ws.take (k - 1)) :: l

/-- The entries of a record of a known type. -/
def RawRec.entries (r : RawRec) : Option (List (List W64)) :=
  match recType r.rtype with
  | some (_, words) => splitEntries (if r.remove then 1 else words) r.body.length r.body
  | none => some []

/-- A signature record is well formed: 423 words, AUTH 0 or 1, its zero bits and the three zero bytes after the 3,309 of the ML-DSA
signature (R316). -/
def RawRec.sigOk (r : RawRec) : Bool :=
  decide (r.body.length = 423) && decide (fld (r.body.getD 0 0) 63 56 ≤ 1) && fld (r.body.getD 0 0) 47 0 == 0
    && fld (r.body.getD 422 0) 63 40 == 0 && !r.remove && r.plain

/-- The records stand in their order: content, one or more signatures, the CRC record and nothing more (R316, R318). -/
def recordsOk (partial_ : Bool) (l : List RawRec) : Bool :=
  let content := l.takeWhile fun r => r.rtype != 0x0FF0 && r.rtype != 0x0FFF
  let rest := l.dropWhile fun r => r.rtype != 0x0FF0 && r.rtype != 0x0FFF
  let sigs := rest.takeWhile fun r => r.rtype == 0x0FF0
  let last := rest.dropWhile fun r => r.rtype == 0x0FF0
  (content.all fun r => r.plain && !r.body.isEmpty && (partial_ || !r.remove) && r.entries.isSome)
    && !sigs.isEmpty && sigs.all RawRec.sigOk
    && decide (last.length = 1) && last.all fun r => r.rtype == 0x0FFF && !r.remove && r.plain && r.body.length == 1

/-- The header keeps its reserved values (R314, R317, R319). -/
def headerOk (ws : List W64) : Bool :=
  let w0 := ws.getD 0 0
  decide (432 ≤ ws.length) && decide (1 ≤ fld w0 63 56 ∧ fld w0 63 56 ≤ 10) && fld w0 53 48 == 0 && fld w0 31 0 == ws.length
    && (bit w0 54 || fld (ws.getD 1 0) 31 0 == 0)

/-- The CRC record holds (R316). -/
def sectCrcOk (ws : List W64) : Bool := (ws.getD (ws.length - 1) 0).toNat == crc32c (bytesOf (ws.take (ws.length - 1)))

/-- The signed message of a section (R316). -/
def sectMsg (bs : List Byte) : List Byte := [0x4B, 0x4C, 0x53, 0x54, 0x4F, 0x50, 0x4F, 0x31] ++ bs

/-- A section from its words, with its number; entries of records that may be skipped are left out. -/
def sectOf (sec : Nat) (ws : List W64) (l : List RawRec) : Sect :=
  let w0 := ws.getD 0 0
  let content := l.takeWhile fun r => r.rtype != 0x0FF0 && r.rtype != 0x0FFF
  let sigs := l.filter fun r => r.rtype == 0x0FF0
  { type := fld w0 63 56, partial_ := bit w0 54, gen := fld (ws.getD 1 0) 63 32, baseGen := fld (ws.getD 1 0) 31 0
    actCt := ws.getD 2 0, due := ws.getD 2 0, words := ws.length, image := fld (ws.getD 3 0) 31 0, sec := sec
    scopeEid := fld (ws.getD 3 0) 63 48, scopeMask := fld (ws.getD 3 0) 47 32
    recs := (content.filter fun r => (recType r.rtype).isSome).map fun r => (r.rtype, r.remove, r.entries.getD [])
    sigs := sigs.map fun r => r.body
    msg := bytesOf (ws.take ((sigs.map RawRec.at_).headD 0)), now := false, missed := false }

/-- Causes of TOPO.REJECT (R336). -/
inductive Rej where
  | crc | format | version | signature | partner | stale | base | late | content | noSelf | size | incomplete
  deriving DecidableEq, Repr

/-- The code of a cause. -/
def Rej.code : Rej → Nat
  | .crc => 1
  | .format => 2
  | .version => 3
  | .signature => 4
  | .partner => 5
  | .stale => 6
  | .base => 7
  | .late => 8
  | .content => 9
  | .noSelf => 10
  | .size => 11
  | .incomplete => 12

/-- Steps 1 to 4 of R318: the section, or the cause of its rejection. -/
def readSection (major sec : Nat) (ws : List W64) : Except Rej Sect :=
  let m := fld (ws.getD 0 0) 47 40
  if m ≠ major ∧ m + 1 ≠ major then .error .version
  else
    match rawRecs ws.length 4 (ws.drop 4) with
    | none => .error .format
    | some l =>
      if !headerOk ws || !recordsOk (bit (ws.getD 0 0) 54) l then .error .format
      else if !sectCrcOk ws then .error .crc
      else if l.any fun r => (recType r.rtype).isNone && r.rtype != 0x0FF0 && r.rtype != 0x0FFF && decide (r.rtype < 2 ^ 15) then
        .error .version
      else .ok (sectOf sec ws l)

/-! ### Amending the configuration (R323) -/

/-- An entry as it is kept: a REG entry for every die stands for four (R320). -/
def expandEntry (rt : Nat) (e : List W64) : List (List W64) :=
  if rt = 0x0050 ∧ bit (entryWord e 0) 57 then
    (List.range 4).map fun d => setFld (setFld (entryWord e 0) 57 57 0) 59 58 d :: e.tail
  else [e]

/-- The items that a section names: record type and key. -/
def Sect.named (x : Sect) : List (Nat × Nat) :=
  x.recs.flatMap fun r => (r.2.2.flatMap (expandEntry r.1)).map fun e => (r.1, entryKey r.1 (entryWord e 0))

/-- The items that a section puts in force. -/
def Sect.items (x : Sect) : List Item :=
  x.recs.flatMap fun r => if r.2.1 then [] else (r.2.2.flatMap (expandEntry r.1)).map fun e => (r.1, e)

/-- The items of a section's type after it: all replaced, or only those it names (R323). -/
def amendItems (old : List Item) (x : Sect) : List Item :=
  if x.partial_ then
    let named := x.named
    (old.filter fun i => !named.contains (i.1, entryKey i.1 (entryWord i.2 0))) ++ x.items
  else x.items

/-- The entries of a record type in a section. -/
def Sect.entriesOf (x : Sect) (rt : Nat) : List (List W64) := (x.items.filter fun i => i.1 == rt).map Prod.snd

/-- The EID whose MODULE entries match the module's digest (R320); 0xFFFF unless exactly one does. -/
def State.selfMatches (s : State) : List Nat :=
  let d : W64 := s.identityDigest.truncate 64
  ((s.entries 0x0001).filter fun e => entryWord e 1 == d).map entryEid

/-- The module's EID by the tables in force. -/
def State.selfEid (s : State) : Nat :=
  match s.selfMatches with
  | [e] => e
  | _ => 0xFFFF

/-- The configuration with a section in force: items, generation and own EID. -/
def State.withSection (s : State) (x : Sect) : State :=
  let t := { s with topo := { s.topo with
    items := Tab.put s.topo.items x.type (amendItems (Tab.get [] s.topo.items x.type) x)
    gen := Tab.put s.topo.gen x.type x.gen } }
  if x.type = 3 then { t with topo := { t.topo with ownEid := t.selfEid } } else t

/-- The order in which sections of one instant are applied (R332). -/
def applyOrder : List Nat := [10, 3, 2, 1, 7, 4, 5, 6, 8, 9]

/-- The next slot boundary. -/
def State.nextSlot (s : State) : W64 := BitVec.ofNat 64 ((s.slot + 1) * 128)

/-- The configuration that will be in force at a time: pending sections of other types that take effect by then are applied (R321). -/
def State.projected (s : State) (type : Nat) (due : W64) : State :=
  let l := (applyOrder.filterMap fun t => Tab.find s.topo.pend t).filter fun (x : Sect) => x.type != type && decide (x.due ≤ due) && !x.missed
  (l.mergeSort fun a b => decide (a.due ≤ b.due)).foldl (fun s x => s.withSection x) s

/-! ### Content checks (R321, R387) -/

/-- Bits outside fields are zero. -/
def onlyBits (w : W64) (m : W64) : Bool := w &&& ~~~ m == 0

/-- An alternate of a DETOUR entry. -/
def altOk (port : Nat) (v : Nat) : Bool :=
  fieldOf v 14 7 == 0 && (fieldOf v 15 15 == 0 || (decide (fieldOf v 6 0 < numPorts) && fieldOf v 6 0 != port))

/-- The key of an entry lies in its range, and the bits beside it are zero where the table says so (R320, R386). -/
def keyOk (rt : Nat) (w : W64) : Bool :=
  let k := entryKey rt w
  if rt = 0x0001 then decide (k < 0x8000)
  else if rt = 0x0002 then decide (0x8000 ≤ k ∧ k ≤ 0xFFEF)
  else if rt = 0x0003 ∨ rt = 0x0042 then decide (0 < k)
  else if rt = 0x0022 ∨ rt = 0x0030 ∨ rt = 0x0041 ∨ rt = 0x0061 then decide (k < numPorts)
  else if rt = 0x0031 then decide (k ≤ 16)
  else if rt = 0x0071 then decide (0 < k % 16)
  else if rt = 0x0080 then decide (1 ≤ k ∧ k ≤ 0xF)
  else if rt = 0x0090 then decide (fld w 63 56 ≤ 1 ∧ fld w 55 48 ≤ 3)
  else if rt = 0x0091 then decide (fld w 63 56 ≤ 1 ∧ 1 ≤ fld w 55 48 ∧ fld w 55 48 ≤ 3)
  else true

/-- Entries of R263 in a PORTSCHED entry. -/
def schedEntries (e : List W64) : List W32 :=
  (e.tail.flatMap fun w => [BitVec.ofNat 32 (fld w 31 0), BitVec.ofNat 32 (fld w 63 32)]).take (fld (entryWord e 0) 14 0)

/-- A schedule entry suits its port (R263). -/
def schedEntryOk (port : Nat) (x : W32) : Bool :=
  let flits := fieldOf x.toNat 19 12
  if fieldOf x.toNat 31 20 = 0 then flits == 0 else decide (1 ≤ flits ∧ flits ≤ 25 * (fullLanes port - 1))

/-- Slots that a schedule covers. -/
def schedSlots (l : List W32) : Nat := l.foldl (fun k x => k + fieldOf x.toNat 11 0 + 1) 0

/-- A list does not fall. -/
def rising : List Nat → Bool
  | a :: b :: t => decide (a ≤ b) && rising (b :: t)
  | _ => true

/-- The fields of an entry hold values that the table admits (R13, R320, R386). -/
def entryOk (rt : Nat) (e : List W64) : Bool :=
  let w := entryWord e 0
  let v := entryWord e 1
  keyOk rt w &&
    (if rt = 0x0001 then onlyBits w (maskOf 63 48 ||| maskOf 15 0) && v != 0
     else if rt = 0x0002 then onlyBits w (maskOf 63 48 ||| maskOf 47 41) && decide (fld w 47 41 < numPorts)
     else if rt = 0x0003 then onlyBits w (maskOf 63 48) && decide (fld w 51 48 ≤ 1)
     else if rt = 0x0010 then decide (0 < fld w 59 48)
     else if rt = 0x0011 then decide (fld w 47 36 ≤ fld w 23 12 ∧ fld w 23 12 < numCores)
     else if rt = 0x0020 then onlyBits w (maskOf 63 16)
     else if rt = 0x0031 then onlyBits v (maskOf 59 0)
     else if rt = 0x0050 then onlyBits v 0x8001FFFF3FFF0000
     else if rt = 0x0012 then
       fld w 39 0 % 2 ^ 21 == 0 && fld v 39 0 % 2 ^ 21 == 0 && decide (fld w 39 0 + fld v 39 0 ≤ 2 ^ 40)
     else if rt = 0x0023 then onlyBits w (maskOf 10 0) && fld w 9 8 != 3
     else if rt = 0x0030 then (List.range 4).all fun i => altOk (fld w 63 57) (fld v (16 * i + 15) (16 * i))
     else if rt = 0x0040 then decide (8 ≤ fld w 4 0 ∧ fld w 4 0 ≤ 16)
     else if rt = 0x0041 then
       decide (1 ≤ fld w 14 0 ∧ fld w 14 0 ≤ 16384) && (schedEntries e).all (schedEntryOk (fld w 63 57))
     else if rt = 0x0061 then decide (fld w 56 50 < numPos) && fld w 56 50 / 32 == portDim (fld w 63 57) && (!bit w 0 || decide (62 ≤ fld w 63 57))
     else if rt = 0x0070 then !recReserved (e.drop 1)
     else if rt = 0x0071 then rising ((e.drop 1).map knotStep)
     else if rt = 0x0080 then boundRange (fld w 63 48) v.toNat
     else if rt = 0x0090 ∨ rt = 0x0091 then onlyBits w (maskOf 63 48)
     else if rt = 0x0092 then decide (1 ≤ fld w 5 0) && onlyBits w (maskOf 5 0)
     else if rt = 0x0093 then decide (10 ≤ fld w 63 48)
     else true)

/-- No value stands twice in a list. -/
def distinct (l : List (Nat × Nat)) : Bool := decide l.Nodup

/-- The entry limits of the record tables (R317, R320, R386): of a record type, and for one key. -/
def limitsOk (x : Sect) : Bool :=
  let per := fun rt n => (x.entriesOf rt).all fun e =>
    decide (((x.entriesOf rt).filter fun f => entryKey rt (entryWord f 0) == entryKey rt (entryWord e 0)).length ≤ n)
  decide ((x.entriesOf 0x0001).length ≤ 32768) && decide ((x.entriesOf 0x0002).length ≤ 4096) && per 0x0011 64 && per 0x0012 16
    && decide ((x.entriesOf 0x0090).length ≤ 8) && (recTypes.all fun t => !oneEntry t.1 || decide ((x.entriesOf t.1).length ≤ 1))
    && ((x.entriesOf 0x0003).all fun e =>
      decide (((x.entriesOf 0x0003).filter fun f => fld (entryWord f 0) 63 48 == fld (entryWord e 0) 63 48).length
        ≤ if fld (entryWord e 0) 51 48 = 0 then 1 else 7))

/-- No key appears twice in a section (R321). A key of CORES, GRANT or SLICE stands for its entries in one section, so that it is removed
once and not also given. -/
def Sect.keysOnce (x : Sect) : Bool :=
  let keys := fun (r : Nat × Bool × List (List W64)) => r.2.2.map fun e => (r.1, entryKey r.1 (entryWord e 0))
  let removed := x.recs.flatMap fun r => if multiKey r.1 && r.2.1 then keys r else []
  distinct (x.recs.flatMap fun r => if multiKey r.1 || keyless r.1 then [] else keys r) && distinct removed
    && x.recs.all fun r => !multiKey r.1 || r.2.1 || (keys r).all fun k => !removed.contains k

/-- What a section's records may say by themselves. -/
def recordsContentOk (x : Sect) : Bool :=
  (x.recs.all fun r => (recType r.1).any fun t => t.1 == x.type
    && r.2.2.all fun e => if r.2.1 then keyOk r.1 (entryWord e 0) else entryOk r.1 e)
    && x.keysOnce

/-- Entries of different keys do not share a span. -/
def apart (l : List (Nat × Nat × Nat)) : Bool :=
  l.all fun a => l.all fun b => a.1 == b.1 || !overlaps a.2.1 a.2.2 b.2.1 b.2.2

/-- The ENDPOINT tables hold together (R321). -/
def State.endpointsOk (s : State) : Bool :=
  let pos := (s.entries 0x0001).map entryPos
  decide pos.Nodup && (s.entries 0x0002).all fun e =>
    match s.farPos (fld (entryWord e 0) 47 41) with
    | some p => !pos.contains p
    | none => true

/-- The PARTITION tables hold together (R321). -/
def State.partitionsOk (s : State) : Bool :=
  decide ((s.entries 0x0010).map fun e => fld (entryWord e 0) 59 48).Nodup
    && apart ((s.entries 0x0011).map fun e => (fld (entryWord e 0) 63 60, fld (entryWord e 0) 47 36, fld (entryWord e 0) 23 12 + 1))
    && apart ((s.entries 0x0012).map fun e => (fld (entryWord e 0) 63 60, fld (entryWord e 0) 39 0, fld (entryWord e 0) 39 0 + fld (entryWord e 1) 39 0))

/-- The pitch that the configuration names; without one the pitch in force stays. -/
def State.pitchOf (s : State) : Nat := ((s.entries 0x0040).head?.map fun e => fld (entryWord e 0) 4 0).getD s.hub.log2P

/-- Every STREAM names a partition with a PART entry (R321). -/
def State.streamsOk (s : State) : Bool :=
  (s.entries 0x0042).all fun e => (s.entries 0x0010).any fun p => fld (entryWord p 0) 63 60 == fld (entryWord e 0) 51 48

/-- The SCHEDULE tables hold together (R27, R263, R321). -/
def State.schedulesOk (s : State) (x : Sect) : Bool :=
  s.streamsOk
    && ((s.entries 0x0041).all fun e => schedSlots (schedEntries e) == 2 ^ s.pitchOf)
    && (s.pitchOf == s.hub.log2P || x.actCt == 0 || decide (x.actCt.toNat / 128 % 2 ^ max s.pitchOf s.hub.log2P = 0))

/-- The position that the image gives a port, and its mode (R287, R320). -/
def State.imagePos (s : State) (p : Nat) : Nat × Nat :=
  match (s.entries 0x0061).find? fun e => fld (entryWord e 0) 63 57 == p with
  | some e => (fld (entryWord e 0) 56 50, fld (entryWord e 0) 0 0)
  | none => (p + p / 31, 0)

/-- No two ports map to one position (R321). -/
def State.portmapOk (s : State) : Bool := decide ((List.range numPorts).map fun p => (s.imagePos p).1).Nodup

/-- The digest of a pair key (R384). -/
def keyDigest (ws : List W64) : BitVec 256 := sha3 (bytesOf ws)

/-- The anchor of an authority in the current epoch: as fused, or as its claim that is not fused yet has it (R384, R385, R388). -/
def State.anchor (s : State) (a : Nat) : BitVec 256 :=
  match s.sec.jobs.reverse.findSome? fun j => match j with
    | FuseJob.claim x y => some (x, y)
    | _ => none with
  | some (x, y) => if a = 0 then x else y
  | none => if a = 0 then s.fuse.anchor0 else s.fuse.anchor1

/-- Slot numbers of the keys, by authority and slot. -/
def keySlot (a slot : Nat) : Nat := a * 4 + slot

/-- A slot of an authority is revoked (R385). -/
def State.slotRevoked (s : State) (a slot : Nat) : Bool := (if a = 0 then s.sec.revoked0 else s.sec.revoked1).getLsbD slot

/-- AUTH and SLOT of an AUTHKEY or REVOKE entry. -/
def authSlot (e : List W64) : Nat × Nat := (fld (entryWord e 0) 63 56, fld (entryWord e 0) 55 48)

/-- A SECURITY section may take effect (R387). -/
def State.securityOk (s : State) (x : Sect) : Bool :=
  let keys := x.entriesOf 0x0090
  let revoke := x.entriesOf 0x0091
  let slots := keys.map authSlot
  if s.sec.owned then
    (if x.partial_ then
      x.recs.all fun r => !(r.1 == 0x0090 || r.1 == 0x0091) || r.2.2.all fun e => (authSlot e).2 != 0
     else (List.range 2).all fun a => keys.any fun e => decide (authSlot e = (a, 0)) && keyDigest (e.drop 1) == s.anchor a)
      && (slots.all fun p => !s.slotRevoked p.1 p.2)
      && (revoke.all fun e => (Tab.find s.sec.keys (keySlot (authSlot e).1 (authSlot e).2)).isSome && !slots.contains (authSlot e))
      && ((x.entriesOf 0x0092).all fun e => decide (fld (entryWord e 0) 5 0 ≤ s.sec.fwSvn))
      && ((x.entriesOf 0x0095).all fun e => entryWord e 0 == s.fuse.serial && decide (s.sec.epoch ≠ 4))
  else
    !x.partial_ && ((List.range 2).all fun a => slots.contains (a, 0)) && x.recs.all fun r => r.1 == 0x0090 || r.1 == 0x0093

/-- Content checks of a section against the configuration it amends (R321, R330, R387): `none` when it passes. -/
def State.contentCause (s : State) (x : Sect) : Option Rej :=
  let t := s.withSection x
  let ok := x.actCt.toNat % 128 == 0 && !(x.type == 3 && x.scopeMask != 0) && recordsContentOk x
    && (if x.type = 3 then t.endpointsOk else if x.type = 2 then t.partitionsOk && t.streamsOk else if x.type = 5 then t.schedulesOk x
        else if x.type = 7 then t.portmapOk else if x.type = 10 then s.securityOk x else true)
  if !ok then some .content
  else if x.type = 3 ∧ t.selfMatches.length ≠ 1 then some .noSelf
  else none

/-- The generation that a PARTIAL section amends is in force (R323). -/
def State.baseOk (s : State) (x : Sect) : Bool := !x.partial_ || x.baseGen == Tab.get 0 s.topo.gen x.type

/-! ### Signatures (R325, R387) -/

/-- The key against which a signature record is checked, slots being 0 to 3 (R385); in an UNOWNED module that of the claim itself. -/
def State.sigKey (s : State) (x : Sect) (auth slot : Nat) : Option (List W64) :=
  if 3 < slot then none
  else if s.sec.owned then Tab.find s.sec.keys (keySlot auth slot)
  else if x.type = 10 ∧ slot = 0 then ((x.entriesOf 0x0090).find? fun e => decide (authSlot e = (auth, 0))).map fun e => e.drop 1
  else none

/-- A signature record verifies (R325, R383). -/
def State.sigHolds (s : State) (x : Sect) (g : List W64) : Bool :=
  match s.sigKey x (fld (entryWord g 0) 63 56) (fld (entryWord g 0) 55 48) with
  | some k => pairVerifies k (sectMsg x.msg) (g.drop 1)
  | none => false

/-- PROTECTED suits the type, and every authority needed has signed (R319, R325). -/
def partnersOk (prot : Bool) (x : Sect) : Bool :=
  prot == sectProtected x.type
    && (!prot || (List.range 2).all fun a => x.sigs.any fun g => fld (entryWord g 0) 63 56 == a)

/-- The signature checks of a section; PROTECTED is bit 55 of its first word. -/
def State.sigCause (s : State) (x : Sect) : Option Rej :=
  if !x.sigs.all (s.sigHolds x) then some .signature
  else if !partnersOk ((x.msg.getD 6 0).getLsbD 7) x then some .partner
  else none

/-! ### Rejection and acceptance (R318, R331, R332) -/

/-- A section is rejected (R332): event, register, count, cairn record and datagram. -/
def State.rejectSection (s : State) (why : Rej) (type gen image sec : Nat) : State :=
  let s := s.setReg A.topoReject (BitVec.ofNat 64 (why.code * 2 ^ 60 + type % 256 * 2 ^ 48 + sec * 2 ^ 32 + gen))
  let s := (s.setReg A.topoRejectCt s.now).setBit A.topoEvents 1
  let s := (s.bump A.topoCounts 31 16 1).report
    { sev := 2, index := type, code := 0x2002, p0 := gen, p1 := image, p2 := sec * 2 ^ 16 + why.code }
  if why = .signature then
    ((s.setBit A.secEvents 0).bump A.secCounts 63 48 1).note { sev := 2, index := 0, code := 0xB006, p0 := 1 }
  else s

/-- The schedules that a configuration names, in the inactive bank (R266). -/
def State.loadBank (s : State) (cfg : State) : State :=
  let b := 93 * (1 - s.hub.bank)
  { s with hub := { s.hub with sched := (List.range numPorts).foldl (fun t p =>
      match (cfg.entries 0x0041).find? fun e => fld (entryWord e 0) 63 57 == p with
      | some e => Tab.put t (b + p) (schedEntries e)
      | none => Tab.erase t (b + p)) s.hub.sched } }

/-- An accepted section becomes the pending one of its type (R331); a schedule loads the inactive bank (R334),
unless an activated one still waits there (R333). -/
def State.acceptSection (s : State) (x : Sect) : State :=
  let s := { s with topo := { s.topo with pend := Tab.put s.topo.pend x.type x, storeDirty := true } }
  if x.type = 5 ∧ s.hub.bankWait = none then s.loadBank (s.withSection x) else s

/-- The module keeps a section (R320): its scope admits the EID that will be in force. -/
def inScope (eid : Nat) (x : Sect) : Bool :=
  x.type == 3 || x.scopeMask == 0 || (eid != 0xFFFF && eid &&& x.scopeMask == x.scopeEid &&& x.scopeMask)

/-- A time in the 500 ms that begin at the time of a firmware switch that waits (R429). -/
def State.inSwitch (s : State) (t : W64) : Bool :=
  s.svc.switchPending && decide ((s.reg A.fwCt) ≤ t ∧ t.toNat < (s.reg A.fwCt).toNat + 1000000000)

/-- Steps 5 to 8 of R318: the first check that a section fails. -/
def State.sectionCause (s : State) (x : Sect) : Option Rej :=
  match s.sigCause x with
  | some c => some c
  | none =>
    if x.gen ≤ Tab.get 0 s.topo.gen x.type ∨ ((Tab.find s.topo.pend x.type).any fun (p : Sect) => decide (x.gen ≤ p.gen)) then some .stale
    else if !s.baseOk x then some .base
    else if x.actCt ≠ 0 ∧ (x.actCt.toNat < s.now.toNat + 4000000 ∨ s.inSwitch x.actCt) then some .late
    else (s.projected x.type x.due).contentCause x

end Sys2Proof.Machine
end

