-- ==== Sys2Proof/Machine/Activate.lean ====
section
/-! DEFINITION. Activation of topo sections (R329 to R335, R388, R389, R394, R415): what each type does to the module, pending and missed
sections, and the image store. -/
namespace Sys2Proof.Machine

/-- Store a register where the value differs. -/
def State.setTo (s : State) (a : Nat) (v : W64) : State := if s.reg a = v then s else s.setReg a v
/-- Store an RW register that a section sets (R335). -/
def State.sectionSets (s : State) (a : Nat) (v : W64) : State := (s.setTo a v).bySection a

/-! ### Ports (R334) -/

/-- A port goes to training afresh; one that is UP is lost first; a HELD one stays held. -/
def State.retrain (s : State) (p : Nat) : State :=
  if (s.portAt p).st = .held then s
  else
    let s := if s.portUp p then s.declareLost p else s
    (s.setPort p { s.portAt p with st := .down }).releasePort p true

/-- Ports for which a condition holds go to training. -/
def State.retrainAll (s : State) (f : Nat → Bool) : State := ((List.range numPorts).filter f).foldl (fun s p => s.retrain p) s

/-- Bars of positions that serve no port end with the section that changes what they were barred for (R312). -/
def State.freePositions (s : State) : State := { s with opt := { s.opt with posBar := [] } }

/-- Put a request into a list by entry number. -/
def insertNo (u : Unacked) : List Unacked → List Unacked
  | [] => [u]
  | x :: l => if u.no ≤ x.no then u :: x :: l else x :: insertNo u l

/-- What is left of the source side of a pair when sequence spaces restart: acknowledged pulls that wait for their data, out of reach of
any sequence, until their 20 µs are over (R232, R246). -/
def SrcPair.restart (x : SrcPair) : SrcPair :=
  let pulls := x.answers.filter fun a => match a.2.1 with
    | .copy _ _ _ => !x.unacked.any fun (u : Unacked) => u.seq == a.1
    | _ => false
  { SrcPair.init with answers := pulls.map fun a => (a.1 + 2 ^ 24, a.2) }

/-- Every sequence space restarts (R229, R334): what is outstanding, sent or not, ends as refused, in the order in which it entered the
endpoint. -/
def State.restartSpaces (s : State) : State :=
  let waits := s.hub.dynWait.filter fun (u : Unacked) => qType u.q != 0x24
  let old := ((s.ep.src.flatMap fun e => e.2.unacked) ++ waits).foldr insertNo []
  let src := (s.ep.src.map fun e => (e.1, e.2.restart)).filter fun e => !e.2.answers.isEmpty
  let s := { s with
    ep := { s.ep with src := src, dst := [], records := [], direct := [] }
    hub := { s.hub with dynWait := s.hub.dynWait.filter fun (u : Unacked) => qType u.q == 0x24 } }
  (old.foldl (fun s u => s.refuseOwner u.own 7 (qDest u.q) (qAddr u.q)) s).pump

/-- ENDPOINT (R334). -/
def State.applyEndpoint (s old : State) : State :=
  let fresh := s.topo.ownEid != old.topo.ownEid
  let s := (if fresh then s.restartSpaces else s).freePositions
  (s.retrainAll fun p => fresh || s.farEid p != old.farEid p || decide ((s.portAt p).st = .barred)).evalTime

/-! ### Partitions (R334) -/

/-- The partition and job tag that the configuration gives a core: 0 and 0 outside every range. -/
def State.partOf (s : State) (n : Nat) : Nat × Nat :=
  match (s.entries 0x0011).find? fun e => decide (fld (entryWord e 0) 47 36 ≤ n ∧ n ≤ fld (entryWord e 0) 23 12) with
  | some e => let k := fld (entryWord e 0) 63 60; (k, s.partTag k)
  | none => (0, 0)

/-- Tags that the configuration maps, with their partitions. -/
def State.tagMap (s : State) : List (Nat × Nat) :=
  (s.entries 0x0010).map fun e => (fld (entryWord e 0) 59 48, fld (entryWord e 0) 63 60)

/-- A segment's mode changes: reads of it never return poison (R179). -/
def State.remapSegments (s : State) (new : W64) : State :=
  let changed := (s.reg (A.memMap 0)) ^^^ new
  { s with mem := { s.mem with poison := s.mem.poison.filter fun e => !bit changed (e.1 * 64 % 2 ^ 31 / 2 ^ 27) } }

/-- PARTITION (R179, R239, R323, R334): teardowns, CORE.PART, cores put in RESET, those without a partition by a FULL section too, the
segment map; the tags listed are active again. -/
def State.applyPartition (s old : State) (x : Sect) : State :=
  let gone := old.tagMap.filter fun e => !s.tagMap.contains e
  let s := gone.foldl (fun s e => (s.tearDown e.2 e.1 s.now false).setBit A.topoEvents 3) s
  let moved := ((List.range numCores).map fun n => (n, s.partOf n)).filter fun e =>
    s.corePart e.1 != e.2.1 || s.coreTag e.1 != e.2.2 || (!x.partial_ && e.2.2 == 0)
  let s := moved.foldl (fun s e => (s.enterReset e.1).setReg (A.corePart e.1) (BitVec.ofNat 64 (e.2.1 * 2 ^ 12 + e.2.2))) s
  let map := BitVec.ofNat 64 (((s.entries 0x0013).head?.map fun e => fld (entryWord e 0) 15 0).getD 0)
  let s := (List.range 4).foldl (fun s d => s.setTo (A.memMap d) map) (s.remapSegments map)
  let listed := (x.entriesOf 0x0010).map fun e => fld (entryWord e 0) 59 48
  { s with ep := { s.ep with torn := s.ep.torn.filter fun t => !listed.contains t } }

/-! ### Registers that the image sets (R323, R334) -/

/-- The first word of the one entry of a record type. -/
def State.oneWord (s : State) (rt : Nat) (empty : W64) : W64 := ((s.entries rt).head?.map fun e => entryWord e 0).getD empty

/-- The entry of a record type with a key. -/
def State.keyed (s : State) (rt key : Nat) : Option (List W64) := (s.entries rt).find? fun e => entryKey rt (entryWord e 0) == key

/-- TIME.PTP_CFG from the image (R28): with another domain or transport no transmitter is heard any longer, and a root takes its time
from the port that the new preference gives. -/
def State.takePtpCfg (s : State) (v : W64) : State :=
  let moved := decide (fld v 9 0 ≠ s.field A.timePtpCfg 9 0)
  let s := s.setTo A.timePtpCfg v
  let s := if moved then (s.ptpForget 0 fun _ => true).ptpForget 1 fun _ => true else s
  if s.ownPrio.isSome then s.ptpTurn else s

/-- TIME (R334): epoch, roots, 1588 configuration and asymmetries. -/
def State.applyTime (s : State) : State :=
  let s := s.setTo A.timeEpoch (s.oneWord 0x0020 0 &&& maskOf 63 16)
  let s := s.setTo A.timeRoots (s.oneWord 0x0021 (BitVec.allOnes 64))
  let s := s.takePtpCfg (s.oneWord 0x0023 0 &&& maskOf 10 0)
  ((List.range numPorts).foldl (fun s p =>
    s.setTo (A.timeAsym p) (((s.keyed 0x0022 p).map fun e => entryWord e 0 &&& maskOf 15 0).getD 0)) s).evalTime

/-- OPTICAL (R334): the wiring policy and the port map; ports whose position or mode changes, and BARRED ones, go to training. -/
def State.applyOptical (s : State) (x : Sect) : State :=
  let s := s.putField A.optCfg 8 8 (b2n (bit (s.oneWord 0x0060 0) 0))
  let named := (List.range numPorts).filter fun p => !x.partial_ || x.named.contains (0x0061, p)
  let changed := named.filter fun p =>
    s.posServing p != (s.imagePos p).1 || s.field (A.pmapReg p) 0 0 != (s.imagePos p).2
  let s := named.foldl (fun s p =>
    { s.putField (A.pmapReg p) 0 0 (s.imagePos p).2 with opt := { s.opt with pmap := Tab.put s.opt.pmap p ((s.imagePos p).1, false) } }) s
  s.freePositions.retrainAll fun p => changed.contains p || decide ((s.portAt p).st = .barred)

/-- ROUTE (R334): detours and budgets; budgets apply at the next pitch boundary. -/
def State.applyRoute (s : State) : State :=
  let s := (List.range numPorts).foldl (fun s p => s.setTo (A.detour p) (((s.keyed 0x0030 p).map fun e => entryWord e 1).getD 0)) s
  (List.range 17).foldl (fun s k =>
    s.setTo (A.budget k) (((s.keyed 0x0031 k).map fun e => entryWord e 1 &&& maskOf 59 0).getD 0)) s

/-- SCHEDULE (R27, R266, R333, R334): the bank that was loaded becomes active now, where R27 lets it; one made active by ACTIVATE_NOW
waits for a pitch boundary. -/
def State.applySchedule (s : State) (x : Sect) : State :=
  let s := s.loadBank s
  let s := { s with hub := { s.hub with bankWait := some s.pitchOf } }
  if x.now && x.actCt != 0 && !s.atPitch then s else s.switchBank

/-- REGULATOR (R188, R334): the regulators that the section names; a FULL one sets every regulator. -/
def State.applyRegulator (s : State) (x : Sect) : State :=
  if x.partial_ then
    x.named.foldl (fun s e =>
      let v := ((s.entries 0x0050).filter fun f => entryKey 0x0050 (entryWord f 0) == e.2).getLast?.map fun f => entryWord f 1
      s.sectionSets (A.memReg (e.2 % 4) (e.2 / 4)) (v.getD 0 &&& 0x8001FFFF3FFF0000)) s
  else
    (List.range 64).foldl (fun s i => s.bySection (A.memReg (i / 16) (i % 16)))
      ((List.range 4).foldl (fun s d => s.loadRegulators d) s)

/-- A die's groups and schedules after an UPDATE section (R156, R157, R323). -/
def State.applyUpdateDie (s : State) (x : Sect) (d : Nat) : State :=
  let u := s.updAt d
  let clear : List W64 → List W64 := fun r => setFld (entryWord r 0) 59 59 0 :: r.tail
  let blank : UpdDie := { u with group := u.group.map fun e => (e.1, clear e.2), sched := [] }
  let u := if x.partial_ then u else blank
  let u := x.recs.foldl (fun (u : UpdDie) r => r.2.2.foldl (fun (u : UpdDie) e =>
    let w := entryWord e 0
    if fld w 63 62 ≠ d then u
    else if r.1 = 0x0070 then
      let rec_ := if r.2.1 then clear (Tab.get [] u.group (fld w 57 48)) else e.drop 1
      { u with group := Tab.put u.group (fld w 57 48) rec_ }
    else if r.1 = 0x0071 then
      let left := if r.2.1 then Tab.erase u.sched (fld w 59 56) else Tab.put u.sched (fld w 59 56) (e.drop 1)
      { u with sched := left }
    else u) u) u
  let named := if x.partial_ then x.recs.flatMap fun r => if r.1 = 0x0071 then r.2.2.map fun e => fld (entryWord e 0) 59 56 else []
    else List.range 16
  let u := { u with prior := u.group.map fun e => (e.1, (s.clk, s.groupNow d e.1)) }
  named.foldl (fun s k => s.bySection (knotKey d k)) (s.setUpd d u)

/-- UPDATE (R334): dies whose engine is up. -/
def State.applyUpdate (s : State) (x : Sect) : State :=
  (List.range 4).foldl (fun s d => if s.coreDom d then s.applyUpdateDie x d else s) s

/-- POLICY (R377): the bounds, and SHADOW_RATE written to every core. -/
def State.applyPolicy (s : State) : State :=
  let bounds : Tab Nat := (s.entries 0x0080).foldl (fun t e => Tab.put t (fld (entryWord e 0) 63 48) (entryWord e 1).toNat) []
  let s := s.accrueSlow
  let s := { s with self := { s.self with bounds := bounds } }
  (List.range numCores).foldl (fun s n => s.sectionSets (A.shadowCfg n) (BitVec.ofNat 64 (s.bound 0xA))) s

/-! ### SECURITY (R385 to R389, R415) -/

/-- The slots of an authority as bits. -/
def State.markRevoked (s : State) (a slot : Nat) : State :=
  let m := BitVec.ofNat 4 (2 ^ slot)
  { s with sec := { s.sec with
      revoked0 := if a = 0 then s.sec.revoked0 ||| m else s.sec.revoked0
      revoked1 := if a = 1 then s.sec.revoked1 ||| m else s.sec.revoked1
      keys := Tab.erase s.sec.keys (keySlot a slot), jobs := s.sec.jobs ++ [FuseJob.revoke a slot] } }

/-- A claim (R384, R387, R388). -/
def State.claim (s : State) (x : Sect) : State :=
  let digest := fun a => ((x.entriesOf 0x0090).find? fun e => decide (authSlot e = (a, 0))).map fun e => keyDigest (e.drop 1)
  let s := { s with sec := { s.sec with
    owned := true, epoch := s.sec.epoch + 1, revoked0 := 0, revoked1 := 0
    jobs := s.sec.jobs ++ [FuseJob.claim ((digest 0).getD 0) ((digest 1).getD 0)] } }
  (s.setBit A.secEvents 1).note { sev := 1, index := 0, code := 0xB001, p0 := s.sec.epoch, p1 := 1 }

/-- The keys after a section (R385, R386): a FULL one names them all. -/
def State.installKeys (s : State) (x : Sect) : State :=
  let start := if x.partial_ then s.sec.keys else []
  let keys := x.recs.foldl (fun t r =>
    if r.1 = 0x0090 then
      r.2.2.foldl (fun t e =>
        let k := keySlot (authSlot e).1 (authSlot e).2
        if r.2.1 then Tab.erase t k else Tab.put t k (e.drop 1)) t
    else t) start
  { s with sec := { s.sec with keys := keys } }

/-- REVOKE, ROLLBACK and RELEASE of a section, in that order (R388); a ROLLBACK that raises nothing does nothing (R404). -/
def State.applyActions (s : State) (x : Sect) : State :=
  let s := (x.entriesOf 0x0091).foldl (fun s e =>
    let (a, slot) := authSlot e
    ((s.markRevoked a slot).setBit A.secEvents 2).note { sev := 1, index := 0, code := 0xB002, p0 := slot * 256 + a }) s
  let s := (x.entriesOf 0x0092).foldl (fun s e =>
    let v := fld (entryWord e 0) 5 0
    if v ≤ s.sec.svnMin then s
    else (({ s with sec := { s.sec with svnMin := v, jobs := s.sec.jobs ++ [FuseJob.rollback v] } }).setBit A.secEvents 3).note
      { sev := 1, index := 0, code := 0xB003, p0 := v }) s
  (x.entriesOf 0x0095).foldl (fun s _ =>
    (({ s with sec := { s.sec with owned := false, keys := [], sessions := [], jobs := s.sec.jobs ++ [FuseJob.release] } }).setBit
      A.secEvents 1).note { sev := 1, index := 0, code := 0xB001, p0 := s.sec.epoch, p1 := 2 }) s

/-- RINGCLEAR (R415): the controller accepts its record and will clear from the oldest ring slot on, after clears that still run. -/
def State.ringClear (s : State) (x : Sect) : State :=
  (x.entriesOf 0x0094).foldl (fun s e =>
    let limit := entryWord e 0
    let s := s.note { sev := 1, index := 0, code := 0x0005, p0 := fld limit 31 0, p1 := fld limit 63 32, p2 := x.gen }
    { s with cairn := { s.cairn with clearing := s.cairn.clearing ++ [(limit, s.cairn.written, max 65536 (s.cairn.written - 131072))] } }) s

/-- Sessions opened under a slot that no longer holds its key are closed (R389). -/
def State.closeStale (s : State) (before : Tab (List W64)) : State :=
  { s with sec := { s.sec with sessions := s.sec.sessions.filter fun (e : Session) =>
      e.claim || !(Tab.find before (keySlot e.auth e.slot)).isSome || (Tab.find s.sec.keys (keySlot e.auth e.slot)).isSome } }

/-- The words of a section in assembly from its first on, as far as they have come without a gap. -/
def asmStart (a : Asm) : List W64 := ((List.range a.data.length).map fun i => Tab.find a.data i).takeWhile Option.isSome |>.filterMap id

/-- A section in assembly met R325 by a signature record that has come, and no longer does (R389). -/
def State.asmBroken (s before : State) (a : Asm) : Bool :=
  let ws := asmStart a
  let x := sectOf a.sec ws ((rawStart ws.length 4 (ws.drop 4)).filter fun r => r.rtype != 0x0FF0 || r.sigOk)
  a.kept && decide (4 ≤ ws.length) && x.sigs.any fun g => before.sigHolds x g && !s.sigHolds x g

/-- Sections in assembly are verified again, as far as they have come (R389). -/
def State.reverifyAsm (s before : State) : State :=
  (s.topo.asm.filter fun (a : Asm) => s.asmBroken before a).foldl (fun s (a : Asm) =>
    let ws := asmStart a
    let left := s.topo.asm.map fun (b : Asm) => if b = a then { b with kept := false, data := b.data.map fun e => (e.1, 0) } else b
    { s with topo := { s.topo with asm := left } }.rejectSection .signature (fld (ws.getD 0 0) 63 56) (fld (ws.getD 1 0) 63 32) a.image a.sec) s

/-- Pending sections, and those in assembly, are verified again against the new keys (R389). -/
def State.reverify (s before : State) : State :=
  (Tab.vals s.topo.pend).foldl (fun s (p : Sect) =>
    if (s.sigCause p).isSome then
      { s with topo := { s.topo with pend := Tab.erase s.topo.pend p.type, storeDirty := true } }.rejectSection .signature p.type p.gen
        p.image p.sec
    else s) (s.reverifyAsm before)

/-- SECURITY (R388, R389); actions and keys that are gone leave the items in force. -/
def State.applySecurity (s : State) (x : Sect) : State :=
  let old := s
  let before := s.sec.keys
  let s := if s.sec.owned then s else s.claim x
  let s := (((s.installKeys x).applyActions x).ringClear x).closeStale before
  let keep := fun (i : Item) => i.1 == 0x0093 ||
    (i.1 == 0x0090 && (Tab.find s.sec.keys (keySlot (authSlot i.2).1 (authSlot i.2).2)).isSome)
  { s with topo := { s.topo with items := Tab.put s.topo.items 10 ((Tab.get [] s.topo.items 10).filter keep) } }.reverify old

/-- SESSPOL (R386): the idle limit in seconds, and whether an authority may open sessions. -/
def State.sessIdle (s : State) : Nat := ((s.entries 0x0093).head?.map fun e => fld (entryWord e 0) 63 48).getD 600
/-- Whether an authority may open sessions (R386). -/
def State.sessOpen (s : State) (a : Nat) : Bool := ((s.entries 0x0093).head?.map fun e => bit (entryWord e 0) a).getD true

/-! ### Activation (R332, R333) -/

/-- The effects of a section on the module, its items being in force already. -/
def State.applyEffects (s old : State) (x : Sect) : State :=
  if x.type = 1 then s.applyTime
  else if x.type = 2 then s.applyPartition old x
  else if x.type = 3 then s.applyEndpoint old
  else if x.type = 4 then s.applyRoute
  else if x.type = 5 then s.applySchedule x
  else if x.type = 6 then s.applyRegulator x
  else if x.type = 7 then s.applyOptical x
  else if x.type = 8 then s.applyUpdate x
  else if x.type = 9 then s.applyPolicy
  else s.applySecurity x

/-- Extend a measurement (R394). -/
def extend (m : BitVec 256) (d : List Byte) : BitVec 256 := sha3 (toBytes 32 m.toNat ++ d)

/-- The digest of a section (R394). -/
def Sect.digest (x : Sect) : List Byte := sha3Bytes x.msg

/-- MEAS2 takes SECURITY sections, MEAS3 all others (R394). -/
def State.measure (s : State) (type : Nat) (d : List Byte) : State :=
  if type = 10 then { s with sec := { s.sec with meas2 := extend s.sec.meas2 d } }
  else { s with sec := { s.sec with meas3 := extend s.sec.meas3 d } }

/-- A section takes effect (R332). -/
def State.enact (s : State) (x : Sect) : State :=
  let t := s.withSection x
  let old := if x.partial_ then Tab.get [] s.topo.signed x.type else []
  let t := { t with topo := { t.topo with signed := Tab.put s.topo.signed x.type (old ++ [(x.msg, x.sigs)]), storeDirty := true } }
  let t := ((t.applyEffects s x).measure x.type x.digest).setBit A.topoEvents 0
  (t.bump A.topoCounts 47 32 1).report { sev := 1, index := x.type, code := 0x2001, p0 := x.gen, p1 := x.image, p2 := x.sec }

/-- The time state in which sections activate (R39). -/
def State.timeOk (s : State) : Bool := decide (s.time.st = .locked ∨ s.time.st = .holdover)

/-- A pending section's time has come: it takes effect, or fails the checks repeated now, or is missed (R332, R333); one whose slot is
over does not take effect later on its own (log 104). -/
def State.activate (s : State) (timeOk : Bool) (x : Sect) : State :=
  if !x.now && (!timeOk || decide (x.due.toNat + 128 ≤ s.now.toNat)) then
    let s := { s with topo := { s.topo with pend := Tab.put s.topo.pend x.type { x with missed := true } } }
    (s.setBit A.topoEvents 2).report { sev := 3, index := x.type, code := 0x2003, p0 := x.gen, p1 := fld x.actCt 31 0, p2 := fld x.actCt 63 32 }
  else
    let s := { s with topo := { s.topo with pend := Tab.erase s.topo.pend x.type, storeDirty := true } }
    match (if !s.baseOk x then some Rej.base else s.contentCause x) with
    | some c => s.rejectSection c x.type x.gen x.image x.sec
    | none => s.enact x

/-- The pending sections whose slot boundary has come, in type order (R39, R332, R333). -/
def State.activateDue (s : State) : State :=
  let ok := s.timeOk
  let due := applyOrder.filter fun t => (Tab.find s.topo.pend t).any fun (x : Sect) => !x.missed && decide (x.due ≤ s.now)
  due.foldl (fun s t =>
    match Tab.find s.topo.pend t with
    | some x => s.activate ok x
    | none => s) s

/-- SECTION_ACTIVATE (R332). -/
def execSectionActivate (s : State) : Host.Outcome State Fault Refusal := .next (if s.dom.mgmt then s.activateDue else s)

/-- The pending section of a type takes effect in this cycle: a command that meets it has no effect (R335). -/
def State.activating (s : State) (t : Nat) : Bool :=
  (Tab.find s.topo.pend t).any fun (x : Sect) => !x.missed && decide (x.due ≤ s.now)
    && (x.now || (s.timeOk && decide (s.now.toNat < x.due.toNat + 128)))

/-- Discard the pending section of a type (R333, R336). -/
def State.cancelPending (s : State) (t : Nat) : State :=
  if (Tab.find s.topo.pend t).isSome && !s.activating t then
    { s with topo := { s.topo with pend := Tab.erase s.topo.pend t, storeDirty := true } }
  else s

/-- The pending section of a type takes effect at the next slot boundary, in any time state (R333). -/
def State.activateNow (s : State) (t : Nat) : State :=
  match (if s.activating t then none else Tab.find s.topo.pend t) with
  | some x =>
    { s with topo := { s.topo with
        pend := Tab.put s.topo.pend t { x with now := true, missed := false, due := s.nextSlot }, storeDirty := true } }
  | none => s

/-- CANCEL (R333). -/
def execCancel (t : Nat) (s : State) : Host.Outcome State Fault Refusal := .next (s.cancelPending t)

/-- ACTIVATE_NOW (R333). -/
def execActivateNow (t : Nat) (s : State) : Host.Outcome State Fault Refusal := .next (s.activateNow t)

/-! ### The image store (R329, R367) -/

/-- A table with the SECURITY section's entry as in another table. -/
def keepSecurity {α : Type} (old new : Tab α) : Tab α :=
  match Tab.find old 10 with
  | some x => Tab.put new 10 x
  | none => Tab.erase new 10

/-- IMAGE_STORE_WRITE (R367, R388): the configuration and what is pending go to the store while its window is open; the SECURITY section
waits until its fuses are written, so that a power loss before that undoes it. -/
def execImageStoreWrite (s : State) : Host.Outcome State Fault Refusal :=
  .next (if s.self.nvmOk ∧ s.topo.storeDirty then
    let t := s.topo
    if s.sec.jobs.isEmpty then
      { s with topo := { t with storeGen := t.gen, storeItems := t.items, storeSigned := t.signed, storePend := t.pend, storeDirty := false } }
    else
      { s with topo := { t with
          storeGen := keepSecurity t.storeGen t.gen, storeItems := keepSecurity t.storeItems t.items
          storeSigned := keepSecurity t.storeSigned t.signed, storePend := t.pend } }
  else s)

/-- A stored section type as a FULL section that names every item in force. -/
def storedSection (t : Nat) (gen : Nat) (items : List Item) : Sect :=
  { type := t, partial_ := false, gen := gen, baseGen := 0, actCt := 0, due := 0, words := 0, image := 0, sec := 0, scopeEid := 0
    scopeMask := 0, recs := items.map fun i => (i.1, false, [i.2]), sigs := [], msg := [], now := false, missed := false }

/-- The keys that the restored SECURITY items hold in an OWNED module (R385, R388). -/
def State.restoreKeys (s : State) : State :=
  let held := if s.sec.owned then (s.entries 0x0090).filter fun e =>
      !s.slotRevoked (authSlot e).1 (authSlot e).2 && ((authSlot e).2 != 0 || keyDigest (e.drop 1) == s.anchor (authSlot e).1) else []
  { s with sec := { s.sec with keys := held.foldl (fun t e => Tab.put t (keySlot (authSlot e).1 (authSlot e).2) (e.drop 1)) [] } }

/-- What the store holds of a type verifies against the keys in force (R325, R391). -/
def State.storeHolds (s : State) (t : Nat) : Bool :=
  (Tab.get [] s.topo.storeSigned t).all fun e => e.2.all (s.sigHolds { storedSection t 0 [] with msg := e.1 })

/-- One type of the image store is restored: its items take effect, and its sections are measured (R329, R394). -/
def State.restoreType (s u : State) (t : Nat) (x : Sect) : State :=
  let u := if t = 10 then u else u.applyEffects s x
  let u := match u.hub.bankWait with
    | some l => { u with hub := { u.hub with bank := 1 - u.hub.bank, log2P := l, bankWait := none } }
    | none => u
  (Tab.get [] s.topo.storeSigned t).foldl (fun s d => s.measure t (sha3Bytes d.1)) u

/-- At power-up the stored sections that verify take effect at once, in the order of R332, and stored pending ones stay pending; one that
was to act at the next slot boundary acts at the first one now (R329, R330, R391, R394). Of a type that does not verify only the
generation is restored (log 120). -/
def State.restoreImage (s : State) : State :=
  let s := { s with topo := { s.topo with
    asm := [], done := [], pend := s.topo.storePend.map fun (e : Nat × Sect) => (e.1, if e.2.now then { e.2 with due := 0 } else e.2)
    gen := [], items := [], signed := s.topo.storeSigned, ownEid := 0xFFFF, storeDirty := false } }
  applyOrder.foldl (fun s t =>
    match Tab.find s.topo.storeGen t with
    | none => s
    | some g =>
      let x := storedSection t g (Tab.get [] s.topo.storeItems t)
      let u := s.withSection x
      let u := if t = 10 then u.restoreKeys else u
      if u.storeHolds t then s.restoreType u t x
      else { s with topo := { s.topo with gen := Tab.put s.topo.gen t g } }) s

end Sys2Proof.Machine
end

