-- ==== Sys2Proof/Machine/Thermal.lean ====
section
/-! DEFINITION. Sensors, operating points, power and thermal limits (R192, R356 to R367) and straggler reports (R375, R376). Temperatures are
in units of 0.25 °C. -/
namespace Sys2Proof.Machine

/-! ### Readings (R356, R357) -/

/-- A sample reaches a peak (R11, R378): what the peak was before this tick's samples is kept, and the peak of the samples. -/
def State.notePeak (s : State) (k : Nat) (old : Option Int) (v : Int) : State :=
  let e := match Tab.find s.edge.peaks k with
    | some e => (e.1, max e.2 v)
    | none => (old, v)
  { s with edge := { s.edge with peaks := Tab.put s.edge.peaks k e } }

/-- One reading: invalid outside −40 °C to +150 °C and for a missing count. -/
def State.takeReading (s : State) (i : Nat) (v : Option Int) : State :=
  if 482 ≤ i then s
  else
    let x := s.sensorAt i
    match v with
    | some t =>
      if -160 ≤ t ∧ t ≤ 600 then
        (s.setSensor i { valid := true, temp := t, peak := if x.hasPeak then max x.peak t else t, hasPeak := true }).notePeak i
          (if x.hasPeak then some x.peak else none) t
      else s.setSensor i { x with valid := false, temp := t }
    | none => s.setSensor i { x with valid := false }

/-- SENSOR_INVALID is set while any of the 482 sensors reads invalid, one that has never been read among them (R357). -/
def State.noteInvalid (s : State) : State :=
  if (List.range 482).all fun i => (s.sensorAt i).valid then s else s.setBit A.thermEvents 5

/-- Every valid sensor of a range of indices satisfies a condition. -/
def State.sensorsAll (s : State) (lo n : Nat) (f : Int → Bool) : Bool :=
  (List.range n).all fun k => !(s.sensorAt (lo + k)).valid || f (s.sensorAt (lo + k)).temp

/-- Hold the start of a condition. -/
def State.sinceWhen (s : State) (old : Option Nat) (c : Bool) : Option Nat := if c then some (old.getD s.clk) else none

/-! ### Dies (R362) -/

/-- Sensors of a die that read invalid. -/
def State.invalidOn (s : State) (d : Nat) : Nat :=
  ((List.range 64).filter fun k => !(s.sensorAt (64 * d + k)).valid).length

/-- The ceiling of the formula: 0 with more than 8 invalid sensors, or with a trip sensor that has read invalid (R357, R362). -/
def State.formulaCeil (s : State) (d : Nat) : Nat :=
  if 8 < s.invalidOn d ∨ (s.opAt d).trip then 0
  else
    match s.dieHottest d with
    | none => 0
    | some (t, _) =>
      if 420 ≤ t then 0
      else if (s.bound 4 : Int) ≤ t then 48 - (t - (s.bound 4 : Int)).toNat
      else 48

/-- What the formula allows, and since when, after a sample that allows `f` (R362): a lower ceiling keeps its start, and `f` itself has
been allowed since any ceiling from it on was. -/
def OpPoint.allows (o : OpPoint) (f now : Nat) : List (Nat × Nat) :=
  o.allow.filter (fun e => decide (e.1 < f)) ++ [(f, ((o.allow.find? fun e => decide (f ≤ e.1)).map Prod.snd).getD now)]

/-- Since when the formula has allowed a ceiling without a break (R362). -/
def OpPoint.allowedSince (o : OpPoint) (c : Nat) : Option Nat := (o.allow.find? fun e => decide (c ≤ e.1)).map Prod.snd

/-- A die's thermal ceiling after a sample (R357, R362). -/
def State.sampleDie (s : State) (d : Nat) : State :=
  let bad := (List.range 4).any fun i => !(s.sensorAt (464 + 4 * d + i)).valid
  let s := if bad then (s.setOp d { s.opAt d with trip := true }).setBit A.thermEvents 6 else s
  let o := s.opAt d
  let f := s.formulaCeil d
  let (t, i) := (s.dieHottest d).getD (0, 64 * d)
  let s := s.setOp d { o with ceilTherm := min f o.ceilTherm, allow := o.allows f s.clk }
  let s := if f < 48 ∧ o.ceilTherm = 48 then
      (s.setBit A.thermEvents 0).report { sev := 1, index := i, code := 0x9001, p0 := unsigned 32 t, p1 := d }
    else s
  if f = 0 ∧ o.ceilTherm ≠ 0 ∧ 420 ≤ t then
    (s.setBit A.thermEvents 1).report { sev := 3, index := i, code := 0x9002, p0 := unsigned 32 t, p1 := d }
  else s

/-! ### Stacks (R192, R363) -/

/-- A stack after a sample: refresh interval, throughput limit, and since when it has been cool. -/
def State.sampleStack (s : State) (d i : Nat) : State :=
  let a := s.sensorAt (400 + 2 * (8 * d + i))
  let b := s.sensorAt (400 + 2 * (8 * d + i) + 1)
  let k := s.stackAt d i
  let valid := a.valid && b.valid
  let hot := max a.temp b.temp
  let cool := fun (t : Int) => valid && decide (hot ≤ t - 8)
  let aim := if !valid ∨ 380 ≤ hot then 2 else if 340 ≤ hot then 1 else 0
  let lim := if !valid ∨ 420 ≤ hot then 2 else if 380 ≤ hot then 1 else 0
  let s := s.setStack d i { k with
    interval := max k.interval aim, limit := max k.limit lim
    cool85 := s.sinceWhen k.cool85 (cool 340), cool95 := s.sinceWhen k.cool95 (cool 380), limitCool := s.sinceWhen k.limitCool (cool 420) }
  let s := if k.interval < aim then s.setBit (A.memEvents d) (if aim = 1 then 2 else 3) else s
  if k.limit = 0 ∧ lim ≠ 0 then s.setBit A.thermEvents 8 else s

/-- STACK_LIMIT_RELEASE (R363): both sensors 2 °C below the limit's threshold for 1 ms. -/
def execStackLimitRelease (d i : Nat) (s : State) : Host.Outcome State Fault Refusal :=
  onUnit (d < 4 ∧ i < 8)
    (let k := s.stackAt d i
     let low := s.since k.cool95 ms1
     if k.limit = 2 ∧ s.since k.limitCool ms1 then s.setStack d i { k with limit := if low then 0 else 1 }
     else if k.limit = 1 ∧ low then s.setStack d i { k with limit := 0 }
     else s)

/-! ### Bivouac and restart (R364 to R366, R423, R424) -/

/-- Trips of the last 24 hours. -/
def State.trips24 (s : State) : Nat := (s.self.trips.filter fun t => decide (s.clk < t + 24 * 3600 * 1000 * ms1)).length

/-- Every compute core domain is removed (R365): a job fault of cause 9 for each partition that owns a core, which names the lowest die
that it owns one on (log 125), and the stage is BIVOUAC. -/
def State.dropCores (s : State) : State :=
  let s := (List.range 16).foldl (fun s k =>
    match (List.range 4).find? fun d => s.partTag k != 0 && s.ownsCoreOn k d with
    | some d => s.jobFault d 9 k (s.partTag k) 0xFFFF 0 0
    | none => s) s
  let s := (List.range 4).foldl (fun s d => s.coreDown d) s
  s.intoBivouac

/-- A hub or engine sensor at a temperature or above. -/
def State.hubAt (s : State) (t : Int) : Bool := !s.sensorsAll 256 144 fun x => decide (x < t)

/-- Hub and engines after a sample (R364): 105 °C is reported, 110 °C puts the module in bivouac, and holds one that is in it already until
the restart of R366. -/
def State.sampleHub (s : State) (wasHot : Bool) : State :=
  let (t, i) := (s.hottest 256 144).getD (0, 256)
  let enter := s.hubAt 440 && !s.self.hotBivouac
  let s := if s.hubAt 420 && (!wasHot || enter) then
      (s.setBit A.thermEvents 4).report
        { sev := 2, index := i, code := 0x9005, p0 := unsigned 32 t, p1 := b2n (enter && decide (s.dom.core ≠ 0)) }
    else s
  if enter then
    let s := s.dropCores
    { s with self := { s.self with hotBivouac := true }, svc := { s.svc with commanded := false } }
  else s

/-- THERMAL_TRIP (R365): a trip sensor reads 115 °C or more. -/
def execThermalTrip (i : Nat) (s : State) : Host.Outcome State Fault Refusal :=
  onUnit (464 ≤ i ∧ i < 480)
    (let x := s.sensorAt i
     if x.valid ∧ 460 ≤ x.temp ∧ s.self.tripped = false then
       let s := ((s.setReg A.tripCt s.now).setBit A.thermEvents 2).report { sev := 4, index := i, code := 0x9003, p0 := unsigned 32 x.temp, p1 := 0xF }
       let s := s.dropCores
       { s with self := { s.self with tripped := true, trips := s.clk :: s.self.trips }, svc := { s.svc with commanded := false } }
     else s)

/-- The sensors have qualified for a restart (R364, R366). -/
def State.restartOk (s : State) : Bool :=
  (s.self.tripped || s.self.hotBivouac) && s.since s.self.coolSince (1000 * ms1)
    && (!s.self.hotBivouac || s.sensorsAll 256 144 fun t => decide (t < 400))

/-- The end of a bivouac (R424): the dies come up from the DIES row of R419, after MEM_OFF from its HUB row. -/
def State.leaveBivouac (s : State) : State :=
  if s.svc.memOff then
    let s := (List.range 4).foldl (fun s d => (s.memUp d).setLink d { s.linkAt d with st := .down }) s
    { s with svc := { s.svc with memOff := false, stage := .hub } }
  else s.diesUp

/-- A restart (R366). -/
def State.restart (s : State) : State :=
  let s := { s with self := { s.self with tripped := false, hotBivouac := false } }
  let s := (List.range 4).foldl (fun s d => s.setOp d { s.opAt d with trip := false }) s
  ((s.setBit A.thermEvents 3).note { sev := 1, index := 0, code := 0x9004, p0 := min s.trips24 255 }).leaveBivouac

/-- RESTART_QUALIFIED (R366): on its own where AUTO_RESTART and TRIP_LIMIT allow it. -/
def execRestartQualified (s : State) : Host.Outcome State Fault Refusal :=
  .next (if s.restartOk ∧ s.bound 0xC = 1 ∧ s.trips24 < s.bound 0xD then s.restart else s)

/-- A write of THERM.CTRL.RESTART (R366): ignored before the sensors qualify. -/
def State.commandRestart (s : State) : State := if s.restartOk then s.restart else s

/-- THERM_RESTART (R366). -/
def execThermRestart (s : State) : Host.Outcome State Fault Refusal := .next s.commandRestart

/-! ### Write windows (R367) -/

/-- A sensor is valid and within a range. -/
def Sensor.within (x : Sensor) (lo hi : Int) : Bool := x.valid && decide (lo ≤ x.temp ∧ x.temp ≤ hi)

/-- The write windows after a sample. -/
def State.sampleWindows (s : State) : State :=
  let a := s.sensorAt 480
  let b := s.sensorAt 481
  let nvmIn := a.within (-40) 380 && b.within (-40) 380
  let nvmDeep := a.within (-32) 372 && b.within (-32) 372
  let hot := s.hottest 256 16
  let fuseIn := hot.any fun p => decide (0 ≤ p.1 ∧ p.1 ≤ 340)
  let fuseDeep := hot.any fun p => decide (8 ≤ p.1 ∧ p.1 ≤ 332)
  let closes := (s.self.nvmOk && !nvmIn) || (s.self.fuseOk && !fuseIn)
  let s := { s with self := { s.self with
    nvmOk := s.self.nvmOk && nvmIn, fuseOk := s.self.fuseOk && fuseIn
    nvmSince := s.sinceWhen s.self.nvmSince nvmDeep, fuseSince := s.sinceWhen s.self.fuseSince fuseDeep } }
  if closes then s.setBit A.thermEvents 7 else s

/-- NVM_WINDOW_OPEN (R367): after 100 ms in which every sample lay at least 2 °C inside the range. -/
def execNvmWindowOpen (fuse : Bool) (s : State) : Host.Outcome State Fault Refusal :=
  .next (if fuse then
      (if s.since s.self.fuseSince (100 * ms1) then { s with self := { s.self with fuseOk := true } } else s)
    else if s.since s.self.nvmSince (100 * ms1) then { s with self := { s.self with nvmOk := true } } else s)

/-! ### Power (R23, R357, R361) -/

/-- The peak limit in watts (R361). -/
def State.peakLimit (s : State) : Nat := if s.bound 2 = 1 then 2600 else s.bound 1

/-- The mean of the samples of the last millisecond. -/
def SelfS.mean (x : SelfS) : Nat := if x.samples.isEmpty then 0 else x.samples.sum / x.samples.length

/-- Input voltage and power after a sample. -/
def State.samplePower (s : State) (mv w : Nat) : State :=
  let x := s.self
  let s := s.notePeak 482 (if x.peakW = 0 then none else some x.peakW) w
  let x := { x with mvolt := mv, samples := (w :: x.samples).take 200, peakW := max x.peakW w }
  let x := { x with watts := x.mean }
  let since := s.sinceWhen x.overSince (decide (s.bound 1 < w))
  let eight := match since with
    | some t => decide (t + 8 * ms1 ≤ s.clk)
    | none => false
  let x := { x with
    overSince := since
    falling := (x.falling || eight) && decide (s.bound 1 < x.mean + 50)
    underSince := s.sinceWhen x.underSince (decide (x.mean + 100 < s.bound 1)) }
  let s := { s with self := x }
  if s.peakLimit < w then s.bump A.pwrCounts 31 16 1 else s

/-- A span has passed since an instant, or there was none. -/
def State.after (s : State) (t : Option Nat) (ticks : Nat) : Bool := t.all fun t => decide (t + ticks ≤ s.clk)

/-- POWER_CEILING_STEP (R361): down every 500 ns, up every 100 µs. -/
def execPowerCeilingStep (s : State) : Host.Outcome State Fault Refusal :=
  .next (let x := s.self
    if decide (s.peakLimit < x.samples.headD 0) || x.falling then
      (if 0 < x.powerCeil ∧ s.after x.ceilFellAt 1000 then
        { s.bump A.pwrCounts 63 32 1 with self := { x with powerCeil := x.powerCeil - 1, ceilFellAt := some s.clk } }
       else s)
    else if s.since x.underSince ms1 ∧ x.powerCeil < 48 ∧ s.after x.ceilRoseAt (100 * us1) then
      { s with self := { x with powerCeil := x.powerCeil + 1, ceilRoseAt := some s.clk } }
    else s)

/-! ### Sampling (R357) -/

/-- The ring temperature of an engine follows the mean of its valid sensors (R294, R295, R300, R357). -/
def State.sampleEngine (s : State) (e : Nat) : State :=
  let l := ((List.range 8).map fun i => s.sensorAt (272 + 8 * e + i)).filter fun x => x.valid
  if l.isEmpty then s else s.setEngineTemp e ((l.map Sensor.temp).sum / l.length)

/-- Since when every valid compute die sensor and trip sensor reads below 80 °C (R366). -/
def State.sampleCool (s : State) : State :=
  let cool := s.sensorsAll 0 256 (fun t => decide (t < 320)) && s.sensorsAll 464 16 fun t => decide (t < 320)
  { s with self := { s.self with coolSince := s.sinceWhen s.self.coolSince cool } }

/-- SENSOR_SAMPLE (R357): readings, ceilings, stacks, hub and engines, windows, feed-forward and power. A sensor that the sample does not
name keeps its last reading. -/
def execSensorSample (r : Sample) (s : State) : Host.Outcome State Fault Refusal :=
  .next (if s.dom.mgmt then
    let hot := s.hubAt 420
    let s := (r.temps.foldl (fun s e => s.takeReading e.1 e.2) s).noteInvalid
    let s := (List.range 4).foldl (fun s d => s.sampleDie d) s
    let s := (List.range 32).foldl (fun s k => s.sampleStack (k / 8) (k % 8)) s
    let s := (List.range 16).foldl (fun s e => s.sampleEngine e) s
    ((s.sampleHub hot).sampleWindows.sampleCool).samplePower r.mvolt r.watts
  else s)

/-! ### Operating points (R358 to R362) -/

/-- The target of a die (R360). -/
def State.target (s : State) (d : Nat) : Nat := min (s.bound 3) (min s.self.powerCeil (s.opAt d).ceilTherm)

/-- PWR.OPd.CAUSE (R360, R378): the ceiling that sets the target. -/
def State.opCause (s : State) (d : Nat) : Nat :=
  let t := s.target d
  let hot := (s.dieHottest d).any fun p => decide (420 ≤ p.1)
  if t = 48 then 0
  else if (s.opAt d).ceilTherm = t then (if t = 0 ∧ hot then 4 else 3)
  else if s.self.powerCeil = t then 2
  else 1

/-- Where a die moves to: point 0 until the self-test of the dies is done, then its target (R360, R419). -/
def State.opAim (s : State) (d : Nat) : Nat := if s.svc.stage = .dies then 0 else s.target d

/-- OP_POINT_STEP (R359, R360, R372, R419): one step toward the target at most every 500 ns; a new guard band applies with it. -/
def execOpPointStep (d : Nat) (s : State) : Host.Outcome State Fault Refusal :=
  onUnit (d < 4)
    (let o := s.opAt d
     if s.coreDom d ∧ s.after o.steppedAt 1000 then
       let s := s.accrueSlow
       let k := if o.step < s.opAim d then o.step + 1 else if s.opAim d < o.step then o.step - 1 else o.step
       s.setOp d { o with step := k, gbandEff := o.gband, steppedAt := some s.clk, minStep := min o.minStep k }
     else s)

/-- THERMAL_CEILING_RISE (R362): allowed for 1 ms without a break, then one step every 100 µs. -/
def execThermalCeilingRise (d : Nat) (s : State) : Host.Outcome State Fault Refusal :=
  onUnit (d < 4)
    (let o := s.opAt d
     if s.since (o.allowedSince (o.ceilTherm + 1)) ms1 ∧ s.after o.roseAt (100 * us1) then
       s.setOp d { o with ceilTherm := o.ceilTherm + 1, roseAt := some s.clk }
     else s)

/-! ### Stragglers (R375, R376) -/

/-- Late events of the period of a partition, by core. -/
def State.lateOf (s : State) (k : Nat) : List (Nat × Nat) :=
  (s.self.late.filter fun e => e.1 / 4096 == k && decide (0 < e.2)).map fun e => (e.1 % 4096, e.2)

/-- Ticks of the period in which any die of a set ran below F_MAX. -/
def State.slowTicks (s : State) (dies : List Nat) : Nat :=
  (s.self.slow.filter fun e => dies.any fun d => e.1.testBit d).foldl (fun n e => n + e.2) 0

/-- The words of a STRAGGLER body for a period that ended at a cluster time (R376). -/
def State.stragglerBody (s : State) (k : Nat) (at_ : W64) : List W64 :=
  let l := s.lateOf k
  let total := l.foldl (fun n e => n + e.2) 0
  let worst := l.foldl (fun (b : Nat × Nat) e => if b.2 < e.2 then e else b) (0, 0)
  let dies := (List.range 4).filter fun d => s.ownsCoreOn k d
  let low := dies.foldl (fun m d => min m (s.opAt d).minStep) 63
  [BitVec.ofNat 64 (s.topo.ownEid * 2 ^ 48 + s.partTag k * 2 ^ 36 + k * 2 ^ 32 + min total 0xFFFFFFFF), at_,
   BitVec.ofNat 64 (l.length * 2 ^ 48 + min worst.2 0xFFFF * 2 ^ 32 + min (s.slowTicks dies / us1) 0xFFFFFFFF),
   BitVec.ofNat 64 (worst.1 * 2 ^ 52 + low * 2 ^ 46)]

/-- The end of a period for a partition: its count, and a datagram where the threshold is reached. -/
def State.endPeriod (s : State) (at_ : W64) (k : Nat) : State :=
  let total := (s.lateOf k).foldl (fun n e => n + e.2) 0
  let body := s.stragglerBody k at_
  let s := s.putField (A.plate k) 31 0 (min total 0xFFFFFFFF)
  if s.bound 0xF ≠ 0 ∧ s.bound 0xF ≤ total then (s.pushEvent 0x43 body).setBit A.selfEvents 7 else s

/-- STRAGGLER_PERIOD_END (R375, R376): at a multiple of STRAG_PERIOD. -/
def execStragglerPeriodEnd (s : State) : Host.Outcome State Fault Refusal :=
  .next (match s.boundaryOf (s.bound 0xE * ms1) with
  | some t =>
    if !s.dom.mgmt || s.self.periodAt == some t then s else
    let s := s.accrueSlow
    let s := (List.range 16).foldl (fun s k => s.endPeriod t k) s
    let s := (List.range 4).foldl (fun s d => s.setOp d { s.opAt d with minStep := (s.opAt d).step }) s
    { s with self := { s.self with late := [], slow := [], periodAt := some t } }
  | none => s)

end Sys2Proof.Machine
end

