-- ==== Sys2Proof/Machine/Service.lean ====
section
/-! DEFINITION. Start-up, reset and live service (R21, R391 to R394, R411, R418 to R439): the boot chain, power-up and input loss, self-test,
bivouac, cassette removal, firmware change; and the writing of fuses (R388). -/
namespace Sys2Proof.Machine

/-! ### Fuses (R384, R388, R392) -/

/-- A fuse write done. -/
def State.burn (s : State) (j : FuseJob) : State :=
  let f := s.fuse
  match j with
  | .claim a b => { s with fuse := { f with claimed := f.claimed + 1, anchor0 := a, anchor1 := b, revoked0 := 0, revoked1 := 0 } }
  | .revoke a slot =>
    let m := BitVec.ofNat 4 (2 ^ slot)
    { s with fuse := { f with
        revoked0 := if a = 0 then f.revoked0 ||| m else f.revoked0, revoked1 := if a = 1 then f.revoked1 ||| m else f.revoked1 } }
  | .rollback v => { s with fuse := { f with svnMin := max f.svnMin v } }
  | .release => { s with fuse := { f with released := f.released + 1 } }
  | .revokeVendor i => { s with fuse := { f with vkeyRevoked := f.vkeyRevoked ||| BitVec.ofNat 2 (2 ^ i) } }

/-- FUSE_WRITE (R367, R388): the first fuse that waits, while the window is open. -/
def execFuseWrite (s : State) : Host.Outcome State Fault Refusal :=
  .next (match s.sec.jobs with
    | j :: l =>
      if s.dom.mgmt ∧ s.self.fuseOk then
        let s := { s.burn j with sec := { s.sec with jobs := l } }
        if l.isEmpty then s.setBit A.secEvents 4 else s
      else s
    | [] => s)

/-! ### The boot chain (R391 to R394) -/

/-- The bytes of a firmware bank. -/
def State.bankBytes (s : State) (b : Nat) : Memory := if b = 0 then s.svc.bank0 else s.svc.bank1

/-- The ASCII bytes "KLSFWMN1" (R391). -/
abbrev manifestLabel : List Byte := [0x4B, 0x4C, 0x53, 0x46, 0x57, 0x4D, 0x4E, 0x31]

/-- What the ROM checks (R391): the manifest's signature, the vendor key fused and not revoked, the SVN, and the loader's hash. -/
def State.romChecks (s : State) (m : Container) : Bool :=
  pairHolds m.vendorKey (manifestLabel ++ m.signed) m.signature
    && decide (m.key ≤ 1) && sha3 m.vendorKey == (if m.key = 0 then s.fuse.vendor0 else s.fuse.vendor1)
    && !s.fuse.vkeyRevoked.getLsbD m.key && decide (m.svn ≤ 63 ∧ s.sec.svnMin ≤ m.svn) && sha3 m.loader == m.loaderHash

/-- What the loader checks (R391): the firmware body's hash. -/
def bodyChecks (m : Container) : Bool := sha3 m.body == m.bodyHash

/-- A bank passes all the checks of R391. -/
def State.manifestOk (s : State) (m : Container) : Bool := s.romChecks m && bodyChecks m

/-- What a bank holds, where it passes all the checks. -/
def State.goodManifest (s : State) (b : Nat) : Option Container := (Config.container (s.bankBytes b)).filter s.manifestOk

/-- The ROM's stage passes: MEAS0 takes the manifest's digest (log 14), then the loader's hash (R391, R394). -/
def State.romPasses (s : State) (m : Container) : State :=
  { s with sec := { s.sec with
    meas0 := extend (extend s.sec.meas0 (sha3Bytes (m.signed ++ m.signature))) (toBytes 32 m.loaderHash.toNat) } }

/-- The loader's stage passes and the bank runs: MEAS1 takes the body's hash, the versions are this bank's, and the other vendor key is to
be revoked where the manifest says so (R391, R394). -/
def State.runManifest (s : State) (b : Nat) (m : Container) : State :=
  let revokes := m.revokeOther && !s.fuse.vkeyRevoked.getLsbD (1 - m.key)
  { s with
    svc := { s.svc with runBank := b, fwWord := m.fw, protoMajor := m.proto, fmtMajor := m.fmt }
    sec := { s.sec with
      fwSvn := m.svn, vkey := m.key, recovery := false, meas1 := extend s.sec.meas1 (toBytes 32 m.bodyHash.toNat)
      jobs := if revokes then s.sec.jobs ++ [FuseJob.revokeVendor (1 - m.key)] else s.sec.jobs } }

/-- One bank is tried, stage by stage (R391): a check that fails ends the try, and what an earlier stage measured stays. The answer: whether
the bank runs. -/
def State.tryBank (s : State) (b : Nat) : State × Bool :=
  match Config.container (s.bankBytes b) with
  | some m =>
    if !s.romChecks m then (s, false)
    else if !bodyChecks m then (s.romPasses m, false)
    else ((s.romPasses m).runManifest b m, true)
  | none => (s, false)

/-- RECOVERY: no bank passes, and MEAS1 to MEAS3 are zero (R393). -/
def State.enterRecovery (s : State) : State :=
  { s with sec := { s.sec with recovery := true, meas1 := 0, meas2 := 0, meas3 := 0 } }

/-- The ROM runs the boot bank, or tries the other one and says so, or stays in RECOVERY (R391, R393). The answer: whether the other bank was
tried. -/
def State.boot (s : State) : State × Bool :=
  match s.tryBank s.svc.bootBank with
  | (s, true) => (s, false)
  | (s, false) =>
    match (s.setBit A.secEvents 5).tryBank (1 - s.svc.bootBank) with
    | (s, true) => (s, true)
    | (s, false) => (s.enterRecovery, true)

/-- The cairn records of a fallback and of RECOVERY (R393, R417). -/
def State.noteBoot (s : State) (fallback : Bool) : State :=
  if s.sec.recovery then s.note { sev := 4, index := 0, code := 0xB005 }
  else if fallback then s.note { sev := 3, index := 0, code := 0xB004, p0 := s.svc.runBank }
  else s

/-! ### Domains of the whole module (R21, R418) -/

/-- The hub domain goes (R21, R418): router, endpoint, link ends, optics and Ethernet; adopted positions are given up, and the module loses
its parent and its 1588 transmitters (R28, R36). -/
def State.hubDown (s : State) : State :=
  let s := { s with
    dom := { s.dom with hub := false }
    hub := { HubS.init with log2P := s.hub.log2P, sched := s.hub.sched, bank := s.hub.bank, bankWait := s.hub.bankWait }
    ep := { Endpoint.init with
      torn := s.ep.torn, count := s.ep.count, teardown := s.ep.teardown
      src := (s.ep.src.map fun (e : Nat × SrcPair) => (e.1, e.2.restart)).filter fun e => !e.2.answers.isEmpty }
    link := s.link.map fun (e : Nat × Link) => (e.1, { Link.init with
      badTx := e.2.badTx, badRx := e.2.badRx, afterFence := e.2.afterFence, repair := e.2.repair })
    opt := { OptS.init with
      cass := s.opt.cass.map fun (e : Nat × Cass) => (e.1, if e.2.present then { Cass.init with present := true, st := .failed } else Cass.init)
      pmap := s.opt.pmap.map fun (e : Nat × Nat × Bool) => if e.2.2 then (e.1, (s.imagePos e.1).1, false) else e }
    eth := { s.eth with linkUp := 0 }
    svc := { s.svc with hubStartAt := none } }
  let gone := fun (_ : PtpTx) => true
  (((s.resetRegs 0x300000 0x600000).ptpForget 0 gone).ptpForget 1 gone).evalTime

/-- The hub domain comes up (R419): links with their fused maps, cassettes starting where `fresh`; its ports wait for the hub's start. -/
def State.hubUp (s : State) (fresh : Bool) : State :=
  let links := (List.range 4).foldl (fun t d => match Tab.find s.link d with
    | some l => Tab.put t d l
    | none => Tab.put t d { Link.init with badTx := Tab.get 0 s.fuse.badTx d, badRx := Tab.get 0 s.fuse.badRx d }) []
  let cass := if fresh then s.opt.cass.map fun (e : Nat × Cass) =>
      (e.1, if e.2.present then { Cass.init with present := true, st := .starting } else e.2)
    else s.opt.cass
  { s with
    dom := { s.dom with hub := true }, link := links, opt := { s.opt with cass := cass, upAt := s.clk }
    svc := { s.svc with hubStartAt := some s.clk } }.refreshDark.startMap

/-- Every present cassette is RUNNING or FAILED, or the hub has started for 2.0 s (R419). -/
def State.hubStarted (s : State) (t : Nat) : Bool :=
  decide (t + 2000 * ms1 ≤ s.clk) || (Tab.vals s.opt.cass).all fun (x : Cass) => !x.present || decide (x.st = .running) || decide (x.st = .failed)

/-- The ports are released once the hub has started (R306, R419). -/
def State.releasePorts (s : State) : State :=
  match s.svc.hubStartAt with
  | some t =>
    if s.dom.hub && s.hubStarted t then
      (List.range numPorts).foldl (fun s p => s.releasePort p true) { s with svc := { s.svc with hubStartAt := none } }
    else s
  | none => s

/-- One tick of core n in WAITING (R114, R358): the die's clock makes (32 + k) / 80 of a cycle in it at operating point k, and
CORE.STALLS.WAIT_KCYC counts units of 1,024 cycles, 81,920 eightieths of a cycle. -/
def State.countWait (s : State) (n : Nat) : State :=
  let slot := A.coreStalls n * 64
  let v := Tab.get 0 s.parts slot + 32 + (s.opAt (dieOf n)).step
  { s.bump (A.coreStalls n) 31 0 (v / 81920) with parts := Tab.put s.parts slot (v % 81920) }

/-- The cores in WAITING count the tick (R114). -/
def State.countWaits (s : State) : State :=
  s.core.foldl (fun t e => if e.2.st = .waiting then t.countWait e.1 else t) s

/-- The running cores fetch: a word of reserved class or opcode raises ILLEGAL (R126). -/
def State.fetchFaults (s : State) : State := s.core.foldl (fun t e => if e.2.st = .running then t.fetchFault e.1 else t) s

/-- A module whose dies have come up may enter bivouac (R423). -/
def State.mayBivouac (s : State) : Bool := s.dom.hub && (decide (s.svc.stage = .dies) || decide (s.svc.stage = .running))

/-- The hub fences a die whose memory domain is about to go (R21, R423), unless it is fenced already. -/
def State.fenceFirst (s : State) (d cause : Nat) : State :=
  if s.memDom d ∧ (s.linkAt d).st ≠ .fenced then s.fenceDie d cause else s

/-- A commanded bivouac begins (R423): with MEM_OFF each die is fenced first; the core domains go, and with MEM_OFF the memory too. -/
def State.enterBivouac (s : State) (memOff : Bool) : State :=
  if !s.mayBivouac then s
  else
    let s := if memOff then (List.range 4).foldl (fun s d => s.fenceFirst d 4) s else s
    let s := s.dropCores
    let s := if memOff then (List.range 4).foldl (fun s d => if s.memDom d then s.memDown d else s) s else s
    { s with svc := { s.svc with commanded := true, memOff := memOff } }

/-- A commanded bivouac begins when its slot boundary has come (R423). -/
def State.bivouacDue (s : State) : State :=
  match s.svc.bivAt with
  | some (memOff, t) => if t ≤ s.now then { s with svc := { s.svc with bivAt := none } }.enterBivouac memOff else s
  | none => s

/-- What the module does while no command waits: waiting cores count it, running cores at a word that is no instruction fault, time goes
on, the arrays issue planes, IDENT frames go out, a hub that has started releases its ports, and a commanded bivouac begins at its slot boundary (R114, R126,
R278, R306, R419, R423, log 2). -/
def State.idleStep (s : State) : State := s.countWaits.fetchFaults.idle.arrayCycles.releasePorts.detoursDue.bivouacDue

/-- The hub, memory and core domains go (R21): the hub fences each die as its memory goes, while it has power. -/
def State.railsDown (s : State) : State :=
  ((List.range 4).foldl (fun s d => (if s.dom.hub then s.fenceFirst d 4 else s).memDown d) s).hubDown

/-- HUB_RESET (R418): ports retrain, the Ethernet links go down, and sequence spaces restart; management, cassettes, feeds, memory, the
dies' caches and the width record (R212) stay. -/
def execHubReset (s : State) : Host.Outcome State Fault Refusal :=
  .next (if s.dom.hub then
    let o := s.opt
    let t := s.restartSpaces.hubDown
    let t := { t with opt := { t.opt with cass := o.cass, feedSec := o.feedSec, feedDark := o.feedDark } }
    let t := (List.range 4).foldl (fun (t : State) d =>
      (t.setReg (A.rcCtrl d) (s.reg (A.rcCtrl d))).setReg (A.rcStat d) (s.reg (A.rcStat d))) { t with rc := s.rc }
    t.hubUp false
  else s)

/-! ### Power (R411, R419, R425, R436 to R439) -/

/-- What power-up leaves of a module: fuses, the log die, the image store, the firmware banks, the pins and what left it. -/
def State.bare (s : State) : State :=
  let z := State.reset
  { z with
    pending := s.pending, clk := s.clk, free := s.free, out := s.out, fuse := s.fuse
    dom := { mgmt := true, hub := false, mem := 0, core := 0 }
    opt := { z.opt with cass := s.opt.cass.map fun (e : Nat × Cass) => (e.1, { Cass.init with present := e.2.present }) }
    topo := { z.topo with storeGen := s.topo.storeGen, storeItems := s.topo.storeItems, storeSigned := s.topo.storeSigned, storePend := s.topo.storePend }
    sec := { z.sec with
      owned := decide (s.fuse.released < s.fuse.claimed), epoch := s.fuse.claimed, revoked0 := s.fuse.revoked0, revoked1 := s.fuse.revoked1
      svnMin := s.fuse.svnMin, draws := s.sec.draws }
    cairn := { z.cairn with slot := s.cairn.slot, head0 := s.cairn.head0, head1 := s.cairn.head1 }
    svc := { z.svc with bank0 := s.svc.bank0, bank1 := s.svc.bank1, bootBank := s.svc.bootBank } }

/-- The management domain comes up (R391 to R394, R408, R412, R419): boot, log, START, image. -/
def State.managementUp (s : State) : State :=
  let (s, fallback) := s.bare.boot
  let s := (s.recoverLog.startLog).noteBoot fallback
  if s.sec.recovery then s else s.restoreImage

/-- Power good has come (R419, R437, R438): after a ramp, after input that came back in time, or as the module starts; a commanded
power-down leaves none until the blade is mated or the input lost again (R425). -/
def State.goodInput (s : State) : Bool := s.svc.ramping || s.svc.restored || (s.svc.powerGood && !s.svc.powerDown)

/-- MODULE_POWER_UP (R418, R419): at power good, up to the stage HUB, in which the links train and the stacks are written. -/
def execModulePowerUp (s : State) : Host.Outcome State Fault Refusal :=
  .next (if s.dom.hub || s.svc.presOpen || !s.svc.mated || !s.goodInput || s.svc.lossAt.isSome then s
    else
      let s := s.managementUp
      if s.sec.recovery then s
      else
        let s := (List.range 4).foldl (fun s d => s.memUp d) (s.hubUp true)
        { s with svc := { s.svc with stage := .hub } })

/-- BLADE_MATE (R438): the hot-swap switch begins its ramp. -/
def execBladeMate (s : State) : Host.Outcome State Fault Refusal :=
  .next (if s.dom.hub then s
    else { s with svc := { s.svc with mated := true, presOpen := false, ramping := true, powerGood := false, lossAt := none } })

/-- A PRES contact that opens in the cycle of a commanded power-down: its POWER_LOSS record has P1 0 (R436). -/
def State.uncommand (s : State) : State :=
  let buf := s.cairn.buf.map fun (r : CRec) =>
    if fld r.w0 15 0 = 0x0002 ∧ r.w1 = s.now then { r with w2 := setFld r.w2 63 32 0 } else r
  { s with cairn := { s.cairn with buf := buf } }

/-- INPUT_LOSS (R21, R411, R436): the switch opens, every domain but management goes, POWER_LOSS is accepted. -/
def execInputLoss (c : LossCause) (s : State) : Host.Outcome State Fault Refusal :=
  .next (let s := if c = .presOpen then { s.uncommand with svc := { s.svc with presOpen := true } } else s
    let s := { s with svc := { s.svc with ramping := false, powerGood := false } }
    if s.dom.mgmt ∧ s.svc.lossAt = none then
      let s := (s.powerLoss false).railsDown
      { s with svc := { s.svc with lossAt := some s.clk, restored := false } }
    else s)

/-- INPUT_RESTORE (R437): before the management domain goes down; the writes of R411 are completed first. -/
def execInputRestore (s : State) : Host.Outcome State Fault Refusal :=
  .next (if s.dom.mgmt ∧ s.svc.lossAt.isSome then
    let s := s.writeAll
    { s with svc := { s.svc with lossAt := none, presOpen := false, restored := true } }
  else s)

/-- MANAGEMENT_DOMAIN_DOWN (R21, R411, R439): 40 ms after input loss, in which an open window has let every waiting record be written. -/
def execManagementDomainDown (s : State) : Host.Outcome State Fault Refusal :=
  .next (match s.svc.lossAt with
    | some t =>
      if s.dom.mgmt ∧ t + 40 * ms1 ≤ s.clk then
        let s := s.writeAll
        { s with
          dom := { mgmt := false, hub := false, mem := 0, core := 0 }
          sec := { s.sec with sessions := [], jobs := [] }
          eth := { EthS.init with qp := [] }
          cairn := { s.cairn with buf := [] } }
      else s
    | none => s)

/-- PWR.SVC_CTRL.POWER_DOWN (R411, R425). -/
def State.commandPowerDown (s : State) : State :=
  let s := (s.powerLoss true).railsDown
  { s with svc := { s.svc with stage := .poweringDown, powerDown := true, bivAt := none } }

/-- POWER_DOWN (R425). -/
def execPowerDown (s : State) : Host.Outcome State Fault Refusal := .next (if s.dom.mgmt then s.commandPowerDown else s)

/-! ### Self-test (R420) -/

/-- A core that failed its self-test is fenced under R99 (R420). From RESET the table of R97 leads there through IDLE: RESET_HOLD is
written 0 and FENCE 1. A core that R84 keeps in RESET stays there, held (log 97). -/
def State.fenceTested (s : State) (n : Nat) : State :=
  let t := s.writeCtrl n 4
  if (t.coreAt n).st = .reset then t.writeCtrl n 2 else t

/-- A position that failed its self-test (R371 steps 2 to 5, R420); a core that was in RESET ends there. -/
def State.fencePosition (s : State) (n j : Nat) : State :=
  let held := decide ((s.coreAt n).st = .reset)
  let s := s.fenceArray n j false
  if held then s.writeCtrl n 2 else s

/-- The first 2 MiB of the die's segment 0 are zero after the test (R420). -/
def State.zeroTested (s : State) (d : Nat) : State :=
  let inSpan := fun (g : Nat) => (List.range 32768).any fun i => (s.place (d * 2 ^ 38 + 64 * i)).granule == g
  { s with mem := { s.mem with
      bytes := s.mem.bytes.filter fun e => !inSpan (e.1 / 64), poison := s.mem.poison.filter fun e => !inSpan e.1 } }

/-- SELFTEST_COMPLETE (R420). -/
def execSelftestComplete (d : Nat) (r : SelfTest) (s : State) : Host.Outcome State Fault Refusal :=
  onUnit (d < 4 ∧ (r.badPos.all fun e => dieOf e.1 == d) ∧ r.badCores.all fun n => dieOf n == d)
    (if s.coreDom d ∧ s.svc.stage = .dies then
      let s := s.zeroTested d
      let s := r.badPos.foldl (fun s e => if s.fuse.posOk e.1 e.2 then s.fencePosition e.1 e.2 else s) s
      let s := r.badCores.foldl (fun s n => s.fenceTested n) s
      let many := decide (64 < (s.core.filter fun (e : Nat × Core) => dieOf e.1 == d && (decide (e.2.st = .fenced) || r.badCores.contains e.1)).length)
      let dead := many || !r.pathOk
      let s := if dead then
          let t := s.commandHold d true
          { t with svc := { t.svc with dieFail := t.svc.dieFail ||| BitVec.ofNat 4 (2 ^ d) } }
        else s
      let s := if dead || !r.badPos.isEmpty || !r.badCores.isEmpty then s.setBit A.svcEvents 0 else s
      { s with svc := { s.svc with selfDone := s.svc.selfDone ||| BitVec.ofNat 4 (2 ^ d), selfMs := min r.ms 0xFFFFF } }.testsDone
    else s)

/-! ### Bivouac (R423, R424) -/

/-- PWR.SVC_CTRL.BIVOUAC (R423): entry at the next slot boundary; without effect in bivouac, before the dies have come up, or while an
entry waits already. -/
def State.commandBivouac (s : State) (memOff : Bool) : State :=
  if !s.mayBivouac ∨ s.svc.bivAt.isSome then s
  else { s with svc := { s.svc with bivAt := some (memOff, s.nextSlot) } }

/-- BIVOUAC (R423, R424): RESUME in the same write has no effect. -/
def execBivouac (memOff resume : Bool) (s : State) : Host.Outcome State Fault Refusal :=
  let _ := resume
  .next (s.commandBivouac memOff)

/-- PWR.SVC_CTRL.RESUME (R424): ends a commanded bivouac, but not while TRIPPED, nor one that R364 holds. -/
def State.commandResume (s : State) : State :=
  if s.svc.stage ≠ .bivouac ∨ s.svc.commanded = false ∨ s.self.tripped ∨ s.self.hotBivouac then s
  else { s with svc := { s.svc with commanded := false } }.leaveBivouac

/-- RESUME (R424). -/
def execResume (s : State) : Host.Outcome State Fault Refusal := .next s.commandResume

/-! ### Cassettes (R426) -/

/-- A cassette may not be prepared for removal (R426). -/
def State.removeRefused (s : State) (c : Nat) : Bool :=
  let next := s.cassAt ((c + 1) % 4)
  ((List.range 4).any fun k => k != c && (decide ((s.cassAt k).st = .removing) || decide ((s.cassAt k).st = .absent)))
    || decide (next.st ≠ .running) || !(List.range 8).all fun k => next.gives k

/-- PWR.SVC_CTRL.CASS_REMOVE for one cassette (R426). -/
def State.commandRemove (s : State) (c : Nat) : State :=
  if s.removeRefused c ∨ (s.cassAt c).present = false then s.setBit A.svcEvents 4
  else s.setCass c { s.cassAt c with st := .removing, safe := false }

/-- CASS_REMOVE (R426). -/
def execCassRemove (c : Nat) (s : State) : Host.Outcome State Fault Refusal := onUnit (c < 4) (s.commandRemove c)

/-! ### Firmware (R428 to R431, R434) -/

/-- The staging bank: the one that does not run. -/
def State.stagingBank (s : State) : Nat := 1 - s.svc.runBank

/-- Replace the bytes of the staging bank. -/
def State.setStaging (s : State) (m : Memory) : State :=
  if s.stagingBank = 0 then { s with svc := { s.svc with bank0 := m } } else { s with svc := { s.svc with bank1 := m } }

/-- A write of PWR.FW_DATA (R434). -/
def State.fwData (s : State) (v : W64) : State :=
  if s.svc.switchPending || s.svc.erasing then s
  else
    let o := s.field A.fwSel 24 3
    let s := (s.setStaging ((s.bankBytes s.stagingBank).write (8 * o) (toBytes 8 v.toNat))).putField A.fwSel 24 3 (o + 1)
    { s with svc := { s.svc with staged := 1 } }

/-- FW_DATA_WRITE (R428, R434). -/
def execFwDataWrite (v : BitVec 64) (s : State) : Host.Outcome State Fault Refusal := .next (s.fwData v)

/-- PWR.FW_CMD.CANCEL (R434). -/
def State.fwCancel (s : State) : State := { s with svc := { s.svc with switchPending := false } }

/-- FW_CANCEL (R434). -/
def execFwCancel (s : State) : Host.Outcome State Fault Refusal := .next s.fwCancel

/-- PWR.FW_CMD.ERASE (R434). -/
def State.fwErase (s : State) : State :=
  if s.svc.switchPending then s else { s with svc := { s.svc with erasing := true } }

/-- FW_ERASE (R434). -/
def execFwErase (s : State) : Host.Outcome State Fault Refusal := .next s.fwErase

/-- FW_ERASE_COMPLETE (R434): the bank is empty. -/
def execFwEraseComplete (s : State) : Host.Outcome State Fault Refusal :=
  .next (if s.svc.erasing then
    let s := s.setStaging []
    { s with svc := { s.svc with erasing := false, staged := 0, stagedSvn := 0, stagedMajor := 0 } }
  else s)

/-- Two majors differ by at most one. -/
def oneApart (a b : Nat) : Bool := decide (a ≤ b + 1 ∧ b ≤ a + 1)

/-- PWR.FW_CMD.VERIFY (R391, R428, R431). -/
def State.fwVerify (s : State) : State :=
  match Config.container (s.bankBytes s.stagingBank) with
  | some m =>
    let ok := s.manifestOk m && oneApart m.proto s.svc.protoMajor && oneApart m.fmt s.svc.fmtMajor
    { s with svc := { s.svc with staged := if ok then 2 else 3, stagedSvn := m.svn, stagedMajor := m.proto } }
  | none => { s with svc := { s.svc with staged := 3 } }

/-- FW_VERIFY (R428). -/
def execFwVerify (s : State) : Host.Outcome State Fault Refusal := .next s.fwVerify

/-- PWR.FW_CMD.SWITCH (R429). -/
def State.fwSwitch (s : State) : State :=
  let t := s.reg A.fwCt
  let pendingIn := (Tab.vals s.topo.pend).any fun (x : Sect) => decide (t ≤ x.due ∧ x.due.toNat < t.toNat + 1000000000)
  if s.svc.staged = 2 ∧ t.toNat % 128 = 0 ∧ s.now.toNat + 4000000 ≤ t.toNat ∧ !pendingIn then
    { s with svc := { s.svc with switchPending := true } }
  else s.setBit A.svcEvents 4

/-- FW_SWITCH (R429). -/
def execFwSwitch (s : State) : Host.Outcome State Fault Refusal := .next s.fwSwitch

/-- FIRMWARE_SWITCH (R429, R430): at FW_CT, after the activations due then. -/
def execFirmwareSwitch (s : State) : Host.Outcome State Fault Refusal :=
  .next (if s.svc.switchPending ∧ (s.reg A.fwCt) ≤ s.now then
    let s := s.activateDue
    let s := { s with svc := { s.svc with switchPending := false } }
    if s.time.st = .locked ∨ s.time.st = .holdover then
      { s with svc := { s.svc with bootBank := s.stagingBank, switching := some s.clk }, sec := { s.sec with sessions := [] } }
    else s.setBit A.svcEvents 3
  else s)

/-- Positions whose fence was held back during the switch are fenced now (R371, R430). -/
def State.heldFences (s : State) : State :=
  s.self.faults.foldl (fun s e =>
    let n := e.1 / 17
    let j := e.1 % 17
    if s.bound 8 = 1 ∧ s.bound 7 ≤ e.2.1 ∧ ¬ (s.posAt n j).fenced then s.fenceArray n j true else s) s

/-- NEW_FIRMWARE_START (R391, R393, R429, R430); with no bank that passes, the module stays in RECOVERY. -/
def execNewFirmwareStart (s : State) : Host.Outcome State Fault Refusal :=
  .next (if s.svc.switching.isSome then
    let (s, fallback) := s.boot
    let s := { s with svc := { s.svc with switching := none } }
    if s.sec.recovery then (s.noteBoot fallback).railsDown
    else (((s.noteBoot fallback).acceptStart).setBit A.svcEvents 2).heldFences
  else s)

end Sys2Proof.Machine
end

