-- ==== Sys2Proof/Machine/RegView.lean ====
section
/-! DEFINITION. What the registers of the control space read as (R8 to R10, R352): stored fields, and the fields that show what a block
holds in a record of its own. -/
namespace Sys2Proof.Machine

/-- Fields (hi, lo, value) put into a word. -/
def packFields (w : W64) (l : List (Nat × Nat × Nat)) : W64 := l.foldl (fun w f => setFld w f.1 f.2.1 f.2.2) w

/-- The domain that holds the register at an address is up (R21, R352). -/
def State.live (s : State) (a : Nat) : Bool :=
  match a / 0x100000 with
  | 3 => s.dom.hub
  | 4 => s.dom.hub
  | 5 => s.dom.hub
  | 6 => s.memDom (a % 0x100000 / 0x40000)
  | 0x18 => s.coreDom (a % 0x100000 / 0x10000)
  | b => if 8 ≤ b ∧ b < 0x12 then s.coreDom (dieOf ((a - 0x800000) / 0x1000)) else s.dom.mgmt

/-- TIME registers (R44). -/
def State.viewTime (s : State) (base : Nat) (stored : W64) : W64 :=
  let t := s.time
  if base = A.timeNow then s.now
  else if base = A.timeStatus then
    packFields 0 [(63, 48, t.rootEid), (47, 40, t.rootGen), (39, 38, t.rootPrio), (37, 36, t.hops), (35, 33, t.st.code),
      (32, 32, b2n t.untraceable), (31, 25, t.parent.getD 0x7F), (24, 24, b2n t.primary)]
  else if base = A.timeOffset then packFields 0 [(63, 32, unsigned 32 t.parentOffset), (31, 0, unsigned 32 t.parentDelay)]
  else if base = A.timePtp then packFields 0 [(63, 32, unsigned 32 t.ptpOffset), (31, 29, t.ptpState), (28, 28, t.ptpPort)]
  else stored

/-- Core states as CORE.STATE encodes them (R118). -/
def CoreSt.code : CoreSt → Nat
  | .reset => 0
  | .idle => 1
  | .armed => 2
  | .running => 3
  | .waiting => 4
  | .halted => 5
  | .faulted => 6
  | .fenced => 7

/-- CORE.ACFGj (R87, R90). -/
def State.acfgWord (s : State) (n j : Nat) : W64 :=
  let x := s.posAt n j
  packFields 0 [(36, 32, x.logical), (31, 24, x.level), (19, 18, s.fuse.path n j), (17, 16, x.trim),
    (2, 2, b2n x.dummy), (1, 1, b2n x.fenced), (0, 0, b2n (s.fuse.posOk n j))]

/-- CORE registers of core n (R91, R118). -/
def State.viewCore (s : State) (base n j : Nat) (stored : W64) : W64 :=
  let c := s.coreAt n
  if base = A.acfg 0 0 then s.acfgWord n j
  else if base = A.coreId 0 then
    packFields 0 [(31, 30, n / 640), (29, 20, n % 640), (19, 15, n % 640 / 32), (14, 10, n % 32), (9, 5, s.fuse.arrays n),
      (0, 0, b2n (s.fuse.coreOk n))]
  else if base = A.coreState 0 then packFields 0 [(3, 3, b2n c.busy), (2, 0, c.st.code)]
  else if base = A.coreCnt 0 0 then packFields 0 [(31, 0, (c.counter j).toNat)]
  else if base = A.coreSwdata 0 then (s.swRead n).2
  else stored

/-- UPD registers of die d (R177). -/
def State.viewUpd (s : State) (base d : Nat) (stored : W64) : W64 :=
  let u := s.updAt d
  if base = A.updStatus 0 then
    let run := u.refresh.find? fun (x : URefresh) => x.running
    packFields 0 [(50, 38, u.calls.length + (u.refresh.map fun (x : URefresh) => x.waiters.length).sum),
      (37, 32, u.refresh.length), (31, 22, (run.map URefresh.group).getD 0),
      (1, 1, b2n run.isSome), (0, 0, b2n (u.calls.any fun (c : UCall) => c.running))]
  else if base = A.updGstat 0 then Tab.get 0 u.gstat (s.field (A.updGselReg d) 9 0)
  else if base = A.updSdata 0 then
    let k := s.field (A.updSsel d) 3 0
    if k = 0 then 0 else (Tab.get [] u.sched k).getD (s.field (A.updSsel d) 7 4) 0
  else stored

/-- MEM registers of die d (R188, R203). -/
def State.viewMem (s : State) (base d k : Nat) (stored : W64) : W64 :=
  if base = A.memStatus 0 then
    packFields 0 ((List.range 8).flatMap fun i =>
      [(32 + i, 32 + i, b2n (s.stackAt d i).trained), (2 * i + 17, 2 * i + 16, (s.stackAt d i).interval)])
  else if base = A.memCred 0 0 then packFields 0 [(31, 0, unsigned 32 (s.credit d k))]
  else stored

/-- Agreed bundles of a link with both repair wires in use (R220). -/
def Link.unchecked (l : Link) : Nat :=
  (l.repair.filter fun (r : RepairEntry) => r.rp0.isSome && r.rp1.isSome && (if r.dir then l.enRx else l.enTx).getLsbD r.bundle).length

/-- RMAP of the bundle that RSEL selects (R220). -/
def Link.rmap (l : Link) (sel : W64) : W64 :=
  match l.repair.find? fun (r : RepairEntry) => r.dir == bit sel 7 && r.bundle == fld sel 6 0 with
  | some r => packFields 0 [(15, 15, b2n r.rp1.isSome), (14, 8, r.rp1.getD 0), (7, 7, b2n r.rp0.isSome), (6, 0, r.rp0.getD 0)]
  | none => 0

/-- D2D registers of link d (R220). -/
def State.viewD2d (s : State) (base d : Nat) (stored : W64) : W64 :=
  let l := s.linkAt d
  if base = A.d2dStatus 0 then
    packFields 0 [(33, 32, l.attempts), (30, 24, count96 l.enTx), (22, 16, count96 l.enRx), (15, 8, l.unchecked), (2, 0, l.st.code)]
  else if base = A.badTx0 0 then l.badTx.truncate 64
  else if base = A.badTx1 0 then (l.badTx >>> 64).truncate 64
  else if base = A.badRx0 0 then l.badRx.truncate 64
  else if base = A.badRx1 0 then (l.badRx >>> 64).truncate 64
  else if base = A.rmap 0 then l.rmap (s.reg (A.rsel d))
  else if base = A.rcStat 0 ∧ s.coreDom d = false then 0
  else stored

/-- HUB.SCH_DATA (R263, R285). -/
def State.schWord (s : State) : W64 :=
  let l := Tab.get [] s.hub.sched (93 * s.field A.schSel 15 15 + s.field A.schSel 22 16)
  match (if s.field A.schSel 22 16 < numPorts then l[s.field A.schSel 13 0]? else none) with
  | some x => packFields 0 [(32, 32, 1), (31, 0, x.toNat)]
  | none => 0

/-- HUB.PSTATn (R285). -/
def State.pstatWord (s : State) (p : Nat) : W64 :=
  let x := s.portAt p
  packFields 0 [(39, 24, x.peerEid), (15, 12, laneCount x.txLanes), (11, 11, b2n (x.belayFull p 2)), (10, 10, b2n (s.detoured p)),
    (2, 0, x.st.code)]

/-- HUB registers (R251, R285). -/
def State.viewHub (s : State) (base i : Nat) (stored : W64) : W64 :=
  if base = A.epReplay then packFields 0 [(16, 0, s.ep.records.length)]
  else if base = A.epTeardown then s.ep.teardown.foldl (fun (w : W64) e => setFld w e.1 e.1 1) 0
  else if base = A.cpyStat 0 then packFields stored [(12, 0, (s.copyAt i).descs.length)]
  else if base = A.hubStatus then
    packFields 0 [(31, 24, ((List.range numPorts).filter s.portUp).length), (23, 16, ((List.range numPorts).filter s.detoured).length),
      (15, 15, b2n s.schedOk), (14, 14, s.hub.bank)]
  else if base = A.hubPitch then
    packFields 0 [(63, 8, s.now.toNat / (128 * 2 ^ s.hub.log2P)), (4, 0, s.hub.log2P)]
  else if base = A.telStat then packFields 0 [(63, 32, s.hub.mapSeq), (5, 0, s.hub.newest)]
  else if base = A.telData then s.telWord
  else if base = A.schData then s.schWord
  else if base = A.pstat 0 then s.pstatWord i
  else stored

/-- Lane states as OPT.LDATA encodes them (R313). -/
def LaneSt.code : LaneSt → Nat
  | .down => 0
  | .locking => 1
  | .working => 2
  | .recal => 3
  | .retired => 4

/-- Cassette states as OPT.CASSc encodes them (R313). -/
def CassSt.code : CassSt → Nat
  | .absent => 0
  | .starting => 1
  | .running => 2
  | .failed => 3
  | .removing => 4

/-- OPT.LDATA of the selected lane; positions 32 to 95 have no lanes 4 to 7 (R313). -/
def State.ldataWord (s : State) : W64 :=
  let (q, l, dir) := s.laneSelected
  let x := s.laneAt q l dir
  if ringOk q l then
    packFields 0 [(63, 61, x.st.code), (60, 59, x.fails), (58, 56, x.tone), (55, 44, x.heater.toNat), (43, 32, unsigned 12 x.offset),
      (31, 0, min 0xFFFFFFFF ((s.clk - max x.calAt s.opt.upAt) / 2000000000))]
  else 0

/-- A spare source's field (R313): in use, and the λ it serves. -/
def spareField (x : Option Nat) : Nat :=
  match x with
  | some k => 8 + k % 8
  | none => 0

/-- OPT registers (R313). -/
def State.viewOpt (s : State) (base i : Nat) (stored : W64) : W64 :=
  if base = A.optVersion then packFields 0 [(15, 8, s.svc.protoMajor)]
  else if base = A.ldata then s.ldataWord
  else if base = A.estat 0 then
    packFields 0 [(63, 56, (Tab.get 0 s.opt.feedSec i).toNat), (55, 48, (Tab.get 0 s.opt.feedDark i).toNat),
      (31, 16, unsigned 16 (s.engineTemp i))]
  else if base = A.cassReg 0 then
    let x := s.cassAt i
    packFields 0 [(63, 63, b2n x.present), (62, 60, x.st.code), (59, 52, x.failed.toNat), (51, 48, spareField x.spare0),
      (47, 44, spareField x.spare1)]
  else if base = A.pmapReg 0 then packFields stored [(15, 15, b2n (s.pmapAt i).2), (14, 8, (s.pmapAt i).1)]
  else stored

/-- TOPO registers (R336). -/
def State.viewTopo (s : State) (base : Nat) (stored : W64) : W64 :=
  let t := s.field A.tsel 3 0
  let known := decide (1 ≤ t ∧ t ≤ 10)
  let pend := if known then Tab.find s.topo.pend t else none
  if base = A.topoVersion then packFields 0 [(15, 8, s.svc.fmtMajor)]
  else if base = A.topoStatus then
    packFields 0 ((47, 32, s.topo.ownEid) :: (List.range 16).flatMap fun i =>
      [(16 + i, 16 + i, b2n (decide (Tab.get 0 s.topo.gen i ≠ 0))), (i, i, b2n (Tab.find s.topo.pend i).isSome)])
  else if base = A.tgen then
    packFields 0 [(63, 32, if known then Tab.get 0 s.topo.gen t else 0), (31, 0, (pend.map Sect.gen).getD 0)]
  else if base = A.tpendCt then (pend.map Sect.actCt).getD 0
  else stored

/-- GLOBAL registers (R354). -/
def State.viewGlobal (s : State) (base i : Nat) (stored : W64) : W64 :=
  if base = A.globalId then packFields stored [(31, 28, s.fuse.grade.toNat), (27, 20, s.fuse.stepping.toNat)]
  else if base = A.globalSerial then s.fuse.serial
  else if base = A.globalFw then s.fwReg
  else if base = A.globalCaps then
    packFields 0 [(47, 32, (List.range numCores).foldl (fun k n => k + s.fuse.arrays n) 0),
      (27, 16, ((List.range numCores).filter fun n => s.fuse.coreOk n).length)]
  else if base = A.globalDomains then
    packFields 0 [(8, 5, s.dom.mem.toNat), (4, 1, s.dom.core.toNat), (0, 0, b2n s.dom.hub)]
  else if base = A.capmap 0 then packFields 0 ((List.range 8).map fun j => (8 * j + 7, 8 * j, s.fuse.arrays (8 * i + j)))
  else stored

/-- Connection states as QPDATA0 encodes them (R355). -/
def QpSt.code : QpSt → Nat
  | .reset => 0
  | .ready => 1
  | .error => 2

/-- ETH registers (R355). -/
def State.viewEth (s : State) (base i : Nat) (stored : W64) : W64 :=
  if base = A.ethMac 0 then packFields 0 [(47, 0, (if i = 0 then s.fuse.mac0 else s.fuse.mac1).toNat)]
  else if base = A.ethStat 0 then packFields 0 [(0, 0, b2n (s.eth.linkUp.getLsbD i))]
  else if base = A.evStat then packFields stored [(63, 32, s.eth.nextSeq), (31, 16, s.eth.events.length)]
  else if base = A.qpdata0 then packFields stored [(63, 62, (s.qpAt s.qpSelected).st.code)]
  else if base = A.qpdata7 then packFields 0 [(3, 0, (s.qpAt s.qpSelected).err)]
  else stored

/-- THERM registers (R378). -/
def State.viewTherm (s : State) (base i : Nat) (stored : W64) : W64 :=
  if base = A.thermStatus then
    packFields 0 ([(63, 63, b2n s.self.tripped), (62, 62, b2n s.self.nvmOk), (61, 61, b2n s.self.fuseOk), (60, 60, b2n (s.hubAt 420)),
      (51, 44, min s.trips24 255)] ++ (List.range 4).flatMap fun d =>
        [(56 + d, 56 + d, b2n (decide ((s.opAt d).ceilTherm < 48))),
         (52 + d, 52 + d, b2n ((List.range 8).any fun k => decide ((s.stackAt d k).limit ≠ 0)))])
  else if base = A.sdata then
    let x := s.sensorAt (s.field A.ssel 8 0)
    if s.field A.ssel 8 0 < 482 then
      packFields 0 [(63, 63, b2n x.valid), (47, 32, unsigned 16 x.temp), (31, 16, if x.hasPeak then unsigned 16 x.peak else 0)]
    else 0
  else if base = A.thermDie 0 then
    match s.dieHottest i with
    | some (t, k) => packFields 0 [(63, 48, unsigned 16 t), (47, 39, k)]
    | none => 0
  else stored

/-- Stages as PWR.SVC_STATUS encodes them (R434). -/
def Stage.code : Stage → Nat
  | .boot => 0
  | .hub => 1
  | .dies => 2
  | .running => 3
  | .bivouac => 4
  | .poweringDown => 5

/-- PWR registers (R378, R434). -/
def State.viewPwr (s : State) (base i : Nat) (stored : W64) : W64 :=
  if base = A.pwrInput then packFields 0 [(63, 48, s.self.mvolt), (47, 32, s.self.watts), (31, 16, s.self.peakW)]
  else if base = A.pwrCeil then packFields 0 [(63, 58, s.self.powerCeil)]
  else if base = A.pwrOp 0 then
    let o := s.opAt i
    packFields 0 [(63, 58, o.step), (57, 52, o.ceilTherm), (51, 48, o.gband), (47, 32, s.railMv i), (31, 29, s.opCause i)]
  else if base = A.svcStatus then
    packFields 0 ([(63, 61, s.svc.stage.code), (60, 57, s.svc.dieFail.toNat), (52, 52, b2n s.svc.memOff), (51, 32, s.svc.selfMs)]
      ++ (List.range 4).map fun c => (53 + c, 53 + c, b2n (s.cassAt c).safe))
  else if base = A.fwStatus then
    packFields 0 [(63, 62, s.svc.staged), (61, 56, s.svc.stagedSvn), (55, 48, s.svc.stagedMajor), (47, 47, b2n s.svc.switchPending),
      (46, 46, s.svc.bootBank), (45, 45, b2n s.svc.erasing)]
  else stored

/-- SELF registers (R377, R379). -/
def State.viewSelf (s : State) (base : Nat) (stored : W64) : W64 :=
  if base = A.pdata then
    let f := s.faultsOf (s.field A.psel 16 5) (s.field A.psel 4 0)
    if s.field A.psel 4 0 < 17 then packFields 0 [(63, 56, f.1), (55, 48, f.2)] else 0
  else if base = A.bdata then
    let k := s.field A.bsel 15 0
    if 1 ≤ k ∧ k ≤ 15 then BitVec.ofNat 64 (s.bound k) else 0
  else stored

/-- Key slots of an authority that hold a key (R404). -/
def State.keysPresent (s : State) (a : Nat) : Nat :=
  (List.range 4).foldl (fun k i => k + b2n (Tab.find s.sec.keys (keySlot a i)).isSome * 2 ^ i) 0

/-- The endorsement word that SEC.ESEL selects: 422 to 511 read zero (R382, R404). -/
def State.edataWord (s : State) : W64 :=
  if s.field A.esel 8 0 < 422 then Tab.get 0 s.fuse.endorsement (s.field A.esel 8 0) else 0

/-- A measurement by number (R394). -/
def State.measAt (s : State) (n : Nat) : BitVec 256 :=
  if n = 0 then s.sec.meas0 else if n = 1 then s.sec.meas1 else if n = 2 then s.sec.meas2 else s.sec.meas3

/-- SEC registers (R404). -/
def State.viewSec (s : State) (base i : Nat) (stored : W64) : W64 :=
  let c := s.sec
  if base = A.secStatus then
    packFields 0 [(63, 63, b2n c.owned), (62, 60, c.epoch), (59, 59, b2n c.recovery), (58, 58, b2n !c.jobs.isEmpty), (57, 52, c.svnMin),
      (51, 46, c.fwSvn), (45, 45, c.vkey), (44, 43, s.fuse.vkeyRevoked.toNat)]
  else if base = A.secSlots then
    packFields 0 [(15, 12, s.keysPresent 1), (11, 8, c.revoked1.toNat), (7, 4, s.keysPresent 0), (3, 0, c.revoked0.toNat)]
  else if base = A.secSess then packFields 0 [(4, 0, c.sessions.length)]
  else if base = A.edata then s.edataWord
  else if base = A.secIdw 0 then (slotWords s.identityDigest).getD i 0
  else if base = A.meas 0 then (slotWords (s.measAt (i / 4))).getD (i % 4) 0
  else stored

/-- CAIRN registers (R414, R416). -/
def State.viewCairn (s : State) (base i : Nat) (stored : W64) : W64 :=
  if base = A.cairnStatus then
    packFields 0 [(50, 38, s.cairn.buf.length), (37, 37, b2n s.self.nvmOk), (36, 36, b2n (decide (65536 ≤ s.cairn.written))),
      (35, 35, b2n !s.cairn.clearing.isEmpty)]
  else if base = A.cairnNext then packFields 0 [(47, 0, s.cairn.next)]
  else if base = A.cairnWritten then packFields 0 [(47, 0, s.cairn.written)]
  else if base = A.cstat then packFields 0 [(2, 0, s.recordState s.cursor)]
  else if base = A.win 0 then (s.recordWords s.cursor).getD i 0
  else stored

/-- A register of a block, WO fields as zero: element (i, j) of the register at `d.base`. -/
def State.viewReg (s : State) (d : RegDesc) (i j a : Nat) : W64 :=
  let stored := s.reg a &&& ~~~ d.maskBy (fun c => c == .wo)
  match d.base / 0x100000 with
  | 0x0 => s.viewGlobal d.base i stored
  | 0x1 => s.viewTime d.base stored
  | 0x2 => s.viewTopo d.base stored
  | 0x3 => s.viewHub d.base i stored
  | 0x4 => s.viewD2d d.base i stored
  | 0x5 => s.viewOpt d.base i stored
  | 0x6 => s.viewMem d.base i j stored
  | 0x8 => s.viewCore d.base i j stored
  | 0x18 => s.viewUpd d.base i stored
  | 0x19 => if d.base < A.pwrInput then s.viewTherm d.base i stored else s.viewPwr d.base i stored
  | 0x1A => s.viewSec d.base i stored
  | 0x1B => s.viewCairn d.base i stored
  | 0x1C => s.viewEth d.base i stored
  | 0x1D => s.viewSelf d.base stored
  | _ => stored

/-- What an address of the control space reads as; outside every register, and in a domain that is down, zero (R341, R352). -/
def State.regView (s : State) (a : Nat) : W64 :=
  if s.live a then
    match regAt a with
    | some (d, i, j) => s.viewReg d i j a
    | none => 0
  else 0

end Sys2Proof.Machine
end

