-- ==== Sys2Proof/Machine/Access.lean ====
section
/-! DEFINITION. Software accesses to the control space (R8 to R13, R341, R352): reads with their effects, and writes by access code, of
command fields and of reserved values. -/
namespace Sys2Proof.Machine

/-! ### Reads -/

/-- SEC.ESEL.WORD advances, from 421 to 0 (R404). -/
def State.nextEndorsement (s : State) : State :=
  let k := s.field A.esel 8 0
  s.putField A.esel 8 0 (if k = 421 then 0 else (k + 1) % 512)

/-- The sensor whose peak an address shows, PEAK_W as sensor 482. -/
def State.peakIndex (s : State) (base : Nat) : Option Nat :=
  if base = A.sdata then (if s.field A.ssel 8 0 < 482 then some (s.field A.ssel 8 0) else none)
  else if base = A.pwrInput then some 482 else none

/-- A peak as `v`; `none`: nothing since the last read. -/
def State.setPeak (s : State) (k : Nat) (v : Option Int) : State :=
  if k = 482 then { s with self := { s.self with peakW := (v.getD 0).toNat } }
  else s.setSensor k { s.sensorAt k with peak := v.getD 0, hasPeak := v.isSome }

/-- The state as a read sees it (R11): RC fields as before the events of this tick. -/
def State.beforeEvents (s : State) (d : RegDesc) (a : Nat) : State :=
  match s.peakIndex d.base with
  | some k =>
    match Tab.find s.edge.peaks k with
    | some e => s.setPeak k e.1
    | none => s
  | none =>
    match Tab.find s.edge.hw a with
    | some e =>
      let m := d.maskBy (fun c => c == .rc)
      if m = 0 then s else s.setReg a ((s.reg a &&& ~~~ m) ||| (e.1 &&& m))
    | none => s

/-- RC fields go back to their reset values, and keep the events of this tick (R9, R11); THERM.SDATA.PEAK and PWR.INPUT.PEAK_W stand in
records of their own. -/
def State.clearOnRead (s : State) (d : RegDesc) (a : Nat) : State :=
  match s.peakIndex d.base with
  | some k =>
    match Tab.find s.edge.peaks k with
    | some e => { s.setPeak k (some e.2) with edge := { s.edge with peaks := Tab.put s.edge.peaks k (none, e.2) } }
    | none => s.setPeak k none
  | none =>
    let m := d.maskBy (fun c => c == .rc)
    let clear := d.resetBy fun c => c == .rc
    if m = 0 then s
    else
      match Tab.find s.edge.hw a with
      | some e =>
        { s.setReg a ((s.reg a &&& ~~~ m) ||| (e.2 &&& m)) with
          edge := { s.edge with hw := Tab.put s.edge.hw a ((e.1 &&& ~~~ m) ||| clear, e.2) } }
      | none => s.setReg a ((s.reg a &&& ~~~ m) ||| clear)

/-- ETH.FECp is read (R355): what its code has counted since the last read is a free value while the link was up in that time, no command
telling of it (log 102). -/
def State.readFec (s : State) (p : Nat) : State × W64 :=
  let one := BitVec.ofNat 2 (2 ^ p)
  if s.eth.fecUp.getLsbD p then
    ({ s.useFree with eth := { s.eth with fecUp := (s.eth.fecUp &&& ~~~ one) ||| (s.eth.linkUp &&& one) } }, s.freeW)
  else (s, 0)

/-- A software read of an address: what it returns, and its effect on the state (R9). -/
def State.readReg (s : State) (a : Nat) : State × W64 :=
  if s.live a then
    match regAt a with
    | some (d, i, j) =>
      if d.base = A.telData then s.readTel
      else if d.base = A.win 0 ∧ i = 3 then s.readWin3
      else if d.base = A.ethFec 0 then s.readFec i
      else if d.base = A.edata then (s.nextEndorsement, s.edataWord)
      else if d.base = A.coreSwdata 0 then s.swRead i
      else (s.clearOnRead d a, (s.beforeEvents d a).viewReg d i j a)
    | none => (s, 0)
  else (s, 0)

/-- An address of the control space that an access may name: 8-byte aligned, below 0x400_0000 (R340, R352). -/
def addrOk (a : Nat) : Bool := decide (a % 8 = 0 ∧ a < 0x4000000)

/-- READ_CLEAR (R9): a software read; RC fields return to their reset values. -/
def execReadClear (a : Nat) (s : State) : Host.Outcome State Fault Refusal :=
  onUnit (addrOk a) ((s.readReg a).1.emit (.softRead a (s.readReg a).2))

/-- EDATA_READ (R404). -/
def execEdataRead (s : State) : Host.Outcome State Fault Refusal :=
  .next (if s.dom.mgmt then s.nextEndorsement.emit (.softRead A.edata s.edataWord) else s)

/-! ### Writes -/

/-- A value that a field takes; a reserved one leaves the field unchanged (R13). The field is named by its register and low bit. -/
def legalValue (base lo v : Nat) : Bool :=
  if base = A.shadowCfg 0 then v == 0 || decide (4 ≤ v ∧ v ≤ 16)
  else if base = A.coreSwaddr 0 then decide (v * 8 < storeSize)
  else if base = A.memCtrl 0 ∧ lo = 0 then decide (v ≤ 64)
  else if base = A.rsel 0 ∧ lo = 0 then decide (v < 96)
  else if base = A.optCfg then decide (v ≠ 0)
  else if base = A.lsel ∧ lo = 3 then decide (v < 96)
  else if base = A.schSel ∧ lo = 16 then decide (v < numPorts)
  else if base = A.psel ∧ lo = 5 then decide (v < numCores)
  else if base = A.ethPcfg 0 ∧ lo = 0 then decide (1280 ≤ v ∧ v ≤ 9000)
  else if base = A.qpdata0 ∧ lo = 53 then decide (1 ≤ v ∧ v ≤ 3)
  else if base = A.qpdata0 ∧ lo = 48 then decide (1 ≤ v ∧ v ≤ 20)
  else true

/-- One field after a write (R9, R11, R13, R335): a bit that an event of the same tick has set stays set, and an RW field that a section
activating in it has set keeps the section's value. -/
def writeField (base : Nat) (f : RegField) (image : Bool) (set v w : W64) : W64 :=
  let x := fld v f.hi f.lo
  match f.acc with
  | .rw => if legalValue base f.lo x && !image then setFld w f.hi f.lo x else w
  | .w1c => w &&& ~~~ (v &&& maskOf f.hi f.lo &&& ~~~ set)
  | .w1s => w ||| (v &&& maskOf f.hi f.lo)
  | _ => w

/-- A write to the stored fields of a register (R9, R13). -/
def State.writeStored (s : State) (d : RegDesc) (a : Nat) (v : W64) : State :=
  s.setReg a (d.fields.foldl (fun (w : W64) f => writeField d.base f (s.edge.image.contains a) (s.eventBits a) v w) (s.reg a))

/-- A write to CORE.ACFGj (R83, R90): LOGICAL and TRIM change only while the core is held in reset or fenced; 16 to 30 are
reserved. -/
def State.writeAcfg (s : State) (n j : Nat) (v : W64) : State :=
  if (s.coreAt n).st = .reset ∨ (s.coreAt n).st = .fenced then
    let x := s.posAt n j
    let l := fld v 36 32
    s.setPos n j { x with logical := if l < 16 ∨ l = 31 then l else x.logical, trim := fld v 17 16 }
  else s

/-- A write to UPD.SDATA (R157, R177); a section of the same tick that sets the schedule has its value (R335). -/
def State.writeKnot (s : State) (d : Nat) (v : W64) : State :=
  let k := s.field (A.updSsel d) 3 0
  let u := s.updAt d
  if k = 0 ∨ s.edge.image.contains (knotKey d k) then s
  else
    let l := Tab.get [] u.sched k
    let l := l ++ List.replicate (16 - l.length) 0
    s.setUpd d { u with sched := Tab.put u.sched k (l.set (s.field (A.updSsel d) 7 4) v) }

/-- A write to a D2D bundle record (R212, R220): only while the link is DOWN or OFFLINE. -/
def State.writeBundles (s : State) (d : Nat) (f : Link → Link) : State :=
  let l := s.linkAt d
  if l.st = .down ∨ l.st = .offline then s.setLink d (f l) else s

/-- 96 bundle bits with 64 low ones or 32 high ones replaced. -/
def bundlesLow (x : BitVec 96) (v : W64) : BitVec 96 := (x >>> 64 <<< 64) ||| v.zeroExtend 96
/-- The 32 high ones replaced. -/
def bundlesHigh (x : BitVec 96) (v : W64) : BitVec 96 := (x.truncate 64).zeroExtend 96 ||| (v.zeroExtend 96 <<< 64)

/-- A write to D2D.CTRL (R211, R217, R218, R220): HOLD, RETRAIN, REJOIN, FENCE in that order. -/
def State.writeD2dCtrl (s : State) (d : Nat) (v : W64) : State :=
  let s := s.commandHold d (bit v 0)
  let s := if bit v 1 then s.commandRetrain d else s
  let s := if bit v 2 then s.commandRejoin d else s
  if bit v 3 then s.commandFence d else s

/-- A write to HUB.CTRL (R278, R285): with HOLD_PORT and RELEASE_PORT both set, HOLD_PORT alone; ports 93 to 127 are reserved. -/
def State.writeHubCtrl (s : State) (v : W64) : State :=
  let p := fld v 8 2
  if numPorts ≤ p then s
  else if bit v 1 then s.holdPort p
  else if bit v 0 then s.releasePort p true
  else s

/-- A write to OPT.LCMD (R299, R313): RETIRE, then RESTORE. -/
def State.writeLcmd (s : State) (v : W64) : State :=
  let s := if bit v 0 then s.retireSelected else s
  if bit v 1 then s.restoreSelected else s

/-- A write to TOPO.CMD (R333, R336): with both bits set, CANCEL alone. -/
def State.writeTopoCmd (s : State) (v : W64) : State :=
  if bit v 0 then s.cancelPending (fld v 5 2) else if bit v 1 then s.activateNow (fld v 5 2) else s

/-- A write to PWR.OPd.GBAND: above GB_MAX it leaves the field unchanged (R378). -/
def State.writeGband (s : State) (d : Nat) (v : W64) : State :=
  if fld v 51 48 ≤ s.bound 5 then s.setOp d { s.opAt d with gband := fld v 51 48 } else s

/-- A write to SELF.CTRL (R379): PROBE_NOW, then CLR_FAULTS. -/
def State.writeSelfCtrl (s : State) (v : W64) : State :=
  let n := fld v 12 1
  if numCores ≤ n then s
  else
    let s := if bit v 0 then s.probeCore n else s
    if bit v 13 then s.clearFaults n else s

/-- Every session closes (R399). -/
def State.closeSessions (s : State) : State := { s with sec := { s.sec with sessions := [] } }

/-- A write to PWR.SVC_CTRL (R423 to R426, R434): CASS_REMOVE, BIVOUAC, RESUME unless BIVOUAC is in the same write, POWER_DOWN. -/
def State.writeSvcCtrl (s : State) (v : W64) : State :=
  let s := (List.range 4).foldl (fun s c => if bit v (8 + c) then s.commandRemove c else s) s
  let s := if bit v 13 then s.commandBivouac (bit v 12) else if bit v 14 then s.commandResume else s
  if bit v 15 then s.commandPowerDown else s

/-- A write to PWR.FW_CMD (R434): CANCEL alone, else ERASE, VERIFY, SWITCH in that order. -/
def State.writeFwCmd (s : State) (v : W64) : State :=
  if bit v 3 then s.fwCancel
  else
    let s := if bit v 0 then s.fwErase else s
    let s := if bit v 1 then s.fwVerify else s
    if bit v 2 then s.fwSwitch else s

/-- A write to MEM.ZRANGEk (R198, R201, R203). -/
def State.writeZrange (s : State) (d k : Nat) (v : W64) : State :=
  if bit v 63 then s.enableZrange d k v else s.disableZrange d k v

/-- A write to MEM.ZMAPk: unchanged while EN or FLUSHING is 1 (R203). -/
def State.writeZmap (s : State) (d k : Nat) (v : W64) : State :=
  if bit (s.reg (A.zrange d k)) 63 || bit (s.reg (A.zrange d k)) 62 then s else s.setReg (A.zmap d k) (v &&& maskOf 31 0)

/-- A write to a register of a compute die or its link whose fields are commands or stand in a record; `none`: it has no such
fields. -/
def State.writeDieReg (s : State) (base i j : Nat) (v : W64) : Option State :=
  if base = A.coreCtrl 0 then some (s.writeCtrl i v)
  else if base = A.acfg 0 0 then some (s.writeAcfg i j v)
  else if base = A.coreSwdata 0 then some (s.swWrite i v)
  else if base = A.updGselReg 0 then some (s.loadGroup i v)
  else if base = A.updGcmd 0 then some (s.writeGcmd i v)
  else if base = A.updSdata 0 then some (s.writeKnot i v)
  else if base = A.zrange 0 0 then some (s.writeZrange i j v)
  else if base = A.zmap 0 0 then some (s.writeZmap i j v)
  else if base = A.d2dCtrl 0 then some (s.writeD2dCtrl i v)
  else if base = A.badTx0 0 then some (s.writeBundles i fun l => { l with badTx := bundlesLow l.badTx v })
  else if base = A.badTx1 0 then some (s.writeBundles i fun l => { l with badTx := bundlesHigh l.badTx v })
  else if base = A.badRx0 0 then some (s.writeBundles i fun l => { l with badRx := bundlesLow l.badRx v })
  else if base = A.badRx1 0 then some (s.writeBundles i fun l => { l with badRx := bundlesHigh l.badRx v })
  else if base = A.rcCtrl 0 then some (s.writeRcCtrl i v)
  else none

/-- A write to a register of the hub or management domain whose fields are commands or stand in a record; `none`: it has no such
fields. -/
def State.writeHubReg (s : State) (base i : Nat) (v : W64) : Option State :=
  if base = A.hubCtrl then some (s.writeHubCtrl v)
  else if base = A.lcmd then some (s.writeLcmd v)
  else if base = A.topoCmd then some (s.writeTopoCmd v)
  else if base = A.qpsel then some (s.selectQp v)
  else if base = A.qpcmd then some (s.writeQpcmd v)
  else if base = A.thermCtrl then some (if bit v 0 then s.commandRestart else s)
  else if base = A.pwrOp 0 then some (s.writeGband i v)
  else if base = A.selfCtrl then some (s.writeSelfCtrl v)
  else if base = A.secSess then some (if bit v 5 then s.closeSessions else s)
  else if base = A.svcCtrl then some (s.writeSvcCtrl v)
  else if base = A.fwData then some (s.fwData v)
  else if base = A.fwCmd then some (s.writeFwCmd v)
  else none

/-- One software write to an address takes effect (R9, R13, R341): outside every register, and in a domain that is down, it is
ignored. -/
def State.storeReg (s : State) (a : Nat) (v : W64) : State :=
  if s.live a then
    match regAt a with
    | some (d, i, j) =>
      if d.base < 0x400000 ∨ 0x1900000 ≤ d.base ∨ d.base / 0x100000 = 5 then
        match s.writeHubReg d.base i v with
        | some t => t
        | none =>
          let s := s.writeStored d a v
          if d.base = A.optCtrl ∧ bit v 1 then s.recalAll else s
      else
        match s.writeDieReg d.base i j v with
        | some t => t
        | none => s.writeStored d a v
    | none => s
  else s

/-- Registers whose writes of one tick stand in R12's order whatever the queue's: those whose fields are values and not commands
(log 126). -/
def valueReg (base : Nat) : Bool :=
  [A.coreCtrl 0, A.acfg 0 0, A.coreSwdata 0, A.updSdata 0, A.zmap 0 0, A.badTx0 0, A.badTx1 0, A.badRx0 0, A.badRx1 0, A.pwrOp 0,
    A.qpsel, A.updGselReg 0, A.rcCtrl 0].contains base

/-- A register holds its value in stored fields. -/
def State.plainReg (s : State) (base : Nat) : Bool := (s.writeHubReg base 0 0).isNone && (s.writeDieReg base 0 0 0).isNone

/-- A write of this tick has the last word on a register's value after one that arbitration places before it (R12). -/
def State.writeAgain (s : State) (d : RegDesc) (a : Nat) (v : W64) : State :=
  if valueReg d.base then s.storeReg a v
  else if s.plainReg d.base && s.live a then s.writeStored d a v
  else s

/-- A software write of a writer, 0 the management processor, 1 and 2 the ports (R12): the writes of this tick that arbitration places
after it are applied again after it, so that the last of R12's order gives the value. SWDATA's address goes back to the word that this
write takes, and the later ones take those after it. -/
def State.writeReg (s : State) (w a : Nat) (v : W64) : State :=
  let later := s.laterWrites a w
  let s := s.logWrite a w v
  match regAt a with
  | some (d, i, _) =>
    if later = [] then s.storeReg a v
    else
      let back := (List.range later.length).foldl (fun x _ => (x + storeSize - 8) % storeSize) (s.swAddr i)
      let s := if d.base = A.coreSwdata 0 ∧ s.live a = true then s.putField (A.coreSwaddr i) 19 3 (back / 8) else s
      later.foldl (fun s e => s.writeAgain d a e.2) (s.storeReg a v)
  | none => s

/-- The requester index of a writer (R12). -/
def writerIndex (w : Writer) : Nat :=
  match w with
  | .mp => 0
  | .e0 => 1
  | .e1 => 2

/-- REGISTER_WRITE (R9, R12): by the management processor or through either port. -/
def execRegisterWrite (w : Writer) (a : Nat) (v : BitVec 64) (s : State) : Host.Outcome State Fault Refusal :=
  onUnit (addrOk a) (s.writeReg (writerIndex w) a v)

/-- CLOSE_ALL (R399, R404): SEC.SESS.CLOSE_ALL written 1. -/
def execCloseAll (s : State) : Host.Outcome State Fault Refusal := .next s.closeSessions

end Sys2Proof.Machine
end

