-- ==== Sys2Proof/Machine/Chunks.lean ====
section
/-! DEFINITION. The topo image as it arrives: chunks, their spread and assembly, and the check of a completed section (R318, R326 to R328,
R335). -/
namespace Sys2Proof.Machine

/-- A completed section is checked (R318), after the sections whose slot boundary has come have taken effect (R335, R389). -/
def State.checkSection (s : State) (image sec : Nat) (ws : List W64) : State :=
  let s := s.activateDue.bump A.topoCounts 63 48 1
  match readSection s.svc.fmtMajor sec ws with
  | .error c => s.rejectSection c (fld (ws.getD 0 0) 63 56) (fld (ws.getD 1 0) 63 32) image sec
  | .ok x =>
    if !limitsOk x then s.rejectSection .size x.type x.gen image sec
    else
    let x := if x.actCt = 0 then { x with due := s.nextSlot, now := true } else x
    if !inScope (s.projected x.type x.due).topo.ownEid x then s
    else
      match s.sectionCause x with
      | some c => s.rejectSection c x.type x.gen image sec
      | none => s.acceptSection x

/-! ### Chunks (R326 to R328) -/

/-- IMAGE_ID of a chunk. -/
def chunkImage (w : List W64) : Nat := fld (entryWord w 0) 63 32
/-- SECTION_NO of a chunk. -/
def chunkSec (w : List W64) : Nat := fld (entryWord w 0) 31 16
/-- SPREAD of a chunk. -/
def chunkSpread (w : List W64) : Bool := bit (entryWord w 0) 15
/-- DATA_BYTES of a chunk. -/
def chunkBytes (w : List W64) : Nat := fld (entryWord w 0) 7 0
/-- SECTION_WORDS of a chunk. -/
def chunkWords (w : List W64) : Nat := fld (entryWord w 1) 63 32
/-- OFFSET of a chunk. -/
def chunkOffset (w : List W64) : Nat := fld (entryWord w 1) 31 0

/-- A chunk keeps the fields of R326. -/
def chunkOk (w : List W64) : Bool :=
  fld (entryWord w 0) 14 8 == 0 && decide (8 ≤ chunkBytes w ∧ chunkBytes w ≤ 240) && chunkBytes w % 8 == 0 && chunkOffset w % 8 == 0
    && w.length == 2 + chunkBytes w / 8

/-- A section in assembly. -/
def State.asmOf (s : State) (image sec : Nat) : Option Asm := s.topo.asm.find? fun (a : Asm) => a.image == image && a.sec == sec

/-- Sections in assembly that the module keeps. -/
def State.keptAsm (s : State) : List Asm := s.topo.asm.filter fun (a : Asm) => a.kept

/-- Words that the module holds, pending and being assembled. -/
def State.heldWords (s : State) : Nat :=
  s.keptAsm.foldl (fun k (a : Asm) => k + a.words) 0 + (Tab.vals s.topo.pend).foldl (fun k (x : Sect) => k + x.words) 0

/-- Words of one image that have come to the module or are coming (R317). -/
def State.imageWords (s : State) (image : Nat) : Nat :=
  s.keptAsm.foldl (fun k (a : Asm) => if a.image = image then k + a.words else k) 0
    + s.topo.done.foldl (fun k (d : Nat × Nat × Nat) => if d.1 = image then k + d.2.2 else k) 0

/-- A section's last byte has come: what comes of it again is a duplicate (R327). Its words are 0 where it was not kept. -/
def State.sectDone (s : State) (image sec : Nat) : Bool := s.topo.done.any fun (d : Nat × Nat × Nat) => d.1 == image && d.2.1 == sec

/-- A new section would pass a limit of R317: 16 MiB of one section, 64 in assembly, 64 MiB held, 512 MiB of one image. -/
def State.tooMuch (s : State) (image words : Nat) : Bool :=
  decide (2097152 < words) || decide (64 ≤ s.keptAsm.length) || decide (2 ^ 23 < s.heldWords + words)
    || decide (2 ^ 26 < s.imageWords image + words)

/-- Drop a chunk (R327). -/
def State.dropChunk (s : State) : State := s.bump A.topoCounts 15 0 1

/-- Forward a chunk on every UP port of the dimensions from `d` up (R328), as a packet charged to BUDGET16. -/
def State.spreadChunk (s : State) (d : Nat) (w : List W64) : State :=
  let body := bytesOf (setFld (entryWord w 0) 15 15 0 :: w.tail)
  ((List.range numPorts).filter fun p => decide (d ≤ portDim p) && s.portUp p).foldl (fun s p =>
    let q := qMake (s.portAt p).peerEid s.topo.ownEid 0 0x24 0 0 body.length 0 body
    (s.bumpKi A.topoSpread 63 32 (chunkBytes w)).enqueue q 16 numCores .none) s

/-- A chunk's words go into its section (R327); a section that is kept is checked when its last byte has come. -/
def State.addChunk (s : State) (a : Asm) (w : List W64) : State :=
  let data := (w.drop 2).zipIdx.foldl (fun t (v, i) => Tab.put t (chunkOffset w / 8 + i) (if a.kept then v else 0)) a.data
  let rest := s.topo.asm.filter fun (b : Asm) => !(b.image == a.image && b.sec == a.sec)
  if data.length = a.words then
    let t := { s with topo := { s.topo with asm := rest, done := (a.image, a.sec, if a.kept then a.words else 0) :: s.topo.done } }
    if a.kept then t.checkSection a.image a.sec (Tab.vals data) else t
  else { s with topo := { s.topo with asm := rest ++ [{ a with data := data, lastAt := s.clk }] } }

/-- The words of its section that a chunk brings. -/
def chunkSpan (w : List W64) : List Nat := (List.range (chunkBytes w / 8)).map fun i => chunkOffset w / 8 + i

/-- A chunk's data reach past its section (R327). -/
def chunkPast (w : List W64) : Bool := decide (8 * chunkWords w < chunkOffset w + chunkBytes w)

/-- The module holds these words of a chunk's section (R327, R343). -/
def State.holdsWords (s : State) (w : List W64) (span : List Nat) : Bool :=
  (s.topo.done.any fun (d : Nat × Nat × Nat) => d == (chunkImage w, chunkSec w, chunkWords w) && d.2.2 != 0)
    || (s.asmOf (chunkImage w) (chunkSec w)).any fun (a : Asm) =>
      a.kept && a.words == chunkWords w && span.all fun i => (Tab.find a.data i).isSome

/-- A chunk reaches the module, by a fabric port or by Ethernet (R327, R328): `from_` is the lowest dimension to forward it on, 3 for
none. A section that is rejected for its size is not kept, and its chunks are forwarded all the same. -/
def State.takeChunk (s : State) (from_ : Nat) (w : List W64) : State :=
  let s := s.bumpKi A.topoSpread 31 0 (chunkBytes w)
  let image := chunkImage w
  let sec := chunkSec w
  if s.sectDone image sec || chunkPast w then s.dropChunk
  else
    match s.asmOf image sec with
    | some a =>
      let again := (chunkSpan w).any fun i => (Tab.find a.data i).isSome
      if a.words ≠ chunkWords w ∨ again then s.dropChunk else (s.spreadChunk from_ w).addChunk a w
    | none =>
      let large := s.tooMuch image (chunkWords w)
      let s := if large then s.rejectSection .size 0 0 image sec else s
      (s.spreadChunk from_ w).addChunk { image := image, sec := sec, words := chunkWords w, data := [], lastAt := s.clk, kept := !large } w

/-- The hub accepts a TOPO_CHUNK packet (R326): only from the neighbour trained on the port, plain in its header. -/
def State.chunkAccepted (s : State) (p : Nat) (q : Packet) : Bool :=
  let plain := qTag q == 0 && qAddr q == 0 && qSeq q == 0 && !qSync q && !qRetry q && !qAckValid q && qLen q == q.payload.length
    && q.payload.length % 8 == 0
  s.portUp p && qSrc q == (s.portAt p).peerEid && plain && chunkOk (wordsOf (q.payload.length / 8) q.payload)

/-- TOPO_CHUNK (R326). -/
def execTopoChunk (p : Nat) (q : Packet) (s : State) : Host.Outcome State Fault Refusal :=
  onUnit (p < numPorts)
    (s.reach q (· == 0x24) fun s =>
      if s.chunkAccepted p q then s.takeChunk (portDim p + 1) (wordsOf (q.payload.length / 8) q.payload)
      else s.bump A.drops 15 0 1)

/-- SECTION_INCOMPLETE (R327): no chunk for 1 s; one that was rejected for its size is rejected no second time. -/
def execSectionIncomplete (image sec : Nat) (s : State) : Host.Outcome State Fault Refusal :=
  .next (match s.asmOf image sec with
    | some a =>
      if a.lastAt + 1000 * ms1 ≤ s.clk then
        let t := { s with topo := { s.topo with asm := s.topo.asm.filter fun (b : Asm) => !(b.image == image && b.sec == sec) } }
        if a.kept then t.rejectSection .incomplete 0 0 image sec else t
      else s
    | none => s)

end Sys2Proof.Machine
end

