-- ==== Sys2Proof/Machine/Control.lean ====
section
/-! DEFINITION. The Ethernet ports and the Uafada control protocol (R337 to R347, R395 to R399): requests and replies, sessions, event
datagrams. -/
namespace Sys2Proof.Machine
open Sys2Proof

/-! ### Messages (R339) -/

/-- VERSION of a message. -/
def uVersion (m : UMsg) : Nat := fld m.w0 63 56
/-- TYPE of a message. -/
def uType (m : UMsg) : Nat := fld m.w0 55 48
/-- REPLY of a message. -/
def uReply (m : UMsg) : Bool := bit m.w0 47
/-- REQ_ID of a message. -/
def uReqId (m : UMsg) : Nat := fld m.w0 31 0
/-- EID of a message. -/
def uEid (m : UMsg) : Nat := fld m.w1 63 48
/-- SESSION of a message. -/
def uSession (m : UMsg) : Nat := fld m.w1 47 32
/-- BODY_WORDS of a message. -/
def uWords (m : UMsg) : Nat := fld m.w1 15 0
/-- Body word i of a message. -/
def uBody (m : UMsg) (i : Nat) : W64 := m.body.getD i 0
/-- Body words i to i + n − 1 of a message. -/
def uPart (m : UMsg) (i n : Nat) : List W64 := (m.body.drop i).take n
/-- The reserved fields of a request are zero; CT is ignored (R339). -/
def uPlain (m : UMsg) : Bool :=
  fld m.w0 46 40 == 0 && fld m.w0 39 32 == 0 && fld m.w1 31 16 == 0 && fld m.w3 60 0 == 0
/-- Header and body as sent. -/
def uBytes (m : UMsg) : List Byte := bytesOf ([m.w0, m.w1, m.w2, m.w3] ++ m.body)
/-- OP of an ATTEST body (R395). -/
def uOp (m : UMsg) : Nat := fld (uBody m 0) 63 56
/-- The length of the message agrees with its header (R339, R340). -/
def uLengthOk (m : UMsg) : Bool :=
  m.body.length == uWords m && m.udpLen == 32 + 8 * uWords m + (if uSession m = 0 then 0 else 16)

/-! ### Ports -/

/-- Count a discarded frame or message. -/
def State.discard (s : State) (p : Nat) : State := s.bump (A.ethCnt p) 15 0 1
/-- Count a message discarded under R340 or R398. -/
def State.authFail (s : State) (p : Nat) : State := s.bump (A.ethCnt p) 31 16 1

/-- The replies a port keeps. -/
def State.keptAt (s : State) (p : Nat) : List KeptReply := if p = 0 then s.eth.kept0 else s.eth.kept1
/-- Replace the replies a port keeps. -/
def State.setKept (s : State) (p : Nat) (l : List KeptReply) : State :=
  if p = 0 then { s with eth := { s.eth with kept0 := l } } else { s with eth := { s.eth with kept1 := l } }

/-- A kept reply has not expired (R344). -/
def State.fresh (s : State) (k : KeptReply) : Bool := decide (s.clk < k.at_ + 1000 * ms1)

/-- The kept reply of a message's key (R344). -/
def State.keptReply (s : State) (p : Nat) (m : UMsg) : Option UMsg :=
  ((s.keptAt p).find? fun (k : KeptReply) =>
    s.fresh k && k.src == m.src && k.sport == m.sport && k.session == uSession m && k.reqId == uReqId m).map KeptReply.reply

/-- Keep a reply: the last 1,024 of the port (R344). -/
def State.keep (s : State) (p : Nat) (m r : UMsg) : State :=
  s.setKept p (({ src := m.src, sport := m.sport, session := uSession m, reqId := uReqId m, reply := r, at_ := s.clk } :: s.keptAt p).take 1024)

/-! ### Sessions (R395 to R399) -/

/-- An open session. -/
def State.session (s : State) (num : Nat) : Option Session := s.sec.sessions.find? fun (x : Session) => x.num == num
/-- Change an open session. -/
def State.onSession (s : State) (num : Nat) (f : Session → Session) : State :=
  { s with sec := { s.sec with sessions := s.sec.sessions.map fun (x : Session) => if x.num = num then f x else x } }

/-- A request number may be performed in a session (R398). -/
def Session.admits (x : Session) (req : Nat) : Bool :=
  match x.high with
  | none => true
  | some h =>
    let ahead := (req + 2 ^ 32 - h % 2 ^ 32) % 2 ^ 32
    let below := (h + 2 ^ 32 - req % 2 ^ 32) % 2 ^ 32
    decide (1 ≤ ahead ∧ ahead < 2 ^ 31) || (decide (1 ≤ below ∧ below ≤ 1024) && !x.seen.contains req)

/-- A request number has been performed: H and the record of the 1,024 values below it (R398). -/
def Session.performed (x : Session) (req : Nat) : Session :=
  match x.high with
  | none => { x with high := some req, seen := [] }
  | some h =>
    let ahead := (req + 2 ^ 32 - h % 2 ^ 32) % 2 ^ 32
    if 1 ≤ ahead ∧ ahead < 2 ^ 31 then
      { x with high := some req, seen := (h :: x.seen).filter fun v => decide ((req + 2 ^ 32 - v % 2 ^ 32) % 2 ^ 32 ≤ 1024) }
    else { x with seen := req :: x.seen }

/-- The tag of a message in a session (R397). -/
def uTag (x : Session) (m : UMsg) : BitVec 128 := kmac x.key (uBytes m)

/-- What becomes of a message before its type is looked at (R340, R398). -/
inductive Gate where
  | discard
  | authFail
  | pass
  deriving DecidableEq, Repr

/-- A port takes the frame of a message: its 802.1Q tag is the port's, and an IP packet has at most 9,000 bytes (R337, R355, R396). -/
def State.frameFits (s : State) (p : Nat) (m : UMsg) : Bool := s.vlanFits p m.vlan && decide (28 + m.udpLen ≤ 9000)

/-- The checks of a header: length, session and tag, EID, version (R13, R340). -/
def State.gate (s : State) (m : UMsg) : Gate :=
  if !uLengthOk m then .discard
  else
    let auth := uSession m == 0 || (match s.session (uSession m) with
      | some x => uTag x m == m.tag
      | none => false)
    if !auth then .authFail
    else if uEid m ≠ 0xFFFF ∧ uEid m ≠ s.topo.ownEid then .discard
    else if uVersion m ≠ 1 ∨ uReply m then .discard
    else .pass

/-! ### Replies -/

/-- Word 0 of a message from the module (R339): VERSION, TYPE, REPLY, STATUS, REQ_ID. -/
def headWord0 (type status req : Nat) (reply : Bool) : W64 :=
  packFields 0 [(63, 56, 1), (55, 48, type), (47, 47, b2n reply), (39, 32, status), (31, 0, req)]
/-- Word 1 of a message from the module: EID, SESSION, BODY_WORDS. -/
def State.headWord1 (s : State) (sess words : Nat) : W64 := packFields 0 [(63, 48, s.topo.ownEid), (47, 32, sess), (15, 0, words)]
/-- Word 3 of a message from the module: TSTATE. -/
def State.headWord3 (s : State) : W64 := packFields 0 [(63, 61, s.time.st.code)]

/-- A reply from a port (R338, R339): header, body, and the tag of a session, to the sender in a frame tagged as the port sends them. -/
def State.message (s : State) (p type status req sess : Nat) (body : List W64) (m : UMsg) : UMsg :=
  let r : UMsg :=
    { w0 := headWord0 type status req true, w1 := s.headWord1 sess body.length, w2 := s.now, w3 := s.headWord3, body := body, tag := 0
      src := m.src, sport := m.sport, mac := m.mac, udpLen := 32 + 8 * body.length + (if sess = 0 then 0 else 16), vlan := s.vlanOf p }
  match (if sess = 0 then none else s.session sess) with
  | some x => { r with tag := uTag x r }
  | none => r

/-- What performing a request gives: the state, the status and the reply's body; `plain`: the reply goes outside the session;
`silent`: no reply. -/
structure Answer where
  s : State
  status : Nat
  body : List W64
  plain : Bool := false
  silent : Bool := false

/-- Nothing performed. -/
def State.refuseReq (s : State) (status : Nat) : Answer := { s := s, status := status, body := [] }

/-- BUSY, before any access (R343). -/
def State.replyBusy (s : State) (p : Nat) (m : UMsg) (sess : Nat) : State :=
  (s.bump (A.ethCnt p) 47 32 1).emit (.reply p (s.message p (uType m) 1 (uReqId m) sess [] m))

/-- A performed request enters its session's record; its reply is sent and, but for PING, kept (R344, R398). The reply's tag is that
of the session as the message found it. -/
def State.conclude (s : State) (p : Nat) (m : UMsg) (a : Answer) : State :=
  if a.silent then a.s
  else if a.status = 1 then a.s.replyBusy p m (uSession m)
  else
    let sess := if a.plain then 0 else uSession m
    let r := { a.s with sec := { a.s.sec with sessions := s.sec.sessions } }.message p (uType m) a.status (uReqId m) sess a.body m
    let t := if a.status = 0 ∨ a.status = 5 then a.s.onSession (uSession m) fun x => x.performed (uReqId m) else a.s
    let t := if uType m = 1 then t else t.keep p m r
    t.emit (.reply p r)

/-- A request type that needs a session (R340). -/
def needsSession (type : Nat) : Bool := decide (2 ≤ type ∧ type ≤ 6)

/-- A recovery firmware load: a WRITE to the three staging registers without a session (R428). -/
def State.recoveryWrite (s : State) (m : UMsg) : Bool :=
  s.sec.recovery && uType m == 3 && (List.range (m.body.length / 2)).all fun i =>
    let a := (uBody m (2 * i)).toNat
    a == A.fwSel || a == A.fwData || a == A.fwCmd

/-- The request is denied: it needs a session, or its session, opened in an UNOWNED module, may not carry it (R340, R395). -/
def State.denied (s : State) (m : UMsg) : Bool :=
  if uSession m = 0 then needsSession (uType m) && !s.recoveryWrite m
  else
    match s.session (uSession m) with
    | some x => x.claim && !([1, 2, 4, 7].contains (uType m))
    | none => false

/-- Requests that wait on a port: those taken in this local tick, in which none can have been served (R343, log 37). -/
def State.waitingOn (s : State) (p : Nat) : Nat :=
  match Tab.find s.eth.rx p with
  | some (t, k) => if t = s.clk then k else 0
  | none => 0

/-- A port takes a request: it is counted, and its session used (R341, R399). -/
def State.taken (s : State) (p : Nat) (m : UMsg) : State :=
  ({ s with eth := { s.eth with rx := Tab.put s.eth.rx p (s.clk, s.waitingOn p + 1) } }.bump (A.ethCnt p) 63 48 1).onSession (uSession m)
    fun x => { x with usedAt := s.clk }

/-- A request (R337 to R344, R430): the frame and its checks, BUSY while the firmware switches, the kept reply of a repeated one, BUSY
where 64 requests wait on the port, else `perform`. -/
def State.request1 (s : State) (p : Nat) (m : UMsg) (perform : State → Answer) : State :=
  if !s.ethOn p then s
  else if !s.frameFits p m then s.discard p
  else
    match s.gate m with
    | .discard => s.discard p
    | .authFail => s.authFail p
    | .pass =>
      if s.svc.switching.isSome then s.replyBusy p m 0
      else match s.keptReply p m with
      | some r => ((s.bump (A.ethCnt p) 63 48 1).onSession (uSession m) fun x => { x with usedAt := s.clk }).emit (.reply p r)
      | none =>
        if (s.session (uSession m)).any fun (x : Session) => !x.admits (uReqId m) then s.authFail p
        else if 64 ≤ s.waitingOn p then s.replyBusy p m (uSession m)
        else
          let s := s.taken p m
          if s.denied m then s.conclude p m (s.refuseReq 3)
          else if !uPlain m then s.conclude p m (s.refuseReq 2)
          else s.conclude p m (perform s)

/-- A request of one type on a port; a message of another type is not this event. -/
def State.ofType (s : State) (type p : Nat) (m : UMsg) (perform : State → Answer) : State :=
  if uType m = type then s.request1 p m perform else s

/-! ### PING, READ, WRITE (R340 to R342) -/

/-- PING: GLOBAL.ID and TIME.STATUS. -/
def State.doPing (s : State) (m : UMsg) : Answer :=
  if m.body ≠ [] then s.refuseReq 2 else { s := s, status := 0, body := [s.regView A.globalId, s.regView A.timeStatus] }

/-- PING (R340). -/
def execPing (p : Nat) (m : UMsg) (s : State) : Host.Outcome State Fault Refusal :=
  onUnit (p < 2) (s.ofType 1 p m fun s => s.doPing m)

/-- The registers of a die that is not available (R342). -/
def State.notReady (s : State) (a : Nat) : Bool :=
  if (regAt a).isNone then false
  else if 0x600000 ≤ a ∧ a < 0x700000 then !s.linkUp (a % 0x100000 / 0x40000)
  else if (0x800000 ≤ a ∧ a < 0x1200000) ∨ (0x1800000 ≤ a ∧ a < 0x1900000) then !s.live a
  else false

/-- Registers read one after the other. -/
def State.readAll (s : State) (l : List Nat) : State × List W64 :=
  l.foldl (fun (x : State × List W64) a => ((x.1.readReg a).1, x.2 ++ [(x.1.readReg a).2])) (s, [])

/-- READ: COUNT registers from an address. -/
def State.doRead (s : State) (m : UMsg) : Answer :=
  let w := uBody m 0
  let a := fld w 25 0
  let n := fld w 63 56 + 1
  if m.body.length ≠ 1 ∨ fld w 55 26 ≠ 0 ∨ 64 < n ∨ a % 8 ≠ 0 ∨ 0x4000000 < a + 8 * n then s.refuseReq 2
  else
    let l := (List.range n).map fun i => a + 8 * i
    if l.any s.notReady then s.refuseReq 4
    else { s := (s.readAll l).1, status := 0, body := (s.readAll l).2 }

/-- UAFADA_READ (R340 to R342). -/
def execUafadaRead (p : Nat) (m : UMsg) (s : State) : Host.Outcome State Fault Refusal :=
  onUnit (p < 2) (s.ofType 2 p m fun s => s.doRead m)

/-- The address and value pairs of a WRITE. -/
def uPairs (m : UMsg) : List (Nat × W64) :=
  (List.range (m.body.length / 2)).map fun i => ((uBody m (2 * i)).toNat, uBody m (2 * i + 1))

/-- WRITE through a port: pairs in body order (R12, R341). -/
def State.doWrite (s : State) (p : Nat) (m : UMsg) : Answer :=
  let l := uPairs m
  if m.body.length % 2 ≠ 0 ∨ l.isEmpty ∨ 64 < l.length ∨ (l.any fun e => !addrOk e.1) then s.refuseReq 2
  else if l.any fun e => s.notReady e.1 then s.refuseReq 4
  else { s := l.foldl (fun s e => s.writeReg (p + 1) e.1 e.2) s, status := 0, body := [] }

/-- UAFADA_WRITE (R340 to R342). -/
def execUafadaWrite (p : Nat) (m : UMsg) (s : State) : Host.Outcome State Fault Refusal :=
  onUnit (p < 2) (s.ofType 3 p m fun s => s.doWrite p m)

/-! ### IMAGE, TEARDOWN, EVENT_ACK (R343, R345, R347) -/

/-- A waiting IMAGE request will be performed on its port (R340, R344). -/
def State.imageWaits (s : State) (p : Nat) (m : UMsg) : Bool :=
  uType m == 4 && s.ethOn p && s.frameFits p m && decide (s.gate m = .pass) && s.svc.switching.isNone && (s.keptReply p m).isNone
    && (s.session (uSession m)).all (fun (x : Session) => x.admits (uReqId m)) && !s.denied m && uPlain m && chunkOk m.body

/-- Words of a chunk's section that a chunk placed before it brings in the same tick (R18, R335): one from the fabric, whose timestamp is
older, or one from the other Ethernet port by the rotating pointer. -/
def State.beatenWords (s : State) (p : Nat) (w : List W64) : List Nat :=
  let same := fun (x : List W64) =>
    chunkImage x == chunkImage w && chunkSec x == chunkSec w && chunkWords x == chunkWords w && !chunkPast x
  s.pending.flatMap fun c =>
    match c with
    | .topoChunk q x =>
      let x' := wordsOf (x.payload.length / 8) x.payload
      if s.chunkAccepted q x && same x' then chunkSpan x' else []
    | .image q m =>
      if decide (q < 2 ∧ q ≠ p ∧ rotIndex (q + 1) s.slot 3 < rotIndex (p + 1) s.slot 3) && s.imageWaits q m && same m.body then chunkSpan m.body
      else []
    | _ => []

/-- IMAGE: one chunk; a seed forwards it on all three dimensions (R326, R328, R343). A chunk that another one of the tick is placed before
is the later one of R327. OK says that the module holds the chunk's bytes; a chunk that it does not hold is answered FORMAT (log 126). -/
def State.doImage (s : State) (p : Nat) (m : UMsg) : Answer :=
  let w := m.body
  if chunkOk w then
    let first := s.beatenWords p w
    let beaten := (chunkSpan w).any first.contains
    let t := if beaten then (s.bumpKi A.topoSpread 31 0 (chunkBytes w)).dropChunk else s.takeChunk (if chunkSpread w then 0 else 3) w
    let held := t.holdsWords w ((chunkSpan w).filter fun i => !first.contains i) || (chunkSpan w).all first.contains
    { s := t, status := if held then 0 else 2, body := [] }
  else s.refuseReq 2

/-- IMAGE (R343). -/
def execImage (p : Nat) (m : UMsg) (s : State) : Host.Outcome State Fault Refusal :=
  onUnit (p < 2) (s.ofType 4 p m fun s => s.doImage p m)

/-- TEARDOWN (R239, R345): INVALID for a tag that the partition does not have, at once and LATE after T. -/
def State.doTeardown (s : State) (m : UMsg) : Answer :=
  let w := uBody m 0
  let tag := fld w 63 52
  let k := fld w 51 48
  let t := uBody m 1
  if m.body.length ≠ 2 ∨ fld w 47 0 ≠ 0 then s.refuseReq 2
  else if tag = 0 ∨ s.partTag k ≠ tag then s.refuseReq 6
  else if t < s.now then { s := s.tearDown k tag t true, status := 5, body := [] }
  else { s := { s with ep := { s.ep with teardown := Tab.put s.ep.teardown k (tag, t) } }, status := 0, body := [] }

/-- TEARDOWN (R345). -/
def execTeardown (p : Nat) (m : UMsg) (s : State) : Host.Outcome State Fault Refusal :=
  onUnit (p < 2) (s.ofType 5 p m fun s => s.doTeardown m)

/-- An event sequence that an acknowledgement covers: cumulative, modulo 2^32 (R347). -/
def ackCovers (ack seq : Nat) : Bool := decide ((ack + 2 ^ 32 - seq % 2 ^ 32) % 2 ^ 32 < 2 ^ 31)

/-- EVENT_ACK: the events up to the one named leave the ring. -/
def State.doEventAck (s : State) (m : UMsg) : Answer :=
  let w := uBody m 0
  if m.body.length ≠ 1 ∨ fld w 63 32 ≠ 0 then s.refuseReq 2
  else
    let keep := s.eth.events.filter fun (e : Ev) => !ackCovers (fld w 31 0) e.seq
    { s := { s with eth := { s.eth with events := keep } }, status := 0, body := [] }

/-- EVENT_ACK (R347). -/
def execEventAck (p : Nat) (m : UMsg) (s : State) : Host.Outcome State Fault Refusal :=
  onUnit (p < 2) (s.ofType 6 p m fun s => s.doEventAck m)

/-! ### ATTEST (R395 to R399) -/

/-- The 32 bytes of the identity digest. -/
def State.digestBytes (s : State) : List Byte := toBytes 32 s.identityDigest.toNat

/-- The words of an ATTEST reply up to its keys (R396). -/
def State.attestHead (s : State) (m : UMsg) (op sess : Nat) : List W64 :=
  [packFields 0 [(63, 56, op), (55, 53, s.sec.epoch), (52, 52, b2n s.sec.owned), (51, 46, s.sec.svnMin), (45, 40, s.sec.fwSvn),
    (39, 39, b2n s.sec.recovery), (38, 38, b2n !s.sec.jobs.isEmpty), (15, 0, sess)]] ++ uPart m 1 4 ++ slotWords s.identityDigest
    ++ (List.range 4).flatMap (fun n => slotWords (s.measAt n))
    ++ [s.regView A.globalId, s.regView A.globalSerial, s.regView A.globalFw, s.now] ++ identityKey s.fuse.secret

/-- An ATTEST reply: the body up to the signature, and the signature record's words with AUTH 0xFF and KEY_SLOT 0 (R396). -/
def State.signed (s : State) (body : List W64) : List W64 :=
  body ++ packFields 0 [(63, 56, 0xFF)] :: pairSign s.fuse.secret (s.draw 0) ([0x4B, 0x4C, 0x53, 0x41, 0x54, 0x54, 0x51, 0x31] ++ bytesOf body)

/-- QUOTE: identity and measurements, signed, outside any session (R396). -/
def State.doQuote (s : State) (m : UMsg) : Answer :=
  if m.body.length ≠ 5 ∨ fld (uBody m 0) 55 0 ≠ 0 then s.refuseReq 2
  else { s := (s.bump A.secCounts 15 0 1).drew 1, status := 0, body := s.signed (s.attestHead m 0 0), plain := true }

/-- An ATTEST message with this operation (R395). -/
def State.ofOp (s : State) (op p : Nat) (m : UMsg) (perform : State → Answer) : State :=
  if uOp m = op then s.ofType 7 p m perform else s

/-- QUOTE (R396). -/
def execQuote (p : Nat) (m : UMsg) (s : State) : Host.Outcome State Fault Refusal :=
  onUnit (p < 2) (s.ofOp 0 p m fun s => s.doQuote m)

/-- The key in an OPEN is one that may open a session (R395): in an OWNED module that of its slot, where SESSPOL allows it. -/
def State.openKeyOk (s : State) (m : UMsg) : Bool :=
  let a := fld (uBody m 0) 55 48
  let k := fld (uBody m 0) 47 40
  if s.sec.owned then
    decide (a < 2 ∧ k < 4) && Tab.find s.sec.keys (keySlot a k) == some (uPart m 157 248) && s.sessOpen a
  else true

/-- The message that an OPEN signs (R395). -/
def State.openMsg (s : State) (m : UMsg) : List Byte :=
  [0x4B, 0x4C, 0x53, 0x4F, 0x50, 0x45, 0x4E, 0x31] ++ s.digestBytes ++ bytesOf (m.body.take 405)

/-- A failed OPEN is discarded and counted (R395). -/
def State.openFails (s : State) : Answer := { s := s.bump A.secCounts 63 48 1, status := 0, body := [], silent := true }

/-- The least recently used session that has been idle for 1 s (R399). -/
def State.idleSession (s : State) : Option Nat :=
  let l := s.sec.sessions.filter fun (x : Session) => decide (x.usedAt + 1000 * ms1 ≤ s.clk)
  (l.find? fun (x : Session) => l.all fun (y : Session) => decide (x.usedAt ≤ y.usedAt)).map Session.num

/-- The number of the next session: the lowest above the last one assigned that is not in use, 1 to 65,535 (R399). -/
def State.nextSession (s : State) : Nat :=
  ((List.range 17).map fun i => (s.sec.lastNum + i) % 65535 + 1).find? (fun n => (s.session n).isNone) |>.getD 0

/-- The session key (R397). -/
def State.sessionKey (s : State) (ss1 ss2 : List Byte) (nonce : List W64) (num : Nat) : BitVec 256 :=
  sha3 ([0x4B, 0x4C, 0x53, 0x53, 0x45, 0x53, 0x53, 0x31] ++ ss1 ++ ss2 ++ bytesOf nonce ++ s.digestBytes ++ toBytes 2 num)

/-- A session opens: number, key and reply (R396, R397, R399). -/
def State.openWith (s : State) (m : UMsg) (x : Exchange) : Answer :=
  let num := s.nextSession
  let new : Session :=
    { num := num, auth := fld (uBody m 0) 55 48, slot := fld (uBody m 0) 47 40, key := s.sessionKey x.ss1 x.ss2 (uPart m 1 4) num
      high := none, seen := [], usedAt := s.clk, claim := !s.sec.owned }
  let t := { s with sec := { s.sec with sessions := s.sec.sessions ++ [new], lastNum := num } }
  let t := (t.bump A.secCounts 31 16 1).bump A.secCounts 15 0 1
  { s := t.drew 3, status := 0, body := s.signed (s.attestHead m 1 num ++ x.own ++ x.cipher), plain := true }

/-- OPEN (R395, R397, R399). -/
def State.doOpen (s : State) (m : UMsg) : Answer :=
  if m.body.length ≠ 828 ∨ fld (uBody m 0) 39 0 ≠ 0 ∨ fld (uBody m 405) 47 0 ≠ 0 ∨ fld (uBody m 827) 63 40 ≠ 0 then s.refuseReq 2
  else if !s.openKeyOk m then s.openFails
  else if !pairVerifies (uPart m 157 248) (s.openMsg m) (uPart m 406 422) then
    ((s.setBit A.secEvents 0).note { sev := 2, index := 0, code := 0xB006, p0 := 2 }).openFails
  else
    match keyExchange (s.draw 1) (s.draw 2) (uPart m 5 4) (uPart m 9 148) with
    | none => s.openFails
    | some x =>
      if s.sec.sessions.length < 16 then s.openWith m x
      else
        match s.idleSession with
        | some n =>
          { s with sec := { s.sec with sessions := s.sec.sessions.filter fun (y : Session) => y.num != n } }.openWith m x
        | none => s.refuseReq 1

/-- OPEN (R395 to R399); RECOVERY answers none (R393). -/
def execOpenSession (p : Nat) (m : UMsg) (s : State) : Host.Outcome State Fault Refusal :=
  onUnit (p < 2) (s.ofOp 1 p m fun s =>
    if s.sec.recovery then { s := s.discard p, status := 0, body := [], silent := true } else s.doOpen m)

/-- CLOSE: in the session that it names; it closes after the reply (R395, R399). -/
def State.doClose (s : State) (m : UMsg) : Answer :=
  let n := fld (uBody m 0) 15 0
  if m.body.length ≠ 5 ∨ fld (uBody m 0) 55 16 ≠ 0 then s.refuseReq 2
  else if n = 0 ∨ n ≠ uSession m then s.refuseReq 3
  else
    { s := { s with sec := { s.sec with sessions := s.sec.sessions.filter fun (x : Session) => x.num != n } }, status := 0, body := [] }

/-- CLOSE (R399). -/
def execCloseSession (p : Nat) (m : UMsg) (s : State) : Host.Outcome State Fault Refusal :=
  onUnit (p < 2) (s.ofOp 2 p m fun s => s.doClose m)

/-- A session has not reached the SESSPOL idle limit (R399). -/
def State.notIdle (s : State) (x : Session) : Bool := decide (s.clk < x.usedAt + s.sessIdle * 2000000000)

/-- SESSION_IDLE_TIMEOUT (R399): the SESSPOL idle limit without a valid request. -/
def execSessionIdleTimeout (num : Nat) (s : State) : Host.Outcome State Fault Refusal :=
  .next (let l := s.sec.sessions.filter fun (x : Session) => x.num != num || s.notIdle x
    { s with sec := { s.sec with sessions := l } })

/-- UAFADA_UNDEFINED_TYPE (R13, R340): a type that no request has, or an operation that ATTEST has not, is discarded and counted. -/
def execUafadaUndefinedType (p : Nat) (m : UMsg) (s : State) : Host.Outcome State Fault Refusal :=
  onUnit (p < 2)
    (if s.ethOn p ∧ (uType m = 0 ∨ 7 < uType m ∨ (uType m = 7 ∧ 2 < uOp m)) then
      match s.frameFits p m, s.gate m with
      | true, .authFail => s.authFail p
      | _, _ => s.discard p
     else s)

/-- REPLY_CACHE_EXPIRY (R344): replies are kept for 1 s. -/
def execReplyCacheExpiry (p : Nat) (s : State) : Host.Outcome State Fault Refusal :=
  onUnit (p < 2) (s.setKept p ((s.keptAt p).filter s.fresh))

/-! ### Event datagrams (R346, R347) -/

/-- The port on which an enabled destination's datagrams leave: its own, or the other one while that port's link is down. -/
def State.eventPort (s : State) (k : Nat) : Option Nat :=
  let w := s.reg (A.evCfg k)
  let p := fld w 62 62
  if !bit w 63 then none else if s.ethOn p then some p else if s.ethOn (1 - p) then some (1 - p) else none

/-- When a port last sent a datagram. -/
def State.lastSent (s : State) (p : Nat) : Option Nat := if p = 0 then s.eth.lastSent0 else s.eth.lastSent1
/-- A port sends a datagram now. -/
def State.stampSent (s : State) (p : Nat) : State :=
  if p = 0 then { s with eth := { s.eth with lastSent0 := some s.clk } } else { s with eth := { s.eth with lastSent1 := some s.clk } }

/-- A port may send: at most 10,000 datagrams per second, one in 100 µs (R347). -/
def State.mayDatagram (s : State) (p : Nat) : Bool := (s.lastSent p).all fun t => decide (t + 100 * us1 ≤ s.clk)

/-- The oldest event that still has to go to a destination served by a port. -/
def State.dueEvent (s : State) (p : Nat) : Option (Ev × Nat) :=
  s.eth.events.findSome? fun (e : Ev) =>
    ((List.range 2).find? fun k => !e.sent.getLsbD k && s.eventPort k == some p).map fun k => (e, k)

/-- Where the datagrams of a destination go, from a port (R338, R355). -/
def State.eventTo (s : State) (p k : Nat) : DatagramTo :=
  let w := s.reg (A.evCfg k)
  { eth := { port := p, mac := BitVec.ofNat 48 (fld w 47 0), vlan := s.vlanOf p }, v4 := bit w 61
    ipHi := s.reg (A.evAhi k), ipLo := s.reg (A.evAlo k), udp := s.field (A.evPort k) 15 0 }

/-- A datagram to a destination leaves on a port, outside every session (R339, R346, R347, R355). -/
def State.emitDatagram (s : State) (p k type seq : Nat) (body : List W64) : State :=
  s.emit (.datagram (s.eventTo p k) (headWord0 type 0 seq false) (s.headWord1 0 body.length) s.now s.headWord3 body)

/-- An event goes to a destination. -/
def State.sendEvent (s : State) (p : Nat) (e : Ev) (k : Nat) : State :=
  let l := s.eth.events.map fun (x : Ev) =>
    if x.seq = e.seq then { x with sent := x.sent ||| BitVec.ofNat 2 (2 ^ k), sentAt := some s.clk } else x
  ({ s with eth := { s.eth with events := l } }.stampSent p).emitDatagram p k e.type e.seq e.body

/-- A TELEMETRY datagram goes to its destination, once; with an MTU below 3,200 bytes it is not sent (R347). -/
def State.sendTelemetry (s : State) (p : Nat) : State :=
  match s.eth.telOut.find? fun e => s.eventPort e.1 == some p with
  | some e =>
    let s := { s with eth := { s.eth with telOut := s.eth.telOut.erase e } }
    if s.field (A.ethPcfg p) 13 0 < 3200 then s.discard p else (s.stampSent p).emitDatagram p e.1 0x42 0 e.2
  | none => s

/-- EVENT_DATAGRAM_SEND (R347): the next datagram of a port. -/
def execEventDatagramSend (p : Nat) (s : State) : Host.Outcome State Fault Refusal :=
  onUnit (p < 2)
    (if s.dom.mgmt ∧ s.mayDatagram p then
      match s.dueEvent p with
      | some (e, k) => s.sendEvent p e k
      | none => s.sendTelemetry p
     else s)

/-- An event is due for resending: 100 ms after it was last sent. -/
def State.resendDue (s : State) (e : Ev) : Bool := e.sentAt.any fun t => decide (t + 100 * ms1 ≤ s.clk)

/-- EVENT_RESEND (R347): an unacknowledged event is due again at every destination; held during a firmware switch (R430). -/
def execEventResend (seq : Nat) (s : State) : Host.Outcome State Fault Refusal :=
  .next (if s.svc.switching.isSome then s
    else
      let l := s.eth.events.map fun (x : Ev) => if x.seq = seq ∧ s.resendDue x = true then { x with sent := 0, sentAt := some s.clk } else x
      { s with eth := { s.eth with events := l } })

/-! ### Frames (R337, R338) -/

/-- The link-local address of a port: EUI-64 from its MAC (R337). -/
def State.linkLocal (s : State) (p : Nat) : BitVec 128 :=
  let mac := (if p = 0 then s.fuse.mac0 else s.fuse.mac1).toNat
  BitVec.ofNat 128 (0xFE80 * 2 ^ 112 + ((mac / 2 ^ 24) ^^^ 0x020000) * 2 ^ 40 + 0xFFFE * 2 ^ 24 + mac % 2 ^ 24)

/-- An IPv6 address of a port (R337): link-local, or the configured one unless all zeros. -/
def State.ownIp6 (s : State) (p : Nat) (a : BitVec 128) : Bool :=
  let g := s.reg (A.ethIp6hi p) ++ s.reg (A.ethIp6lo p)
  a == s.linkLocal p || (g != 0 && a == g)

/-- The IPv4 address of a port, while IP4_EN is 1 (R337, R355). -/
def State.ownIp4 (s : State) (p : Nat) (a : W32) : Bool :=
  s.field (A.ethPcfg p) 62 62 == 1 && a == BitVec.ofNat 32 (s.field (A.ethIp4 p) 31 0)

/-- The address a neighbour request names is the port's own. -/
def State.ownRequest (s : State) (p : Nat) (r : NbrReq) : Bool :=
  match r.ask with
  | .ndp a => s.ownIp6 p a
  | .echo6 a => s.ownIp6 p a
  | .arp a => s.ownIp4 p a
  | .echo4 a => s.ownIp4 p a

/-- The IP packet of an echo, which its answer repeats, is at most MTU bytes (R337). -/
def State.echoFits (s : State) (p : Nat) (r : NbrReq) : Bool :=
  match r.ask with
  | .echo6 _ => decide (48 + r.data.length ≤ s.field (A.ethPcfg p) 13 0)
  | .echo4 _ => decide (28 + r.data.length ≤ s.field (A.ethPcfg p) 13 0)
  | _ => true

/-- ETH_NEIGHBOR_REPLY (R337, R338): answered for own addresses, to the frame's source MAC; a frame to another address, one without the
port's tag, and an echo that is longer than the port sends are discarded and counted. -/
def execEthNeighborReply (p : Nat) (r : NbrReq) (s : State) : Host.Outcome State Fault Refusal :=
  onUnit (p < 2)
    (if !s.ethOn p then s
     else if s.vlanFits p r.vlan && s.ownRequest p r && s.echoFits p r then
       s.emit (.nbrReply { port := p, mac := r.mac, vlan := s.vlanOf p } r.ask r.data)
     else s.discard p)

/-- ETH_LINK_CHANGE (R338, R347, R355): the physical layers have power with the hub domain, and in RECOVERY (R393). -/
def execEthLinkChange (p : Nat) (up : Bool) (s : State) : Host.Outcome State Fault Refusal :=
  onUnit (p < 2)
    (let one := BitVec.ofNat 2 (2 ^ p)
     let powered := s.dom.hub || (s.dom.mgmt && s.sec.recovery)
     let t := { s with eth := { s.eth with
         linkUp := if up && powered then s.eth.linkUp ||| one else s.eth.linkUp &&& ~~~ one
         fecUp := if up && powered then s.eth.fecUp ||| one else s.eth.fecUp } }
     if up && powered then t else t.ptpForget p fun _ => true)

/-- ETH_FRAME_DISCARD (R338). -/
def execEthFrameDiscard (p : Nat) (s : State) : Host.Outcome State Fault Refusal :=
  onUnit (p < 2) (if s.ethOn p then s.discard p else s)

end Sys2Proof.Machine
end

