-- ==== Sys2Proof/Machine/Vector.lean ====
section
/-! DEFINITION. Vector arithmetic (R102, R135 to R137). -/
namespace Sys2Proof.Machine

/-- Format codes: binary32 and BF16. -/
abbrev fmtsF : List (BitVec 6) := [0x00, 0x01]
/-- Format codes: binary32, BF16 and INT32. -/
abbrev fmtsFI : List (BitVec 6) := [0x00, 0x01, 0x08]

/-- A lane's result and its flags. -/
abbrev LaneRes := W32 × W64

/-- One lane of an operation on up to three sources (R102, R135): binary32, two BF16 elements, or INT32. `opF` takes the format,
the mode and the source bits. -/
def laneOp (f : RF) (c : Core) (opF : FFmt → Rm → Nat → Nat → Nat → FRes) (opI : W32 → W32 → W32) (i : Nat) : LaneRes :=
  let a := c.vreg f.a.toNat
  let b := c.vreg f.b.toNat
  let d := c.vreg f.c.toNat
  if f.fmt = 0x08 then (opI (lane a i) (lane b i), 0)
  else if f.fmt = 0x01 then
    let lo := opF bf16 (RF.mode f c (2 * i)) (half a (2 * i)) (half b (2 * i)) (half d (2 * i))
    let hi := opF bf16 (RF.mode f c (2 * i + 1)) (half a (2 * i + 1)) (half b (2 * i + 1)) (half d (2 * i + 1))
    (ofHalves lo.1 hi.1, lo.2 ||| hi.2)
  else
    let r := opF f32 (RF.mode f c i) (lane a i).toNat (lane b i).toNat (lane d i).toNat
    (BitVec.ofNat 32 r.1, r.2)

/-- Write the active lanes of vD and set the flags of those lanes. -/
def State.writeLanes (s : State) (n : Nat) (f : RF) (g : W64) (c : Core) (r : Nat → LaneRes) : State :=
  (s.setFlags n (laneFlags g fun i => (r i).2)).done n
    (c.setV f.d.toNat (blend g (c.vreg f.d.toNat) fun i => (r i).1))

/-- An arithmetic vector instruction. -/
def State.vecOp (s : State) (n : Nat) (f : RF) (u : RUse) (opF : FFmt → Rm → Nat → Nat → Nat → FRes)
    (opI : W32 → W32 → W32) : State :=
  s.runV n f { u with rm := true } fun g c => s.writeLanes n f g c (laneOp f c opF opI)

/-- A bitwise vector instruction: FMT and RM are zero. -/
def State.vecBits (s : State) (n : Nat) (f : RF) (u : RUse) (op : Core → Nat → W32) : State :=
  s.runV n f u fun g c => s.done n (c.setV f.d.toNat (blend g (c.vreg f.d.toNat) (op c)))

/-- A source of two registers. -/
abbrev use2 (fmts : List (BitVec 6)) : RUse := { d := .v, a := .v, b := .v, fmts := fmts }
/-- A source of one register. -/
abbrev use1 (fmts : List (BitVec 6)) : RUse := { d := .v, a := .v, fmts := fmts }
/-- A source of three registers. -/
abbrev use3 (fmts : List (BitVec 6)) : RUse := { d := .v, a := .v, b := .v, c := .v, fmts := fmts }

/-- BF16 bits seen as a binary32 word; binary32 bits as they are. -/
def widen (t : FFmt) (x : Nat) : W32 := BitVec.ofNat 32 (if t.prec = 8 then x * 2 ^ 16 else x)

/-- VADD (R135). vD ← vA + vB. -/
def execVadd (n : Nat) (f : RF) (s : State) : Host.Outcome State Fault Refusal :=
  onUnit (n < numCores) (s.vecOp n f (use2 fmtsFI)
    (fun t m x y _ => t.addV m (decodeF t x) (decodeF t y)) (fun x y => x + y))

/-- VSUB (R135). vD ← vA − vB. -/
def execVsub (n : Nat) (f : RF) (s : State) : Host.Outcome State Fault Refusal :=
  onUnit (n < numCores) (s.vecOp n f (use2 fmtsFI)
    (fun t m x y _ => t.addV m (decodeF t x) (decodeF t y).neg) (fun x y => x - y))

/-- VMUL (R135). vD ← vA × vB. -/
def execVmul (n : Nat) (f : RF) (s : State) : Host.Outcome State Fault Refusal :=
  onUnit (n < numCores) (s.vecOp n f (use2 fmtsFI)
    (fun t m x y _ => t.mulR m (decodeF t x) (decodeF t y)) (fun x y => x * y))

/-- VFMA (R135). vD ← vA × vB + vC, one rounding. -/
def execVfma (n : Nat) (f : RF) (s : State) : Host.Outcome State Fault Refusal :=
  onUnit (n < numCores) (s.vecOp n f (use3 fmtsF)
    (fun t m x y z => t.fmaR m (decodeF t x) (decodeF t y) (decodeF t z)) (fun x _ => x))

/-- VFNMA (R135). vD ← −(vA × vB) + vC, one rounding. -/
def execVfnma (n : Nat) (f : RF) (s : State) : Host.Outcome State Fault Refusal :=
  onUnit (n < numCores) (s.vecOp n f (use3 fmtsF)
    (fun t m x y z => t.fmaR m (decodeF t x).neg (decodeF t y) (decodeF t z)) (fun x _ => x))

/-- VMIN (R135). Minimum; −0 counts as less than +0. -/
def execVmin (n : Nat) (f : RF) (s : State) : Host.Outcome State Fault Refusal :=
  onUnit (n < numCores) (s.vecOp n f (use2 fmtsFI)
    (fun t _ x y _ => t.minMax false (decodeF t x) (decodeF t y)) (fun x y => if x.slt y then x else y))

/-- VMAX (R135). Maximum; +0 counts as greater than −0. -/
def execVmax (n : Nat) (f : RF) (s : State) : Host.Outcome State Fault Refusal :=
  onUnit (n < numCores) (s.vecOp n f (use2 fmtsFI)
    (fun t _ x y _ => t.minMax true (decodeF t x) (decodeF t y)) (fun x y => if x.slt y then y else x))

/-- VABS (R135). Absolute value; INT32 −2^31 stays −2^31. -/
def execVabs (n : Nat) (f : RF) (s : State) : Host.Outcome State Fault Refusal :=
  onUnit (n < numCores) (s.vecOp n f (use1 fmtsFI)
    (fun t _ x _ _ => t.enc .rne (decodeF t x).abs) (fun x _ => if x.slt 0 then -x else x))

/-- VNEG (R135). Negation. -/
def execVneg (n : Nat) (f : RF) (s : State) : Host.Outcome State Fault Refusal :=
  onUnit (n < numCores) (s.vecOp n f (use1 fmtsFI)
    (fun t _ x _ _ => t.enc .rne (decodeF t x).neg) (fun x _ => -x))

/-- VDIV (R135, R136). vD ← vA / vB, correctly rounded. -/
def execVdiv (n : Nat) (f : RF) (s : State) : Host.Outcome State Fault Refusal :=
  onUnit (n < numCores) (s.vecOp n f (use2 fmtsF)
    (fun t m x y _ => t.divR m (decodeF t x) (decodeF t y)) (fun x _ => x))

/-- VSQRT (R135, R136). Square root, correctly rounded. -/
def execVsqrt (n : Nat) (f : RF) (s : State) : Host.Outcome State Fault Refusal :=
  onUnit (n < numCores) (s.vecOp n f (use1 fmtsF)
    (fun t m x _ _ => t.sqrtR m (decodeF t x)) (fun x _ => x))

/-- VRSQRT (R135, R136). 1 / square root. -/
def execVrsqrt (n : Nat) (f : RF) (s : State) : Host.Outcome State Fault Refusal :=
  onUnit (n < numCores) (s.vecOp n f (use1 fmtsF)
    (fun t m x _ _ => t.rsqrtR m (widen t x) (decodeF t x)) (fun x _ => x))

/-- VEXP (R135, R136). e to the power vA. -/
def execVexp (n : Nat) (f : RF) (s : State) : Host.Outcome State Fault Refusal :=
  onUnit (n < numCores) (s.vecOp n f (use1 fmtsF)
    (fun t m x _ _ => t.expR m (widen t x) (decodeF t x)) (fun x _ => x))

/-- VLOG (R135, R136). Natural logarithm. -/
def execVlog (n : Nat) (f : RF) (s : State) : Host.Outcome State Fault Refusal :=
  onUnit (n < numCores) (s.vecOp n f (use1 fmtsF)
    (fun t m x _ _ => t.logR m (widen t x) (decodeF t x)) (fun x _ => x))

/-- Combine 64 values in the tree of R137: levels s = 32, 16, 8, 4, 2, 1; `op k x y` is combination number k. -/
def treeReduce (op : Nat → W32 → W32 → LaneRes) : List Nat → List W32 → W64 → LaneRes
  | [], xs, fl => (xs.getD 0 0, fl)
  | w :: ws, xs, fl =>
    let rs := (List.range w).map fun i => op (64 - 2 * w + i) (xs.getD i 0) (xs.getD (i + w) 0)
    treeReduce op ws (rs.map Prod.fst) (rs.foldl (fun m r => m ||| r.2) fl)

/-- The levels of the tree. -/
abbrev treeLevels : List Nat := [32, 16, 8, 4, 2, 1]

/-- A result of the float unit as a lane. -/
def toLane (r : FRes) : LaneRes := (BitVec.ofNat 32 r.1, r.2)

/-- Reduce the active lanes of vA (R137): inactive lanes enter as `rest`; BF16 pairs combine first, numbered from 0. -/
def reduceLanes (f : RF) (g : W64) (v : Vec) (rest : W32) (opF : Nat → FV → FV → FRes) (opI : W32 → W32 → W32) : LaneRes :=
  if f.fmt = 0x08 then
    treeReduce (fun _ x y => (opI x y, 0)) treeLevels ((List.range 64).map fun i => if bit g i then lane v i else rest) 0
  else if f.fmt = 0x01 then
    let rs : List LaneRes := (List.range 64).map fun i =>
      if bit g i then toLane (opF i (dec16 (half v (2 * i))) (dec16 (half v (2 * i + 1)))) else (rest, 0)
    treeReduce (fun k x y => toLane (opF (64 + k) (dec32 x) (dec32 y))) treeLevels (rs.map Prod.fst)
      (rs.foldl (fun m r => m ||| r.2) 0)
  else
    treeReduce (fun k x y => toLane (opF k (dec32 x) (dec32 y))) treeLevels
      ((List.range 64).map fun i => if bit g i then lane v i else rest) 0

/-- A reduction into sD with its flags. -/
def State.reduceTo (s : State) (n : Nat) (f : RF) (rm : Bool) (rest : Core → W32) (opF : Core → Nat → FV → FV → FRes)
    (opI : W32 → W32 → W32) : State :=
  s.runV n f { d := .s, a := .v, fmts := fmtsFI, rm := rm } fun g c =>
    let r := reduceLanes f g (c.vreg f.a.toNat) (rest c) (opF c) opI
    (s.setFlags n r.2).done n (c.setS f.d.toNat (r.1.setWidth 64))

/-- VRSUM (R137). sD ← sum of active elements. -/
def execVrsum (n : Nat) (f : RF) (s : State) : Host.Outcome State Fault Refusal :=
  onUnit (n < numCores) (s.reduceTo n f true (fun _ => 0)
    (fun c k x y => f32.addV (RF.mode f c k) x y) (fun x y => x + y))

/-- VRMAX (R137). sD ← maximum of active elements. -/
def execVrmax (n : Nat) (f : RF) (s : State) : Host.Outcome State Fault Refusal :=
  onUnit (n < numCores) (s.reduceTo n f false (fun _ => if f.fmt = 0x08 then 0x80000000 else 0xFF800000)
    (fun _ _ x y => f32.minMax true x y) (fun x y => if x.slt y then y else x))

/-- A compare of vector lanes into a predicate: inactive lanes give 0; a signalling NaN sets INVALID (R135). -/
def State.vecCompare (s : State) (n : Nat) (f : RF) (fmts : List (BitVec 6)) (cmpF : FV → FV → Bool) (cmpI : W32 → W32 → Bool) :
    State :=
  s.runV n f { d := .p, a := .v, b := .v, fmts := fmts } fun g c =>
    let a := c.vreg f.a.toNat
    let b := c.vreg f.b.toNat
    let isInt := decide (f.fmt = 0x08)
    let hit := fun i => if isInt then cmpI (lane a i) (lane b i) else cmpF (dec32 (lane a i)) (dec32 (lane b i))
    let inv := fun i => if !isInt && ((dec32 (lane a i)).isSNaN || (dec32 (lane b i)).isSNaN) then Flag.invalid else 0
    (s.setFlags n (laneFlags g inv)).done n (c.setP f.d.toNat (ofBits fun i => bit g i && hit i))

/-- Neither value is NaN. -/
def ordered (x y : FV) : Bool := !x.isNaN && !y.isNaN

/-- VCMPEQ (R135). pD bit i ← lane i equal. -/
def execVcmpeq (n : Nat) (f : RF) (s : State) : Host.Outcome State Fault Refusal :=
  onUnit (n < numCores) (s.vecCompare n f [0x00, 0x08] (fun x y => ordered x y && x.eq y) (fun x y => x == y))

/-- VCMPLT (R135). Less than. -/
def execVcmplt (n : Nat) (f : RF) (s : State) : Host.Outcome State Fault Refusal :=
  onUnit (n < numCores) (s.vecCompare n f [0x00, 0x08] (fun x y => ordered x y && x.lt y) (fun x y => x.slt y))

/-- VCMPLE (R135). Less than or equal. -/
def execVcmple (n : Nat) (f : RF) (s : State) : Host.Outcome State Fault Refusal :=
  onUnit (n < numCores) (s.vecCompare n f [0x00, 0x08] (fun x y => ordered x y && (x.lt y || x.eq y)) (fun x y => x.sle y))

/-- VCMPUN (R135). Unordered: either operand NaN. -/
def execVcmpun (n : Nat) (f : RF) (s : State) : Host.Outcome State Fault Refusal :=
  onUnit (n < numCores) (s.vecCompare n f [0x00] (fun x y => !ordered x y) (fun _ _ => false))

/-- VSEL (R135). vD ← pC bit i ? vA : vB. -/
def execVsel (n : Nat) (f : RF) (s : State) : Host.Outcome State Fault Refusal :=
  onUnit (n < numCores) (s.vecBits n f { d := .v, a := .v, b := .v, c := .p } fun c i =>
    if bit (c.preg f.c.toNat) i then lane (c.vreg f.a.toNat) i else lane (c.vreg f.b.toNat) i)

/-- VMOV (R135). vD ← vA. -/
def execVmov (n : Nat) (f : RF) (s : State) : Host.Outcome State Fault Refusal :=
  onUnit (n < numCores) (s.vecBits n f { d := .v, a := .v } fun c i => lane (c.vreg f.a.toNat) i)

/-- VBCAST (R135). Every lane ← sA[31:0]. -/
def execVbcast (n : Nat) (f : RF) (s : State) : Host.Outcome State Fault Refusal :=
  onUnit (n < numCores) (s.vecBits n f { d := .v, a := .s } fun c _ => (c.sreg f.a.toNat).setWidth 32)

/-- VEXTR (R135). sD ← lane sB[5:0] of vA, zero-extended. -/
def execVextr (n : Nat) (f : RF) (s : State) : Host.Outcome State Fault Refusal :=
  onUnit (n < numCores) (s.runV n f { d := .s, a := .v, b := .s } fun _ c =>
    s.done n (c.setS f.d.toNat ((lane (c.vreg f.a.toNat) ((c.sreg f.b.toNat).toNat % 64)).setWidth 64)))

/-- VAND (R135). Bitwise and. -/
def execVand (n : Nat) (f : RF) (s : State) : Host.Outcome State Fault Refusal :=
  onUnit (n < numCores) (s.vecBits n f { d := .v, a := .v, b := .v } fun c i =>
    (fun x y : W32 => x &&& y) (lane (c.vreg f.a.toNat) i) (lane (c.vreg f.b.toNat) i))

/-- VOR (R135). Bitwise or. -/
def execVor (n : Nat) (f : RF) (s : State) : Host.Outcome State Fault Refusal :=
  onUnit (n < numCores) (s.vecBits n f { d := .v, a := .v, b := .v } fun c i =>
    (fun x y : W32 => x ||| y) (lane (c.vreg f.a.toNat) i) (lane (c.vreg f.b.toNat) i))

/-- VXOR (R135). Bitwise xor. -/
def execVxor (n : Nat) (f : RF) (s : State) : Host.Outcome State Fault Refusal :=
  onUnit (n < numCores) (s.vecBits n f { d := .v, a := .v, b := .v } fun c i =>
    (fun x y : W32 => x ^^^ y) (lane (c.vreg f.a.toNat) i) (lane (c.vreg f.b.toNat) i))

/-- VSHL (R135). Lane shift left by vB[4:0]. -/
def execVshl (n : Nat) (f : RF) (s : State) : Host.Outcome State Fault Refusal :=
  onUnit (n < numCores) (s.vecBits n f { d := .v, a := .v, b := .v } fun c i =>
    (fun x y : W32 => x <<< (y.toNat % 32)) (lane (c.vreg f.a.toNat) i) (lane (c.vreg f.b.toNat) i))

/-- VSHR (R135). Logical shift right by vB[4:0]. -/
def execVshr (n : Nat) (f : RF) (s : State) : Host.Outcome State Fault Refusal :=
  onUnit (n < numCores) (s.vecBits n f { d := .v, a := .v, b := .v } fun c i =>
    (fun x y : W32 => x >>> (y.toNat % 32)) (lane (c.vreg f.a.toNat) i) (lane (c.vreg f.b.toNat) i))

/-- VIOTA (R135). Lane i ← sA[31:0] + i. -/
def execViota (n : Nat) (f : RF) (s : State) : Host.Outcome State Fault Refusal :=
  onUnit (n < numCores) (s.vecBits n f { d := .v, a := .s } fun c i => (c.sreg f.a.toNat).setWidth 32 + BitVec.ofNat 32 i)

end Sys2Proof.Machine
end

