-- ==== Sys2Proof/Machine/Convert.lean ====
section
/-! DEFINITION. Conversions (R138, R139). -/
namespace Sys2Proof.Machine

/-- A register conversion of one source, in RM. -/
def State.convert (s : State) (n : Nat) (f : RF) (u : RUse) (op : Core → Nat → LaneRes) : State :=
  s.runV n f u fun g c => s.writeLanes n f g c (op c)

/-- CVT.BF (R138). vD lane i ← BF16 of vA lane i and of vB lane i. -/
def execCvtBf (n : Nat) (f : RF) (s : State) : Host.Outcome State Fault Refusal :=
  onUnit (n < numCores) (s.convert n f { d := .v, a := .v, b := .v, rm := true } fun c i =>
    let lo := bf16.enc (RF.mode f c (2 * i)) (dec32 (lane (c.vreg f.a.toNat) i))
    let hi := bf16.enc (RF.mode f c (2 * i + 1)) (dec32 (lane (c.vreg f.b.toNat) i))
    (ofHalves lo.1 hi.1, lo.2 ||| hi.2))

/-- CVT.FBLO (R138). Binary32 of the BF16 element in bits [15:0], exact. -/
def execCvtFblo (n : Nat) (f : RF) (s : State) : Host.Outcome State Fault Refusal :=
  onUnit (n < numCores) (s.convert n f { d := .v, a := .v } fun c i =>
    toLane (f32.enc .rne (dec16 (half (c.vreg f.a.toNat) (2 * i)))))

/-- CVT.FBHI (R138). Binary32 of the BF16 element in bits [31:16], exact. -/
def execCvtFbhi (n : Nat) (f : RF) (s : State) : Host.Outcome State Fault Refusal :=
  onUnit (n < numCores) (s.convert n f { d := .v, a := .v } fun c i =>
    toLane (f32.enc .rne (dec16 (half (c.vreg f.a.toNat) (2 * i + 1)))))

/-- CVT.IF (R57, R138). Binary32 to INT32 in RM. -/
def execCvtIf (n : Nat) (f : RF) (s : State) : Host.Outcome State Fault Refusal :=
  onUnit (n < numCores) (s.convert n f { d := .v, a := .v, rm := true } fun c i =>
    toLane (toInt32 (RF.mode f c i) (dec32 (lane (c.vreg f.a.toNat) i))))

/-- CVT.FI (R138). INT32 to binary32 in RM. -/
def execCvtFi (n : Nat) (f : RF) (s : State) : Host.Outcome State Fault Refusal :=
  onUnit (n < numCores) (s.convert n f { d := .v, a := .v, rm := true } fun c i =>
    toLane (ofInt32 (RF.mode f c i) (lane (c.vreg f.a.toNat) i)))

/-- RINT (R138). Binary32 to an integral binary32 value in RM. -/
def execRint (n : Nat) (f : RF) (s : State) : Host.Outcome State Fault Refusal :=
  onUnit (n < numCores) (s.convert n f { d := .v, a := .v, rm := true } fun c i =>
    toLane (rintR (RF.mode f c i) (dec32 (lane (c.vreg f.a.toNat) i))))

/-- Elements of a register as PACK takes them: 64 binary32 or 128 BF16 (R139). -/
def regElems (h : Bool) (v : Vec) : List FV :=
  if h then (List.range 128).map fun j => dec16 (half v j) else (List.range 64).map fun j => dec32 (lane v j)

/-- Elements that HALF selects (R139). -/
def elemCount (h : Bool) : Nat := if h then 128 else 64

/-- Extents of PACK and UNPACK inside the store: elements and scales (R126, R139). -/
def blockExtents (b : BFmt) (h : Bool) (ea sa : Nat) : Bool :=
  decide (ea + b.bytes (elemCount h) ≤ storeSize) && decide (sa + elemCount h / b.block ≤ storeSize)

/-- The blocks that PACK writes (R62, R63, R139): element j of the conversion draws with index j. -/
def packBlocks (f : RF) (c : Core) (b : BFmt) : List BlockOut :=
  let k := elemCount f.half / b.block
  (chunks b.block k (regElems f.half (c.vreg f.a.toNat))).zipIdx.map fun (xs, i) =>
    b.packBlock (fun j => RF.mode f c (i * b.block + j)) xs

/-- The core after PACK: element bytes from sB, then one scale byte a block from sC. -/
def Core.packed (c : Core) (b : BFmt) (ea sa : Nat) (bs : List BlockOut) : Core :=
  let es := bs.flatMap fun x => x.elems
  let c := c.storeN ea (b.bytes es.length) (b.packElems es)
  { c with store := Memory.write c.store sa (bs.map fun x => BitVec.ofNat 8 x.scale) }

/-- PACK once it executes. -/
def State.packRun (s : State) (n : Nat) (f : RF) (b : BFmt) (c : Core) : State :=
  let ea := (c.sreg f.b.toNat).toNat
  let sa := (c.sreg f.c.toNat).toNat
  if blockExtents b f.half ea sa then
    let bs := packBlocks f c b
    (s.setFlags n (bs.foldl (fun m x => m ||| x.flags) 0)).done n (c.packed b ea sa bs)
  else s.takeException n .storeRange (s.coreAt n).pc

/-- Element j of UNPACK. -/
def unpackAt (f : RF) (c : Core) (b : BFmt) (ea sa : Nat) (t : FFmt) (j : Nat) : FRes :=
  let packed := c.loadN ea (b.bytes (elemCount f.half))
  let scale := (Memory.byte c.store (sa + j / b.block)).toNat
  b.unpackElem t (RF.mode f c j) scale (b.elem packed j)

/-- UNPACK once it executes. -/
def State.unpackRun (s : State) (n : Nat) (f : RF) (b : BFmt) (c : Core) : State :=
  let ea := (c.sreg f.b.toNat).toNat
  let sa := (c.sreg f.c.toNat).toNat
  if blockExtents b f.half ea sa then
    let r := fun i : Nat =>
      if f.half then
        let lo := unpackAt f c b ea sa bf16 (2 * i)
        let hi := unpackAt f c b ea sa bf16 (2 * i + 1)
        (ofHalves lo.1 hi.1, lo.2 ||| hi.2)
      else toLane (unpackAt f c b ea sa f32 i)
    (s.setFlags n (laneFlags (BitVec.allOnes 64) fun i => (r i).2)).done n (c.setV f.d.toNat (ofLanes fun i => (r i).1))
  else s.takeException n .storeRange (s.coreAt n).pc

/-- The block format that FMT names; legality has excluded the others. -/
def RF.block (f : RF) : BFmt := (bfmt f.fmt.toNat).getD ⟨0, 8, 32, .int8, 0⟩

/-- PACK (R62, R138, R139). vA to block format FMT: elements at sB, scales at sC. -/
def execPack (n : Nat) (f : RF) (s : State) : Host.Outcome State Fault Refusal :=
  onUnit (n < numCores) (s.runR n f { a := .v, b := .s, c := .s, fmts := blockCodes, rm := true, half := true } fun c =>
    s.packRun n f (RF.block f) c)

/-- UNPACK (R63, R138, R139). Block format FMT at sB with scales at sC to vD. -/
def execUnpack (n : Nat) (f : RF) (s : State) : Host.Outcome State Fault Refusal :=
  onUnit (n < numCores) (s.runR n f { d := .v, b := .s, c := .s, fmts := blockCodes, rm := true, half := true } fun c =>
    s.unpackRun n f (RF.block f) c)

end Sys2Proof.Machine
end

