-- ==== Sys2Proof/Machine/Remote.lean ====
section
/-! DEFINITION. Remote accesses of a core (R133, R134, R214, R215, R221 to R228) and fences, acquire and release (R148, R235, R236). -/
namespace Sys2Proof.Machine

/-- The cause that a rack address raises, the lowest code first (R126, R133, R221). -/
def State.rackCause (s : State) (a : W64) (w : Nat) : Option Cause :=
  if a.toNat % w ≠ 0 then some .misaligned
  else if fld a 63 45 ≠ 0 ∨ s.rackEid (fld a 44 40) = none then some .rackAddress
  else none

/-- The home of a rack address (R214): the die of this module that holds it, 4 for another module. -/
def State.homeOf (s : State) (a : W64) : Nat :=
  if s.rackEid (fld a 44 40) = some s.topo.ownEid then (s.place (fld a 39 0)).die else 4

/-- A request packet of a core for a rack address: SPACE 0 with its module offset (R222). -/
def State.rackPacket (s : State) (n type : Nat) (a : W64) (payload : List Byte) : Packet :=
  qMake ((s.rackEid (fld a 44 40)).getD 0xFFFF) s.topo.ownEid (s.coreTag n) type 0 0 (accessBytes type) (fld a 39 0) payload

/-- Issue a load or atomic: it is outstanding, and its packet enters the endpoint (R134). -/
def State.issueAccess (s : State) (n : Nat) (c : Core) (type d : Nat) (a : W64) (payload : List Byte) : State :=
  let r : Remote :=
    { id := c.nextId, pc := c.pc, d := d, wide := accessBytes type == 8, atomic := isAtomic type
      eid := (s.rackEid (fld a 44 40)).getD 0xFFFF, addr := fld a 44 0, part := s.corePart n, tag := s.coreTag n
      home := s.homeOf a, at_ := s.ct
      noFill := s.rcTouched (dieOf n) (s.corePart n) (fld a 44 6) (s.homeOf a) }
  (s.setCore n { c.nextPc with rem := r :: c.rem, nextId := c.nextId + 1 }).enqueue (s.rackPacket n type a payload) (s.corePart n) n
    (.access n c.nextId)

/-- RLD.W and RLD.D (R134, R214): a hit in the cache writes sD at once, a miss goes out. Beyond 32 outstanding none issues. -/
def State.rldInstr (s : State) (n : Nat) (f : RF) (type : Nat) : State :=
  s.runR n f { d := .s, a := .s } fun c =>
    let a := c.sreg f.a.toNat
    match s.rackCause a (accessBytes type) with
    | some cause => s.takeException n cause c.pc
    | none =>
      if 32 ≤ c.rem.length then s
      else
        let die := dieOf n
        let home := s.homeOf a
        let eligible := home != die
        match (if eligible then s.rcRead die (s.corePart n) home (fld a 44 0) (accessBytes type == 8) else none) with
        | some v => ((s.bumpKi (A.rcStat die) 63 32 1).rcHit die (s.corePart n) home (fld a 44 0)).done n (c.setS f.d.toNat (BitVec.ofNat 64 v))
        | none => (if eligible then s.bumpKi (A.rcStat die) 31 0 1 else s).issueAccess n c type f.d.toNat a []

/-- RST.W and RST.D (R134, R215 rule 2). Beyond 64 not acknowledged none issues. -/
def State.rstInstr (s : State) (n : Nat) (f : RF) (type : Nat) : State :=
  s.runR n f { a := .s, b := .s } fun c =>
    let a := c.sreg f.a.toNat
    match s.rackCause a (accessBytes type) with
    | some cause => s.takeException n cause c.pc
    | none =>
      if 64 ≤ c.rstores.length then s
      else
        let v := (c.sreg f.b.toNat).toNat
        let w := accessBytes type
        let e := (s.rackEid (fld a 44 40)).getD 0xFFFF
        let r : RStore := { id := c.nextId, pc := c.pc, eid := e, addr := fld a 44 0, part := s.corePart n, tag := s.coreTag n }
        let s := s.setCore n { c.nextPc with rstores := r :: c.rstores, nextId := c.nextId + 1 }
        (s.rcStore (dieOf n) (s.corePart n) (s.homeOf a) (fld a 44 0) (w == 8) v).enqueue
          (s.rackPacket n type a (toBytes w v)) (s.corePart n) n (.store n c.nextId)

/-- An atomic (R133, R134, R215 rule 3, R226); compare-swap takes its compare value from sC. -/
def State.atomicInstr (s : State) (n : Nat) (f : RF) (type : Nat) : State :=
  let cas := type == 0x0E || type == 0x0F
  s.runR n f { d := .s, a := .s, b := .s, c := if cas then .s else .none } fun c =>
    let a := c.sreg f.a.toNat
    match s.rackCause a (accessBytes type) with
    | some cause => s.takeException n cause c.pc
    | none =>
      if 32 ≤ c.rem.length then s
      else
        let w := accessBytes type
        let x := toBytes w (c.sreg f.b.toNat).toNat ++ (if cas then toBytes w (c.sreg f.c.toNat).toNat else [])
        let s := s.rcDropGran (dieOf n) (s.corePart n) (fld a 44 6) (some (s.homeOf a))
        s.issueAccess n { c with rem := (s.coreAt n).rem } type f.d.toNat a x

/-- RLD.W (R133, R134). -/
def execRldW (n : Nat) (f : RF) (s : State) : Host.Outcome State Fault Refusal := onUnit (n < numCores) (s.rldInstr n f 1)
/-- RLD.D (R133, R134). -/
def execRldD (n : Nat) (f : RF) (s : State) : Host.Outcome State Fault Refusal := onUnit (n < numCores) (s.rldInstr n f 2)
/-- RST.W (R133, R134). -/
def execRstW (n : Nat) (f : RF) (s : State) : Host.Outcome State Fault Refusal := onUnit (n < numCores) (s.rstInstr n f 3)
/-- RST.D (R133, R134). -/
def execRstD (n : Nat) (f : RF) (s : State) : Host.Outcome State Fault Refusal := onUnit (n < numCores) (s.rstInstr n f 4)
/-- RADD.I32 (R226). Fetch-add, INT32. -/
def execRaddI32 (n : Nat) (f : RF) (s : State) : Host.Outcome State Fault Refusal :=
  onUnit (n < numCores) (s.atomicInstr n f 0x08)
/-- RADD.I64 (R226). Fetch-add, INT64. -/
def execRaddI64 (n : Nat) (f : RF) (s : State) : Host.Outcome State Fault Refusal :=
  onUnit (n < numCores) (s.atomicInstr n f 0x09)
/-- RADD.F32 (R226). Fetch-add, binary32. -/
def execRaddF32 (n : Nat) (f : RF) (s : State) : Host.Outcome State Fault Refusal :=
  onUnit (n < numCores) (s.atomicInstr n f 0x0A)
/-- RADD.BF16X2 (R226). Fetch-add, two BF16. -/
def execRaddBf16x2 (n : Nat) (f : RF) (s : State) : Host.Outcome State Fault Refusal :=
  onUnit (n < numCores) (s.atomicInstr n f 0x0B)
/-- RSWAP.W (R226). Swap, 32 bits. -/
def execRswapW (n : Nat) (f : RF) (s : State) : Host.Outcome State Fault Refusal :=
  onUnit (n < numCores) (s.atomicInstr n f 0x0C)
/-- RSWAP.D (R226). Swap, 64 bits. -/
def execRswapD (n : Nat) (f : RF) (s : State) : Host.Outcome State Fault Refusal :=
  onUnit (n < numCores) (s.atomicInstr n f 0x0D)
/-- RCAS.W (R226). Compare-swap, 32 bits. -/
def execRcasW (n : Nat) (f : RF) (s : State) : Host.Outcome State Fault Refusal :=
  onUnit (n < numCores) (s.atomicInstr n f 0x0E)
/-- RCAS.D (R226). Compare-swap, 64 bits. -/
def execRcasD (n : Nat) (f : RF) (s : State) : Host.Outcome State Fault Refusal :=
  onUnit (n < numCores) (s.atomicInstr n f 0x0F)
/-- RMIN.I32 (R226). Minimum, INT32. -/
def execRminI32 (n : Nat) (f : RF) (s : State) : Host.Outcome State Fault Refusal :=
  onUnit (n < numCores) (s.atomicInstr n f 0x10)
/-- RMIN.I64 (R226). Minimum, INT64. -/
def execRminI64 (n : Nat) (f : RF) (s : State) : Host.Outcome State Fault Refusal :=
  onUnit (n < numCores) (s.atomicInstr n f 0x11)
/-- RMAX.I32 (R226). Maximum, INT32. -/
def execRmaxI32 (n : Nat) (f : RF) (s : State) : Host.Outcome State Fault Refusal :=
  onUnit (n < numCores) (s.atomicInstr n f 0x12)
/-- RMAX.I64 (R226). Maximum, INT64. -/
def execRmaxI64 (n : Nat) (f : RF) (s : State) : Host.Outcome State Fault Refusal :=
  onUnit (n < numCores) (s.atomicInstr n f 0x13)
/-- RAND.W (R226). And, 32 bits. -/
def execRandW (n : Nat) (f : RF) (s : State) : Host.Outcome State Fault Refusal :=
  onUnit (n < numCores) (s.atomicInstr n f 0x14)
/-- RAND.D (R226). And, 64 bits. -/
def execRandD (n : Nat) (f : RF) (s : State) : Host.Outcome State Fault Refusal :=
  onUnit (n < numCores) (s.atomicInstr n f 0x15)
/-- ROR.W (R226). Or, 32 bits. -/
def execRorW (n : Nat) (f : RF) (s : State) : Host.Outcome State Fault Refusal :=
  onUnit (n < numCores) (s.atomicInstr n f 0x16)
/-- ROR.D (R226). Or, 64 bits. -/
def execRorD (n : Nat) (f : RF) (s : State) : Host.Outcome State Fault Refusal :=
  onUnit (n < numCores) (s.atomicInstr n f 0x17)
/-- RXOR.W (R226). Xor, 32 bits. -/
def execRxorW (n : Nat) (f : RF) (s : State) : Host.Outcome State Fault Refusal :=
  onUnit (n < numCores) (s.atomicInstr n f 0x18)
/-- RXOR.D (R226). Xor, 64 bits. -/
def execRxorD (n : Nat) (f : RF) (s : State) : Host.Outcome State Fault Refusal :=
  onUnit (n < numCores) (s.atomicInstr n f 0x19)

/-! ### Fences (R148, R235, R236) -/

/-- A fence holds issue from its own on. -/
def State.startFence (s : State) (n : Nat) (c : Core) (acks : Bool) (eid : Option Nat) (loads : Bool) : State :=
  let r : FenceRun :=
    { pc := c.pc, acks := acks, mark := s.ep.count, copyMark := (s.copyAt (dieOf n)).nextId, eid := eid
      loads := if loads then c.rem.map Remote.id else [], at_ := s.ct }
  s.setCore n { c.nextPc with fence := some r }

/-- FENCE (R235): all destinations; it starts the invalidation of the core's partition. -/
def execFence (n : Nat) (f : RF) (s : State) : Host.Outcome State Fault Refusal :=
  onUnit (n < numCores) (s.runR n f {} fun c => (s.startFence n c true none false).rcDropPart (dieOf n) (s.corePart n))

/-- FENCE.EID (R235): the destination in sA[15:0]. -/
def execFenceEid (n : Nat) (f : RF) (s : State) : Host.Outcome State Fault Refusal :=
  onUnit (n < numCores) (s.runR n f { a := .s } fun c =>
    (s.startFence n c true (some (fld (c.sreg f.a.toNat) 15 0)) false).rcDropPart (dieOf n) (s.corePart n))

/-- ACQ (R236): earlier loads and atomics, with the invalidation. -/
def execAcq (n : Nat) (f : RF) (s : State) : Host.Outcome State Fault Refusal :=
  onUnit (n < numCores) (s.runR n f {} fun c => (s.startFence n c false none true).rcDropPart (dieOf n) (s.corePart n))

/-- REL (R236): as FENCE, and earlier loads and atomics; no invalidation. -/
def execRel (n : Nat) (f : RF) (s : State) : Host.Outcome State Fault Refusal :=
  onUnit (n < numCores) (s.runR n f {} fun c => s.startFence n c true none true)

/-- An endpoint is covered by a fence. -/
def FenceRun.covers (r : FenceRun) (e : Nat) : Bool := r.eid.all fun x => x == e

/-- The remote sides of a descriptor (R240): a pushing one its destination, a pulling one its source; the
side of an RDMA descriptor that is a connection is no endpoint (R243). -/
def Desc.remoteSide (x : Desc) (r : FenceRun) : Bool :=
  r.eid.isNone || (decide (descOp x.words < 4) && ((fld (x.words.getD 1 0) 47 46 == 1 && r.covers (fld (x.words.getD 1 0) 63 48))
    || (fld (x.words.getD 2 0) 47 46 == 1 && r.covers (fld (x.words.getD 2 0) 63 48))))

/-- A request of the core that the fence waits for: none of a routing's remote copies (R148). -/
def FenceRun.waitsFor (r : FenceRun) (n : Nat) (u : Unacked) : Bool :=
  u.core == n && !u.routed && decide (u.no < r.mark) && !isLoad (qType u.q) && r.covers (qDest u.q)

/-- Nothing is left that a fence waits for. -/
def State.fenceMet (s : State) (n : Nat) (r : FenceRun) : Bool :=
  let c := s.coreAt n
  let open_ := r.waitsFor n
  (!r.acks || (!(s.hub.dynWait.any open_) && !(s.ep.src.any fun e => e.2.unacked.any open_)
    && !((s.copyAt (dieOf n)).descs.any fun (x : Desc) =>
      x.core == n && x.cnt.isSome && decide (x.id < r.copyMark) && x.remoteSide r)))
    && !(c.rem.any fun (x : Remote) => r.loads.contains x.id)

/-- FENCE_COMPLETE (R235, R236). -/
def execFenceComplete (n : Nat) (s : State) : Host.Outcome State Fault Refusal :=
  onUnit (n < numCores)
    (match (s.coreAt n).fence with
     | some r => if s.fenceMet n r then s.setCore n { s.coreAt n with fence := none } else s
     | none => s)

/-- FENCE_TIMEOUT (R148, R235): 10 µs after issue. -/
def execFenceTimeout (n : Nat) (s : State) : Host.Outcome State Fault Refusal :=
  onUnit (n < numCores)
    (match (s.coreAt n).fence with
     | some r =>
       if r.at_ + 20000 ≤ s.ct ∧ !s.fenceMet n r then
         (s.jobFault n 3 (s.corePart n) (s.coreTag n) (r.eid.getD 0xFFFF) 0 0).takeException n .fenceTimeout r.pc
       else s
     | none => s)

end Sys2Proof.Machine
end

