-- ==== Sys2Proof/Machine/Scalar.lean ====
section
/-! DEFINITION. Scalar, predicate and branch instructions (R129 to R132). -/
namespace Sys2Proof.Machine

/-- CORE.ID of a core (R118). -/
def State.coreIdWord (s : State) (n : Nat) : W64 :=
  let i := n % 640
  BitVec.ofNat 64 (n / 640 * 2 ^ 30 + i * 2 ^ 20 + i / 32 * 2 ^ 15 + i % 32 * 2 ^ 10 + s.fuse.arrays n * 2 ^ 5
    + b2n (decide (0 < s.fuse.arrays n)))

/-- sD ← op sA sB. -/
def State.alu (s : State) (n : Nat) (f : RF) (op : W64 → W64 → W64) : State :=
  s.runR n f { d := .s, a := .s, b := .s } fun c =>
    s.done n (c.setS f.d.toNat (op (c.sreg f.a.toNat) (c.sreg f.b.toNat)))

/-- sD ← op sA IMM, with the rule that the opcode makes for its immediate. -/
def State.aluImm (s : State) (n : Nat) (f : IF) (imm : Bool) (op : W64 → W64) : State :=
  s.runI n f .s .s imm fun c => s.done n (c.setS f.d.toNat (op (c.sreg f.a.toNat)))

/-- The immediate of a shift: bits [39:6] are zero (R129). -/
def shiftImm (f : IF) : Bool := decide (f.imm.toNat < 64)

/-- All ones or all zeros, as compares write (R129). -/
def allBits (b : Bool) : W64 := if b then BitVec.allOnes 64 else 0

/-- pD ← cmp sA sB in all 64 bits. -/
def State.compare (s : State) (n : Nat) (f : RF) (cmp : W64 → W64 → Bool) : State :=
  s.runR n f { d := .p, a := .s, b := .s } fun c =>
    s.done n (c.setP f.d.toNat (allBits (cmp (c.sreg f.a.toNat) (c.sreg f.b.toNat))))

/-- pD ← op pA pB. -/
def State.predOp (s : State) (n : Nat) (f : RF) (op : W64 → W64 → W64) : State :=
  s.runR n f { d := .p, a := .p, b := .p } fun c =>
    s.done n (c.setP f.d.toNat (op (c.preg f.a.toNat) (c.preg f.b.toNat)))

/-- The number of ones of a word. -/
def ones (w : W64) : Nat := (List.range 64).foldl (fun k i => k + b2n (bit w i)) 0

/-- NOP (R129). None. -/
def execNop (n : Nat) (f : RF) (s : State) : Host.Outcome State Fault Refusal :=
  onUnit (n < numCores) (s.runR n f {} fun c => s.done n c)

/-- ADD (R129). sD ← sA + sB. -/
def execAdd (n : Nat) (f : RF) (s : State) : Host.Outcome State Fault Refusal :=
  onUnit (n < numCores) (s.alu n f fun x y => x + y)

/-- SUB (R129). sD ← sA − sB. -/
def execSub (n : Nat) (f : RF) (s : State) : Host.Outcome State Fault Refusal :=
  onUnit (n < numCores) (s.alu n f fun x y => x - y)

/-- MUL (R129). sD ← low 64 bits of sA × sB. -/
def execMul (n : Nat) (f : RF) (s : State) : Host.Outcome State Fault Refusal :=
  onUnit (n < numCores) (s.alu n f fun x y => x * y)

/-- AND (R129). sD ← sA and sB. -/
def execAndS (n : Nat) (f : RF) (s : State) : Host.Outcome State Fault Refusal :=
  onUnit (n < numCores) (s.alu n f fun x y => x &&& y)

/-- OR (R129). sD ← sA or sB. -/
def execOrS (n : Nat) (f : RF) (s : State) : Host.Outcome State Fault Refusal :=
  onUnit (n < numCores) (s.alu n f fun x y => x ||| y)

/-- XOR (R129). sD ← sA xor sB. -/
def execXorS (n : Nat) (f : RF) (s : State) : Host.Outcome State Fault Refusal :=
  onUnit (n < numCores) (s.alu n f fun x y => x ^^^ y)

/-- SHL (R129). sD ← sA shifted left by sB[5:0]. -/
def execShl (n : Nat) (f : RF) (s : State) : Host.Outcome State Fault Refusal :=
  onUnit (n < numCores) (s.alu n f fun x y => x <<< (y.toNat % 64))

/-- SHR (R129). Logical shift right by sB[5:0]. -/
def execShr (n : Nat) (f : RF) (s : State) : Host.Outcome State Fault Refusal :=
  onUnit (n < numCores) (s.alu n f fun x y => x >>> (y.toNat % 64))

/-- SRA (R129). Arithmetic shift right by sB[5:0]. -/
def execSra (n : Nat) (f : RF) (s : State) : Host.Outcome State Fault Refusal :=
  onUnit (n < numCores) (s.alu n f fun x y => x.sshiftRight (y.toNat % 64))

/-- MIN (R129). Signed minimum. -/
def execMinS (n : Nat) (f : RF) (s : State) : Host.Outcome State Fault Refusal :=
  onUnit (n < numCores) (s.alu n f fun x y => if x.slt y then x else y)

/-- MAX (R129). Signed maximum. -/
def execMaxS (n : Nat) (f : RF) (s : State) : Host.Outcome State Fault Refusal :=
  onUnit (n < numCores) (s.alu n f fun x y => if x.slt y then y else x)

/-- MINU (R129). Unsigned minimum. -/
def execMinu (n : Nat) (f : RF) (s : State) : Host.Outcome State Fault Refusal :=
  onUnit (n < numCores) (s.alu n f fun x y => if x.ult y then x else y)

/-- MAXU (R129). Unsigned maximum. -/
def execMaxu (n : Nat) (f : RF) (s : State) : Host.Outcome State Fault Refusal :=
  onUnit (n < numCores) (s.alu n f fun x y => if x.ult y then y else x)

/-- ADDI (R129). sD ← sA + IMM. -/
def execAddi (n : Nat) (f : IF) (s : State) : Host.Outcome State Fault Refusal :=
  onUnit (n < numCores) (s.aluImm n f true fun x => x + IF.wimm f)

/-- ANDI (R129). sD ← sA and IMM. -/
def execAndi (n : Nat) (f : IF) (s : State) : Host.Outcome State Fault Refusal :=
  onUnit (n < numCores) (s.aluImm n f true fun x => x &&& IF.wimm f)

/-- ORI (R129). sD ← sA or IMM. -/
def execOri (n : Nat) (f : IF) (s : State) : Host.Outcome State Fault Refusal :=
  onUnit (n < numCores) (s.aluImm n f true fun x => x ||| IF.wimm f)

/-- SHLI (R129). Shift left by IMM[5:0]. -/
def execShli (n : Nat) (f : IF) (s : State) : Host.Outcome State Fault Refusal :=
  onUnit (n < numCores) (s.aluImm n f (shiftImm f) fun x => x <<< f.imm.toNat)

/-- SHRI (R129). Logical shift right by IMM[5:0]. -/
def execShri (n : Nat) (f : IF) (s : State) : Host.Outcome State Fault Refusal :=
  onUnit (n < numCores) (s.aluImm n f (shiftImm f) fun x => x >>> f.imm.toNat)

/-- SRAI (R129). Arithmetic shift right by IMM[5:0]. -/
def execSrai (n : Nat) (f : IF) (s : State) : Host.Outcome State Fault Refusal :=
  onUnit (n < numCores) (s.aluImm n f (shiftImm f) fun x => x.sshiftRight f.imm.toNat)

/-- LI (R129). sD ← IMM sign-extended; A is zero. -/
def execLi (n : Nat) (f : IF) (s : State) : Host.Outcome State Fault Refusal :=
  onUnit (n < numCores) (s.runI n f .s .none true fun c => s.done n (c.setS f.d.toNat (IF.wimm f)))

/-- LIH (R129). sD[63:40] ← IMM[23:0]; IMM[39:24] is zero. -/
def execLih (n : Nat) (f : IF) (s : State) : Host.Outcome State Fault Refusal :=
  onUnit (n < numCores) (s.runI n f .s .none (decide (f.imm.toNat < 2 ^ 24)) fun c =>
    s.done n (c.setS f.d.toNat (setFld (c.sreg f.d.toNat) 63 40 f.imm.toNat)))

/-- CMPEQ (R129). pD ← (sA = sB). -/
def execCmpeq (n : Nat) (f : RF) (s : State) : Host.Outcome State Fault Refusal :=
  onUnit (n < numCores) (s.compare n f fun x y => x == y)

/-- CMPNE (R129). pD ← (sA ≠ sB). -/
def execCmpne (n : Nat) (f : RF) (s : State) : Host.Outcome State Fault Refusal :=
  onUnit (n < numCores) (s.compare n f fun x y => x != y)

/-- CMPLT (R129). Signed sA < sB. -/
def execCmplt (n : Nat) (f : RF) (s : State) : Host.Outcome State Fault Refusal :=
  onUnit (n < numCores) (s.compare n f fun x y => x.slt y)

/-- CMPLTU (R129). Unsigned sA < sB. -/
def execCmpltu (n : Nat) (f : RF) (s : State) : Host.Outcome State Fault Refusal :=
  onUnit (n < numCores) (s.compare n f fun x y => x.ult y)

/-- CMPLE (R129). Signed sA ≤ sB. -/
def execCmple (n : Nat) (f : RF) (s : State) : Host.Outcome State Fault Refusal :=
  onUnit (n < numCores) (s.compare n f fun x y => x.sle y)

/-- CMPLEU (R129). Unsigned sA ≤ sB. -/
def execCmpleu (n : Nat) (f : RF) (s : State) : Host.Outcome State Fault Refusal :=
  onUnit (n < numCores) (s.compare n f fun x y => x.ule y)

/-- PAND (R129). pD ← pA and pB. -/
def execPand (n : Nat) (f : RF) (s : State) : Host.Outcome State Fault Refusal :=
  onUnit (n < numCores) (s.predOp n f fun x y => x &&& y)

/-- POR (R129). pD ← pA or pB. -/
def execPor (n : Nat) (f : RF) (s : State) : Host.Outcome State Fault Refusal :=
  onUnit (n < numCores) (s.predOp n f fun x y => x ||| y)

/-- PXOR (R129). pD ← pA xor pB. -/
def execPxor (n : Nat) (f : RF) (s : State) : Host.Outcome State Fault Refusal :=
  onUnit (n < numCores) (s.predOp n f fun x y => x ^^^ y)

/-- PANDN (R129). pD ← pA and not pB. -/
def execPandn (n : Nat) (f : RF) (s : State) : Host.Outcome State Fault Refusal :=
  onUnit (n < numCores) (s.predOp n f fun x y => x &&& ~~~y)

/-- PCNT (R129). sD ← number of ones in pA. -/
def execPcnt (n : Nat) (f : RF) (s : State) : Host.Outcome State Fault Refusal :=
  onUnit (n < numCores) (s.runR n f { d := .s, a := .p } fun c =>
    s.done n (c.setS f.d.toNat (BitVec.ofNat 64 (ones (c.preg f.a.toNat)))))

/-- PFROM (R129). pD ← sA. -/
def execPfrom (n : Nat) (f : RF) (s : State) : Host.Outcome State Fault Refusal :=
  onUnit (n < numCores) (s.runR n f { d := .p, a := .s } fun c => s.done n (c.setP f.d.toNat (c.sreg f.a.toNat)))

/-- PTO (R129). sD ← pA. -/
def execPto (n : Nat) (f : RF) (s : State) : Host.Outcome State Fault Refusal :=
  onUnit (n < numCores) (s.runR n f { d := .s, a := .p } fun c => s.done n (c.setS f.d.toNat (c.preg f.a.toNat)))

/-- RDCT (R130). sD ← die cluster-time counter. -/
def execRdct (n : Nat) (f : RF) (s : State) : Host.Outcome State Fault Refusal :=
  onUnit (n < numCores) (s.runR n f { d := .s } fun c => s.done n (c.setS f.d.toNat s.now))

/-- RDFLAGS (R130). sD ← CORE.FLAGS. -/
def execRdflags (n : Nat) (f : RF) (s : State) : Host.Outcome State Fault Refusal :=
  onUnit (n < numCores) (s.runR n f { d := .s } fun c => s.done n (c.setS f.d.toNat (s.reg (A.coreFlags n))))

/-- CLRFLAGS (R130). Clears each CORE.FLAGS bit whose bit in sA is 1. -/
def execClrflags (n : Nat) (f : RF) (s : State) : Host.Outcome State Fault Refusal :=
  onUnit (n < numCores) (s.runR n f { a := .s } fun c =>
    (s.setReg (A.coreFlags n) (s.reg (A.coreFlags n) &&& ~~~ c.sreg f.a.toNat)).done n c)

/-- RDID (R129). sD ← CORE.ID. -/
def execRdid (n : Nat) (f : RF) (s : State) : Host.Outcome State Fault Refusal :=
  onUnit (n < numCores) (s.runR n f { d := .s } fun c => s.done n (c.setS f.d.toNat (s.coreIdWord n)))

/-- A branch target that the sequencer may fetch: 8-byte aligned and inside the store (R132). -/
def goodTarget (t : W64) : Bool := t.toNat % 8 == 0 && decide (t.toNat < storeSize)

/-- The core with its program counter at a target. -/
def Core.jump (c : Core) (t : W64) : Core := { c with pc := t.toNat }

/-- A taken branch, after the register it writes (R131: "then as B", log 25); a bad target raises PC_RANGE at the branch (R132). -/
def State.branchTo (s : State) (n : Nat) (c : Core) (t : W64) : State :=
  if goodTarget t then s.setCore n (c.jump t) else (s.setCore n c).takeException n .pcRange c.pc

/-- The target of a branch relative to its own address (R131). -/
def relTarget (c : Core) (f : IF) : W64 := BitVec.ofNat 64 c.pc + 8 * IF.wimm f

/-- The address after a branch, which BL and BLR write (R131). -/
def linkWord (c : Core) : W64 := BitVec.ofNat 64 (c.pc + 8)

/-- B (R131). PC ← address of the branch + 8 × IMM. -/
def execBranchB (n : Nat) (f : IF) (s : State) : Host.Outcome State Fault Refusal :=
  onUnit (n < numCores) (s.runI n f .none .none true fun c => s.branchTo n c (relTarget c f))

/-- BL (R131). sD ← address of the branch + 8; then as B. -/
def execBl (n : Nat) (f : IF) (s : State) : Host.Outcome State Fault Refusal :=
  onUnit (n < numCores) (s.runI n f .s .none true fun c => s.branchTo n (c.setS f.d.toNat (linkWord c)) (relTarget c f))

/-- BR (R131). PC ← sA + IMM. -/
def execBr (n : Nat) (f : IF) (s : State) : Host.Outcome State Fault Refusal :=
  onUnit (n < numCores) (s.runI n f .none .s true fun c => s.branchTo n c (c.sreg f.a.toNat + IF.wimm f))

/-- BLR (R131, R132). sD ← address of the branch + 8; the old base forms the target. -/
def execBlr (n : Nat) (f : IF) (s : State) : Host.Outcome State Fault Refusal :=
  onUnit (n < numCores) (s.runI n f .s .s true fun c =>
    s.branchTo n (c.setS f.d.toNat (linkWord c)) (c.sreg f.a.toNat + IF.wimm f))

/-- LOOP (R131). sD ← sD − 1; as B if the new sD is not zero. -/
def execLoop (n : Nat) (f : IF) (s : State) : Host.Outcome State Fault Refusal :=
  onUnit (n < numCores) (s.runI n f .s .none true fun c =>
    let c' := c.setS f.d.toNat (c.sreg f.d.toNat - 1)
    if c'.sreg f.d.toNat = 0 then s.done n c' else s.branchTo n c' (relTarget c f))

end Sys2Proof.Machine
end

