-- ==== Sys2Proof/Machine/Dispatch.lean ====
section
/-! DEFINITION. One arm for each command: its meaning, or its name where it has none yet. -/
namespace Sys2Proof.Machine
open Sys2Proof

def exec (i : Instr) (s : State) : Host.Outcome State Fault Refusal :=
  match i with
  | .timeFrameSend p => Sys2Proof.Machine.execTimeFrameSend p s
  | .timeFrameReceive p l f fine => Sys2Proof.Machine.execTimeFrameReceive p l f fine s
  | .parentFramesStale p => Sys2Proof.Machine.execParentFramesStale p s
  | .ptpMessage e m => Sys2Proof.Machine.execPtpMessage e m s
  | .ptpLockLost => Sys2Proof.Machine.execPtpLockLost s
  | .holdoverTimeout => Sys2Proof.Machine.execHoldoverTimeout s
  | .acquireTimeout => Sys2Proof.Machine.execAcquireTimeout s
  | .oscillatorFault present => Sys2Proof.Machine.execOscillatorFault present s
  | .parentRejectExpiry p => Sys2Proof.Machine.execParentRejectExpiry p s
  | .slewBackEnd => Sys2Proof.Machine.execSlewBackEnd s
  | .scheduledTrafficResume => Sys2Proof.Machine.execScheduledTrafficResume s
  | .waitTimeResume n => Sys2Proof.Machine.execWaitTimeResume n s
  | .nop n f => Sys2Proof.Machine.execNop n f s
  | .add n f => Sys2Proof.Machine.execAdd n f s
  | .sub n f => Sys2Proof.Machine.execSub n f s
  | .mul n f => Sys2Proof.Machine.execMul n f s
  | .andS n f => Sys2Proof.Machine.execAndS n f s
  | .orS n f => Sys2Proof.Machine.execOrS n f s
  | .xorS n f => Sys2Proof.Machine.execXorS n f s
  | .shl n f => Sys2Proof.Machine.execShl n f s
  | .shr n f => Sys2Proof.Machine.execShr n f s
  | .sra n f => Sys2Proof.Machine.execSra n f s
  | .minS n f => Sys2Proof.Machine.execMinS n f s
  | .maxS n f => Sys2Proof.Machine.execMaxS n f s
  | .minu n f => Sys2Proof.Machine.execMinu n f s
  | .maxu n f => Sys2Proof.Machine.execMaxu n f s
  | .addi n f => Sys2Proof.Machine.execAddi n f s
  | .andi n f => Sys2Proof.Machine.execAndi n f s
  | .ori n f => Sys2Proof.Machine.execOri n f s
  | .shli n f => Sys2Proof.Machine.execShli n f s
  | .shri n f => Sys2Proof.Machine.execShri n f s
  | .srai n f => Sys2Proof.Machine.execSrai n f s
  | .li n f => Sys2Proof.Machine.execLi n f s
  | .lih n f => Sys2Proof.Machine.execLih n f s
  | .cmpeq n f => Sys2Proof.Machine.execCmpeq n f s
  | .cmpne n f => Sys2Proof.Machine.execCmpne n f s
  | .cmplt n f => Sys2Proof.Machine.execCmplt n f s
  | .cmpltu n f => Sys2Proof.Machine.execCmpltu n f s
  | .cmple n f => Sys2Proof.Machine.execCmple n f s
  | .cmpleu n f => Sys2Proof.Machine.execCmpleu n f s
  | .pand n f => Sys2Proof.Machine.execPand n f s
  | .por n f => Sys2Proof.Machine.execPor n f s
  | .pxor n f => Sys2Proof.Machine.execPxor n f s
  | .pandn n f => Sys2Proof.Machine.execPandn n f s
  | .pcnt n f => Sys2Proof.Machine.execPcnt n f s
  | .pfrom n f => Sys2Proof.Machine.execPfrom n f s
  | .pto n f => Sys2Proof.Machine.execPto n f s
  | .rdct n f => Sys2Proof.Machine.execRdct n f s
  | .rdflags n f => Sys2Proof.Machine.execRdflags n f s
  | .clrflags n f => Sys2Proof.Machine.execClrflags n f s
  | .rdid n f => Sys2Proof.Machine.execRdid n f s
  | .branchB n f => Sys2Proof.Machine.execBranchB n f s
  | .bl n f => Sys2Proof.Machine.execBl n f s
  | .br n f => Sys2Proof.Machine.execBr n f s
  | .blr n f => Sys2Proof.Machine.execBlr n f s
  | .loop n f => Sys2Proof.Machine.execLoop n f s
  | .ldB n f => Sys2Proof.Machine.execLdB n f s
  | .ldBu n f => Sys2Proof.Machine.execLdBu n f s
  | .ldH n f => Sys2Proof.Machine.execLdH n f s
  | .ldHu n f => Sys2Proof.Machine.execLdHu n f s
  | .ldW n f => Sys2Proof.Machine.execLdW n f s
  | .ldWu n f => Sys2Proof.Machine.execLdWu n f s
  | .ldD n f => Sys2Proof.Machine.execLdD n f s
  | .stB n f => Sys2Proof.Machine.execStB n f s
  | .stH n f => Sys2Proof.Machine.execStH n f s
  | .stW n f => Sys2Proof.Machine.execStW n f s
  | .stD n f => Sys2Proof.Machine.execStD n f s
  | .vld n f => Sys2Proof.Machine.execVld n f s
  | .vst n f => Sys2Proof.Machine.execVst n f s
  | .pld n f => Sys2Proof.Machine.execPld n f s
  | .pst n f => Sys2Proof.Machine.execPst n f s
  | .rldW n f => Sys2Proof.Machine.execRldW n f s
  | .rldD n f => Sys2Proof.Machine.execRldD n f s
  | .rstW n f => Sys2Proof.Machine.execRstW n f s
  | .rstD n f => Sys2Proof.Machine.execRstD n f s
  | .raddI32 n f => Sys2Proof.Machine.execRaddI32 n f s
  | .raddI64 n f => Sys2Proof.Machine.execRaddI64 n f s
  | .raddF32 n f => Sys2Proof.Machine.execRaddF32 n f s
  | .raddBf16x2 n f => Sys2Proof.Machine.execRaddBf16x2 n f s
  | .rswapW n f => Sys2Proof.Machine.execRswapW n f s
  | .rswapD n f => Sys2Proof.Machine.execRswapD n f s
  | .rcasW n f => Sys2Proof.Machine.execRcasW n f s
  | .rcasD n f => Sys2Proof.Machine.execRcasD n f s
  | .rminI32 n f => Sys2Proof.Machine.execRminI32 n f s
  | .rminI64 n f => Sys2Proof.Machine.execRminI64 n f s
  | .rmaxI32 n f => Sys2Proof.Machine.execRmaxI32 n f s
  | .rmaxI64 n f => Sys2Proof.Machine.execRmaxI64 n f s
  | .randW n f => Sys2Proof.Machine.execRandW n f s
  | .randD n f => Sys2Proof.Machine.execRandD n f s
  | .rorW n f => Sys2Proof.Machine.execRorW n f s
  | .rorD n f => Sys2Proof.Machine.execRorD n f s
  | .rxorW n f => Sys2Proof.Machine.execRxorW n f s
  | .rxorD n f => Sys2Proof.Machine.execRxorD n f s
  | .vadd n f => Sys2Proof.Machine.execVadd n f s
  | .vsub n f => Sys2Proof.Machine.execVsub n f s
  | .vmul n f => Sys2Proof.Machine.execVmul n f s
  | .vfma n f => Sys2Proof.Machine.execVfma n f s
  | .vfnma n f => Sys2Proof.Machine.execVfnma n f s
  | .vmin n f => Sys2Proof.Machine.execVmin n f s
  | .vmax n f => Sys2Proof.Machine.execVmax n f s
  | .vabs n f => Sys2Proof.Machine.execVabs n f s
  | .vneg n f => Sys2Proof.Machine.execVneg n f s
  | .vdiv n f => Sys2Proof.Machine.execVdiv n f s
  | .vsqrt n f => Sys2Proof.Machine.execVsqrt n f s
  | .vrsqrt n f => Sys2Proof.Machine.execVrsqrt n f s
  | .vexp n f => Sys2Proof.Machine.execVexp n f s
  | .vlog n f => Sys2Proof.Machine.execVlog n f s
  | .vrsum n f => Sys2Proof.Machine.execVrsum n f s
  | .vrmax n f => Sys2Proof.Machine.execVrmax n f s
  | .vcmpeq n f => Sys2Proof.Machine.execVcmpeq n f s
  | .vcmplt n f => Sys2Proof.Machine.execVcmplt n f s
  | .vcmple n f => Sys2Proof.Machine.execVcmple n f s
  | .vcmpun n f => Sys2Proof.Machine.execVcmpun n f s
  | .vsel n f => Sys2Proof.Machine.execVsel n f s
  | .vmov n f => Sys2Proof.Machine.execVmov n f s
  | .vbcast n f => Sys2Proof.Machine.execVbcast n f s
  | .vextr n f => Sys2Proof.Machine.execVextr n f s
  | .vand n f => Sys2Proof.Machine.execVand n f s
  | .vor n f => Sys2Proof.Machine.execVor n f s
  | .vxor n f => Sys2Proof.Machine.execVxor n f s
  | .vshl n f => Sys2Proof.Machine.execVshl n f s
  | .vshr n f => Sys2Proof.Machine.execVshr n f s
  | .viota n f => Sys2Proof.Machine.execViota n f s
  | .cvtBf n f => Sys2Proof.Machine.execCvtBf n f s
  | .cvtFblo n f => Sys2Proof.Machine.execCvtFblo n f s
  | .cvtFbhi n f => Sys2Proof.Machine.execCvtFbhi n f s
  | .cvtIf n f => Sys2Proof.Machine.execCvtIf n f s
  | .cvtFi n f => Sys2Proof.Machine.execCvtFi n f s
  | .rint n f => Sys2Proof.Machine.execRint n f s
  | .pack n f => Sys2Proof.Machine.execPack n f s
  | .unpack n f => Sys2Proof.Machine.execUnpack n f s
  | .tile n f => Sys2Proof.Machine.execTile n f s
  | .twarm n f => Sys2Proof.Machine.execTwarm n f s
  | .gather n f => Sys2Proof.Machine.execGather n f s
  | .scatter n f => Sys2Proof.Machine.execScatter n f s
  | .scatadd n f => Sys2Proof.Machine.execScatadd n f s
  | .rgather n f => Sys2Proof.Machine.execRgather n f s
  | .rscatter n f => Sys2Proof.Machine.execRscatter n f s
  | .rscatadd n f => Sys2Proof.Machine.execRscatadd n f s
  | .route n f => Sys2Proof.Machine.execRoute n f s
  | .copy n f => Sys2Proof.Machine.execCopy n f s
  | .waitt n f => Sys2Proof.Machine.execWaitt n f s
  | .waitc n f => Sys2Proof.Machine.execWaitc n f s
  | .setcnt n f => Sys2Proof.Machine.execSetcnt n f s
  | .rdcnt n f => Sys2Proof.Machine.execRdcnt n f s
  | .fence n f => Sys2Proof.Machine.execFence n f s
  | .fenceEid n f => Sys2Proof.Machine.execFenceEid n f s
  | .acq n f => Sys2Proof.Machine.execAcq n f s
  | .rel n f => Sys2Proof.Machine.execRel n f s
  | .halt n f => Sys2Proof.Machine.execHalt n f s
  | .upd n f => Sys2Proof.Machine.execUpd n f s
  | .updrow n f => Sys2Proof.Machine.execUpdrow n f s
  | .rootreq n f => Sys2Proof.Machine.execRootreq n f s
  | .stepend n f => Sys2Proof.Machine.execStepend n f s
  | .coreStart n => Sys2Proof.Machine.execCoreStart n s
  | .counterWaitResume n => Sys2Proof.Machine.execCounterWaitResume n s
  | .coreHalted n => Sys2Proof.Machine.execCoreHalted n s
  | .tileAccept n a => Sys2Proof.Machine.execTileAccept n a s
  | .tileStart n j => Sys2Proof.Machine.execTileStart n j s
  | .stationarySwap n j => Sys2Proof.Machine.execStationarySwap n j s
  | .tileWritebackEnd n j flips shadowFlips => Sys2Proof.Machine.execTileWritebackEnd n j flips shadowFlips s
  | .levelUpdate n j => Sys2Proof.Machine.execLevelUpdate n j s
  | .twarmEnd n j => Sys2Proof.Machine.execTwarmEnd n j s
  | .gatherScatterComplete n => Sys2Proof.Machine.execGatherScatterComplete n s
  | .routeStart n => Sys2Proof.Machine.execRouteStart n s
  | .routeLeave n => Sys2Proof.Machine.execRouteLeave n s
  | .routeComplete n => Sys2Proof.Machine.execRouteComplete n s
  | .coreResetHold n v => Sys2Proof.Machine.execCoreResetHold n v s
  | .coreFence n v => Sys2Proof.Machine.execCoreFence n v s
  | .coreRun n v => Sys2Proof.Machine.execCoreRun n v s
  | .swdataAccess n wr => Sys2Proof.Machine.execSwdataAccess n wr s
  | .updateCallStart d id => Sys2Proof.Machine.execUpdateCallStart d id s
  | .updateCallComplete d id => Sys2Proof.Machine.execUpdateCallComplete d id s
  | .rootRefreshStart d g => Sys2Proof.Machine.execRootRefreshStart d g s
  | .rootRefreshComplete d g => Sys2Proof.Machine.execRootRefreshComplete d g s
  | .stependSwap d id => Sys2Proof.Machine.execStependSwap d id s
  | .updGsel d v => Sys2Proof.Machine.execUpdGsel d v s
  | .updCommit d v => Sys2Proof.Machine.execUpdCommit d v s
  | .updClrStat d v => Sys2Proof.Machine.execUpdClrStat d v s
  | .memoryRequest d r => Sys2Proof.Machine.execMemoryRequest d r s
  | .memoryAdmit d k => Sys2Proof.Machine.execMemoryAdmit d k s
  | .channelServe d c busy dam => Sys2Proof.Machine.execChannelServe d c busy dam s
  | .regulatorCreditTick d => Sys2Proof.Machine.execRegulatorCreditTick d s
  | .refreshCommand d c b => Sys2Proof.Machine.execRefreshCommand d c b s
  | .refreshIntervalRelax d k => Sys2Proof.Machine.execRefreshIntervalRelax d k s
  | .scrubRead d c dam => Sys2Proof.Machine.execScrubRead d c dam s
  | .memoryInitComplete d k => Sys2Proof.Machine.execMemoryInitComplete d k s
  | .zeroMapFill d a dam => Sys2Proof.Machine.execZeroMapFill d a dam s
  | .zrangeEnable d k v => Sys2Proof.Machine.execZrangeEnable d k v s
  | .zrangeDisable d k v => Sys2Proof.Machine.execZrangeDisable d k v s
  | .zrangeFlushComplete d k => Sys2Proof.Machine.execZrangeFlushComplete d k s
  | .linkTrainStart d => Sys2Proof.Machine.execLinkTrainStart d s
  | .trainAttemptFail d dieGood hubGood wires => Sys2Proof.Machine.execTrainAttemptFail d dieGood hubGood wires s
  | .linkTrainComplete d dieGood hubGood wires => Sys2Proof.Machine.execLinkTrainComplete d dieGood hubGood wires s
  | .parityError d dir b wrong edge hits => Sys2Proof.Machine.execParityError d dir b wrong edge hits s
  | .bundleDrop d dir b => Sys2Proof.Machine.execBundleDrop d dir b s
  | .bundleRestripe d dir b => Sys2Proof.Machine.execBundleRestripe d dir b s
  | .dieFence d c => Sys2Proof.Machine.execDieFence d c s
  | .linkRejoinComplete d => Sys2Proof.Machine.execLinkRejoinComplete d s
  | .d2dFence d => Sys2Proof.Machine.execD2dFence d s
  | .d2dRejoin d => Sys2Proof.Machine.execD2dRejoin d s
  | .d2dRetrain d => Sys2Proof.Machine.execD2dRetrain d s
  | .d2dHold d on => Sys2Proof.Machine.execD2dHold d on s
  | .invAll d => Sys2Proof.Machine.execInvAll d s
  | .invPart d k => Sys2Proof.Machine.execInvPart d k s
  | .rcEnable d v => Sys2Proof.Machine.execRcEnable d v s
  | .load q => Sys2Proof.Machine.execLoad q s
  | .store q => Sys2Proof.Machine.execStore q s
  | .atomic q => Sys2Proof.Machine.execAtomic q s
  | .write q => Sys2Proof.Machine.execWrite q s
  | .reduce q => Sys2Proof.Machine.execReduce q s
  | .gfxor q => Sys2Proof.Machine.execGfxor q s
  | .readReq q => Sys2Proof.Machine.execReadReq q s
  | .topoChunk p q => Sys2Proof.Machine.execTopoChunk p q s
  | .reply q => Sys2Proof.Machine.execReply q s
  | .refusal q => Sys2Proof.Machine.execRefusal q s
  | .ack q => Sys2Proof.Machine.execAck q s
  | .readData q => Sys2Proof.Machine.execReadData q s
  | .remoteAccessTimeout n id => Sys2Proof.Machine.execRemoteAccessTimeout n id s
  | .retransmitTimeout eid seq => Sys2Proof.Machine.execRetransmitTimeout eid seq s
  | .copyTimeout eid seq => Sys2Proof.Machine.execCopyTimeout eid seq s
  | .replyRecordExpiry eid seq => Sys2Proof.Machine.execReplyRecordExpiry eid seq s
  | .recordWaitPerform eid => Sys2Proof.Machine.execRecordWaitPerform eid s
  | .ackTimer eid => Sys2Proof.Machine.execAckTimer eid s
  | .fenceComplete n => Sys2Proof.Machine.execFenceComplete n s
  | .fenceTimeout n => Sys2Proof.Machine.execFenceTimeout n s
  | .copyEngineAdmit d n => Sys2Proof.Machine.execCopyEngineAdmit d n s
  | .copyPacketSend d id => Sys2Proof.Machine.execCopyPacketSend d id s
  | .copyDescriptorComplete d id => Sys2Proof.Machine.execCopyDescriptorComplete d id s
  | .teardownAtT k => Sys2Proof.Machine.execTeardownAtT k s
  | .dataFrame p lane f => Sys2Proof.Machine.execDataFrame p lane f s
  | .frameInject k bad => Sys2Proof.Machine.execFrameInject k bad s
  | .dynamicAdmit k => Sys2Proof.Machine.execDynamicAdmit k s
  | .scheduledFrameSend p bad => Sys2Proof.Machine.execScheduledFrameSend p bad s
  | .idle p lane f => Sys2Proof.Machine.execIdle p lane f s
  | .idleSend p lane => Sys2Proof.Machine.execIdleSend p lane s
  | .nak p lane f bad => Sys2Proof.Machine.execNak p lane f bad s
  | .reorderGapTimeout p => Sys2Proof.Machine.execReorderGapTimeout p s
  | .laneSilence p lane => Sys2Proof.Machine.execLaneSilence p lane s
  | .portLost p => Sys2Proof.Machine.execPortLost p s
  | .detourApply p => Sys2Proof.Machine.execDetourApply p s
  | .belayReinject p bad => Sys2Proof.Machine.execBelayReinject p bad s
  | .detourRelease p => Sys2Proof.Machine.execDetourRelease p s
  | .pitchBoundary => Sys2Proof.Machine.execPitchBoundary s
  | .telemetryMapClose => Sys2Proof.Machine.execTelemetryMapClose s
  | .holdPort p => Sys2Proof.Machine.execHoldPort p s
  | .releasePort p => Sys2Proof.Machine.execReleasePort p s
  | .telDataRead => Sys2Proof.Machine.execTelDataRead s
  | .ident pos l f => Sys2Proof.Machine.execIdent pos l f s
  | .laneDrop p l f => Sys2Proof.Machine.execLaneDrop p l f s
  | .laneAdd p l f => Sys2Proof.Machine.execLaneAdd p l f s
  | .laneAck p l f => Sys2Proof.Machine.execLaneAck p l f s
  | .bar pos l f => Sys2Proof.Machine.execBar pos l f s
  | .barRepeat pos => Sys2Proof.Machine.execBarRepeat pos s
  | .laneChangeSwitch p dir lane => Sys2Proof.Machine.execLaneChangeSwitch p dir lane s
  | .laneChangeRetry p dir lane => Sys2Proof.Machine.execLaneChangeRetry p dir lane s
  | .laneFecFault p lane => Sys2Proof.Machine.execLaneFecFault p lane s
  | .ringLock pos lane dir => Sys2Proof.Machine.execRingLock pos lane dir s
  | .pilotLoopUpdate pos lane dir step errMHz => Sys2Proof.Machine.execPilotLoopUpdate pos lane dir step errMHz s
  | .toneCheck pos lane dir tone margin => Sys2Proof.Machine.execToneCheck pos lane dir tone margin s
  | .laneQualified pos lane dir corrected bad => Sys2Proof.Machine.execLaneQualified pos lane dir corrected bad s
  | .recalStart pos lane dir => Sys2Proof.Machine.execRecalStart pos lane dir s
  | .recalComplete pos lane dir ok offset => Sys2Proof.Machine.execRecalComplete pos lane dir ok offset s
  | .sourceFail c src => Sys2Proof.Machine.execSourceFail c src s
  | .spareVerified c k => Sys2Proof.Machine.execSpareVerified c k s
  | .cassetteFail c removed => Sys2Proof.Machine.execCassetteFail c removed s
  | .feedSwitchBack e k => Sys2Proof.Machine.execFeedSwitchBack e k s
  | .cassetteInsert c => Sys2Proof.Machine.execCassetteInsert c s
  | .cassetteVerifyEnd c ok => Sys2Proof.Machine.execCassetteVerifyEnd c ok s
  | .cassetteSafe c => Sys2Proof.Machine.execCassetteSafe c s
  | .portUp p => Sys2Proof.Machine.execPortUp p s
  | .portAttemptFail p => Sys2Proof.Machine.execPortAttemptFail p s
  | .portRetry p => Sys2Proof.Machine.execPortRetry p s
  | .recalNow => Sys2Proof.Machine.execRecalNow s
  | .retire => Sys2Proof.Machine.execRetire s
  | .restore => Sys2Proof.Machine.execRestore s
  | .sectionIncomplete image sec => Sys2Proof.Machine.execSectionIncomplete image sec s
  | .sectionActivate => Sys2Proof.Machine.execSectionActivate s
  | .cancel t => Sys2Proof.Machine.execCancel t s
  | .activateNow t => Sys2Proof.Machine.execActivateNow t s
  | .imageStoreWrite => Sys2Proof.Machine.execImageStoreWrite s
  | .ping p m => Sys2Proof.Machine.execPing p m s
  | .uafadaRead p m => Sys2Proof.Machine.execUafadaRead p m s
  | .uafadaWrite p m => Sys2Proof.Machine.execUafadaWrite p m s
  | .image p m => Sys2Proof.Machine.execImage p m s
  | .teardown p m => Sys2Proof.Machine.execTeardown p m s
  | .eventAck p m => Sys2Proof.Machine.execEventAck p m s
  | .quote p m => Sys2Proof.Machine.execQuote p m s
  | .openSession p m => Sys2Proof.Machine.execOpenSession p m s
  | .closeSession p m => Sys2Proof.Machine.execCloseSession p m s
  | .eventDatagramSend p => Sys2Proof.Machine.execEventDatagramSend p s
  | .eventResend seq => Sys2Proof.Machine.execEventResend seq s
  | .replyCacheExpiry p => Sys2Proof.Machine.execReplyCacheExpiry p s
  | .sessionIdleTimeout num => Sys2Proof.Machine.execSessionIdleTimeout num s
  | .ethNeighborReply p r => Sys2Proof.Machine.execEthNeighborReply p r s
  | .rdmaWrite n r => Sys2Proof.Machine.execRdmaWrite n r s
  | .rdmaReadRequest n r => Sys2Proof.Machine.execRdmaReadRequest n r s
  | .rdmaReadResponse n r => Sys2Proof.Machine.execRdmaReadResponse n r s
  | .acknowledge n psn code => Sys2Proof.Machine.execAcknowledge n psn code s
  | .cnp n => Sys2Proof.Machine.execCnp n s
  | .rdmaUnsupportedOpcode n psn => Sys2Proof.Machine.execRdmaUnsupportedOpcode n psn s
  | .rdmaLocalTimeout n => Sys2Proof.Machine.execRdmaLocalTimeout n s
  | .rdmaRateRaise n => Sys2Proof.Machine.execRdmaRateRaise n s
  | .qpselWrite v => Sys2Proof.Machine.execQpselWrite v s
  | .qpCommit v => Sys2Proof.Machine.execQpCommit v s
  | .qpReset v => Sys2Proof.Machine.execQpReset v s
  | .sensorSample r => Sys2Proof.Machine.execSensorSample r s
  | .thermalCeilingRise d => Sys2Proof.Machine.execThermalCeilingRise d s
  | .powerCeilingStep => Sys2Proof.Machine.execPowerCeilingStep s
  | .opPointStep d => Sys2Proof.Machine.execOpPointStep d s
  | .thermalTrip k => Sys2Proof.Machine.execThermalTrip k s
  | .stackLimitRelease d k => Sys2Proof.Machine.execStackLimitRelease d k s
  | .restartQualified => Sys2Proof.Machine.execRestartQualified s
  | .thermRestart => Sys2Proof.Machine.execThermRestart s
  | .nvmWindowOpen fuse => Sys2Proof.Machine.execNvmWindowOpen fuse s
  | .probeRoundStart n => Sys2Proof.Machine.execProbeRoundStart n s
  | .probeHoldExpiry n j => Sys2Proof.Machine.execProbeHoldExpiry n j s
  | .probeStart n j => Sys2Proof.Machine.execProbeStart n j s
  | .probeComplete n j crc => Sys2Proof.Machine.execProbeComplete n j crc s
  | .stragglerPeriodEnd => Sys2Proof.Machine.execStragglerPeriodEnd s
  | .clrFaults n => Sys2Proof.Machine.execClrFaults n s
  | .probeNow n => Sys2Proof.Machine.execProbeNow n s
  | .fuseWrite => Sys2Proof.Machine.execFuseWrite s
  | .closeAll => Sys2Proof.Machine.execCloseAll s
  | .edataRead => Sys2Proof.Machine.execEdataRead s
  | .cairnRecordWrite => Sys2Proof.Machine.execCairnRecordWrite s
  | .cairnWin3Read => Sys2Proof.Machine.execCairnWin3Read s
  | .ringClearSlot => Sys2Proof.Machine.execRingClearSlot s
  | .bladeMate => Sys2Proof.Machine.execBladeMate s
  | .modulePowerUp => Sys2Proof.Machine.execModulePowerUp s
  | .selftestComplete d r => Sys2Proof.Machine.execSelftestComplete d r s
  | .inputLoss c => Sys2Proof.Machine.execInputLoss c s
  | .inputRestore => Sys2Proof.Machine.execInputRestore s
  | .managementDomainDown => Sys2Proof.Machine.execManagementDomainDown s
  | .hubReset => Sys2Proof.Machine.execHubReset s
  | .powerDown => Sys2Proof.Machine.execPowerDown s
  | .bivouac memOff resume => Sys2Proof.Machine.execBivouac memOff resume s
  | .resume => Sys2Proof.Machine.execResume s
  | .cassRemove c => Sys2Proof.Machine.execCassRemove c s
  | .fwDataWrite v => Sys2Proof.Machine.execFwDataWrite v s
  | .fwCancel => Sys2Proof.Machine.execFwCancel s
  | .fwSwitch => Sys2Proof.Machine.execFwSwitch s
  | .fwVerify => Sys2Proof.Machine.execFwVerify s
  | .fwErase => Sys2Proof.Machine.execFwErase s
  | .fwEraseComplete => Sys2Proof.Machine.execFwEraseComplete s
  | .firmwareSwitch => Sys2Proof.Machine.execFirmwareSwitch s
  | .newFirmwareStart => Sys2Proof.Machine.execNewFirmwareStart s
  | .readClear a => Sys2Proof.Machine.execReadClear a s
  | .registerWrite w a v => Sys2Proof.Machine.execRegisterWrite w a v s
  | .ethLinkChange p up => Sys2Proof.Machine.execEthLinkChange p up s
  | .ptpTransmitterNotHeard e => Sys2Proof.Machine.execPtpTransmitterNotHeard e s
  | .uafadaUndefinedType p m => Sys2Proof.Machine.execUafadaUndefinedType p m s
  | .ethFrameDiscard p => Sys2Proof.Machine.execEthFrameDiscard p s

end Sys2Proof.Machine
end

