-- ==== Sys2Proof/WellFormed.lean ====
section
/-! DEFINITION. The commands that name only units the module has (R14, R204, R286, R349, R352).  A command outside this form is the one
fault of the model. -/
namespace Sys2Proof

/-- Lanes of a fabric port: eight in D0, four in D1 and D2 (R286). -/
def portLanes (p : Nat) : Nat := if p < 31 then 8 else 4

/-- A ring: a position 0 to 95 and one of its lanes (R286). -/
def ringExists (q l : Nat) : Bool := decide (q < 96 ∧ l < if q < 32 then 8 else 4)

/-- An address of the control space: 8-byte aligned, below 0x400_0000 (R340, R352). -/
def controlAddr (a : Nat) : Bool := decide (a % 8 = 0 ∧ a < 0x4000000)

/-- Every unit that a command names exists. -/
def Instr.wf : Instr → Bool
  | .timeFrameSend p | .parentFramesStale p | .parentRejectExpiry p | .topoChunk p _
  | .scheduledFrameSend p _ | .reorderGapTimeout p | .portLost p | .detourApply p | .belayReinject p _ | .detourRelease p
  | .holdPort p | .releasePort p | .portUp p | .portAttemptFail p
  | .portRetry p => decide (p < 93)
  | .ptpMessage e _ | .ptpTransmitterNotHeard e => decide (e < 2)
  | .ptpLockLost | .holdoverTimeout | .acquireTimeout | .oscillatorFault _ | .slewBackEnd | .scheduledTrafficResume | .load _
  | .store _ | .atomic _ | .write _ | .reduce _ | .gfxor _ | .readReq _ | .reply _ | .refusal _ | .ack _ | .readData _
  | .retransmitTimeout _ _ | .copyTimeout _ _ | .replyRecordExpiry _ _ | .recordWaitPerform _ | .ackTimer _ | .pitchBoundary
  | .telemetryMapClose | .telDataRead | .recalNow | .retire | .restore | .sectionIncomplete _ _ | .sectionActivate | .cancel _
  | .activateNow _ | .imageStoreWrite | .eventResend _ | .sessionIdleTimeout _ | .qpselWrite _ | .qpCommit _ | .qpReset _
  | .sensorSample _ | .powerCeilingStep | .restartQualified | .thermRestart | .nvmWindowOpen _ | .stragglerPeriodEnd
  | .fuseWrite | .closeAll | .edataRead | .cairnRecordWrite | .cairnWin3Read | .ringClearSlot | .bladeMate | .modulePowerUp
  | .inputLoss _ | .inputRestore | .managementDomainDown | .hubReset | .powerDown | .bivouac _ _ | .resume | .fwDataWrite _
  | .fwCancel | .fwSwitch | .fwVerify | .fwErase | .fwEraseComplete | .firmwareSwitch | .newFirmwareStart => true
  | .waitTimeResume n | .nop n _ | .add n _ | .sub n _ | .mul n _ | .andS n _ | .orS n _ | .xorS n _ | .shl n _ | .shr n _
  | .sra n _ | .minS n _ | .maxS n _ | .minu n _ | .maxu n _ | .addi n _ | .andi n _ | .ori n _ | .shli n _ | .shri n _
  | .srai n _ | .li n _ | .lih n _ | .cmpeq n _ | .cmpne n _ | .cmplt n _ | .cmpltu n _ | .cmple n _ | .cmpleu n _ | .pand n _
  | .por n _ | .pxor n _ | .pandn n _ | .pcnt n _ | .pfrom n _ | .pto n _ | .rdct n _ | .rdflags n _ | .clrflags n _ | .rdid n _
  | .branchB n _ | .bl n _ | .br n _ | .blr n _ | .loop n _ | .ldB n _ | .ldBu n _ | .ldH n _ | .ldHu n _ | .ldW n _ | .ldWu n _
  | .ldD n _ | .stB n _ | .stH n _ | .stW n _ | .stD n _ | .vld n _ | .vst n _ | .pld n _ | .pst n _ | .rldW n _ | .rldD n _
  | .rstW n _ | .rstD n _ | .raddI32 n _ | .raddI64 n _ | .raddF32 n _ | .raddBf16x2 n _ | .rswapW n _ | .rswapD n _
  | .rcasW n _ | .rcasD n _ | .rminI32 n _ | .rminI64 n _ | .rmaxI32 n _ | .rmaxI64 n _ | .randW n _ | .randD n _ | .rorW n _
  | .rorD n _ | .rxorW n _ | .rxorD n _ | .vadd n _ | .vsub n _ | .vmul n _ | .vfma n _ | .vfnma n _ | .vmin n _ | .vmax n _
  | .vabs n _ | .vneg n _ | .vdiv n _ | .vsqrt n _ | .vrsqrt n _ | .vexp n _ | .vlog n _ | .vrsum n _ | .vrmax n _ | .vcmpeq n _
  | .vcmplt n _ | .vcmple n _ | .vcmpun n _ | .vsel n _ | .vmov n _ | .vbcast n _ | .vextr n _ | .vand n _ | .vor n _
  | .vxor n _ | .vshl n _ | .vshr n _ | .viota n _ | .cvtBf n _ | .cvtFblo n _ | .cvtFbhi n _ | .cvtIf n _ | .cvtFi n _
  | .rint n _ | .pack n _ | .unpack n _ | .tile n _ | .twarm n _ | .gather n _ | .scatter n _ | .scatadd n _ | .rgather n _
  | .rscatter n _ | .rscatadd n _ | .route n _ | .copy n _ | .waitt n _ | .waitc n _ | .setcnt n _ | .rdcnt n _ | .fence n _
  | .fenceEid n _ | .acq n _ | .rel n _ | .halt n _ | .upd n _ | .updrow n _ | .rootreq n _ | .stepend n _ | .coreStart n
  | .counterWaitResume n | .coreHalted n | .gatherScatterComplete n | .routeStart n | .routeLeave n | .routeComplete n
  | .coreResetHold n _ | .coreFence n _ | .coreRun n _ | .swdataAccess n _ | .remoteAccessTimeout n _ | .fenceComplete n
  | .fenceTimeout n | .probeRoundStart n | .clrFaults n | .probeNow n => decide (n < 2560)
  | .tileAccept n a => decide (n < 2560 ∧ a < 16)
  | .tileStart n j | .stationarySwap n j | .tileWritebackEnd n j _ _ | .levelUpdate n j | .twarmEnd n j | .probeHoldExpiry n j
  | .probeStart n j | .probeComplete n j _ => decide (n < 2560 ∧ j < 17)
  | .updateCallStart d _ | .updateCallComplete d _ | .rootRefreshStart d _ | .rootRefreshComplete d _ | .stependSwap d _
  | .updGsel d _ | .updCommit d _ | .updClrStat d _ | .regulatorCreditTick d | .zeroMapFill d _ _ | .linkTrainStart d
  | .trainAttemptFail d _ _ _ | .linkTrainComplete d _ _ _ | .dieFence d _ | .linkRejoinComplete d | .d2dFence d | .d2dRejoin d
  | .d2dRetrain d | .d2dHold d _ | .invAll d | .rcEnable d _ | .copyPacketSend d _ | .copyDescriptorComplete d _
  | .thermalCeilingRise d | .opPointStep d => decide (d < 4)
  | .memoryRequest d r => decide (d < 4 ∧ r.part < 16 ∧ r.req < 7)
  | .memoryAdmit d k | .invPart d k => decide (d < 4 ∧ k < 16)
  | .channelServe d c _ _ | .scrubRead d c _ => decide (d < 4 ∧ c < 128)
  | .refreshCommand d c b => decide (d < 4 ∧ c < 128 ∧ b < 16)
  | .refreshIntervalRelax d k | .memoryInitComplete d k | .zrangeEnable d k _ | .zrangeDisable d k _ | .zrangeFlushComplete d k
  | .stackLimitRelease d k => decide (d < 4 ∧ k < 8)
  | .parityError d _ b _ _ _ | .bundleDrop d _ b | .bundleRestripe d _ b => decide (d < 4 ∧ b < 96)
  | .copyEngineAdmit d n => decide (d < 4 ∧ n < 2560 ∧ n / 640 = d)
  | .teardownAtT k => decide (k < 16)
  | .timeFrameReceive p lane _ _ | .laneDrop p lane _ | .laneAdd p lane _ | .laneAck p lane _ | .dataFrame p lane _ | .idle p lane _
  | .idleSend p lane | .nak p lane _ _ | .laneSilence p lane | .laneChangeSwitch p _ lane
  | .laneChangeRetry p _ lane | .laneFecFault p lane => decide (p < 93 ∧ lane < portLanes p)
  | .frameInject i _ => decide (93 ≤ i ∧ i < 100)
  | .dynamicAdmit k => decide (k < 17)
  | .ident pos lane _ | .bar pos lane _ => ringExists pos lane
  | .barRepeat pos => decide (pos < 96)
  | .ringLock pos lane _ | .pilotLoopUpdate pos lane _ _ _ | .toneCheck pos lane _ _ _ | .laneQualified pos lane _ _ _
  | .recalStart pos lane _ | .recalComplete pos lane _ _ _ => ringExists pos lane
  | .sourceFail c src => decide (c < 4 ∧ src < 10)
  | .spareVerified c i => decide (c < 4 ∧ i < 2)
  | .cassetteFail c _ | .cassetteInsert c | .cassetteVerifyEnd c _ | .cassetteSafe c | .cassRemove c => decide (c < 4)
  | .feedSwitchBack e k => decide (e < 16 ∧ k < 8)
  | .ping p _ | .uafadaRead p _ | .uafadaWrite p _ | .image p _ | .teardown p _ | .eventAck p _ | .quote p _ | .openSession p _
  | .closeSession p _ | .eventDatagramSend p | .replyCacheExpiry p | .ethNeighborReply p _ | .ethLinkChange p _
  | .uafadaUndefinedType p _ | .ethFrameDiscard p => decide (p < 2)
  | .rdmaWrite n _ | .rdmaReadRequest n _ | .rdmaReadResponse n _ | .acknowledge n _ _ | .cnp n | .rdmaUnsupportedOpcode n _
  | .rdmaLocalTimeout n | .rdmaRateRaise n => decide (n < 256)
  | .thermalTrip i => decide (464 ≤ i ∧ i < 480)
  | .selftestComplete d r => decide (d < 4) && (r.badPos.all fun e => e.1 / 640 == d) && r.badCores.all fun n => n / 640 == d
  | .readClear a | .registerWrite _ a _ => controlAddr a

end Sys2Proof
end

