-- ==== Sys2Proof/Safety.lean ====
section
/-! DEFINITION. What the statements about the machine speak of: the canonical form of the memories, a core that may execute an
instruction, and what an instruction leaves as it was. -/
namespace Sys2Proof.Machine
open Sys2Proof

/-- Every byte memory of the machine has its canonical form: module memory, the core stores, the two firmware banks. -/
def State.memoriesOk (s : State) : Bool :=
  Memory.wf s.mem.bytes && (s.core.all fun e => Memory.wf e.2.store) && Memory.wf s.svc.bank0 && Memory.wf s.svc.bank1

/-- Core n exists, is RUNNING with nothing that holds issue, and its program counter lies in the store (R96, R97, R124). -/
abbrev State.ready (s : State) (n : Nat) : Prop := n < 2560 ∧ (s.coreAt n).mayIssue = true ∧ (s.coreAt n).pc < storeSize

/-- A format R instruction that issues and executes: no code 0x01 cause, no interlock, bit 0 of its guard word set (R123, R124,
R127). -/
abbrev State.runsR (s : State) (n : Nat) (f : RF) (u : RUse) : Prop :=
  s.ready n ∧ RF.legal f u = true ∧ RF.stalls f u (s.coreAt n) = false ∧ bit ((s.coreAt n).guardWord f.gneg f.guard) 0 = true

/-- A lane-wise format R instruction that issues with at least one active lane (R123). -/
abbrev State.runsV (s : State) (n : Nat) (f : RF) (u : RUse) : Prop :=
  s.ready n ∧ RF.legal f u = true ∧ RF.stalls f u (s.coreAt n) = false ∧ (s.coreAt n).guardWord f.gneg f.guard ≠ 0

/-- A format I instruction that issues and executes; `imm` is its rule for the immediate. -/
abbrev State.runsI (s : State) (n : Nat) (f : IF) (d a : Use) (imm : Bool) : Prop :=
  s.ready n ∧ IF.legal f d a imm = true ∧ IF.stalls f d a (s.coreAt n) = false
    ∧ bit ((s.coreAt n).guardWord f.gneg f.guard) 0 = true

/-- A lane-wise VLD or VST that issues with at least one active lane (R123). -/
abbrev State.runsIV (s : State) (n : Nat) (f : IF) : Prop :=
  s.ready n ∧ IF.legal f .v .s true = true ∧ IF.stalls f .v .s (s.coreAt n) = false
    ∧ (s.coreAt n).guardWord f.gneg f.guard ≠ 0

/-- A format C instruction that issues and executes. -/
abbrev State.runsC (s : State) (n : Nat) (f : CF) (legal : Bool) : Prop :=
  s.ready n ∧ legal = true ∧ CF.stalls f (s.coreAt n) = false ∧ bit ((s.coreAt n).guardWord f.gneg f.guard) 0 = true

/-- Only core n differs between two states. -/
def onlyCore (n : Nat) (s t : State) : Prop := { t with core := s.core } = s ∧ ∀ m, m ≠ n → t.coreAt m = s.coreAt m

/-- Only core n and the register at address a differ. -/
def onlyCoreReg (n a : Nat) (s t : State) : Prop :=
  { t with core := s.core, regs := s.regs, edge := s.edge } = s ∧ (∀ m, m ≠ n → t.coreAt m = s.coreAt m) ∧ ∀ b, b ≠ a → t.reg b = s.reg b

/-- Of a core, only the program counter, the instruction buffer and the scalar registers differ. -/
def sameButScalars (c d : Core) : Prop := { d with pc := c.pc, ibuf := c.ibuf, s := c.s } = c
/-- Of a core, only the program counter, the instruction buffer and the predicates differ. -/
def sameButPredicates (c d : Core) : Prop := { d with pc := c.pc, ibuf := c.ibuf, p := c.p } = c
/-- Of a core, only the program counter, the instruction buffer and the vector registers differ. -/
def sameButVectors (c d : Core) : Prop := { d with pc := c.pc, ibuf := c.ibuf, v := c.v } = c
/-- Of a core, only the program counter, the instruction buffer and the store differ. -/
def sameButStore (c d : Core) : Prop := { d with pc := c.pc, ibuf := c.ibuf, store := c.store } = c

/-- The value that a read of scalar register d gives after v was written to it: s0 reads as zero (R120). -/
def asScalar (d : BitVec 5) (v : W64) : W64 := if d = 0 then 0 else v
/-- The value that a read of predicate d gives after v was written to it: p0 reads as all ones (R120). -/
def asPredicate (d : BitVec 5) (v : W64) : W64 := if d = 0 then BitVec.allOnes 64 else v

/-- The instruction wrote v to scalar register d of core n and went on to the next one: no other register, no byte of the store
and nothing outside the core changed. -/
def wroteScalar (n : Nat) (d : BitVec 5) (v : W64) (s t : State) : Prop :=
  (t.coreAt n).sreg d.toNat = asScalar d v ∧ (∀ r, r ≠ d.toNat → (t.coreAt n).sreg r = (s.coreAt n).sreg r)
    ∧ (t.coreAt n).pc = (s.coreAt n).pc + 8 ∧ sameButScalars (s.coreAt n) (t.coreAt n) ∧ onlyCore n s t

/-- The instruction wrote v to predicate d of core n and went on to the next one, and changed nothing else. -/
def wrotePredicate (n : Nat) (d : BitVec 5) (v : W64) (s t : State) : Prop :=
  (t.coreAt n).preg d.toNat = asPredicate d v ∧ (∀ r, r ≠ d.toNat → (t.coreAt n).preg r = (s.coreAt n).preg r)
    ∧ (t.coreAt n).pc = (s.coreAt n).pc + 8 ∧ sameButPredicates (s.coreAt n) (t.coreAt n) ∧ onlyCore n s t

/-- The instruction wrote v to vector register d of core n and went on to the next one, and changed nothing else. -/
def wroteVector (n : Nat) (d : BitVec 5) (v : Vec) (s t : State) : Prop :=
  (t.coreAt n).vreg d.toNat = v ∧ (∀ r, r ≠ d.toNat → (t.coreAt n).vreg r = (s.coreAt n).vreg r)
    ∧ (t.coreAt n).pc = (s.coreAt n).pc + 8 ∧ sameButVectors (s.coreAt n) (t.coreAt n) ∧ onlyCore n s t

/-- The instruction wrote lanes to vector register d of core n (an inactive lane keeps its value), went on to the next one, and
changed nothing else. -/
def wroteLanes (n : Nat) (d : BitVec 5) (g : W64) (r : Nat → W32) (s t : State) : Prop :=
  (∀ i, i < 64 → lane ((t.coreAt n).vreg d.toNat) i = if bit g i then r i else lane ((s.coreAt n).vreg d.toNat) i)
    ∧ (∀ k, k ≠ d.toNat → (t.coreAt n).vreg k = (s.coreAt n).vreg k)
    ∧ (t.coreAt n).pc = (s.coreAt n).pc + 8 ∧ sameButVectors (s.coreAt n) (t.coreAt n) ∧ onlyCore n s t

/-- The same with flags added to CORE.FLAGS (R103). -/
def wroteLanesFlags (n : Nat) (d : BitVec 5) (g : W64) (r : Nat → W32) (flags : W64) (s t : State) : Prop :=
  (∀ i, i < 64 → lane ((t.coreAt n).vreg d.toNat) i = if bit g i then r i else lane ((s.coreAt n).vreg d.toNat) i)
    ∧ (∀ k, k ≠ d.toNat → (t.coreAt n).vreg k = (s.coreAt n).vreg k)
    ∧ t.reg (A.coreFlags n) = s.reg (A.coreFlags n) ||| flags ∧ (t.coreAt n).pc = (s.coreAt n).pc + 8
    ∧ sameButVectors (s.coreAt n) (t.coreAt n) ∧ onlyCoreReg n (A.coreFlags n) s t

/-- The instruction wrote v to scalar register d, added flags to CORE.FLAGS, went on, and changed nothing else. -/
def wroteScalarFlags (n : Nat) (d : BitVec 5) (v flags : W64) (s t : State) : Prop :=
  (t.coreAt n).sreg d.toNat = asScalar d v ∧ (∀ r, r ≠ d.toNat → (t.coreAt n).sreg r = (s.coreAt n).sreg r)
    ∧ t.reg (A.coreFlags n) = s.reg (A.coreFlags n) ||| flags ∧ (t.coreAt n).pc = (s.coreAt n).pc + 8
    ∧ sameButScalars (s.coreAt n) (t.coreAt n) ∧ onlyCoreReg n (A.coreFlags n) s t

/-- The instruction wrote v to predicate d, added flags to CORE.FLAGS, went on, and changed nothing else. -/
def wrotePredicateFlags (n : Nat) (d : BitVec 5) (v flags : W64) (s t : State) : Prop :=
  (t.coreAt n).preg d.toNat = asPredicate d v ∧ (∀ r, r ≠ d.toNat → (t.coreAt n).preg r = (s.coreAt n).preg r)
    ∧ t.reg (A.coreFlags n) = s.reg (A.coreFlags n) ||| flags ∧ (t.coreAt n).pc = (s.coreAt n).pc + 8
    ∧ sameButPredicates (s.coreAt n) (t.coreAt n) ∧ onlyCoreReg n (A.coreFlags n) s t

/-- Bytes [a, a + w) of core n's store now hold the low bytes of v, least significant first (R5), every other byte is as before,
and the core went on to the next instruction with nothing else changed. -/
def wroteStore (n a w v : Nat) (s t : State) : Prop :=
  (∀ i, i < w → Memory.byte (t.coreAt n).store (a + i) = BitVec.ofNat 8 (v / 256 ^ i))
    ∧ (∀ b, (b < a ∨ a + w ≤ b) → Memory.byte (t.coreAt n).store b = Memory.byte (s.coreAt n).store b)
    ∧ (t.coreAt n).pc = (s.coreAt n).pc + 8 ∧ sameButStore (s.coreAt n) (t.coreAt n) ∧ onlyCore n s t

/-- Core n took an exception at its program counter: FAULTED, with cause and address in CORE.FAULT, and its registers, predicates,
vectors and store as they were (R98, R126). -/
def tookException (n : Nat) (cause : Cause) (s t : State) : Prop :=
  (t.coreAt n).st = .faulted ∧ t.reg (A.coreFault n) = BitVec.ofNat 64 (cause.code * 2 ^ 56 + (s.coreAt n).pc % 2 ^ 20)
    ∧ (t.coreAt n).s = (s.coreAt n).s ∧ (t.coreAt n).v = (s.coreAt n).v ∧ (t.coreAt n).p = (s.coreAt n).p
    ∧ (t.coreAt n).store = (s.coreAt n).store ∧ (t.coreAt n).pc = (s.coreAt n).pc

/-- A command completes with a next state of which P holds. -/
def completes (i : Instr) (s : State) (P : State → Prop) : Prop := ∃ t, exec i s = .next t ∧ P t

/-- A packet reaches this module's endpoint with its header check and reserved fields in order, and acknowledges nothing (R13,
R257, R258). -/
abbrev State.hears (s : State) (q : Packet) : Prop :=
  s.dom.hub = true ∧ s.isOwn q = true ∧ qIntact q = true ∧ qValid q = true ∧ qAckValid q = false

/-- A request that arrives in its pair's order, with none waiting behind it (R229). -/
abbrev State.inTurn (s : State) (q : Packet) : Prop :=
  s.hears q ∧ qSync q = false ∧ (s.dstAt (qSrc q)).expected = some (qSeq q) ∧ (s.dstAt (qSrc q)).waitRec = false
    ∧ Tab.find (s.dstAt (qSrc q)).reorder ((qSeq q + 1) % 2 ^ 24) = none

/-- A packet of the reply class left for another endpoint: its type, argument, destination, sequence and payload. -/
def sentAnswer (type arg dest seq : Nat) (payload : List Byte) (s t : State) : Prop :=
  ∃ r, t.hub.inject = s.hub.inject ++ [(97, r)] ∧ qType r = type ∧ qArg r = arg ∧ qDest r = dest ∧ qSeq r = seq ∧ r.payload = payload

/-- Port p with a position of the module, on a module with an EID: it can send training and identity frames (R287, R305). -/
abbrev State.placed (s : State) (p : Nat) : Prop := p < 93 ∧ s.posServing p < 96 ∧ s.topo.ownEid < 2 ^ 16

/-- A CONTROL frame of CTYPE 1 left on a lane of a position that port p uses: its SUB, LANE, DIR and CAUSE (R259, R305). -/
def leftControl (q p l sub lane : Nat) (dir : Bool) (cause : Nat) (s : State) (o : Out) : Prop :=
  ∃ f, o = .control p q l f ∧ cfIntact f = true ∧ cfValid f = true ∧ cfType f = 1 ∧ ctlSub f.body = sub ∧ ctlLogPort f.body = s.logPort q p
    ∧ ctlLane f.body = lane ∧ ctlDir f.body = dir ∧ ctlCause f.body = cause

/-- A lane message left on the lowest-numbered working lane of port p, where it has one (R298, R305). -/
def sentControl (p sub lane : Nat) (dir : Bool) (cause : Nat) (s t : State) : Prop :=
  (s.lowLane p = none → t.out = s.out)
    ∧ ∀ on, s.lowLane p = some on → ∃ o, t.out = o :: s.out ∧ leftControl (s.posServing p) p on sub lane dir cause s o

/-- A CONTROL frame that a trained port takes on one of its working lanes: no uncorrectable codeword, its CRC and its reserved fields
hold (R13, R259, R292). -/
abbrev State.takesCtl (s : State) (p l : Nat) (f : CtlFrame) (ctype : Nat) : Prop :=
  s.portUp p = true ∧ (s.portAt p).rxLanes.getLsbD l = true ∧ f.errs.any cwBad = false ∧ cfIntact f = true ∧ cfValid f = true ∧ cfType f = ctype

/-- The state in which a CONTROL frame's body is acted on: its codewords are counted, its lane is live, its FACK frees the belay buffer
(R260, R262, R292). -/
def State.afterCtl (s : State) (p l : Nat) (f : CtlFrame) : State :=
  ((s.countCodewords p l f.errs).laneGood p l).freeBelay p (cfAck f)

/-- Port p planned a change of one lane: it waits for its acknowledgement, and the peer has been told (R298). -/
def planned (p l : Nat) (dir add : Bool) (cause : Nat) (s t : State) : Prop :=
  t.opt.change = s.opt.change ++ [{
    port := p, dir := dir, lane := l, add := add, cause := cause, slot := s.switchSlot p, ours := true
    acked := false, retryAt := none, refused := false }]
    ∧ sentControl p (if add then 2 else 1) l dir (if add then 0 else cause) s t

/-- A Uafada request that its port performs: the port is on and takes its frame, no firmware switch runs, header, session, tag and number pass, no kept
reply answers it, fewer than 64 requests wait on the port, it is not denied, and its reserved fields are zero (R337 to R344, R398). -/
abbrev State.accepts (s : State) (p : Nat) (m : UMsg) : Prop :=
  p < 2 ∧ s.ethOn p = true ∧ s.frameFits p m = true ∧ s.svc.switching = none ∧ s.gate m = .pass ∧ s.keptReply p m = none
    ∧ (s.session (uSession m)).all (fun x => x.admits (uReqId m)) = true ∧ s.waitingOn p < 64 ∧ s.denied m = false ∧ uPlain m = true

/-- The state in which an accepted request is performed: counted, and its session used now (R343, R399). -/
def State.counted (s : State) (p : Nat) (m : UMsg) : State :=
  s.taken p m

/-- The last thing sent was the reply to a request: its status and body (R339). -/
def repliedWith (p : Nat) (m : UMsg) (status : Nat) (body : List W64) (t : State) : Prop :=
  ∃ r, t.out.head? = some (.reply p r) ∧ uType r = uType m ∧ uReply r = true ∧ fld r.w0 39 32 = status ∧ uReqId r = uReqId m ∧ r.body = body

/-- A request was performed, or refused with a status: beyond v only the kept replies, the session records and the reply sent
differ. -/
def concluded (p : Nat) (m : UMsg) (status : Nat) (body : List W64) (v t : State) : Prop :=
  repliedWith p m status body t ∧ { t with sec := v.sec, eth := v.eth, out := v.out } = v ∧ t.sec.keys = v.sec.keys
    ∧ t.eth.events = v.eth.events

end Sys2Proof.Machine
end

