-- ==== Sys2Proof/Certificates/Slice0/Obligations.lean ====
section
/-! DEFINITION. The statements for the provers. Each says of which rules of spec/ it speaks; what it rests on that is the model's own
choice is named with its log entry. -/
open Sys2Proof Sys2Proof.Machine

/-! ### The block -/

/-- One step runs the command at the front of the queue with the rest of the queue left to wait. The model's own choices in it:
log 1. -/
def Obligations.StepRunsFrontCommand : Prop :=
  ∀ (c : Instr) (rest : List Instr) (s : State), s.pending = c :: rest → step s = exec c { s with pending := rest }

/-- With no command waiting a step lets one local tick of 0.5 ns pass: the model's choice (log 2). In it a core that may issue and
whose program counter lies outside the store, or at a word of reserved class or opcode, takes PC_RANGE or ILLEGAL (R13, R126,
R127, R132; that this falls in such a step is the model's choice, log 115). The model's own choices in it: log 101. -/
def Obligations.EmptyQueueTicks : Prop :=
  ∀ s : State, s.pending = [] → (∃ t, step s = .next t ∧ t.clk = s.clk + 1)
    ∧ ∀ n c, s.core = [(n, c)] → c.mayIssue = true → s.svc.bivAt = none →
      let raises := fun (cause : Cause) => ∃ t, step s = .next t ∧ (t.coreAt n).st = .faulted ∧ (t.coreAt n).s = c.s
        ∧ t.reg (A.coreFault n) = BitVec.ofNat 64 (cause.code * 2 ^ 56 + c.pc % 2 ^ 20)
      (storeSize ≤ c.pc → raises .pcRange)
        ∧ (c.pc < storeSize → decodeCoreWord n c.fetchWord = none → raises .illegal)

/-- A command completes with a next state exactly when every unit it names exists (R14, R204, R286, R349, R352); else it stops
with the one fault of the model, and no command is refused. The model's own choices in it: log 28. -/
def Obligations.CommandsCompleteExactlyOnExistingUnits : Prop :=
  ∀ (i : Instr) (s : State),
    (i.wf = true → ∃ t, exec i s = .next t) ∧ (i.wf = false → exec i s = .fault .noSuchUnit)

/-- The memories have their canonical form after reset. -/
def Obligations.ResetMemoriesCanonical : Prop := State.reset.memoriesOk = true

/-- Every step keeps the canonical form of every memory: module memory, core stores, firmware banks. -/
def Obligations.StepKeepsMemoriesCanonical : Prop :=
  ∀ s t : State, s.memoriesOk = true → step s = .next t → t.memoriesOk = true

/-- What reset leaves, as the spec gives it: the management domain is up and the other domains are down (R354, R418), the time
state is FREE with no root (R36, R44), every core is in RESET with FLAGS, FAULT and its counters zero (R97, R118), every link is
DOWN (R220), every port DOWN with PEER_EID 0xFFFF (R285), no session is open and nothing waits. The model's own choices in it: log
1. -/
def Obligations.ResetState : Prop :=
  let s := State.reset
  s.dom = { mgmt := true, hub := false, mem := 0, core := 0 } ∧ s.time.st = .free ∧ s.time.rootEid = 0xFFFF
    ∧ (∀ n, (s.coreAt n).st = .reset ∧ s.reg (A.coreFlags n) = 0 ∧ s.reg (A.coreFault n) = 0 ∧ ∀ k, (s.coreAt n).counter k = 0)
    ∧ (∀ d, (s.linkAt d).st = .down) ∧ (∀ p, (s.portAt p).st = .down ∧ (s.portAt p).peerEid = 0xFFFF)
    ∧ s.sec.sessions = [] ∧ s.pending = []

/-! ### Words of the core's instructions -/

/-- Decoding the word of a core instruction gives that instruction back, every field of it (R121, R122, R128). The model's own
choices in it: log 1. -/
def Obligations.CoreWordsRoundTrip : Prop :=
  ∀ (i : Instr) (n : Nat) (w : W64), encodeCoreWord i = some (n, w) → decodeCoreWord n w = some i

/-- A word of 64 bits is at most one instruction's, so no bit of it is dropped (R121, R128); CLASS 11 to 15 encodes no instruction
(R128), and words written out from the encoding tables stand for their instructions: the worked encoding of R122, an ADD, an LI
with −1, a WAITC (R129, R147). -/
def Obligations.CoreWordsHaveOneMeaning : Prop :=
  (∀ (n : Nat) (w : W64) (i : Instr), decodeCoreWord n w = some i → encodeCoreWord i = some (n, w))
  ∧ (∀ (n : Nat) (w : W64), 11 ≤ (w.extractLsb' 60 4).toNat → decodeCoreWord n w = none)
  ∧ (decodeCoreWord 5 0x30C86110C0000000
        = some (.vfma 5 { gneg := false, guard := 2, d := 3, a := 1, b := 2, c := 3, fmt := 0, rm := 0, x := 0, idx := 0
                          half := false, lm1 := 0, res := 0 })
      ∧ decodeCoreWord 0 0x0040621800000000
        = some (.add 0 { gneg := false, guard := 0, d := 3, a := 2, b := 3, c := 0, fmt := 0, rm := 0, x := 0, idx := 0
                         half := false, lm1 := 0, res := 0 })
      ∧ decodeCoreWord 0 0x058020FFFFFFFFFF = some (.li 0 { gneg := false, guard := 0, d := 1, a := 0, imm := -1 })
      ∧ decodeCoreWord 0 0x9040620900000005
        = some (.waitc 0 { gneg := false, guard := 0, cnt := 3, a := 2, b := 1, n := 4, imm := 5 }))

/-! ### Scalar, predicate and branch instructions -/

/-- Scalar results (R120, R129): ADD, SUB, MUL, AND, OR, XOR, SHL, SHR, SRA, MIN, MAX, MINU and MAXU write sD and nothing else but
the program counter, and so do ADDI, ANDI, ORI, SHLI, SHRI, SRAI, LI and LIH with their immediates; a write to s0 is discarded. -/
def Obligations.ScalarArithmeticAndImmediates : Prop :=
  (∀ (n : Nat) (f : RF) (s : State), s.runsR n f { d := .s, a := .s, b := .s } →
      let x := (s.coreAt n).sreg f.a.toNat
      let y := (s.coreAt n).sreg f.b.toNat
      let gives := fun (i : Instr) (v : W64) => completes i s (wroteScalar n f.d v s)
      gives (.add n f) (x + y) ∧ gives (.sub n f) (x - y) ∧ gives (.mul n f) (BitVec.ofNat 64 (x.toNat * y.toNat))
        ∧ gives (.andS n f) (x &&& y) ∧ gives (.orS n f) (x ||| y) ∧ gives (.xorS n f) (x ^^^ y)
        ∧ gives (.shl n f) (x <<< (y.toNat % 64)) ∧ gives (.shr n f) (x >>> (y.toNat % 64))
        ∧ gives (.sra n f) (x.sshiftRight (y.toNat % 64))
        ∧ gives (.minS n f) (if x.toInt ≤ y.toInt then x else y) ∧ gives (.maxS n f) (if x.toInt ≤ y.toInt then y else x)
        ∧ gives (.minu n f) (if x.toNat ≤ y.toNat then x else y) ∧ gives (.maxu n f) (if x.toNat ≤ y.toNat then y else x))
  ∧ (∀ (n : Nat) (f : IF) (s : State),
      let x := (s.coreAt n).sreg f.a.toNat
      let gives := fun (i : Instr) (v : W64) => completes i s (wroteScalar n f.d v s)
      (s.runsI n f .s .s true → gives (.addi n f) (x + BitVec.ofInt 64 f.imm.toInt)
        ∧ gives (.andi n f) (x &&& BitVec.ofInt 64 f.imm.toInt) ∧ gives (.ori n f) (x ||| BitVec.ofInt 64 f.imm.toInt))
      ∧ (s.runsI n f .s .s (decide (f.imm.toNat < 64)) → gives (.shli n f) (x <<< f.imm.toNat)
        ∧ gives (.shri n f) (x >>> f.imm.toNat) ∧ gives (.srai n f) (x.sshiftRight f.imm.toNat))
      ∧ (s.runsI n f .s .none true → gives (.li n f) (BitVec.ofInt 64 f.imm.toInt))
      ∧ (s.runsI n f .s .none (decide (f.imm.toNat < 2 ^ 24)) →
        gives (.lih n f) (BitVec.ofNat 64 (((s.coreAt n).sreg f.d.toNat).toNat % 2 ^ 40 + f.imm.toNat * 2 ^ 40))))

/-- Compares write all 64 bits of pD, PAND, POR, PXOR, PANDN and PFROM their word, PCNT and PTO write sD; NOP only goes on, RDCT,
RDFLAGS and RDID read what they name, and CLRFLAGS clears the flags that sA marks (R120, R129, R130). -/
def Obligations.PredicatesAndScalarReads : Prop :=
  (∀ (n : Nat) (f : RF) (s : State),
      let x := (s.coreAt n).sreg f.a.toNat
      let y := (s.coreAt n).sreg f.b.toNat
      let p := (s.coreAt n).preg f.a.toNat
      let q := (s.coreAt n).preg f.b.toNat
      let all := fun (b : Prop) [Decidable b] => if b then BitVec.allOnes 64 else (0 : W64)
      let writes := fun (i : Instr) (v : W64) => completes i s (wrotePredicate n f.d v s)
      (s.runsR n f { d := .p, a := .s, b := .s } →
        writes (.cmpeq n f) (all (x = y)) ∧ writes (.cmpne n f) (all (x ≠ y))
          ∧ writes (.cmplt n f) (all (x.toInt < y.toInt)) ∧ writes (.cmpltu n f) (all (x.toNat < y.toNat))
          ∧ writes (.cmple n f) (all (x.toInt ≤ y.toInt)) ∧ writes (.cmpleu n f) (all (x.toNat ≤ y.toNat)))
      ∧ (s.runsR n f { d := .p, a := .p, b := .p } →
        writes (.pand n f) (p &&& q) ∧ writes (.por n f) (p ||| q) ∧ writes (.pxor n f) (p ^^^ q)
          ∧ writes (.pandn n f) (p &&& ~~~q))
      ∧ (s.runsR n f { d := .p, a := .s } → writes (.pfrom n f) x)
      ∧ (s.runsR n f { d := .s, a := .p } →
        completes (.pto n f) s (wroteScalar n f.d p s)
          ∧ completes (.pcnt n f) s (wroteScalar n f.d
              (BitVec.ofNat 64 ((List.range 64).filter fun i => p.getLsbD i).length) s)))
  ∧ (∀ (n : Nat) (f : RF) (s : State),
      (s.runsR n f {} → completes (.nop n f) s fun t =>
        (t.coreAt n).pc = (s.coreAt n).pc + 8 ∧ sameButScalars (s.coreAt n) (t.coreAt n) ∧ (t.coreAt n).s = (s.coreAt n).s
          ∧ onlyCore n s t)
      ∧ (s.runsR n f { d := .s } →
        completes (.rdct n f) s (wroteScalar n f.d s.time.counter s)
          ∧ completes (.rdflags n f) s (wroteScalar n f.d (s.reg (A.coreFlags n)) s)
          ∧ completes (.rdid n f) s (wroteScalar n f.d (s.coreIdWord n) s))
      ∧ (s.runsR n f { a := .s } → completes (.clrflags n f) s fun t =>
        t.reg (A.coreFlags n) = s.reg (A.coreFlags n) &&& ~~~ (s.coreAt n).sreg f.a.toNat
          ∧ (t.coreAt n).pc = (s.coreAt n).pc + 8 ∧ (t.coreAt n).s = (s.coreAt n).s ∧ sameButScalars (s.coreAt n) (t.coreAt n)
          ∧ onlyCoreReg n (A.coreFlags n) s t))

/-- Branches (R131, R132): B and BL relative to their own address, BR and BLR to sA + IMM with the old base, LOOP while the new sD
is not zero; BL and BLR write the address after the branch; a target that is not aligned or outside the store raises PC_RANGE at
the branch. The model's own choices in it: log 44. -/
def Obligations.BranchesGoToTheirTargets : Prop :=
  (∀ (n : Nat) (f : IF) (s : State),
      let c := s.coreAt n
      let rel : W64 := BitVec.ofInt 64 (c.pc + 8 * f.imm.toInt)
      let abs : W64 := c.sreg f.a.toNat + BitVec.ofInt 64 f.imm.toInt
      let good := fun (t : W64) => t.toNat % 8 = 0 ∧ t.toNat < 0xC0000
      let goes := fun (i : Instr) (target : Nat) (link : Option W64) => completes i s fun t =>
        (t.coreAt n).pc = target ∧ sameButScalars c (t.coreAt n) ∧ onlyCore n s t
          ∧ (∀ r, r ≠ f.d.toNat → (t.coreAt n).sreg r = c.sreg r)
          ∧ (t.coreAt n).sreg f.d.toNat = match link with
            | some v => asScalar f.d v
            | none => c.sreg f.d.toNat
      let next : W64 := BitVec.ofNat 64 (c.pc + 8)
      let down : W64 := c.sreg f.d.toNat - 1
      (s.runsI n f .none .none true → good rel → goes (.branchB n f) rel.toNat none)
      ∧ (s.runsI n f .s .none true → good rel → goes (.bl n f) rel.toNat (some next))
      ∧ (s.runsI n f .none .s true → good abs → goes (.br n f) abs.toNat none)
      ∧ (s.runsI n f .s .s true → good abs → goes (.blr n f) abs.toNat (some next))
      ∧ (s.runsI n f .s .none true → f.d ≠ 0 → down ≠ 0 → good rel → goes (.loop n f) rel.toNat (some down))
      ∧ (s.runsI n f .s .none true → (f.d = 0 ∨ down = 0) → goes (.loop n f) (c.pc + 8) (some down)))
  ∧ (∀ (n : Nat) (f : IF) (s : State),
      let c := s.coreAt n
      let rel : W64 := BitVec.ofInt 64 (c.pc + 8 * f.imm.toInt)
      let abs : W64 := c.sreg f.a.toNat + BitVec.ofInt 64 f.imm.toInt
      let bad := fun (t : W64) => t.toNat % 8 ≠ 0 ∨ 0xC0000 ≤ t.toNat
      (s.runsI n f .none .none true → bad rel → completes (.branchB n f) s (tookException n .pcRange s))
      ∧ (s.runsI n f .none .s true → bad abs → completes (.br n f) s (tookException n .pcRange s)))

/-! ### Guards and exceptions -/

/-- What issue checks first (R123, R126, R127, R132): a program counter past the store raises PC_RANGE, a field that legality
refuses raises ILLEGAL whatever the guard, and an instruction whose guard is off only goes on. The model's own choices in it: log
48. -/
def Obligations.IssueChecksAddressFieldsAndGuard : Prop :=
  (∀ (n : Nat) (f : RF) (s : State), n < 2560 → (s.coreAt n).mayIssue = true → 0xC0000 ≤ (s.coreAt n).pc →
      completes (.nop n f) s (tookException n .pcRange s))
  ∧ (∀ (n : Nat) (f : RF) (s : State), s.ready n →
      (f.c ≠ 0 ∨ f.fmt ≠ 0 ∨ f.rm ≠ 0 ∨ f.x ≠ 0 ∨ f.idx ≠ 0 ∨ f.half = true ∨ f.lm1 ≠ 0 ∨ f.res ≠ 0
        ∨ (f.gneg = true ∧ f.guard = 0)) →
      ∀ i ∈ [Instr.add n f, .sub n f, .mul n f, .andS n f, .orS n f, .xorS n f, .shl n f, .shr n f, .sra n f, .minS n f, .maxS n f,
        .minu n f, .maxu n f], completes i s (tookException n .illegal s))
  ∧ (∀ (n : Nat) (f : RF) (s : State),
      s.ready n → RF.legal f { d := .s, a := .s, b := .s } = true → RF.stalls f { d := .s, a := .s, b := .s } (s.coreAt n) = false →
      bit ((s.coreAt n).guardWord f.gneg f.guard) 0 = false →
      ∀ i ∈ [Instr.add n f, .sub n f, .mul n f, .andS n f, .orS n f, .xorS n f, .shl n f, .shr n f, .sra n f, .minS n f, .maxS n f,
        .minu n f, .maxu n f],
        completes i s fun t => (t.coreAt n).pc = (s.coreAt n).pc + 8 ∧ (t.coreAt n).s = (s.coreAt n).s
          ∧ sameButScalars (s.coreAt n) (t.coreAt n) ∧ onlyCore n s t)

/-- An exception of causes 1 to 7 in a core with a job tag raises a job fault of cause 6 for its partition, with a cairn record
and, unless the partition's bit was already set, a JOB_FAULT event (R98, R237). -/
def Obligations.ExceptionsRaiseJobFaults : Prop :=
  ∀ (s : State) (n : Nat) (cause : Cause) (pc : Nat), (s.coreAt n).st = .running → cause.code ≤ 7 → s.coreTag n ≠ 0 →
    let t := s.takeException n cause pc
    bit (t.reg A.epJobfault) (s.corePart n) = true
      ∧ (bit (s.reg A.epJobfault) (s.corePart n) = false → s.eth.events.length < 4096 →
        ∃ e, t.eth.events = s.eth.events ++ [e] ∧ e.type = 0x41)

/-! ### Store access -/

/-- Local accesses (R5, R126, R133): loads extend or widen as named, stores write their low bytes and no other, and a misaligned
access or one outside the store takes its exception with no effect. -/
def Obligations.LocalLoadsAndStores : Prop :=
  (∀ (n : Nat) (f : IF) (s : State),
      let c := s.coreAt n
      let a := (c.sreg f.a.toNat + BitVec.ofInt 64 f.imm.toInt).toNat
      let at_ := fun (w : Nat) => a % w = 0 ∧ a + w ≤ 0xC0000
      let read := fun (w : Nat) => ofBytes ((List.range w).map fun i => Memory.byte c.store (a + i))
      let signed_ := fun (w : Nat) => BitVec.ofInt 64 (if read w < 2 ^ (8 * w - 1) then (read w : Int) else read w - 2 ^ (8 * w))
      let loads := fun (i : Instr) (v : W64) => completes i s (wroteScalar n f.d v s)
      (s.runsI n f .s .s true →
        (at_ 1 → loads (.ldB n f) (signed_ 1) ∧ loads (.ldBu n f) (BitVec.ofNat 64 (read 1)))
          ∧ (at_ 2 → loads (.ldH n f) (signed_ 2) ∧ loads (.ldHu n f) (BitVec.ofNat 64 (read 2)))
          ∧ (at_ 4 → loads (.ldW n f) (signed_ 4) ∧ loads (.ldWu n f) (BitVec.ofNat 64 (read 4)))
          ∧ (at_ 8 → loads (.ldD n f) (BitVec.ofNat 64 (read 8))))
      ∧ (s.runsI n f .p .s true → at_ 8 → completes (.pld n f) s (wrotePredicate n f.d (BitVec.ofNat 64 (read 8)) s)))
  ∧ (∀ (n : Nat) (f : IF) (s : State),
      let c := s.coreAt n
      let a := (c.sreg f.a.toNat + BitVec.ofInt 64 f.imm.toInt).toNat
      let at_ := fun (w : Nat) => a % w = 0 ∧ a + w ≤ 0xC0000
      let stores := fun (i : Instr) (w v : Nat) => completes i s (wroteStore n a w v s)
      let v := (c.sreg f.d.toNat).toNat
      (s.runsI n f .s .s true →
        (at_ 1 → stores (.stB n f) 1 v) ∧ (at_ 2 → stores (.stH n f) 2 v) ∧ (at_ 4 → stores (.stW n f) 4 v)
          ∧ (at_ 8 → stores (.stD n f) 8 v))
      ∧ (s.runsI n f .p .s true → at_ 8 → stores (.pst n f) 8 (c.preg f.d.toNat).toNat))
  ∧ (∀ (n : Nat) (f : IF) (s : State), s.runsI n f .s .s true →
      let a := ((s.coreAt n).sreg f.a.toNat + BitVec.ofInt 64 f.imm.toInt).toNat
      let misaligned := fun (i : Instr) (w : Nat) => a % w ≠ 0 → completes i s (tookException n .misaligned s)
      let outside := fun (i : Instr) (w : Nat) => a % w = 0 → 0xC0000 < a + w → completes i s (tookException n .storeRange s)
      misaligned (.ldH n f) 2 ∧ misaligned (.ldHu n f) 2 ∧ misaligned (.ldW n f) 4 ∧ misaligned (.ldWu n f) 4
        ∧ misaligned (.ldD n f) 8 ∧ misaligned (.stH n f) 2 ∧ misaligned (.stW n f) 4 ∧ misaligned (.stD n f) 8
        ∧ outside (.ldB n f) 1 ∧ outside (.ldBu n f) 1 ∧ outside (.ldH n f) 2 ∧ outside (.ldHu n f) 2 ∧ outside (.ldW n f) 4
        ∧ outside (.ldWu n f) 4 ∧ outside (.ldD n f) 8 ∧ outside (.stB n f) 1 ∧ outside (.stH n f) 2 ∧ outside (.stW n f) 4
        ∧ outside (.stD n f) 8)

/-- VLD reads word i of 256 bytes into each active lane i of vD; VST writes each active lane to its word and leaves every other
byte (R123, R133). Only the active lanes are checked against the end of the store (R127). -/
def Obligations.VectorLoadsAndStores : Prop :=
  ∀ (n : Nat) (f : IF) (s : State), s.runsIV n f →
    let c := s.coreAt n
    let a := (c.sreg f.a.toNat + BitVec.ofInt 64 f.imm.toInt).toNat
    let g := c.guardWord f.gneg f.guard
    let word := fun (i : Nat) => (a + 4 * i) % 2 ^ 64
    a % 64 = 0 → (∀ i, i < 64 → bit g i = true → word i + 4 ≤ 0xC0000) →
      completes (.vld n f) s (wroteLanes n f.d g (fun i =>
          BitVec.ofNat 32 (ofBytes ((List.range 4).map fun k => Memory.byte c.store (word i + k)))) s)
        ∧ completes (.vst n f) s fun t =>
          (∀ i k, i < 64 → k < 4 → bit g i = true →
            Memory.byte (t.coreAt n).store (word i + k) = BitVec.ofNat 8 ((lane (c.vreg f.d.toNat) i).toNat / 256 ^ k))
          ∧ (∀ b, (∀ i, i < 64 → bit g i = true → b < word i ∨ word i + 4 ≤ b) →
            Memory.byte (t.coreAt n).store b = Memory.byte c.store b)
          ∧ (t.coreAt n).pc = c.pc + 8 ∧ sameButStore c (t.coreAt n) ∧ onlyCore n s t

/-! ### Vector arithmetic and conversion -/

/-- Lane-wise integer arithmetic, bit operations and moves (R135): active lanes take the result, inactive lanes keep their value. -/
def Obligations.VectorIntegersBitsAndMoves : Prop :=
  (∀ (n : Nat) (f : RF) (s : State), f.fmt = 8 →
      let c := s.coreAt n
      let g := c.guardWord f.gneg f.guard
      let x := fun (i : Nat) => lane (c.vreg f.a.toNat) i
      let y := fun (i : Nat) => lane (c.vreg f.b.toNat) i
      let gives := fun (i : Instr) (r : Nat → W32) => completes i s (wroteLanesFlags n f.d g r 0 s)
      (s.runsV n f { use2 fmtsFI with rm := true } →
        gives (.vadd n f) (fun i => x i + y i) ∧ gives (.vsub n f) (fun i => x i - y i) ∧ gives (.vmul n f) (fun i => x i * y i)
          ∧ gives (.vmin n f) (fun i => if (x i).toInt ≤ (y i).toInt then x i else y i)
          ∧ gives (.vmax n f) (fun i => if (x i).toInt ≤ (y i).toInt then y i else x i))
      ∧ (s.runsV n f { use1 fmtsFI with rm := true } →
        gives (.vabs n f) (fun i => if (x i).toInt < 0 then 0 - x i else x i) ∧ gives (.vneg n f) (fun i => 0 - x i)))
  ∧ (∀ (n : Nat) (f : RF) (s : State),
      let c := s.coreAt n
      let g := c.guardWord f.gneg f.guard
      let x := fun (i : Nat) => lane (c.vreg f.a.toNat) i
      let y := fun (i : Nat) => lane (c.vreg f.b.toNat) i
      let gives := fun (i : Instr) (r : Nat → W32) => completes i s (wroteLanes n f.d g r s)
      (s.runsV n f { d := .v, a := .v, b := .v } →
        gives (.vand n f) (fun i => x i &&& y i) ∧ gives (.vor n f) (fun i => x i ||| y i) ∧ gives (.vxor n f) (fun i => x i ^^^ y i)
          ∧ gives (.vshl n f) (fun i => x i <<< ((y i).toNat % 32)) ∧ gives (.vshr n f) (fun i => x i >>> ((y i).toNat % 32)))
      ∧ (s.runsV n f { d := .v, a := .v, b := .v, c := .p } →
        gives (.vsel n f) (fun i => if (c.preg f.c.toNat).getLsbD i then x i else y i))
      ∧ (s.runsV n f { d := .v, a := .v } → gives (.vmov n f) x)
      ∧ (s.runsV n f { d := .v, a := .s } →
        gives (.vbcast n f) (fun _ => (c.sreg f.a.toNat).extractLsb' 0 32)
          ∧ gives (.viota n f) (fun i => (c.sreg f.a.toNat).extractLsb' 0 32 + BitVec.ofNat 32 i))
      ∧ (s.runsV n f { d := .s, a := .v, b := .s } →
        completes (.vextr n f) s (wroteScalar n f.d
          (BitVec.ofNat 64 (x ((c.sreg f.b.toNat).toNat % 64)).toNat) s)))

/-- Vector floating point (R48, R61, R102, R135, R136): binary32 one element a lane, BF16 two elements a lane with one rounding
each, in the instruction's mode; inactive lanes keep their value and only active lanes set flags (R123). VRSQRT, VEXP and VLOG
round the unit's own result, a free value (log 10). The model's own choices in it: log 16, 116. -/
def Obligations.VectorFloatingPoint : Prop :=
  ∀ (n : Nat) (f : RF) (s : State), f.fmt ≠ 8 →
    let c := s.coreAt n
    let g := c.guardWord f.gneg f.guard
    let gives := fun (i : Instr) (op : FFmt → Rm → Nat → Nat → Nat → FRes) =>
      let r := fun (k : Nat) => if f.fmt = 1 then
          let e := fun (j : Nat) => op bf16 (RF.mode f c j) (half (c.vreg f.a.toNat) j) (half (c.vreg f.b.toNat) j)
            (half (c.vreg f.c.toNat) j)
          (ofHalves (e (2 * k)).1 (e (2 * k + 1)).1, (e (2 * k)).2 ||| (e (2 * k + 1)).2)
        else toLane (op f32 (RF.mode f c k) (lane (c.vreg f.a.toNat) k).toNat (lane (c.vreg f.b.toNat) k).toNat
          (lane (c.vreg f.c.toNat) k).toNat)
      completes i s (wroteLanesFlags n f.d g (fun k => (r k).1) (laneFlags g fun k => (r k).2) s)
    (s.runsV n f { use2 fmtsFI with rm := true } →
      gives (.vadd n f) (fun t m x y _ => t.addV m (decodeF t x) (decodeF t y))
        ∧ gives (.vsub n f) (fun t m x y _ => t.addV m (decodeF t x) (decodeF t y).neg)
        ∧ gives (.vmul n f) (fun t m x y _ => t.mulR m (decodeF t x) (decodeF t y))
        ∧ gives (.vmin n f) (fun t _ x y _ => t.minMax false (decodeF t x) (decodeF t y))
        ∧ gives (.vmax n f) (fun t _ x y _ => t.minMax true (decodeF t x) (decodeF t y)))
    ∧ (s.runsV n f { use1 fmtsFI with rm := true } →
      gives (.vabs n f) (fun t _ x _ _ => t.enc .rne (decodeF t x).abs)
        ∧ gives (.vneg n f) (fun t _ x _ _ => t.enc .rne (decodeF t x).neg))
    ∧ (s.runsV n f { use3 fmtsF with rm := true } →
      gives (.vfma n f) (fun t m x y z => t.fmaR m (decodeF t x) (decodeF t y) (decodeF t z))
        ∧ gives (.vfnma n f) (fun t m x y z => t.fmaR m (decodeF t x).neg (decodeF t y) (decodeF t z)))
    ∧ (s.runsV n f { use2 fmtsF with rm := true } →
      gives (.vdiv n f) (fun t m x y _ => t.divR m (decodeF t x) (decodeF t y)))
    ∧ (s.runsV n f { use1 fmtsF with rm := true } →
      gives (.vsqrt n f) (fun t m x _ _ => t.sqrtR m (decodeF t x))
        ∧ gives (.vrsqrt n f) (fun t m x _ _ => t.rsqrtR m (widen t x) (decodeF t x))
        ∧ gives (.vexp n f) (fun t m x _ _ => t.expR m (widen t x) (decodeF t x))
        ∧ gives (.vlog n f) (fun t m x _ _ => t.logR m (widen t x) (decodeF t x)))

/-- Numbers (R47, R48, R57, R59, R138): a binary32 value rounds to itself, results that are NaN are the canonical NaN, conversions
between registers give the values of their formats, and the conversion to INT32 treats both signs alike. The model's own choices
in it: log 16, 45. -/
def Obligations.ConversionsRoundAndKeepNaNsCanonical : Prop :=
  (∀ (w : W32) (m : Rm), (dec32 w).isNaN = false → f32.enc m (dec32 w) = (w.toNat, 0))
  ∧ (∀ (x y z : W32) (m : Rm), ((dec32 x).isNaN = true ∨ (dec32 y).isNaN = true) →
      let inv : W64 := if (dec32 x).isSNaN || (dec32 y).isSNaN then Flag.invalid else 0
      f32.addV m (dec32 x) (dec32 y) = (0x7FC00000, inv) ∧ f32.mulR m (dec32 x) (dec32 y) = (0x7FC00000, inv)
        ∧ f32.divR m (dec32 x) (dec32 y) = (0x7FC00000, inv)
        ∧ (f32.fmaR m (dec32 x) (dec32 y) (dec32 z)).1 = 0x7FC00000)
  ∧ (∀ (n : Nat) (f : RF) (s : State),
      let c := s.coreAt n
      let g := c.guardWord f.gneg f.guard
      let x := fun (i : Nat) => dec32 (lane (c.vreg f.a.toNat) i)
      let y := fun (i : Nat) => dec32 (lane (c.vreg f.b.toNat) i)
      let gives := fun (i : Instr) (r : Nat → LaneRes) =>
        completes i s (wroteLanesFlags n f.d g (fun k => (r k).1) (laneFlags g fun k => (r k).2) s)
      (s.runsV n f { d := .v, a := .v, b := .v, rm := true } → gives (.cvtBf n f) fun i =>
        let lo := bf16.enc (RF.mode f c (2 * i)) (x i)
        let hi := bf16.enc (RF.mode f c (2 * i + 1)) (y i)
        (ofHalves lo.1 hi.1, lo.2 ||| hi.2))
      ∧ (s.runsV n f { d := .v, a := .v } →
        gives (.cvtFblo n f) (fun i => toLane (f32.enc .rne (dec16 (half (c.vreg f.a.toNat) (2 * i)))))
          ∧ gives (.cvtFbhi n f) (fun i => toLane (f32.enc .rne (dec16 (half (c.vreg f.a.toNat) (2 * i + 1))))))
      ∧ (s.runsV n f { d := .v, a := .v, rm := true } →
        gives (.cvtIf n f) (fun i => toLane (toInt32 (RF.mode f c i) (x i)))
          ∧ gives (.cvtFi n f) (fun i => toLane (ofInt32 (RF.mode f c i) (lane (c.vreg f.a.toNat) i)))
          ∧ gives (.rint n f) (fun i => toLane (rintR (RF.mode f c i) (x i)))))
  ∧ (∀ (m : Rm) (x : FV), (BitVec.ofNat 32 (toInt32 m x).1).toInt ≠ -2 ^ 31)

/-- Vector compares write one bit per lane to pD (R135), and reductions combine the active lanes into sD (R137). -/
def Obligations.VectorComparesAndReductions : Prop :=
  (∀ (n : Nat) (f : RF) (s : State),
      let c := s.coreAt n
      let g := c.guardWord f.gneg f.guard
      let x := fun (i : Nat) => lane (c.vreg f.a.toNat) i
      let y := fun (i : Nat) => lane (c.vreg f.b.toNat) i
      let nan := fun (i : Nat) => (dec32 (x i)).isNaN || (dec32 (y i)).isNaN
      let snan := fun (i : Nat) => (dec32 (x i)).isSNaN || (dec32 (y i)).isSNaN
      let inv := laneFlags g fun i => if f.fmt != 8 && snan i then Flag.invalid else 0
      let gives := fun (i : Instr) (r : Nat → Bool) =>
        completes i s (wrotePredicateFlags n f.d (ofBits fun k => bit g k && r k) inv s)
      (s.runsV n f { d := .p, a := .v, b := .v, fmts := [0, 8] } →
        gives (.vcmpeq n f) (fun i => if f.fmt = 8 then x i == y i else !nan i && (dec32 (x i)).eq (dec32 (y i)))
          ∧ gives (.vcmplt n f) (fun i =>
            if f.fmt = 8 then decide ((x i).toInt < (y i).toInt) else !nan i && (dec32 (x i)).lt (dec32 (y i)))
          ∧ gives (.vcmple n f) (fun i =>
            if f.fmt = 8 then decide ((x i).toInt ≤ (y i).toInt) else !nan i && !(dec32 (y i)).lt (dec32 (x i))))
      ∧ (s.runsV n f { d := .p, a := .v, b := .v } → gives (.vcmpun n f) nan))
  ∧ (∀ (n : Nat) (f : RF) (s : State),
      let c := s.coreAt n
      let g := c.guardWord f.gneg f.guard
      let v := c.vreg f.a.toNat
      let sum := reduceLanes f g v 0 (fun k x y => f32.addV (RF.mode f c k) x y) (fun x y => x + y)
      let top := reduceLanes f g v (if f.fmt = 8 then 0x80000000 else 0xFF800000) (fun _ x y => f32.minMax true x y)
        (fun x y => if x.slt y then y else x)
      (s.runsV n f { d := .s, a := .v, fmts := fmtsFI, rm := true } →
        completes (.vrsum n f) s (wroteScalarFlags n f.d (BitVec.ofNat 64 sum.1.toNat) sum.2 s)
          ∧ (f.fmt = 8 → sum = (BitVec.ofNat 32 (((List.range 64).filter (bit g)).map fun i => (lane v i).toNat).sum, 0)))
      ∧ (s.runsV n f { d := .s, a := .v, fmts := fmtsFI } →
        completes (.vrmax n f) s (wroteScalarFlags n f.d (BitVec.ofNat 64 top.1.toNat) top.2 s)))

/-- PACK writes the element bytes of its blocks from sB upward and one scale byte a block from sC upward, and no other byte;
UNPACK writes vD, in binary32 or as BF16 pairs (R62, R63, R102, R138, R139). Neither is lane-wise. Where the two extents of a PACK
share bytes the spec gives no order, and nothing is said of those bytes. The model's own choices in it: log 46, 116. -/
def Obligations.PackAndUnpack : Prop :=
  ∀ (n : Nat) (f : RF) (s : State) (b : BFmt), bfmt f.fmt.toNat = some b →
    let c := s.coreAt n
    let count := if f.half then 128 else 64
    let ea := (c.sreg f.b.toNat).toNat
    let sa := (c.sreg f.c.toNat).toNat
    let size := count * b.bits / 8
    let scales := count / b.block
    let blocks := packBlocks f c b
    let elem := fun (t : FFmt) (j : Nat) => b.unpackElem t (RF.mode f c j) (Memory.byte c.store (sa + j / b.block)).toNat
      (b.elem (ofBytes (Memory.bytes c.store ea size)) j)
    ea + size ≤ 0xC0000 → sa + scales ≤ 0xC0000 →
    (s.runsR n f { a := .v, b := .s, c := .s, fmts := blockCodes, rm := true, half := true } →
      completes (.pack n f) s fun t =>
        (∀ i, i < size → (ea + i < sa ∨ sa + scales ≤ ea + i) → Memory.byte (t.coreAt n).store (ea + i)
            = BitVec.ofNat 8 (b.packElems (blocks.flatMap fun x => x.elems) / 256 ^ i))
        ∧ (∀ k, k < scales → (sa + k < ea ∨ ea + size ≤ sa + k) →
            Memory.byte (t.coreAt n).store (sa + k) = BitVec.ofNat 8 ((blocks.map fun x => x.scale).getD k 0))
        ∧ (∀ a, (a < ea ∨ ea + size ≤ a) → (a < sa ∨ sa + scales ≤ a) →
            Memory.byte (t.coreAt n).store a = Memory.byte c.store a)
        ∧ (t.coreAt n).pc = c.pc + 8 ∧ sameButStore c (t.coreAt n) ∧ onlyCoreReg n (A.coreFlags n) s t)
    ∧ (s.runsR n f { d := .v, b := .s, c := .s, fmts := blockCodes, rm := true, half := true } →
      completes (.unpack n f) s fun t =>
        (∀ i, i < 64 → lane ((t.coreAt n).vreg f.d.toNat) i
          = if f.half then ofHalves (elem bf16 (2 * i)).1 (elem bf16 (2 * i + 1)).1 else BitVec.ofNat 32 (elem f32 i).1)
        ∧ (∀ k, k ≠ f.d.toNat → (t.coreAt n).vreg k = c.vreg k) ∧ (t.coreAt n).pc = c.pc + 8
        ∧ sameButVectors c (t.coreAt n) ∧ onlyCoreReg n (A.coreFlags n) s t)

/-! ### The units of a core -/

/-- TILE puts the operation of its block in its array's issue queue, and TWARM sets the warm-up of the arrays that it names and
that exist (R100, R115, R140, R141). Sampling follows the shift register of R115, which an operation with K = 0 does not advance.
The model's own choices in it: log 27, 48. -/
def Obligations.TileInstructionsEnterTheIssueQueue : Prop :=
  ∀ (n : Nat) (f : CF) (s : State),
    let c := s.coreAt n
    let a := f.n.toNat
    let addr := (c.sreg f.a.toNat + BitVec.ofInt 64 f.imm.toInt).toNat
    let b := tileBlkOf (wordsOf 8 (Memory.bytes c.store addr 64))
    let r := if c.shadowR.getLsbD 31 then (c.shadowR <<< 1) ^^^ 0x00400007 else c.shadowR <<< 1
    let rate := s.field (A.shadowCfg n) 4 0
    (s.runsC n f (CF.legal f true true false true) → (c.queueOf a).length < 2 → s.tileCause n a addr c = none →
      completes (.tile n f) s fun t =>
        let d := t.coreAt n
        d.queueOf a = c.queueOf a ++
            [{ blk := b, cnt := f.cnt.toNat, sampled := decide (b.k ≠ 0) && decide (rate ≠ 0) && decide (r.toNat % 2 ^ rate = 0)
               seq := if b.k = 0 then c.tileSeq else (c.tileSeq + 1) % 2 ^ 32 }]
          ∧ (∀ x, x ≠ a → d.queueOf x = c.queueOf x) ∧ d.shadowR = (if b.k = 0 then c.shadowR else r) ∧ d.pc = c.pc + 8
          ∧ { d with pc := c.pc, ibuf := c.ibuf, queue := c.queue, shadowR := c.shadowR, tileSeq := c.tileSeq } = c ∧ onlyCore n s t)
    ∧ (s.runsC n f (CF.legal f true true false true) → (a < s.fuse.arrays n → (c.queueOf a).length < 2) →
      ∀ cause, s.tileCause n a addr c = some cause → completes (.tile n f) s (tookException n cause s))
    ∧ (s.runsC n f (CF.legal f false false false (f.n == 0 && decide (f.imm.toNat < 2 ^ 26))) →
      completes (.twarm n f) s fun t =>
        let ticks := f.imm.toNat / 2 ^ 16 % 2 ^ 10 * 200
        let named := fun (x : Nat) => x < 16 ∧ f.imm.getLsbD x = true ∧ x < s.fuse.arrays n
        (∀ x j, named x → s.posOf n x = some j →
          t.posAt n j = { s.posAt n j with warm := if ticks = 0 then none else some (s.clk + ticks) })
        ∧ (∀ j, (∀ x, named x → s.posOf n x ≠ some j) → t.posAt n j = s.posAt n j)
        ∧ (t.coreAt n).pc = c.pc + 8 ∧ { t.coreAt n with pc := c.pc, ibuf := c.ibuf, pos := c.pos } = c ∧ onlyCore n s t)

/-- Gathers and scatters enter their unit with the registers as they are at issue (R104, R105, R144), ROUTE waits for the router
(R107, R145), and COPY hands its descriptors to the die's copy engine in order (R146). The model's own choices in it: log 27. -/
def Obligations.UnitInstructionsEnterTheirUnits : Prop :=
  ∀ (n : Nat) (s : State),
    let c := s.coreAt n
    let enters := fun (f : RF) (i : Instr) (op : BitVec 6) (fmts : List (BitVec 6)) =>
      s.runsV n f { d := .v, a := .v, b := .s, c := .s, fmts := fmts, x := true } → c.gs.length < 4 →
      (c.sreg f.b.toNat).toNat % 4 = 0 →
      completes i s fun t =>
        (t.coreAt n).gs = c.gs ++ [{ op := op, idx := c.vreg f.a.toNat, act := c.guardWord f.gneg f.guard
                                     base := (c.sreg f.b.toNat).toNat, bound := (c.sreg f.c.toNat).toNat, data := c.vreg f.d.toNat
                                     dest := f.d.toNat, row := 0, lines := f.lm1.toNat + 1, fmt := f.fmt, cnt := f.x.toNat }]
          ∧ (t.coreAt n).pc = c.pc + 8 ∧ { t.coreAt n with pc := c.pc, ibuf := c.ibuf, gs := c.gs } = c ∧ onlyCore n s t
    let rows := fun (f : RF) (i : Instr) (op : BitVec 6) (fmts : List (BitVec 6)) =>
      s.runsR n f { d := .s, a := .v, b := .s, c := .s, fmts := fmts, x := true, lm1 := true } → c.gs.length < 4 →
      (c.sreg f.b.toNat).toNat % 64 = 0 →
      (∀ k, k < 64 → bit (c.guardWord f.gneg f.guard) k = true →
        ((c.sreg f.d.toNat).toNat + 64 * (f.lm1.toNat + 1) * k) % 2 ^ 64 + 64 * (f.lm1.toNat + 1) ≤ 0xC0000) →
      completes i s fun t =>
        (t.coreAt n).gs = c.gs ++ [{ op := op, idx := c.vreg f.a.toNat, act := c.guardWord f.gneg f.guard
                                     base := (c.sreg f.b.toNat).toNat, bound := (c.sreg f.c.toNat).toNat, data := 0
                                     dest := 0, row := (c.sreg f.d.toNat).toNat, lines := f.lm1.toNat + 1, fmt := f.fmt
                                     cnt := f.x.toNat }]
          ∧ (t.coreAt n).pc = c.pc + 8 ∧ { t.coreAt n with pc := c.pc, ibuf := c.ibuf, gs := c.gs } = c ∧ onlyCore n s t
    (∀ f : RF, enters f (.gather n f) 0x00 [0] ∧ enters f (.scatter n f) 0x01 [0] ∧ enters f (.scatadd n f) 0x02 [0, 8]
      ∧ rows f (.rgather n f) 0x08 [0] ∧ rows f (.rscatter n f) 0x09 [0] ∧ rows f (.rscatadd n f) 0x0A [0, 1, 8])
    ∧ (∀ f : CF,
      let addr := (c.sreg f.a.toNat + BitVec.ofInt 64 f.imm.toInt).toNat
      let line := fun (i : Nat) => wordsOf 8 (Memory.bytes c.store (addr + 64 * i) 64)
      (s.runsC n f (CF.legal f false true false (f.n == 0)) → c.routeQ = none → routeCause addr c = none →
        completes (.route n f) s fun t =>
          (t.coreAt n).routeQ = some (routeBlkOf c.pc (line 0)) ∧ (t.coreAt n).pc = c.pc + 8
            ∧ { t.coreAt n with pc := c.pc, ibuf := c.ibuf, routeQ := c.routeQ } = c ∧ onlyCore n s t)
      ∧ (s.runsC n f (CF.legal f true true false (decide (f.n.toNat < 16))) → addr % 64 = 0 → addr + 64 * (f.n.toNat + 1) ≤ 0xC0000 →
        s.coreDescs n + (f.n.toNat + 1) ≤ 64 → s.copyWaits (dieOf n) = false → s.roomUsed (dieOf n) + (f.n.toNat + 1) ≤ 4096 →
        completes (.copy n f) s fun t =>
          let e := s.copyAt (dieOf n)
          let new := (List.range (f.n.toNat + 1)).map fun i => s.newDesc (e.nextId + i) n (some f.cnt.toNat) (line i)
          (t.copyAt (dieOf n)).descs = e.descs ++ new
            ∧ (t.copyAt (dieOf n)).nextId = e.nextId + (f.n.toNat + 1) ∧ (∀ d, d ≠ dieOf n → t.copyAt d = s.copyAt d)
            ∧ (t.coreAt n).pc = c.pc + 8 ∧ { t.coreAt n with pc := c.pc, ibuf := c.ibuf } = c
            ∧ (∀ m, m ≠ n → t.coreAt m = s.coreAt m) ∧ { t with core := s.core, copy := s.copy } = s))

/-- Update calls at issue (R18, R149, R152 to R154, R169, R171, R173): UPD and UPDROW with elements, and STEPEND, enter the engine
with the group's record of that instant, before the calls of the same cycle that yield to them; ROOTREQ queues a refresh or joins
one; a call with COUNT 0, and ROOTREQ of a frozen group, complete at once; what a call may not do raises its cause, and a call
without room waits. The model's own choices in it: log 22, 53, 54, 55. -/
def Obligations.UpdateCallsAreAccepted : Prop :=
  ∀ (n : Nat) (f : CF) (s : State),
    let c := s.coreAt n
    let d := dieOf n
    let addr := (c.sreg f.a.toNat + BitVec.ofInt 64 f.imm.toInt).toNat
    let w := wordsOf 8 (Memory.bytes c.store addr 64)
    let g := callGroup w
    let r := s.groupRec d g
    let u := s.updAt d
    let stat := Tab.get 0 u.gstat g
    let forms : List (Instr × Nat) := [(.upd n f, 0), (.updrow n f, 1), (.stepend n f, 2), (.rootreq n f, 3)]
    let ok := fun (kind : Nat) => s.updCause kind n addr c = none ∧ c.upd < 8
    let went := fun (t : State) => (t.coreAt n).pc = c.pc + 8 ∧ (t.coreAt n).s = c.s ∧ (t.coreAt n).store = c.store
      ∧ ∀ m, m ≠ n → t.coreAt m = s.coreAt m
    let enters := fun (i : Instr) (kind : Nat) => completes i s fun t =>
      (∃ x a b, u.calls = a ++ b ∧ (t.updAt d).calls = a ++ x :: b
        ∧ (∀ y ∈ b, s.updYields n y.core y.at_ y.running = true)
        ∧ (∀ y, a.getLast? = some y → s.updYields n y.core y.at_ y.running = false)
        ∧ x.id = u.nextId ∧ x.kind = kind ∧ x.core = n ∧ x.cnt = f.cnt.toNat
        ∧ x.group = g ∧ x.words = w ∧ x.record = r ∧ x.running = false ∧ x.at_ = s.clk)
        ∧ (t.updAt d).nextId = u.nextId + 1 ∧ (t.updAt d).gstat = u.gstat ∧ (t.coreAt n).upd = c.upd + 1
        ∧ (t.coreAt n).cnt = c.cnt ∧ went t
    let ends := fun (i : Instr) (word : W64) => completes i s fun t =>
      (t.updAt d).calls = u.calls ∧ (t.coreAt n).counter f.cnt.toNat = c.counter f.cnt.toNat + 1 ∧ (t.coreAt n).upd = c.upd
        ∧ Tab.get 0 (t.updAt d).gstat g = word ∧ (∀ x, x ≠ g → Tab.get 0 (t.updAt d).gstat x = Tab.get 0 u.gstat x) ∧ went t
    let empty := if recFrozen r then setFld stat 31 16 (min 65535 (fld stat 31 16 + 1)) else setFld stat 63 32 (callStep w)
    s.runsC n f (CF.legal f true true false (f.n == 0)) →
      (ok 0 → callCount w ≠ 0 → enters (.upd n f) 0)
      ∧ (ok 1 → callCount w ≠ 0 → enters (.updrow n f) 1)
      ∧ (ok 2 → enters (.stepend n f) 2)
      ∧ (ok 0 → callCount w = 0 → ends (.upd n f) empty)
      ∧ (ok 1 → callCount w = 0 → ends (.updrow n f) empty)
      ∧ (ok 3 → recFrozen r = true → ends (.rootreq n f) stat)
      ∧ (ok 3 → recFrozen r = false → u.refresh.length < 32 → (∀ x ∈ u.refresh, x.group ≠ g) → completes (.rootreq n f) s fun t =>
        (∃ x a b, u.refresh = a ++ b ∧ (t.updAt d).refresh = a ++ x :: b
          ∧ (∀ y ∈ b, ∃ m ∈ y.waiters, s.updYields n m.1 y.at_ y.running = true)
          ∧ (∀ y, a.getLast? = some y → ∀ m ∈ y.waiters, s.updYields n m.1 y.at_ y.running = false)
          ∧ x.group = g ∧ x.record = r ∧ x.part = s.corePart n ∧ x.waiters = [(n, f.cnt.toNat)] ∧ x.running = false ∧ x.at_ = s.clk)
          ∧ (t.updAt d).calls = u.calls ∧ (t.coreAt n).upd = c.upd + 1 ∧ (t.coreAt n).cnt = c.cnt ∧ went t)
      ∧ (∀ y, ok 3 → recFrozen r = false → y ∈ u.refresh → y.group = g → completes (.rootreq n f) s fun t =>
        (t.updAt d).refresh = u.refresh.map (fun x => if x.group = g then { x with waiters := x.waiters ++ [(n, f.cnt.toNat)] } else x)
          ∧ (t.updAt d).calls = u.calls ∧ (t.coreAt n).upd = c.upd + 1 ∧ (t.coreAt n).cnt = c.cnt ∧ went t)
      ∧ (∀ e ∈ forms, ∀ cause, s.updCause e.2 n addr c = some cause → c.upd < 8 → completes e.1 s (tookException n cause s))
      ∧ (∀ e ∈ forms, (8 ≤ c.upd ∨ (e.2 = 3 ∧ s.updCause 3 n addr c = none ∧ recFrozen r = false ∧ 32 ≤ u.refresh.length
          ∧ ∀ x ∈ u.refresh, x.group ≠ g)) → completes e.1 s fun t =>
        t.upd = s.upd ∧ (t.coreAt n).pc = c.pc ∧ (t.coreAt n).upd = c.upd ∧ (t.coreAt n).cnt = c.cnt ∧ (t.coreAt n).st = c.st)

/-! ### Counters, waits and fences -/

/-- WAITT, WAITC, SETCNT, RDCNT and HALT (R43, R97, R112 to R114, R147): a wait whose condition holds goes on at once; a counter
met writes all ones to its predicate, a deadline that comes first writes zeros and counts one late event (R375). The model's own
choices in it: log 52. -/
def Obligations.CountersAndWaits : Prop :=
  ∀ (n : Nat) (s : State),
    let c := s.coreAt n
    (∀ f : CF,
      let v := c.sreg f.a.toNat + BitVec.ofInt 64 f.imm.toInt
      let p := f.n.toNat
      let met := (c.counter f.cnt.toNat - v.truncate 32).toInt ≥ 0
      let waits := fun (w : Wait) (t : State) => (t.coreAt n).st = .waiting ∧ (t.coreAt n).wait = some w
        ∧ (t.coreAt n).pc = c.pc + 8 ∧ { t.coreAt n with st := c.st, wait := c.wait, pc := c.pc, ibuf := c.ibuf } = c ∧ onlyCore n s t
      (s.runsC n f (CF.legal f false true false (f.n == 0)) →
        (v.toNat ≤ s.time.counter.toNat → completes (.waitt n f) s fun t =>
          (t.coreAt n).pc = c.pc + 8 ∧ { t.coreAt n with pc := c.pc, ibuf := c.ibuf } = c ∧ onlyCore n s t)
        ∧ (s.time.counter.toNat < v.toNat → completes (.waitt n f) s (waits (.time v))))
      ∧ (s.runsC n f (CF.legal f true true true (decide (f.n.toNat < 8))) →
        (met → completes (.waitc n f) s fun t =>
          (t.coreAt n).preg p = BitVec.allOnes 64 ∧ (∀ k, k ≠ p → (t.coreAt n).preg k = c.preg k)
            ∧ (t.coreAt n).pc = c.pc + 8 ∧ sameButPredicates c (t.coreAt n) ∧ onlyCore n s t)
        ∧ (¬ met → f.b ≠ 0 → (c.sreg f.b.toNat).toNat ≤ s.time.counter.toNat → completes (.waitc n f) s fun t =>
          (t.coreAt n).preg p = (if p = 0 then BitVec.allOnes 64 else 0) ∧ (∀ k, k ≠ p → (t.coreAt n).preg k = c.preg k)
            ∧ (t.coreAt n).pc = c.pc + 8 ∧ sameButPredicates c (t.coreAt n)
            ∧ fld (t.reg (A.plate (s.corePart n))) 63 32 = min (2 ^ 32 - 1) (fld (s.reg (A.plate (s.corePart n))) 63 32 + 1)
            ∧ (∀ m, m ≠ n → t.coreAt m = s.coreAt m))
        ∧ (¬ met → f.b = 0 → completes (.waitc n f) s (waits (.counter f.cnt.toNat (v.truncate 32) none p)))
        ∧ (¬ met → f.b ≠ 0 → s.time.counter.toNat < (c.sreg f.b.toNat).toNat →
          completes (.waitc n f) s (waits (.counter f.cnt.toNat (v.truncate 32) (some (c.sreg f.b.toNat)) p))))
      ∧ (s.runsC n f (CF.legal f true true false (f.n == 0)) → completes (.setcnt n f) s fun t =>
        (t.coreAt n).counter f.cnt.toNat = v.truncate 32 ∧ (∀ k, k ≠ f.cnt.toNat → (t.coreAt n).counter k = c.counter k)
          ∧ (t.coreAt n).pc = c.pc + 8 ∧ { t.coreAt n with pc := c.pc, ibuf := c.ibuf, cnt := c.cnt } = c ∧ onlyCore n s t))
    ∧ (∀ f : RF,
      (s.runsR n f { d := .s, x := true } →
        completes (.rdcnt n f) s (wroteScalar n f.d ((c.counter f.x.toNat).zeroExtend 64) s))
      ∧ (s.runsR n f {} → c.busy = false → completes (.halt n f) s fun t =>
        (t.coreAt n).st = .halted ∧ { t.coreAt n with st := c.st, pc := c.pc, ibuf := c.ibuf } = c ∧ onlyCore n s t)
      ∧ (s.runsR n f {} → c.busy = true → completes (.halt n f) s fun t =>
        (t.coreAt n).st = .running ∧ (t.coreAt n).mayIssue = false
          ∧ { t.coreAt n with halting := c.halting, pc := c.pc, ibuf := c.ibuf } = c ∧ onlyCore n s t))

/-- FENCE, FENCE.EID, ACQ and REL hold issue from their own on (R148, R235, R236): they wait for the packets and copies entered so
far (to one endpoint for FENCE.EID), ACQ and REL for the loads and atomics outstanding; all but REL remove the lines of the core's
partition from its die's cache (R216). FENCE_COMPLETE lets the core issue again once nothing is left that the fence waits for, and
FENCE_TIMEOUT raises FENCE_TIMEOUT 10 µs after issue. The model's own choices in it: log 27. -/
def Obligations.FencesHoldIssue : Prop :=
  ∀ (n : Nat) (s : State),
    let c := s.coreAt n
    let d := dieOf n
    let fences := fun (i : Instr) (acks : Bool) (eid : Option Nat) (loads drops : Bool) => completes i s fun t =>
      (t.coreAt n).fence = some { pc := c.pc, acks := acks, mark := s.ep.count, copyMark := (s.copyAt d).nextId, eid := eid
                                  loads := if loads then c.rem.map Remote.id else [], at_ := s.clk }
        ∧ (t.coreAt n).mayIssue = false ∧ (t.coreAt n).pc = c.pc + 8 ∧ (t.coreAt n).s = c.s ∧ (t.coreAt n).store = c.store
        ∧ t.rcAt d = (if drops then (s.rcAt d).filter fun l => l.part != s.corePart n else s.rcAt d)
        ∧ (∀ e, e ≠ d → t.rcAt e = s.rcAt e) ∧ { t with core := s.core, rc := s.rc } = s
    (∀ f : RF,
      (s.runsR n f {} → fences (.fence n f) true none false true ∧ fences (.acq n f) false none true true
        ∧ fences (.rel n f) true none true false)
      ∧ (s.runsR n f { a := .s } → fences (.fenceEid n f) true (some (fld (c.sreg f.a.toNat) 15 0)) false true))
    ∧ (∀ r, n < 2560 → c.fence = some r →
      (s.fenceMet n r = true → completes (.fenceComplete n) s fun t =>
        (t.coreAt n).fence = none ∧ { t.coreAt n with fence := c.fence } = c ∧ onlyCore n s t)
      ∧ (s.fenceMet n r = false → r.at_ + 20000 ≤ s.ct → c.st = .running → completes (.fenceTimeout n) s fun t =>
        (t.coreAt n).st = .faulted ∧ (t.coreAt n).fence = none
          ∧ t.reg (A.coreFault n) = BitVec.ofNat 64 (10 * 2 ^ 56 + r.pc % 2 ^ 20)
          ∧ (s.coreTag n ≠ 0 → bit (t.reg A.epJobfault) (s.corePart n) = true)
          ∧ (t.coreAt n).s = c.s ∧ (t.coreAt n).store = c.store ∧ ∀ m, m ≠ n → t.coreAt m = s.coreAt m))

/-! ### Remote accesses -/

/-- RLD and RST (R133, R134, R214, R215): a load that the die's cache holds writes sD at once; any other access enters the
endpoint as one request packet, and a load's destination is written later. Misaligned and out-of-rack addresses raise their
exceptions. The model's own choices in it: log 11. -/
def Obligations.RemoteLoadsAndStores : Prop :=
  ∀ (n : Nat) (f : RF) (s : State),
    let c := s.coreAt n
    let a := c.sreg f.a.toNat
    let d := dieOf n
    let part := s.corePart n
    let e := (s.rackEid (fld a 44 40)).getD 0xFFFF
    let home := s.homeOf a
    let cached := home ≠ d ∧ s.rcOn d = true
    let packet := fun (type w : Nat) (payload : List Byte) => qMake e s.topo.ownEid (s.coreTag n) type 0 0 w (fld a 39 0) payload
    let entered := fun (t : State) (q : Packet) (own : Owner) => ∃ u, (u ∈ t.hub.dynWait ∨ ∃ p ∈ t.ep.src, u ∈ p.2.unacked)
      ∧ u.no = s.ep.count ∧ u.core = n ∧ u.part = part ∧ u.own = own ∧ u.q.w0 = q.w0 ∧ u.q.w3 = q.w3 ∧ u.q.payload = q.payload
    let loads := fun (i : Instr) (type w : Nat) => completes i s fun t =>
      (∃ r, (t.coreAt n).rem = r :: c.rem ∧ r.d = f.d.toNat ∧ r.addr = fld a 44 0 ∧ r.at_ = s.ct ∧ r.pc = c.pc ∧ r.atomic = false
        ∧ entered t (packet type w []) (.access n r.id))
        ∧ (t.coreAt n).s = c.s ∧ (t.coreAt n).store = c.store ∧ (t.coreAt n).pc = c.pc + 8 ∧ ∀ m, m ≠ n → t.coreAt m = s.coreAt m
    let hits := fun (i : Instr) (wide : Bool) => ∀ v, s.rcRead d part home (fld a 44 0) wide = some v → completes i s fun t =>
      (t.coreAt n).sreg f.d.toNat = asScalar f.d (BitVec.ofNat 64 v) ∧ (∀ r, r ≠ f.d.toNat → (t.coreAt n).sreg r = c.sreg r)
        ∧ (t.coreAt n).pc = c.pc + 8 ∧ sameButScalars c (t.coreAt n) ∧ (∀ m, m ≠ n → t.coreAt m = s.coreAt m)
        ∧ t.rcAt d = s.rcAt d ∧ { t with core := s.core, regs := s.regs, edge := s.edge, parts := s.parts, rc := s.rc } = s
    let stores := fun (i : Instr) (type w : Nat) => completes i s fun t =>
      (∃ r, (t.coreAt n).rstores = r :: c.rstores ∧ r.addr = fld a 44 0
        ∧ entered t (packet type w (toBytes w (c.sreg f.b.toNat).toNat)) (.store n r.id))
        ∧ (t.coreAt n).s = c.s ∧ (t.coreAt n).store = c.store ∧ (t.coreAt n).pc = c.pc + 8
    (s.runsR n f { d := .s, a := .s } → c.rem.length < 32 →
      (s.rackCause a 4 = none → (cached → hits (.rldW n f) false)
        ∧ ((cached → s.rcRead d part home (fld a 44 0) false = none) → loads (.rldW n f) 1 4))
      ∧ (s.rackCause a 8 = none → (cached → hits (.rldD n f) true)
        ∧ ((cached → s.rcRead d part home (fld a 44 0) true = none) → loads (.rldD n f) 2 8)))
    ∧ (s.runsR n f { a := .s, b := .s } → c.rstores.length < 64 →
      (s.rackCause a 4 = none → stores (.rstW n f) 3 4) ∧ (s.rackCause a 8 = none → stores (.rstD n f) 4 8))
    ∧ (s.runsR n f { d := .s, a := .s } →
      (a.toNat % 4 ≠ 0 → completes (.rldW n f) s (tookException n .misaligned s))
      ∧ (a.toNat % 8 ≠ 0 → completes (.rldD n f) s (tookException n .misaligned s))
      ∧ (a.toNat % 4 = 0 → (2 ^ 45 ≤ a.toNat ∨ s.rackEid (fld a 44 40) = none) →
        completes (.rldW n f) s (tookException n .rackAddress s)))

/-- Atomics (R133, R134, R215, R226): each enters the endpoint as one request packet that carries its operand, and its compare
value where it has one; sD is written later; the die's lines with the granule are removed. -/
def Obligations.AtomicsEnterTheEndpoint : Prop :=
  ∀ (n : Nat) (f : RF) (s : State),
    let c := s.coreAt n
    let a := c.sreg f.a.toNat
    let d := dieOf n
    let part := s.corePart n
    let e := (s.rackEid (fld a 44 40)).getD 0xFFFF
    let sends := fun (i : Instr) (type w : Nat) (payload : List Byte) => completes i s fun t =>
      (∃ r, (t.coreAt n).rem.map Remote.id = r.id :: c.rem.map Remote.id ∧ r ∈ (t.coreAt n).rem ∧ r.d = f.d.toNat
        ∧ r.addr = fld a 44 0 ∧ r.at_ = s.ct ∧ r.pc = c.pc ∧ r.atomic = true
        ∧ ∃ u, (u ∈ t.hub.dynWait ∨ ∃ p ∈ t.ep.src, u ∈ p.2.unacked) ∧ u.no = s.ep.count ∧ u.own = .access n r.id
          ∧ u.q.w0 = (qMake e s.topo.ownEid (s.coreTag n) type 0 0 w (fld a 39 0) payload).w0
          ∧ u.q.w3 = (qMake e s.topo.ownEid (s.coreTag n) type 0 0 w (fld a 39 0) payload).w3 ∧ u.q.payload = payload)
        ∧ (∀ l ∈ t.rcAt d, ¬ (l.part = part ∧ l.gran = fld a 44 6 ∧ l.home = s.homeOf a))
        ∧ (t.coreAt n).s = c.s ∧ (t.coreAt n).store = c.store ∧ (t.coreAt n).pc = c.pc + 8
    let x := (c.sreg f.b.toNat).toNat
    let y := (c.sreg f.c.toNat).toNat
    let word := toBytes 4 x
    let dword := toBytes 8 x
    c.rem.length < 32 →
    (s.runsR n f { d := .s, a := .s, b := .s } → s.rackCause a 4 = none →
      sends (.raddI32 n f) 0x08 4 word ∧ sends (.raddF32 n f) 0x0A 4 word ∧ sends (.raddBf16x2 n f) 0x0B 4 word
        ∧ sends (.rswapW n f) 0x0C 4 word ∧ sends (.rminI32 n f) 0x10 4 word ∧ sends (.rmaxI32 n f) 0x12 4 word
        ∧ sends (.randW n f) 0x14 4 word ∧ sends (.rorW n f) 0x16 4 word ∧ sends (.rxorW n f) 0x18 4 word)
    ∧ (s.runsR n f { d := .s, a := .s, b := .s } → s.rackCause a 8 = none →
      sends (.raddI64 n f) 0x09 8 dword ∧ sends (.rswapD n f) 0x0D 8 dword ∧ sends (.rminI64 n f) 0x11 8 dword
        ∧ sends (.rmaxI64 n f) 0x13 8 dword ∧ sends (.randD n f) 0x15 8 dword ∧ sends (.rorD n f) 0x17 8 dword
        ∧ sends (.rxorD n f) 0x19 8 dword)
    ∧ (s.runsR n f { d := .s, a := .s, b := .s, c := .s } →
      (s.rackCause a 4 = none → sends (.rcasW n f) 0x0E 4 (word ++ toBytes 4 y))
        ∧ (s.rackCause a 8 = none → sends (.rcasD n f) 0x0F 8 (dword ++ toBytes 8 y)))

/-! ### Cluster time -/

/-- Cluster time (R13, R28, R30 to R33, R36, R38): time frames give offset and delay, and time moves between its states. The
model's own choices in it: log 19, 78, 79, 101, 105, 106, 107, 108. -/
def Obligations.TimeFramesAndStates : Prop :=
  (∀ (p l : Nat) (f : CtlFrame) (fine : BitVec 4) (s : State), p < 93 →
      let nb := s.nbrAt p
      let g := f.body
      let v := s.afterCtl p l f
      let reserved := 4 < fld g.w3 35 33 ∨ fld g.w3 19 16 ≠ 0
      let t1 : Int := (g.w1.toNat * 16 + fld g.w3 27 24 : Nat)
      let t2 : Int := (g.w2.toNat * 16 + fld g.w3 23 20 : Nat)
      let t3 : Int := (g.w0.toNat * 16 + fld g.w3 31 28 : Nat)
      let t4 : Int := (s.time.counter.toNat * 16 + fine.toNat : Nat)
      (∀ on, s.portUp p = true → s.lowLane p = some on → nb.sentIn ≠ some s.timePeriod → Tab.get 0 (s.portAt p).laneFree on ≤ 25 * s.clk →
        completes (.timeFrameSend p) s fun t =>
          (∃ h : CtlFrame, t.out = .control p (s.posServing p) on h :: s.out ∧ cfIntact h = true ∧ cfValid h = true ∧ cfType h = 0
            ∧ h.body.w0 = s.time.counter ∧ h.body.w1 = nb.txTicks ∧ h.body.w2 = nb.rxTicks
            ∧ (nb.seq < 256 → fld h.body.w3 15 8 = nb.nextSeq % 256 ∧ fld h.body.w3 7 0 = nb.seq))
          ∧ (t.nbrAt p).nextSeq = (nb.nextSeq + 1) % 256 ∧ (t.nbrAt p).sentIn = some s.timePeriod
          ∧ { t with out := s.out, time := s.time, hub := s.hub, free := s.free } = s ∧ { t.time with nbr := s.time.nbr } = s.time)
      ∧ (l < fullLanes p → s.takesCtl p l f 0 → reserved → completes (.timeFrameReceive p l f fine) s fun t =>
        { t with regs := v.regs, edge := v.edge } = v ∧ fld (t.reg A.drops) 15 0 = min 65535 (fld (s.reg A.drops) 15 0 + 1))
      ∧ (l < fullLanes p → s.takesCtl p l f 0 → ¬ reserved → completes (.timeFrameReceive p l f fine) s fun t =>
        let x := t.nbrAt p
        x.rxAt = some s.clk ∧ x.txTicks = g.w0 ∧ x.rxTicks = s.time.counter ∧ x.rootEid = fld g.w3 63 48 ∧ x.rootPrio = fld g.w3 39 38
          ∧ x.hops = fld g.w3 37 36 ∧ x.st.code = fld g.w3 35 33 ∧ x.untraceable = bit g.w3 32
          ∧ ((nb.sent.any fun e => e.1 == fld g.w3 7 0 && decide (s.clk ≤ e.2 + 2000000)) = true →
            x.measured = true ∧ x.offset = ((t2 - t1) - (t4 - t3)).tdiv 2 - signed 16 (s.field (A.timeAsym p) 15 0)
              ∧ x.delay = ((t2 - t1) + (t4 - t3)).tdiv 2)
          ∧ ∀ q, q ≠ p → t.nbrAt q = s.nbrAt q))
  ∧ (∀ s : State,
      let alone := s.ownPrio = none ∧ ∀ q ∈ Tab.keys s.time.nbr, s.mayParent q = false
      (∀ p, p < 93 → s.nbrFresh p = false → alone → s.time.parent = some p →
        (s.time.st = .locked → completes (.parentFramesStale p) s fun t => t.time.st = .holdover ∧ t.time.parent = none)
        ∧ (s.time.st = .acquire → completes (.parentFramesStale p) s fun t => t.time.st = .lost ∧ t.time.parent = none))
      ∧ (alone → s.time.st = .holdover → s.time.since + 200000000 ≤ s.clk → completes .holdoverTimeout s fun t =>
        t.time.st = .lost ∧ t.time.parent = none ∧ t.time.rootEid = 0xFFFF ∧ t.time.schedStopped = true
          ∧ bit (t.reg A.timeEvents) 0 = true)
      ∧ (∀ p, s.ownPrio = none → (∀ q ∈ Tab.keys s.time.nbr, q ≠ p → s.mayParent q = false) → s.time.st = .acquire →
        s.time.parent = some p → s.time.since + 200000000 ≤ s.clk → completes .acquireTimeout s fun t =>
          t.time.st = .lost ∧ t.time.parent = none ∧ (t.nbrAt p).rejectedUntil = some (s.clk + 2000000000)
            ∧ bit (t.reg A.timeEvents) 5 = bit (s.reg A.timeEvents) 5)
      ∧ (completes (.oscillatorFault true) s fun t => t.time.st = .lost ∧ t.time.oscFault = true)
      ∧ (completes (.oscillatorFault false) s fun t => t.time.oscFault = false)
      ∧ (∀ p x, p < 93 → (s.nbrAt p).rejectedUntil = some x → x ≤ s.clk →
        completes (.parentRejectExpiry p) s fun t => (t.nbrAt p).rejectedUntil = none)
      ∧ (s.time.slewing = true → s.time.slewBack = 0 →
        (s.time.st = .locked ∨ s.time.st = .holdover ∨ (s.time.st = .acquire ∧ s.ownPrio = none ∧ ∃ p, s.time.parent = some p
          ∧ s.refusesRoot p = false ∧ (Tab.keys s.time.nbr).filter s.mayParent = [p])) →
        completes .slewBackEnd s fun t => t.time.slewing = false ∧ t.time.correct = false)
      ∧ (∀ x, s.time.relockedAt = some x → s.time.schedStopped = true → s.time.st = .locked → x + 2000000 ≤ s.clk →
        s.time.counter.toNat % (128 * 2 ^ s.hub.log2P) = 0 →
        completes .scheduledTrafficResume s fun t => t = { s with time := { s.time with schedStopped := false } })
      ∧ (∀ (e : Nat) (m : PtpMsg), e < 2 → s.eth.linkUp.getLsbD e = true →
        let x := s.ptpSide e
        let mine := s.ownPrio.isSome = true ∧ m.domain.toNat = fld (s.reg A.timePtpCfg) 7 0 ∧ m.transport.toNat = fld (s.reg A.timePtpCfg) 9 8
        let chosen := mine ∧ x.selected.map (·.source) = some m.source
        (s.ownPrio = none → completes (.ptpMessage e m) s fun t =>
          { t with regs := s.regs, edge := s.edge } = s ∧ fld (t.reg (A.ethCnt e)) 15 0 = min 65535 (fld (s.reg (A.ethCnt e)) 15 0 + 1))
        ∧ (∀ d, mine → m.body = .announce d → completes (.ptpMessage e m) s fun t =>
          (t.ptpSide e).heard = ⟨m.source, d⟩ :: x.heard.filter (fun u => u.source != m.source) ∧ t.time.ptpPort = t.ptpChoose
            ∧ { t with time := s.time } = s)
        ∧ (∀ q o, chosen → m.body = .sync false q o → x.delay = none → completes (.ptpMessage e m) s fun t =>
          t.out = .delayReq e (fld (s.reg A.timePtpCfg) 7 0) (fld (s.reg A.timePtpCfg) 9 8) (s.ptpIdentity e) x.nextSeq :: s.out
            ∧ (t.ptpSide e).t1 = s.ptpUnits o ∧ (t.ptpSide e).t2 = s.nowUnits ∧ (t.ptpSide e).req = some (x.nextSeq, s.nowUnits)
            ∧ { t with time := s.time, out := s.out } = s)
        ∧ (∀ q o w t3, chosen → m.body = .delayResp q (s.ptpIdentity e) o w → x.req = some (q.toNat, t3) → e = s.time.ptpPort →
          completes (.ptpMessage e m) s fun t =>
            let t4 := s.ptpUnits { o with correction := 0 } - signed 64 o.correction.toNat
            let d := ((x.t2 - x.t1) + (t4 - t3)).tdiv 2
            (t.ptpSide e).delay = some d ∧ t.time.ptpOffset = (x.t1 + d - x.t2).tdiv 65536 ∧ t.time.ptpAt = s.clk
              ∧ (w = true → t.time.ptpState = 2 ∧ t.time.everLocked = true)
              ∧ (w = false → s.time.ptpState = 2 → t.time.ptpState = 3 ∧ bit (t.reg A.timeEvents) 6 = true)))
      ∧ (s.ownPrio.isSome = true → s.time.ptpState = 2 → completes .ptpLockLost s fun t =>
        t.time.ptpState = 3 ∧ t.time.st = s.time.st ∧ (s.time.primary = true → t.time.untraceable = true)
          ∧ bit (t.reg A.timeEvents) 6 = true ∧ { t with time := s.time, regs := s.regs, edge := s.edge } = s)
      ∧ (∀ e u, e < 2 → s.ownPrio.isSome = true → (s.ptpSide e).selected = some u → completes (.ptpTransmitterNotHeard e) s fun t =>
        (t.ptpSide e).heard = (s.ptpSide e).heard.filter (fun x => x.source != u.source) ∧ t.time.ptpPort = t.ptpChoose
          ∧ { t with time := s.time } = s))

/-! ### Core states -/

/-- Core states (R18, R43, R97, R99, R113, R114, R118, R119): what starts, resumes, halts, resets, fences and arms a core, and the
access of software to its store; waits that time has passed end in order of their targets. Entering RESET keeps the store, but for
what a transfer stopped at a line boundary has written. The model's own choices in it: log 24, 51. -/
def Obligations.CoreStatesChange : Prop :=
  ∀ (n : Nat) (s : State), n < 2560 →
    let c := s.coreAt n
    let now := s.time.counter.toNat
    let up := s.coreDom (dieOf n) = true
    let only := fun (i : Instr) (d : Core) => completes i s fun t => t.coreAt n = d ∧ onlyCore n s t
    (c.st = .armed → (s.reg (A.coreStartCt n)).toNat ≤ now → only (.coreStart n) { c with st := .running })
    ∧ (c.halting = true → c.st = .running → c.busy = false → only (.coreHalted n) { c with st := .halted, halting := false })
    ∧ (∀ x : W64, c.st = .waiting → c.wait = some (.time x) → x.toNat ≤ now →
      (s.waitsBefore n x = false → only (.waitTimeResume n) { c with st := .running, wait := none })
        ∧ (s.waitsBefore n x = true → completes (.waitTimeResume n) s fun t => t = s))
    ∧ (∀ k v dl p, c.st = .waiting → c.wait = some (.counter k v dl p) →
      ((c.counter k - v).toInt ≥ 0 → completes (.counterWaitResume n) s fun t =>
        (t.coreAt n).preg p = BitVec.allOnes 64 ∧ { t.coreAt n with st := c.st, wait := c.wait, p := c.p } = c
          ∧ (t.coreAt n).st = .running ∧ (t.coreAt n).wait = none ∧ onlyCore n s t)
      ∧ (∀ x : W64, dl = some x → (c.counter k - v).toInt < 0 → x.toNat ≤ now → completes (.counterWaitResume n) s fun t =>
        (t.coreAt n).preg p = (if p = 0 then BitVec.allOnes 64 else 0) ∧ (t.coreAt n).st = .running ∧ (t.coreAt n).wait = none
          ∧ { t.coreAt n with st := c.st, wait := c.wait, p := c.p } = c ∧ ∀ m, m ≠ n → t.coreAt m = s.coreAt m))
    ∧ (∀ v : W64, up → bit v 1 = true → completes (.coreResetHold n v) s fun t =>
      (t.coreAt n).st = .reset ∧ t.reg (A.coreCtrl n) = 2
        ∧ (c.st ≠ .reset → t.reg (A.coreFault n) = 0 ∧ (∀ k, (t.coreAt n).counter k = 0) ∧ (t.coreAt n).busy = decide (0 < c.upd)
          ∧ (c.gs = [] → c.route = none → (t.coreAt n).store = c.store) ∧ (t.coreAt n).s = c.s ∧ (t.coreAt n).v = c.v)
        ∧ ∀ m, m ≠ n → t.coreAt m = s.coreAt m)
    ∧ (up → c.st = .reset → 0 < s.fuse.arrays n → s.trimmed n = true → completes (.coreResetHold n 0) s fun t =>
      t.coreAt n = { c with st := .idle } ∧ bit (t.reg (A.coreCtrl n)) 1 = false ∧ onlyCoreReg n (A.coreCtrl n) s t)
    ∧ (up → c.st ≠ .reset → c.st ≠ .fenced → completes (.coreFence n 0) s fun t =>
      (t.coreAt n).st = .fenced ∧ bit (t.reg (A.coreCtrl n)) 2 = true ∧ (t.coreAt n).wait = none ∧ (t.coreAt n).gs = []
        ∧ (t.coreAt n).route = none ∧ (∀ a, (t.coreAt n).queueOf a = []) ∧ (t.coreAt n).cnt = c.cnt ∧ (t.coreAt n).rem = c.rem
        ∧ (s.coreTag n ≠ 0 → bit (t.reg A.epJobfault) (s.corePart n) = true))
    ∧ (up → (c.st = .idle ∨ c.st = .halted ∨ c.st = .faulted) → completes (.coreRun n 0) s fun t =>
      (t.coreAt n).st = .armed ∧ (t.coreAt n).pc = fld (s.reg (A.coreStart n)) 19 3 * 8 ∧ (t.coreAt n).ibuf = []
        ∧ (∀ r, (t.coreAt n).sreg r = 0) ∧ (∀ r, (t.coreAt n).vreg r = 0) ∧ (∀ r, r ≠ 0 → (t.coreAt n).preg r = 0)
        ∧ (t.coreAt n).shadowR ≠ 0 ∧ (t.coreAt n).store = c.store ∧ (t.coreAt n).cnt = c.cnt ∧ onlyCoreReg n (A.coreCtrl n) s t)
    ∧ (up →
      let a := s.swAddr n
      (∀ v : W64, completes (.swdataAccess n (some v)) s fun t =>
        (∀ i, i < 8 → Memory.byte (t.coreAt n).store (a + i) = BitVec.ofNat 8 (v.toNat / 256 ^ i))
          ∧ (∀ b, (b < a ∨ a + 8 ≤ b) → Memory.byte (t.coreAt n).store b = Memory.byte c.store b)
          ∧ t.swAddr n = (a + 8) % 0xC0000 ∧ { t.coreAt n with store := c.store } = c ∧ onlyCoreReg n (A.coreSwaddr n) s t)
      ∧ (completes (.swdataAccess n none) s fun t =>
        (∃ v : W64, t.out = .softRead (A.coreSwdata n) v :: s.out
          ∧ v = BitVec.ofNat 64 (ofBytes ((List.range 8).map fun i => Memory.byte c.store (a + i))))
          ∧ t.swAddr n = (a + 8) % 0xC0000 ∧ t.core = s.core))

/-- One write of CORE.CTRL acts in the order of R450: RESET_HOLD 1 alone; else RESET_HOLD 0, then FENCE, then RUN, which a FENCE
in the same write makes without effect. -/
def Obligations.CoreControlBitsActInOrder : Prop :=
  ∀ (n : Nat) (v : W64) (s : State), n < 2560 →
    ∃ a, exec (.coreResetHold n 0) s = .next a
      ∧ (bit v 1 = true → exec (.coreResetHold n v) s = exec (.coreResetHold n 2) s
        ∧ (s.coreDom (dieOf n) = true → completes (.coreResetHold n v) s fun t => (t.coreAt n).st = .reset))
      ∧ (bit v 1 = false → bit v 2 = true → exec (.coreResetHold n v) s = exec (.coreFence n 0) a)
      ∧ (bit v 1 = false → bit v 2 = false → bit v 0 = true → exec (.coreResetHold n v) s = exec (.coreRun n 0) a)
      ∧ (bit v 1 = false → bit v 2 = false → bit v 0 = false → exec (.coreResetHold n v) s = .next a)

/-! ### Events of a core's units -/

/-- An array's places, steps, write-back and current keeping (R79, R82, R88, R101, R116, R117, R140): operations move from the
issue queue to the array, take one step after another with their sums in the array, leave their place with the last step, and
count at the end of their write-back. The model's own choices in it: log 8, 9, 20, 49, 117. -/
def Obligations.TileOperationsRun : Prop :=
  ∀ (n j : Nat) (s : State), n < 2560 → j < 17 →
    let c := s.coreAt n
    let p := s.posAt n j
    let fresh := fun (o : TileOp) (shadow : Bool) (mate : Option Nat) =>
      ({ op := o, started := false, step := 0, sums := [], rowNaN := 0, colNaN := 0, shadow := shadow, mate := mate } : TileRun)
    let stepped := fun (i : Instr) (r : TileRun) (rest : List TileRun) (sums : List W32) => completes i s fun t =>
      let b := r.op.blk
      let o := arrayStep b.sparse b.planes (b.rowsOf c.store r.step) (b.colsOf c.store r.step) sums r.rowNaN r.colNaN
      (∃ x : TileRun, x.op = r.op ∧ x.started = true ∧ x.step = r.step + 1 ∧ x.sums = o.sums ∧ x.rowNaN = o.rowNaN ∧ x.colNaN = o.colNaN
        ∧ (b.steps ≤ r.step + 1 → (t.posAt n j).held = rest ∧ (t.posAt n j).wb = p.wb ++ [x])
        ∧ (r.step + 1 < b.steps → (t.posAt n j).held = x :: rest ∧ (t.posAt n j).wb = p.wb))
        ∧ t.reg (A.coreFlags n) = s.reg (A.coreFlags n) ||| o.flags ∧ (∀ k, k ≠ j → t.posAt n k = s.posAt n k)
        ∧ (t.coreAt n).store = c.store ∧ (t.coreAt n).s = c.s ∧ ∀ m, m ≠ n → t.coreAt m = s.coreAt m
    (∀ a o rest, a < 16 → c.queueOf a = o :: rest → s.posOf n a = some j →
      (o.sampled = false → p.held.length < 2 → p.hold = false → completes (.tileAccept n a) s fun t =>
        t.posAt n j = { p with held := p.held ++ [fresh o false none], warm := none, active := p.active || decide (0 < o.blk.k) }
          ∧ (t.coreAt n).queueOf a = rest ∧ (∀ x, x ≠ a → (t.coreAt n).queueOf x = c.queueOf x)
          ∧ (∀ k, k ≠ j → t.posAt n k = s.posAt n k) ∧ onlyCore n s t)
      ∧ (∀ k, o.sampled = true → s.shadowPos n a = some k → p.takesSampled = true → (s.posAt n k).takesSampled = true →
        completes (.tileAccept n a) s fun t =>
          (t.posAt n j).held = p.held ++ [fresh o false (some k)] ∧ (t.posAt n k).held = (s.posAt n k).held ++ [fresh o true (some j)]
            ∧ (t.coreAt n).queueOf a = rest ∧ onlyCore n s t))
    ∧ (∀ r rest, p.held = r :: rest → r.started = false → r.shadow = false → r.mate = none → p.mayStart = true →
      (r.op.blk.k = 0 → completes (.tileStart n j) s fun t =>
        t.posAt n j = { p with held := rest, wb := p.wb ++ [{ r with started := true, sums := r.op.blk.init c.store }] }
          ∧ (∀ k, k ≠ j → t.posAt n k = s.posAt n k) ∧ onlyCore n s t)
      ∧ (r.op.blk.k ≠ 0 → 0 < p.level → stepped (.tileStart n j) r rest (r.op.blk.init c.store)))
    ∧ (∀ r rest, p.held = r :: rest → r.started = true → r.shadow = false → r.mate = none → 0 < p.level →
      stepped (.stationarySwap n j) r rest r.sums)
    ∧ (∀ r rest flips shadowFlips, p.wb = r :: rest → r.shadow = false → r.mate = none → c.st ≠ .reset →
      completes (.tileWritebackEnd n j flips shadowFlips) s fun t =>
        (t.coreAt n).store = r.op.blk.writeOut c.store (r.output flips)
          ∧ (t.coreAt n).counter r.op.cnt = c.counter r.op.cnt + 1 ∧ (∀ k, k ≠ r.op.cnt → (t.coreAt n).counter k = c.counter k)
          ∧ t.posAt n j = { p with wb := rest } ∧ (∀ k, k ≠ j → t.posAt n k = s.posAt n k) ∧ (t.coreAt n).s = c.s
          ∧ onlyCoreReg n (A.coreFlags n) s t)
    ∧ (s.coreDom (dieOf n) = true → s.fuse.posOk n j = true → s.time.counter.toNat % 200 = 0 → p.levelAt ≠ some s.time.counter →
      completes (.levelUpdate n j) s fun t =>
        let rises := (p.active || s.waiting n j) = true ∧ p.level < 200
        let falls := p.gap s.clk = true ∧ 0 < p.level
        (rises → (t.posAt n j).level = p.level + 1) ∧ (¬ rises → falls → (t.posAt n j).level = p.level - 1)
          ∧ (¬ rises → ¬ falls → (t.posAt n j).level = p.level)
          ∧ (t.posAt n j).held = p.held ∧ (t.posAt n j).wb = p.wb ∧ (t.posAt n j).stat = p.stat
          ∧ (∀ k, k ≠ j → t.posAt n k = s.posAt n k) ∧ { t with core := s.core, free := s.free } = s)
    ∧ (∀ x, p.warm = some x → x ≤ s.clk → completes (.twarmEnd n j) s fun t =>
      t.posAt n j = { p with warm := none } ∧ (∀ k, k ≠ j → t.posAt n k = s.posAt n k) ∧ onlyCore n s t)

/-- What gathers, scatters and routings leave (R104 to R106, R108 to R111, R145), and how a die's copy engine takes, sends and
completes descriptors (R245, R246, R249). The bytes are those that the operation's own function gives from the store. The model's
own choices in it: log 47, 66, 118. -/
def Obligations.TransfersRoutingsAndCopiesRun : Prop :=
  ∀ (n : Nat) (s : State), n < 2560 →
    let c := s.coreAt n
    let d := dieOf n
    let others := fun (t : State) => ∀ m, m ≠ n → t.coreAt m = s.coreAt m
    (∀ g rest, c.gs = g :: rest → c.st ≠ .reset → completes (.gatherScatterComplete n) s fun t =>
      let o := g.run c.store (c.vreg g.dest)
      (t.coreAt n).store = o.store ∧ (g.op = 0 → (t.coreAt n).vreg g.dest = o.vec) ∧ (g.op ≠ 0 → (t.coreAt n).v = c.v)
        ∧ (∀ k, k ≠ g.dest → (t.coreAt n).vreg k = c.vreg k) ∧ (t.coreAt n).gs = rest
        ∧ (t.coreAt n).counter g.cnt = c.counter g.cnt + 1 ∧ (∀ k, k ≠ g.cnt → (t.coreAt n).counter k = c.counter k)
        ∧ t.reg (A.coreFlags n) = s.reg (A.coreFlags n) ||| o.flags ∧ onlyCoreReg n (A.coreFlags n) s t)
    ∧ (∀ b, c.route = none → c.routeQ = some b →
      (b.tableFault c.store = none → completes (.routeStart n) s fun t =>
        t.coreAt n = { c with routeQ := none, route := some { blk := b, ids := [] } } ∧ onlyCore n s t)
      ∧ (∀ cause, b.tableFault c.store = some cause → c.st = .running → completes (.routeStart n) s fun t =>
        (t.coreAt n).st = .faulted ∧ (t.coreAt n).routeQ = none ∧ (t.coreAt n).store = c.store ∧ (t.coreAt n).cnt = c.cnt
          ∧ t.reg (A.coreFault n) = BitVec.ofNat 64 (cause.code * 2 ^ 56 + b.pc % 2 ^ 20) ∧ others t))
    ∧ (∀ r, c.route = some r → completes (.routeLeave n) s fun t =>
      let o := r.blk.run c.store
      (t.coreAt n).store = o.store ∧ (t.coreAt n).route = none ∧ (t.coreAt n).cnt = c.cnt
        ∧ (∃ x, (t.coreAt n).routeOut = c.routeOut ++ [x] ∧ x.blk = r.blk ∧ x.ids.length = o.copies.length)
        ∧ (t.copyAt d).descs.length = (s.copyAt d).descs.length + o.copies.length
        ∧ t.reg (A.coreFlags n) = s.reg (A.coreFlags n) ||| o.flags
        ∧ fld (t.reg (A.routeStat n)) 63 32 = min (2 ^ 32 - 1) (fld (s.reg (A.routeStat n)) 63 32 + o.assigned) ∧ others t)
    ∧ (∀ r, (c.routeOut.find? fun x => x.ids.isEmpty) = some r → c.st ≠ .reset → completes (.routeComplete n) s fun t =>
      (t.coreAt n).routeOut = c.routeOut.erase r ∧ (t.coreAt n).counter r.blk.counter = c.counter r.blk.counter + 1
        ∧ (t.coreAt n).store = c.store ∧ onlyCore n s t)
    ∧ (∀ cnt a k x, c.copyWait = some (cnt, a, k, x) →
      (∀ e ∈ s.core, dieOf e.1 = d → e.2.copyWait = none ∨ e = (n, c)) → s.roomUsed d + k ≤ 4096 →
      completes (.copyEngineAdmit d n) s fun t =>
        (t.coreAt n).copyWait = none ∧ (t.copyAt d).descs.length = (s.copyAt d).descs.length + k
          ∧ (∀ y ∈ (t.copyAt d).descs, y ∈ (s.copyAt d).descs ∨ (y.core = n ∧ y.cnt = some cnt))
          ∧ (t.coreAt n).store = c.store ∧ others t ∧ { t with core := s.core, copy := s.copy } = s)
    ∧ (∀ x, s.descAt d x.id = some x → x.core = n → s.mayStartDesc d x = true → Tab.find x.got x.given = none →
      x.next < descChunks x.words → descOp x.words < 4 → srcKind x.words = 0 → dstKind x.words = 0 →
      descRowBytes x.words % 64 = 0 → chunkDst x.words x.next % 64 = 0 →
      completes (.copyPacketSend d x.id) s fun t =>
        (∃ y, t.descAt d x.id = some y ∧ y.next = x.next + 1 ∧ y.given = x.next + 1 ∧ y.bytes = x.bytes + chunkLen x.words x.next
          ∧ y.status = x.status)
          ∧ (descOp x.words = 0 → descZskip x.words = false → ∀ i, i < chunkLen x.words x.next →
            Memory.byte (t.coreAt n).store (chunkDst x.words x.next + i)
              = Memory.byte c.store (chunkSrc x.words x.next + i)) ∧ others t)
    ∧ (∀ x i, s.descAt d x.id = some x → x.core = n → Tab.find x.got x.given = none → x.finished = true → x.cnt = some i →
      c.st ≠ .reset → completes (.copyDescriptorComplete d x.id) s fun t =>
        (t.coreAt n).counter i = c.counter i + 1 ∧ (∀ y ∈ (t.copyAt d).descs, y.id ≠ x.id)
          ∧ (descRecord x.words = true → recordAddr x.words % 32 = 0 → recordAddr x.words + 32 ≤ 0xC0000 →
            ∀ k, k < 32 → Memory.byte (t.coreAt n).store (recordAddr x.words + k) = (bytesOf (s.copyRecord x)).getD k 0)
          ∧ (descRecord x.words = false → (t.coreAt n).store = c.store)
          ∧ (3 ≤ x.status → x.tag ≠ 0 → x.part < 16 → bit (t.reg A.epJobfault) x.part = true) ∧ others t)

/-! ### The parameter update engines -/

/-- An update engine's calls, refreshes, swaps and group commands (R153, R154, R156, R168 to R171, R173, R177): a call that ends
leaves the engine, counts for its core and, unless its group is frozen, writes LAST_STEP; the root unit takes the blocks of a
refresh in ascending index and stands still while ROOT_PAUSE is 1. The model's own choices in it: log 21, 22, 53, 54, 55. -/
def Obligations.UpdateEnginesRunTheirCalls : Prop :=
  ∀ (d : Nat) (s : State), d < 4 →
    let u := s.updAt d
    let regsOnly := fun (t : State) => { t with regs := s.regs, edge := s.edge } = s
    let updOnly := fun (t : State) => { t with upd := s.upd } = s ∧ ∀ e, e ≠ d → t.updAt e = s.updAt e
    let counted := fun (t : State) (n cnt : Nat) => (t.coreAt n).counter cnt = (s.coreAt n).counter cnt + 1
      ∧ (t.coreAt n).upd = (s.coreAt n).upd - 1 ∧ (t.coreAt n).store = (s.coreAt n).store ∧ ∀ m, m ≠ n → t.coreAt m = s.coreAt m
    (∀ x, (u.calls.find? fun c => c.id == x.id) = some x → x.core < 2560 →
      (x.kind < 2 → u.mayStart x = true → completes (.updateCallStart d x.id) s fun t =>
        (t.updAt d).calls = u.calls.map (fun y => if y.id = x.id then { y with running := true } else y) ∧ updOnly t)
      ∧ (x.kind < 2 → x.running = true → s.hasCredit d x.part = true → (s.coreAt x.core).st ≠ .reset →
        completes (.updateCallComplete d x.id) s fun t =>
        (t.updAt d).calls = u.calls.filter (fun y => y.id != x.id) ∧ counted t x.core x.cnt
          ∧ (recFrozen x.record = false → fld (Tab.get 0 (t.updAt d).gstat x.group) 63 32 = callStep x.words)
          ∧ (recFrozen x.record = true → fld (Tab.get 0 (t.updAt d).gstat x.group) 31 16
            = min 65535 (fld (Tab.get 0 u.gstat x.group) 31 16 + 1))
          ∧ fld (t.reg (A.updCounts d)) 63 32 = min (2 ^ 32 - 1) (fld (s.reg (A.updCounts d)) 63 32 + 1))
      ∧ (x.kind = 2 → (∀ y ∈ u.before x, y.group = x.group → y.kind = 1 ∧ y.running = true) → s.hasCredit d x.part = true →
        (s.coreAt x.core).st ≠ .reset → completes (.stependSwap d x.id) s fun t =>
          (t.updAt d).calls = u.calls.filter (fun y => y.id != x.id) ∧ counted t x.core x.cnt
            ∧ (recFrozen x.record = false → recRule x.record = 3 → fld (Tab.get 0 (t.updAt d).gstat x.group) 63 32 = callStep x.words)
            ∧ (recFrozen x.record = true ∨ recRule x.record ≠ 3 → (t.updAt d).gstat = u.gstat ∧ t.mem = s.mem)))
    ∧ (∀ x rest, u.refresh = x :: rest →
      (s.field (A.updCtrl d) 0 0 = 1 → completes (.rootRefreshStart d x.group) s (fun t => t = s)
        ∧ completes (.rootRefreshComplete d x.group) s (fun t => t = s))
      ∧ (x.held = none → s.field (A.updCtrl d) 0 0 = 0 → u.writing x.group x.block = false → s.hasCredit d x.part = true →
        completes (.rootRefreshStart d x.group) s fun t =>
          (∃ y, (t.updAt d).refresh = { x with running := true, held := some y } :: rest) ∧ (t.updAt d).calls = u.calls
            ∧ t.mem.bytes = s.mem.bytes ∧ t.core = s.core ∧ (u.refreshBlocks x ≤ x.block → updOnly t))
      ∧ (∀ y, x.held = some y → s.field (A.updCtrl d) 0 0 = 0 → s.hasCredit d x.part = true → x.block + 1 < u.refreshBlocks x →
        completes (.rootRefreshComplete d x.group) s fun t =>
          (t.updAt d).refresh = { x with block := x.block + 1, held := none } :: rest ∧ (t.updAt d).calls = u.calls)
      ∧ (∀ y n cnt, x.held = some y → s.field (A.updCtrl d) 0 0 = 0 → s.hasCredit d x.part = true → u.refreshBlocks x ≤ x.block + 1 →
        x.waiters = [(n, cnt)] → (s.coreAt n).st ≠ .reset → completes (.rootRefreshComplete d x.group) s fun t =>
          (t.updAt d).refresh = rest ∧ (t.updAt d).calls = u.calls ∧ counted t n cnt))
    ∧ (s.coreDom d = true →
      (∀ v : W64, completes (.updGsel d v) s fun t =>
        t.field (A.updGselReg d) 9 0 = fld v 9 0 ∧ (∀ i, i < 8 → t.reg (A.updGdata d i) = (s.groupRec d (fld v 9 0)).getD i 0)
          ∧ regsOnly t)
      ∧ (∀ v : W64, bit v 1 = false →
        let g := s.field (A.updGselReg d) 9 0
        let r := (List.range 8).map fun i => s.reg (A.updGdata d i)
        (recReserved r = false → completes (.updCommit d v) s fun t =>
          t.groupRec d g = r ∧ (∀ x, x ≠ g → t.groupRec d x = s.groupRec d x) ∧ (t.updAt d).gstat = u.gstat ∧ updOnly t)
        ∧ (recReserved r = true → completes (.updCommit d v) s fun t => t = s))
      ∧ (∀ v : W64, bit v 0 = false → completes (.updClrStat d v) s fun t =>
        let g := s.field (A.updGselReg d) 9 0
        Tab.get 0 (t.updAt d).gstat g = 0 ∧ (∀ x, x ≠ g → Tab.get 0 (t.updAt d).gstat x = Tab.get 0 u.gstat x)
          ∧ (t.updAt d).group = u.group ∧ updOnly t))

/-! ### Memory -/

/-- Requests at a die's memory controllers (R185 to R190, R192, R195, R199, R202, R207, R217, R363): those of the hub are answered
at once while the link is not UP and stay in the hub while the link has no room; the others wait for credit or enter their
channels; a channel does its due refresh first, serves nothing while it is throttled, and else answers the next request, a clean
read with the bytes of its place (R178 to R181), which changes none; regulators take credit at a slot boundary. The model's own
choices in it: log 21, 30, 50, 123. -/
def Obligations.MemoryRequestsAreServed : Prop :=
  ∀ (d : Nat) (s : State), d < 4 →
    let m := s.memAt d
    let up := s.memDom d = true
    let memOnly := fun (t : State) => { t with mem := s.mem } = s ∧ t.mem.bytes = s.mem.bytes ∧ t.mem.poison = s.mem.poison
    let roomy := fun (r : MemReq) => r.req = 0 → s.linkUp d = true ∧ s.linkRoom d (MemReq.linkBytes r) (MemReq.replyBytes r) = true
    (∀ r, r.part < 16 → r.req = 0 → s.linkUp d = false →
      let poison := match r.op with
        | .read => !r.copy
        | .atomic _ _ _ => true
        | _ => false
      completes (.memoryRequest d r) s fun t =>
        t.out = (if poison then .memResp d 0 r.tag true [] else .memRefuse d 0 r.tag 4) :: s.out ∧ { t with out := s.out } = s)
    ∧ (∀ r, r.part < 16 → r.req = 0 → s.linkUp d = true → s.linkRoom d (MemReq.linkBytes r) (MemReq.replyBytes r) = false →
      completes (.memoryRequest d r) s fun t => t = s)
    ∧ (∀ r l, r.part < 16 → r.req < 7 → s.serves d r.req = true → roomy r → MemReq.pieces r = l → l ≠ [] → l.length ≤ 4 →
      (∀ q ∈ l, (s.place q.off).die = d) →
      (s.mustWait d r = true → completes (.memoryRequest d r) s fun t =>
        (∃ n, (∀ w ∈ m.waiting, w.1 < n) ∧ (t.memAt d).waiting = m.waiting ++ l.map fun q => (n, q))
          ∧ (t.memAt d).chan = m.chan ∧ memOnly t)
      ∧ (s.mustWait d r = false → (∀ w ∈ m.waiting, w.2.part ≠ r.part) → completes (.memoryRequest d r) s fun t =>
        (t.memAt d).waiting = m.waiting
          ∧ (∀ c, Tab.get [] (t.memAt d).chan c = Tab.get [] m.chan c ++ l.filter fun q => (s.place q.off).chan == c)
          ∧ t.mem.bytes = s.mem.bytes ∧ t.core = s.core))
    ∧ (∀ k n r, k < 16 → (m.waiting.find? fun w => w.2.part == k) = some (n, r) → s.mustWait d r = false →
      s.serves d r.req = true → completes (.memoryAdmit d k) s fun t =>
        (t.memAt d).waiting = (m.waiting.filter fun w => w.1 != n)
          ∧ (∀ c, Tab.get [] (t.memAt d).chan c
            = Tab.get [] m.chan c ++ ((m.waiting.filter fun w => w.1 == n).map Prod.snd).filter fun q => (s.place q.off).chan == c)
          ∧ t.mem.bytes = s.mem.bytes ∧ t.core = s.core)
    ∧ (∀ c busy dam b, up → c < 128 → s.dueBank d c = some b → completes (.channelServe d c busy dam) s fun t =>
      Tab.find (t.memAt d).refreshed (16 * c + b) = some s.clk ∧ s.clk < t.refreshDue d c b ∧ (t.memAt d).chan = m.chan ∧ memOnly t)
    ∧ (∀ c busy dam, c < 128 → s.dueBank d c = none → s.throttled d c = true → completes (.channelServe d c busy dam) s fun t => t = s)
    ∧ (∀ c busy dam q i r, up → c < 128 → s.dueBank d c = none → s.throttled d c = false → s.nextServed d c busy = some (q, i, r) →
      (completes (.channelServe d c busy dam) s fun t =>
        (∃ bad bs, t.out = .memResp d r.req r.tag bad bs :: s.out) ∧ t.core = s.core
          ∧ (q = true → Tab.get [] (t.memAt d).chan c = (Tab.get [] m.chan c).eraseIdx i ∧ (t.memAt d).waiting = m.waiting)
          ∧ (q = false → (t.memAt d).waiting = m.waiting.eraseIdx i ∧ (t.memAt d).chan = m.chan))
      ∧ (r.op = .read → dam = [] → s.zrangeOf (fieldOf r.off 39 38) (fieldOf r.off 37 6 * 64) = none →
        s.poisoned (s.place (r.off / 64 * 64)) = false → completes (.channelServe d c busy dam) s fun t =>
          t.out = .memResp d r.req r.tag false
              (((s.granuleBytes (s.place (r.off / 64 * 64))).drop (r.off % 64)).take r.len) :: s.out
            ∧ t.mem.bytes = s.mem.bytes ∧ t.mem.poison = s.mem.poison))
    ∧ (up → (s.boundaryOf 128).isSome → m.creditAt ≠ s.boundaryOf 128 → completes (.regulatorCreditTick d) s fun t =>
      (∀ k, k < 16 → t.regulator d k = s.reg (A.memReg d k)
          ∧ (s.regulator d k = s.reg (A.memReg d k) → bit (s.reg (A.memReg d k)) 63 = true →
            t.credit d k = min (s.credit d k + rateOf (s.reg (A.memReg d k))) (depthOf (s.reg (A.memReg d k)))))
        ∧ (∀ c, t.lcServed d c = 0) ∧ memOnly t)

/-- What a die's memory controllers do of themselves and under their controls (R192, R195, R197 to R201, R203): a bank's refresh
at its time and not before, the refresh interval back after 10 ms of cooling, a stack written with zeros at start-up, the
scrubber's next granule, map lines read into the zero-map cache, and compressed ranges enabled, disabled and flushed. The model's
own choices in it: log 11, 12, 30. -/
def Obligations.MemoryIsKeptAndCompressed : Prop :=
  ∀ (d : Nat) (s : State), d < 4 →
    let m := s.memAt d
    let up := s.memDom d = true
    let memOnly := fun (t : State) => { t with mem := s.mem } = s ∧ t.mem.bytes = s.mem.bytes ∧ t.mem.poison = s.mem.poison
    (∀ c b, up → c < 128 → b < 16 →
      (s.refreshDue d c b ≤ s.clk → completes (.refreshCommand d c b) s fun t =>
        Tab.find (t.memAt d).refreshed (16 * c + b) = some s.clk ∧ s.clk < t.refreshDue d c b ∧ (t.memAt d).chan = m.chan ∧ memOnly t)
      ∧ (s.clk < s.refreshDue d c b → completes (.refreshCommand d c b) s fun t => t = s))
    ∧ (∀ i, i < 8 →
      let k := s.stackAt d i
      (∀ x, k.cool85 = some x → x + 20000000 ≤ s.clk → completes (.refreshIntervalRelax d i) s fun t =>
        t.stackAt d i = { k with interval := 0 } ∧ memOnly t)
      ∧ (∀ x, k.cool85 = none → k.cool95 = some x → x + 20000000 ≤ s.clk → completes (.refreshIntervalRelax d i) s fun t =>
        t.stackAt d i = { k with interval := min k.interval 1 } ∧ memOnly t)
      ∧ (up → completes (.memoryInitComplete d i) s fun t =>
        let lo := (128 * d + 16 * i) * 2 ^ 31
        (t.stackAt d i).trained = true
          ∧ (∀ a, lo ≤ a → a < lo + 16 * 2 ^ 31 → Memory.byte t.mem.bytes a = 0)
          ∧ (∀ a, (a < lo ∨ lo + 16 * 2 ^ 31 ≤ a) → Memory.byte t.mem.bytes a = Memory.byte s.mem.bytes a)))
    ∧ (∀ c, c < 128 →
      (s.scrubDue d c = true → completes (.scrubRead d c []) s fun t =>
        Tab.get 0 (t.memAt d).scrubL c = (Tab.get 0 m.scrubL c + 64) % 2 ^ 31 ∧ memOnly t)
      ∧ (s.scrubDue d c = false → ∀ dam, completes (.scrubRead d c dam) s fun t => t = s))
    ∧ (∀ a k, up → s.mapOwner d a = some k → Tab.find m.zcache a = none → m.zcache.length < 4096 →
      s.poisoned (placeLocal d (a * 64)) = false → Tab.get [] m.chan (placeLocal d (a * 64)).chan = [] →
      completes (.zeroMapFill d a []) s fun t =>
        Tab.find (t.memAt d).zcache a = some (k, BitVec.ofNat 512 (ofBytes (s.granuleBytes (placeLocal d (a * 64)))), false)
          ∧ t.mem.bytes = s.mem.bytes)
    ∧ (∀ (k : Nat) (v : W64), k < 8 → up →
      let old := s.reg (A.zrange d k)
      let w := v &&& 0x0000FFFF8001FFFF
      (bit old 63 = false → bit old 62 = false →
        (completes (.zrangeEnable d k v) s fun t =>
          t.reg (A.zrange d k) = (if s.zrangeOk d k w then w ||| 0x8000000000000000 else w) ∧ { t with regs := s.regs, edge := s.edge } = s)
        ∧ (completes (.zrangeDisable d k v) s fun t => t.reg (A.zrange d k) = w ∧ { t with regs := s.regs, edge := s.edge } = s))
      ∧ (bit old 63 = true → bit old 62 = false → completes (.zrangeDisable d k v) s fun t =>
        t.reg (A.zrange d k) = old ||| 0x4000000000000000 ∧ k ∈ (t.memAt d).zflush ∧ t.mem.bytes = s.mem.bytes)
      ∧ (k ∈ m.zflush → completes (.zrangeFlushComplete d k) s fun t =>
        bit (t.reg (A.zrange d k)) 63 = false ∧ bit (t.reg (A.zrange d k)) 62 = false
          ∧ fld (t.reg (A.zrange d k)) 47 31 = fld old 47 31 ∧ fld (t.reg (A.zrange d k)) 16 0 = fld old 16 0
          ∧ ∀ e ∈ (t.memAt d).zcache, e.2.1 ≠ k))

/-! ### Die-to-die links and the remote-data caches -/

/-- Die-to-die links (R209, R211 to R213, R215 to R220): training, bundles, commands and fences; what a fence takes with it, and
what invalidates the remote-data cache. The model's own choices in it: log 57, 58, 119. -/
def Obligations.DieLinksAndWhatTheyTakeWithThem : Prop :=
  (∀ (d : Nat) (s : State), d < 4 →
      let l := s.linkAt d
      let powered := s.memDom d = true ∧ s.dom.hub = true
      let trains : Link := { l with st := .training, attempts := 1, rejoining := false, since := s.clk }
      let still := fun (i : Instr) => completes i s (fun t => t = s)
      let only := fun (i : Instr) (x : Link) => completes i s fun t =>
        t.linkAt d = x ∧ (∀ e, e ≠ d → t.linkAt e = s.linkAt e) ∧ { t with link := s.link } = s
      (powered → (l.st = .down ∨ l.st = .offline ∨ (l.st = .fenced ∧ s.field (A.d2dCtrl d) 3 3 = 0)) → only (.linkTrainStart d) trains)
      ∧ (¬ powered ∨ l.st = .training ∨ l.st = .ready ∨ l.st = .up → still (.linkTrainStart d))
      ∧ (∀ dieGood hubGood wires, l.st = .training →
        let tx := (dieGood &&& ~~~ badByWires false wires) &&& ~~~ l.badTx
        let rx := (hubGood &&& ~~~ badByWires true wires) &&& ~~~ l.badRx
        let formed : Link := { l with
          enTx := tx, enRx := rx, badTx := ~~~ tx, badRx := ~~~ rx, repair := repairMap wires, parity := [], drops := [] }
        (l.attempts < 3 → completes (.trainAttemptFail d dieGood hubGood wires) s fun t =>
          t.linkAt d = { formed with attempts := l.attempts + 1 })
        ∧ (3 ≤ l.attempts → completes (.trainAttemptFail d dieGood hubGood wires) s fun t =>
          t.linkAt d = { formed with st := .offline } ∧ bit (t.reg (A.d2dEvents d)) 6 = true)
        ∧ (completes (.linkTrainComplete d dieGood hubGood wires) s fun t =>
          (t.linkAt d).enTx = tx ∧ (t.linkAt d).enRx = rx ∧ (t.linkAt d).badTx = ~~~ tx ∧ (t.linkAt d).badRx = ~~~ rx
            ∧ (t.linkAt d).repair = repairMap wires
            ∧ ((count96 tx < 72 ∨ count96 rx < 72) → (t.linkAt d).st = .offline ∧ bit (t.reg (A.d2dEvents d)) 5 = true)
            ∧ (72 ≤ count96 tx → 72 ≤ count96 rx → s.field (A.d2dCtrl d) 0 0 = 1 → (t.linkAt d).st = .offline)
            ∧ (72 ≤ count96 tx → 72 ≤ count96 rx → s.field (A.d2dCtrl d) 0 0 ≠ 1 →
              (t.linkAt d).st = if l.afterFence then .ready else .up)))
      ∧ (l.st = .ready → only (.d2dRejoin d) { l with rejoining := true })
      ∧ (l.st ≠ .ready → still (.d2dRejoin d))
      ∧ (powered → l.st ≠ .up → only (.d2dRetrain d) trains)
      ∧ (∀ on, l.st ≠ .up ∨ on = false → completes (.d2dHold d on) s fun t =>
        t.field (A.d2dCtrl d) 0 0 = (if on then 1 else 0) ∧ t.linkAt d = l ∧ { t with regs := s.regs, edge := s.edge } = s)
      ∧ (l.st = .ready → l.rejoining = true → completes (.linkRejoinComplete d) s fun t =>
        (t.linkAt d).st = .up ∧ (t.linkAt d).afterFence = false ∧ t.coreDom d = true ∧ (∀ i, i < 8 → (t.stackAt d i).trained = true)
          ∧ t.field (A.d2dCtrl d) 3 3 = 0 ∧ (t.updAt d).calls = []
          ∧ ∀ a, 128 * d * 2 ^ 31 ≤ a → a < 128 * (d + 1) * 2 ^ 31 → Memory.byte t.mem.bytes a = 0)
      ∧ (∀ dir b, l.st = .up → b < 96 →
        let one : BitVec 96 := BitVec.ofNat 96 (2 ^ b)
        let agreed := (if dir then l.enRx else l.enTx).getLsbD b = true
        let left := count96 ((l.withBad dir b).good dir)
        let dropped := fun (t : State) => (t.linkAt d).st = .up
          ∧ (t.linkAt d).drops = l.drops ++ [(dir, b, (s.time.counter.toNat + 512 + 127) / 128)]
          ∧ (dir = false → (t.linkAt d).badTx = l.badTx ||| one ∧ (t.linkAt d).badRx = l.badRx)
          ∧ (dir = true → (t.linkAt d).badRx = l.badRx ||| one ∧ (t.linkAt d).badTx = l.badTx)
          ∧ (t.linkAt d).enTx = l.enTx ∧ (t.linkAt d).enRx = l.enRx ∧ bit (t.reg (A.d2dEvents d)) 3 = true
        let alone := s.fencePending d .clock = false ∧ s.fencePending d .reset = false
        let errors := ((Tab.get [] l.parity (b2n dir * 96 + b)).filter fun t => decide (s.clk < t + 2000000)).length + 1
        let threshold := s.field (A.d2dCfg d) 15 0
        (∀ wrong edge hits, ¬ agreed ∨ l.detects dir b wrong edge = false → still (.parityError d dir b wrong edge hits))
        ∧ (∀ wrong edge, agreed → l.detects dir b wrong edge = true → threshold = 0 ∨ errors < threshold →
          (completes (.parityError d dir b wrong edge []) s fun t =>
            fld (t.reg (A.d2dErr d)) 63 32 = min (2 ^ 32 - 1) (fld (s.reg (A.d2dErr d)) 63 32 + 1)
              ∧ bit (t.reg (A.d2dEvents d)) 2 = true ∧ { t with link := s.link, regs := s.regs, edge := s.edge } = s)
          ∧ (∀ n id r, n < 2560 → ((s.coreAt n).rem.find? fun x => x.id == id) = some r → (s.coreAt n).st = .running →
            completes (.parityError d dir b wrong edge [.reply n id]) s fun t =>
              (t.coreAt n).sreg r.d = (if r.d = 0 then 0 else if r.wide then BitVec.allOnes 64 else 0xFFFFFFFF)
                ∧ (t.coreAt n).st = .faulted ∧ t.reg (A.coreFault n) = BitVec.ofNat 64 (8 * 2 ^ 56 + r.pc % 2 ^ 20)
                ∧ (∀ x ∈ (t.coreAt n).rem, x.id ≠ id)))
        ∧ (∀ wrong edge, agreed → l.detects dir b wrong edge = true → 1 ≤ threshold → threshold ≤ errors → alone →
          (l.good dir).getLsbD b = true → 72 ≤ left → completes (.parityError d dir b wrong edge []) s dropped)
        ∧ (alone → (l.good dir).getLsbD b = true → 72 ≤ left → completes (.bundleDrop d dir b) s dropped)
        ∧ (alone → (l.good dir).getLsbD b = true → left < 72 → completes (.bundleDrop d dir b) s fun t =>
          (t.linkAt d).st = .fenced ∧ t.coreDom d = false ∧ bit (t.reg (A.d2dEvents d)) 5 = true ∧ bit (t.reg (A.d2dEvents d)) 1 = true)
        ∧ (∀ slot, (dir, b, slot) ∈ l.drops → slot ≤ s.time.counter.toNat / 128 → only (.bundleRestripe d dir b) { l with
            enTx := if dir then l.enTx else l.enTx &&& ~~~ one
            enRx := if dir then l.enRx &&& ~~~ one else l.enRx
            drops := l.drops.filter fun x => !(x.1 == dir && x.2.1 == b) })))
  ∧ (∀ (d : Nat) (s : State), d < 4 → (s.linkAt d).st = .up →
      let fenced := fun (st : LinkSt) (t : State) =>
        (t.linkAt d).st = st ∧ (t.linkAt d).afterFence = true ∧ t.coreDom d = false ∧ t.reg (A.fenceCt d) = s.time.counter
          ∧ bit (t.reg (A.d2dEvents d)) 1 = true ∧ (∀ n, dieOf n = d → (t.coreAt n).st = .reset ∧ (t.coreAt n).store = [])
          ∧ (∀ a, 128 * d * 2 ^ 31 ≤ a → a < 128 * (d + 1) * 2 ^ 31 → Memory.byte t.mem.bytes a = 0)
          ∧ (∀ e, e < 4 → e ≠ d → ∀ x ∈ t.rcAt e, x.home ≠ d) ∧ t.rcAt d = [] ∧ (t.copyAt d).descs = [] ∧ (t.updAt d).calls = []
      (∀ c, completes (.dieFence d c) s fun t => fenced .fenced t ∧ (c = .clock → bit (t.reg (A.d2dEvents d)) 0 = true))
      ∧ (s.fencePending d .clock = false → s.fencePending d .reset = false → completes (.d2dFence d) s fun t => fenced .fenced t ∧ bit (t.reg (A.d2dCtrl d)) 3 = true)
      ∧ (completes (.d2dHold d true) s fun t => fenced .fenced t ∧ bit (t.reg (A.d2dCtrl d)) 0 = true)
      ∧ (s.memDom d = true → s.dom.hub = true → completes (.d2dRetrain d) s (fenced .training)))
  ∧ (∀ (d : Nat) (s : State), d < 4 → s.coreDom d = true →
      let spoilt := fun (t : State) (p : Remote → Prop) => ∀ n, dieOf n = d → ∀ r ∈ (t.coreAt n).rem, p r → r.noFill = true
      let frame := fun (t : State) => (∀ e, e ≠ d → t.rcAt e = s.rcAt e) ∧ { t with rc := s.rc, core := s.core, regs := s.regs, edge := s.edge } = s
      (completes (.invAll d) s fun t => t.rcAt d = [] ∧ spoilt t (fun _ => True) ∧ frame t)
      ∧ (∀ k, k < 16 → completes (.invPart d k) s fun t =>
        t.rcAt d = (s.rcAt d).filter (fun l => l.part != k) ∧ spoilt t (fun r => r.part = k) ∧ frame t)
      ∧ (∀ v : W64, bit v 5 = false → bit v 4 = false → completes (.rcEnable d v) s fun t =>
        bit (t.reg (A.rcCtrl d)) 6 = bit v 6
          ∧ (bit v 6 = true → bit (s.reg (A.rcCtrl d)) 6 = false → t.rcAt d = [] ∧ spoilt t (fun _ => True))
          ∧ ((bit v 6 = false ∨ bit (s.reg (A.rcCtrl d)) 6 = true) → t.rcAt d = s.rcAt d) ∧ frame t))

/-! ### Packets -/

/-- Requests at their target (R224, R227, R230, R233, R242, R256): in turn they are performed and answered; what the target may
not do is refused with its cause. The model's own choices in it: log 59, 60, 64. -/
def Obligations.TargetsAnswerRequests : Prop :=
  (∀ (q : Packet) (k : Nat) (s : State),
      let e := qSrc q
      let m := qCore q
      let c := s.coreAt m
      let a := qStore q
      let n := accessBytes (qType q)
      let old := Memory.bytes c.store a n
      let advanced := fun (t : State) => (t.dstAt e).expected = some ((qSeq q + 1) % 2 ^ 24)
      let others := fun (t : State) => (∀ x, x ≠ m → t.coreAt x = s.coreAt x) ∧ t.mem = s.mem
      let storeOnly := fun (t : State) => { t.coreAt m with store := c.store, cnt := c.cnt } = c
      let copies := fun (i : Instr) (type : Nat) => qType q = type → completes i s fun t =>
        (t.coreAt m).store = (qGranules q).zipIdx.foldl (fun st x => storeEffect q st (a + 64 * x.2) x.1) c.store
          ∧ storeOnly t ∧ others t ∧ advanced t ∧ (t.dstAt e).ackDue.isSome = true
          ∧ (qLast q = true → qSignal q = true → qPmask q = 0 → signalKey q ∉ (s.dstAt e).bad → c.st ≠ .reset →
            (t.coreAt m).counter (qDstCnt q) = c.counter (qDstCnt q) + 1)
          ∧ ((qLast q = false ∨ qSignal q = false) → (t.coreAt m).cnt = c.cnt)
      s.inTurn q → e ≠ s.topo.ownEid → s.refusal q = (none, k) →
        (qInStore q = true →
          (isLoad (qType q) = true → s.ep.records.length < 65536 → completes (.load q) s fun t =>
            sentAnswer 0x30 0 e (qSeq q) old s t ∧ t.core = s.core ∧ t.mem = s.mem ∧ advanced t
              ∧ ∃ r, t.ep.records = s.ep.records ++ [r] ∧ r.eid = e ∧ r.seq = qSeq q ∧ r.at_ = s.ct)
          ∧ (isStore (qType q) = true → completes (.store q) s fun t =>
            (t.coreAt m).store = Memory.write c.store a q.payload ∧ storeOnly t ∧ (t.coreAt m).cnt = c.cnt ∧ others t ∧ advanced t
              ∧ (t.dstAt e).ackDue.isSome = true)
          ∧ (isAtomic (qType q) = true → s.ep.records.length < 65536 → completes (.atomic q) s fun t =>
            sentAnswer 0x30 0 e (qSeq q) old s t
              ∧ (t.coreAt m).store = Memory.write c.store a (toBytes n (atomicNew (qType q) (ofBytes old)
                  (ofBytes (q.payload.take n)) (ofBytes ((q.payload.drop n).take n))))
              ∧ storeOnly t ∧ (t.coreAt m).cnt = c.cnt ∧ others t ∧ advanced t)
          ∧ copies (.write q) 0x20 ∧ copies (.reduce q) 0x21 ∧ copies (.gfxor q) 0x22
          ∧ (qType q = 0x23 → completes (.readReq q) s fun t =>
            sentAnswer 0x33 0 e (qSeq q) ((List.range (qLen q / 64)).flatMap fun i => Memory.bytes c.store (a + 64 * i) 64) s t
              ∧ t.core = s.core ∧ t.mem = s.mem ∧ advanced t)))
  ∧ (∀ (q : Packet) (cause k : Nat) (s : State), s.inTurn q → qSrc q ≠ s.topo.ownEid → s.refusal q = (some cause, k) → cause ≠ 4 →
      let refuses := fun (i : Instr) (ok : Bool) => ok = true → (hasReply (qType q) = true → s.ep.records.length < 65536) →
        completes i s fun t => sentAnswer 0x31 cause (qSrc q) (qSeq q) [] s t ∧ t.core = s.core ∧ t.mem = s.mem
          ∧ fld (t.reg A.epStat) 15 0 = min 65535 (fld (s.reg A.epStat) 15 0 + 1)
      refuses (.load q) (isLoad (qType q)) ∧ refuses (.store q) (isStore (qType q)) ∧ refuses (.atomic q) (isAtomic (qType q))
        ∧ refuses (.write q) (qType q == 0x20) ∧ refuses (.reduce q) (qType q == 0x21) ∧ refuses (.gfxor q) (qType q == 0x22)
        ∧ refuses (.readReq q) (qType q == 0x23))

/-- Answers at their source (R134, R228, R243, R246, R257): a reply writes the register that waits for it; a refusal, before or
after the acknowledgement, and a reply with poison give the poison value, the exception and a job fault; an acknowledgement ends
what it covers; data of a pull go where the descriptor says. The model's own choices in it: log 61. -/
def Obligations.SourcesTakeAnswers : Prop :=
  ∀ (q : Packet) (n id : Nat) (s : State), n < 2560 →
    let e := qSrc q
    let c := s.coreAt n
    let others := fun (t : State) => ∀ m, m ≠ n → t.coreAt m = s.coreAt m
    let poison := fun (r : Remote) (w : W64) => w = if r.d = 0 then 0 else if r.wide then BitVec.allOnes 64 else 0xFFFFFFFF
    (s.hears q → qType q = 0x30 → ∀ r x, Tab.find (s.srcAt e).answers (qSeq q) = some (.access n id, x) →
      (c.rem.find? fun y => y.id == id) = some r →
      (s.ct ≤ r.at_ + 20000 → qPmask q % 2 = 0 → completes (.reply q) s fun t =>
        (t.coreAt n).sreg r.d = (if r.d = 0 then 0 else BitVec.ofNat 64 (ofBytes (q.payload.take (if r.wide then 8 else 4))))
          ∧ (∀ k, k ≠ r.d → (t.coreAt n).sreg k = c.sreg k) ∧ (t.coreAt n).rem = c.rem.filter (fun y => y.id != id)
          ∧ { t.coreAt n with s := c.s, rem := c.rem } = c ∧ others t)
      ∧ (s.ct ≤ r.at_ + 20000 → qPmask q % 2 = 1 → c.st = .running → completes (.reply q) s fun t =>
        poison r ((t.coreAt n).sreg r.d) ∧ (t.coreAt n).st = .faulted ∧ (t.coreAt n).rem = c.rem.filter (fun y => y.id != id)
          ∧ t.reg (A.coreFault n) = BitVec.ofNat 64 (8 * 2 ^ 56 + r.pc % 2 ^ 20)
          ∧ (r.tag ≠ 0 → r.part < 16 → bit (t.reg A.epJobfault) r.part = true) ∧ others t)
      ∧ (r.at_ + 20000 < s.ct → completes (.reply q) s fun t =>
        t.core = s.core ∧ fld (t.reg A.epErr) 31 16 = min 65535 (fld (s.reg A.epErr) 31 16 + 1)))
    ∧ (s.hears q → qType q = 0x31 → qArg q ≠ 7 →
      ∀ u, ((s.srcAt e).unacked.find? fun u => u.seq == qSeq q && !u.lost) = some u →
      (∀ r, u.own = .access n id → (c.rem.find? fun y => y.id == id) = some r → c.st = .running → completes (.refusal q) s fun t =>
        poison r ((t.coreAt n).sreg r.d) ∧ (t.coreAt n).st = .faulted ∧ (t.coreAt n).rem = c.rem.filter (fun y => y.id != id)
          ∧ t.reg (A.coreFault n) = BitVec.ofNat 64 ((if qArg q = 6 then 11 else 9) * 2 ^ 56 + r.pc % 2 ^ 20) ∧ others t)
      ∧ (∀ r, u.own = .store n id → (c.rstores.find? fun y => y.id == id) = some r → c.st = .running → completes (.refusal q) s fun t =>
        (t.coreAt n).rstores = c.rstores.filter (fun y => y.id != id) ∧ (t.coreAt n).st = .faulted
          ∧ t.reg (A.coreFault n) = BitVec.ofNat 64 (9 * 2 ^ 56 + r.pc % 2 ^ 20) ∧ others t)
      ∧ (∀ d chunk y, u.own = .copy d id chunk → s.descAt d id = some y → completes (.refusal q) s fun t =>
        (∃ z, t.descAt d id = some z ∧ z.outstanding = y.outstanding - 1
          ∧ z.status = (if y.status = 0 then (if qArg q = 4 then 4 else 3) else y.status)) ∧ t.core = s.core))
    ∧ (s.hears q → qType q = 0x31 → qArg q ≠ 7 → ((s.srcAt e).unacked.find? fun u => u.seq == qSeq q && !u.lost) = none →
      ∀ r x, Tab.find (s.srcAt e).answers (qSeq q) = some (.access n id, x) → (c.rem.find? fun y => y.id == id) = some r → c.st = .running →
        completes (.refusal q) s fun t =>
          poison r ((t.coreAt n).sreg r.d) ∧ (t.coreAt n).st = .faulted ∧ (t.coreAt n).rem = c.rem.filter (fun y => y.id != id)
            ∧ t.reg (A.coreFault n) = BitVec.ofNat 64 ((if qArg q = 6 then 11 else 9) * 2 ^ 56 + r.pc % 2 ^ 20) ∧ others t)
    ∧ (s.dom.hub = true → s.isOwn q = true → qIntact q = true → qValid q = true → qAckValid q = true → qType q = 0x32 →
      ∀ u, (s.srcAt e).unacked = [u] → qAckSeq q = u.seq % 2 ^ 16 → s.hub.dynWait = [] → completes (.ack q) s fun t =>
        (t.srcAt e).unacked = []
          ∧ (u.own = .store n id → (t.coreAt n).rstores = c.rstores.filter (fun y => y.id != id) ∧ others t ∧ t.copy = s.copy)
          ∧ (u.own = .none → t.core = s.core ∧ t.copy = s.copy))
    ∧ (s.hears q → qType q = 0x33 → ∀ d x y, Tab.find (s.srcAt e).answers (qSeq q) = some (.copy d id y.given, x) →
      s.descAt d id = some y → y.core = n → dstKind y.words = 0 → descOp y.words = 0 → descZskip y.words = false →
      descRowBytes y.words % 64 = 0 → chunkDst y.words y.given % 64 = 0 → qPmask q = 0 →
      Tab.find y.got (y.given + 1) = none → ((qGranules q).flatMap Prod.fst).length = chunkLen y.words y.given →
      completes (.readData q) s fun t =>
        (∃ z, t.descAt d id = some z ∧ z.given = y.given + 1 ∧ z.outstanding = y.outstanding - 1
          ∧ z.bytes = y.bytes + chunkLen y.words y.given)
          ∧ (∀ i, i < chunkLen y.words y.given →
            Memory.byte (t.coreAt n).store (chunkDst y.words y.given + i) = ((qGranules q).flatMap Prod.fst).getD i 0) ∧ others t)

/-- Time-outs of requests, answers and records (R228, R232, R233, R257). The model's own choices in it: log 26, 62, 121. -/
def Obligations.RequestsTimeOut : Prop :=
  ∀ (e : Nat) (s : State),
    (∀ n id r, n < 2560 → ((s.coreAt n).rem.find? fun y => y.id == id) = some r → r.at_ + 20000 ≤ s.ct → (s.coreAt n).st = .running →
      completes (.remoteAccessTimeout n id) s fun t =>
        (t.coreAt n).sreg r.d = (if r.d = 0 then 0 else if r.wide then BitVec.allOnes 64 else 0xFFFFFFFF)
          ∧ (t.coreAt n).st = .faulted ∧ (t.coreAt n).rem = (s.coreAt n).rem.filter (fun y => y.id != id)
          ∧ t.reg (A.coreFault n) = BitVec.ofNat 64 (8 * 2 ^ 56 + r.pc % 2 ^ 20))
    ∧ (∀ seq u, ((s.srcAt e).unacked.find? fun u => u.seq == seq && !u.lost) = some u →
      (u.lastAt + 8000 ≤ s.clk → u.tries < (if hasReply (qType u.q) then 2 else 4) →
        (∀ x ∈ s.hub.inject, isRequest (qType x.2) = true → qDest x.2 = e → qSeq x.2 ≠ seq) → (s.isOwn u.q = true → s.inboundRoom u.q 0 = true) →
        (qStream u.q ≠ 0 ∨ s.isOwn u.q = true ∨ s.affordable u.q (budgetOf (qTag u.q) u.part) = true) → completes (.retransmitTimeout e seq) s fun t =>
          (∃ v ∈ (t.srcAt e).unacked, v.seq = seq ∧ v.tries = u.tries + 1 ∧ v.lastAt = s.clk ∧ qRetry v.q = true
            ∧ v.q.w0 = u.q.w0 ∧ v.q.payload = u.q.payload)
            ∧ fld (t.reg A.epStat) 63 48 = min 65535 (fld (s.reg A.epStat) 63 48 + 1) ∧ t.core = s.core)
      ∧ (∀ d id chunk y, u.own = .copy d id chunk → u.firstAt + 40000 ≤ s.clk → s.descAt d id = some y →
        completes (.copyTimeout e seq) s fun t =>
          (∃ z, t.descAt d id = some z ∧ z.status = (if y.status = 0 then 6 else y.status) ∧ z.outstanding = y.outstanding - 1
            ∧ z.next = y.next) ∧ t.core = s.core))
    ∧ (∀ seq d id chunk x y, ((s.srcAt e).unacked.find? fun u => u.seq == seq && !u.lost) = none →
      Tab.find (s.srcAt e).answers seq = some (.copy d id chunk, x) → x.1 + 40000 ≤ s.clk → s.descAt d id = some y →
      completes (.copyTimeout e seq) s fun t =>
        (∃ z, t.descAt d id = some z ∧ z.status = (if y.status = 0 then 6 else y.status) ∧ z.outstanding = y.outstanding - 1
          ∧ z.next = y.next) ∧ Tab.find (t.srcAt e).answers seq = none ∧ t.core = s.core)
    ∧ (∀ seq, completes (.replyRecordExpiry e seq) s fun t =>
      t.ep.records = s.ep.records.filter (fun r => !(r.eid == e && r.seq == seq && decide (r.at_ + 40000 ≤ s.ct)))
        ∧ { t with ep := s.ep } = s ∧ t.ep.src = s.ep.src ∧ t.ep.dst = s.ep.dst)
    ∧ (∀ v q k, (s.dstAt e).waitRec = true → s.ep.records.length < 65536 → (s.dstAt e).expected = some v →
      Tab.find (s.dstAt e).reorder v = some q → Tab.find (s.dstAt e).reorder ((v + 1) % 2 ^ 24) = none → v < 2 ^ 24 → qSrc q = e →
      s.refusal q = (none, k) → isLoad (qType q) = true → qInStore q = true → completes (.recordWaitPerform e) s fun t =>
        (t.dstAt e).expected = some ((v + 1) % 2 ^ 24) ∧ (t.dstAt e).waitRec = false
          ∧ t.ep.records.length = s.ep.records.length + 1 ∧ t.core = s.core)
    ∧ (∀ x, (s.dstAt e).ackDue = some x → x + 1000 ≤ s.clk → e < 2 ^ 16 → e ≠ s.topo.ownEid →
      (∀ y ∈ s.hub.inject, qType y.2 = 0x32 → qDest y.2 ≠ e) → completes (.ackTimer e) s fun t =>
        t.core = s.core ∧ t.ep = s.ep ∧ ∃ r, t.hub.inject = s.hub.inject ++ [(97, r)] ∧ qType r = 0x32 ∧ qDest r = e
          ∧ ∀ v, (s.dstAt e).expected = some v → s.ackLimit r = some v → qAckValid (t.dress r) = true ∧ qAckSeq (t.dress r) = (v + 0xFFFFFF) % 2 ^ 16)

/-! ### The router -/

/-- Frames of a link (R259 to R262, R264, R265, R267, R270, R271, R273, R274, R292): a good frame keeps its lane live; a packet in
order for this module is ejected and one for another module leaves on the port that allocation names past the claims of older
frames; frames ahead of a missing one are held, and a NAK asks for and brings the rest again; the endpoint's frames leave as
budgets and outputs allow; a frame with an uncorrectable codeword or word, or whose CRC fails, is discarded. The model's own
choices in it: log 67, 68, 69, 110, 121. -/
def Obligations.FramesMoveThroughTheRouter : Prop :=
  ∀ (p l : Nat) (f : Frame) (s : State), p < 93 → l < fullLanes p → s.portUp p = true →
    let x := s.portAt p
    let good := x.rxLanes.getLsbD l = true ∧ f.errs.any cwBad = false ∧ fIntact f = true ∧ fValid f = true
    let live := fun (t : State) => Tab.find (t.portAt p).lastGood l = some s.ct
    let plain := qIntact f.q = true ∧ qValid f.q = true ∧ s.spoofed p f.q = false ∧ s.tooOld f.q = false
    let lost := fun (t : State) => fld (t.reg A.drops) 31 16 = min 65535 (fld (s.reg A.drops) 31 16 + 1) ∧ t.out = s.out
    let left := fun (o : Nat) (q : Packet) (t : State) => ∃ lane g, t.out = .frame o lane g :: s.out ∧ g.q.payload = q.payload
      ∧ g.q.w3 = q.w3 ∧ fType g = 1 ∧ fSeq g = (s.portAt o).txSeq % 2 ^ 16 ∧ (t.portAt o).txSeq = ((s.portAt o).txSeq + 1) % 2 ^ 16
      ∧ (t.portAt o).belay.length = (s.portAt o).belay.length + 1
    (good → fType f = 1 → fSeq f = x.rxSeq → x.held = [] → x.belay = [] → plain →
      (s.isOwn f.q = true → (isReplyClass (qType f.q) = true ∨ s.inboundRoom f.q (s.olderBytes f.q) = true) →
        completes (.dataFrame p l f) s fun t =>
          t.hub.inbound = s.hub.inbound ++ [f.q] ∧ (t.portAt p).rxSeq = (x.rxSeq + 1) % 2 ^ 16 ∧ live t ∧ t.out = s.out)
      ∧ (∀ v, s.isOwn f.q = false → qSched f.q = false → s.allocate (s.claimedBy (p, f.q) s.transitPending) f.q = some v →
        completes (.dataFrame p l f) s fun t =>
          left v.port f.q t ∧ (t.portAt p).rxSeq = (x.rxSeq + 1) % 2 ^ 16 ∧ live t ∧ t.hub.inbound = s.hub.inbound))
    ∧ (good → fType f = 1 → x.belay = [] → 0 < (fSeq f + 2 ^ 16 - x.rxSeq) % 2 ^ 16 →
      (fSeq f + 2 ^ 16 - x.rxSeq) % 2 ^ 16 < 2 ^ 15 → x.held.length < 32 → completes (.dataFrame p l f) s fun t =>
        Tab.find (t.portAt p).held (fSeq f) = some f.q ∧ (t.portAt p).rxSeq = x.rxSeq ∧ (t.portAt p).gapAt.isSome = true ∧ live t
          ∧ t.hub.inbound = s.hub.inbound ∧ t.out = s.out)
    ∧ (x.rxLanes.getLsbD l = true → fIntact f = false ∨ f.errs.any cwBad = true → completes (.dataFrame p l f) s fun t =>
      fld (t.reg (A.pcnt p)) 31 16 = min 65535 (fld (s.reg (A.pcnt p)) 31 16 + 1) ∧ (t.portAt p).rxSeq = x.rxSeq ∧ (t.portAt p).held = x.held
        ∧ t.hub.inbound = s.hub.inbound ∧ t.out = s.out ∧ (f.errs = [] → { t with regs := s.regs, edge := s.edge } = s))
    ∧ (good → fType f = 0 → completes (.idle p l f) s fun t =>
      live t ∧ (t.portAt p).rxSeq = x.rxSeq ∧ (t.portAt p).held = x.held ∧ t.out = s.out ∧ (f.errs = [] → t.regs = s.regs))
    ∧ (x.txLanes.getLsbD l = true → Tab.get 0 x.laneFree l ≤ 25 * s.clk → completes (.idleSend p l) s fun t =>
      (∃ g, t.out = .frame p l g :: s.out ∧ fType g = 0 ∧ fAck g = (x.rxSeq + 0xFFFF) % 2 ^ 16)
        ∧ Tab.find (t.portAt p).lastSent l = some s.clk ∧ { t with out := s.out, hub := s.hub } = s)
    ∧ (∀ b k, good → fType f = 3 → x.belay = [b] → b.fseq < 2 ^ 16 → (fAck f + 1) % 2 ^ 16 = b.fseq → k < 8 →
      x.txLanes.getLsbD k = true →
        (completes (.nak p l f []) s fun t =>
          (∃ lane g, t.out = .frame p lane g :: s.out ∧ g.q = b.q ∧ fSeq g = b.fseq) ∧ (t.portAt p).belay = [b] ∧ live t)
        ∧ (completes (.nak p l f [b.fseq]) s fun t => (t.portAt p).belay = [] ∧ lost t ∧ live t))
    ∧ (∀ y k, x.gapAt = some y → s.freeLane p = some k → (y + 400 ≤ s.clk ∨ 32 ≤ x.held.length) →
      completes (.reorderGapTimeout p) s fun t =>
        (∃ g, t.out = .frame p k g :: s.out ∧ fType g = 3 ∧ fAck g = (x.rxSeq + 0xFFFF) % 2 ^ 16)
          ∧ (t.portAt p).gapAt = some s.clk ∧ (t.portAt p).held = x.held)
    ∧ (∀ i e, 93 ≤ i → i < 100 → (s.hub.inject.find? fun e => e.1 == i && !s.waitsForSlot e.2) = some e →
      let q := (s.leaving i (qDemote e.2)).2
      let others := s.injectHeads.filter fun y => y.1 != i
      (completes (.frameInject i true) s fun t => t.hub.inject = s.hub.inject.erase e ∧ lost t)
      ∧ (qIntact q = true → s.isOwn q = false → s.knownEid (qDest q) = false → completes (.frameInject i false) s fun t =>
        t.hub.inject = s.hub.inject.erase e ∧ t.out = s.out ∧ fld (t.reg A.drops) 47 32 = min 65535 (fld (s.reg A.drops) 47 32 + 1))
      ∧ (∀ v, qIntact q = true → s.isOwn q = false → s.knownEid (qDest q) = true → s.transitPending.length < s.freeOutputs q →
        s.allocate (s.claimedBy (i, q) (s.transitPending ++ others)) q = some v → completes (.frameInject i false) s fun t =>
          left v.port q t ∧ t.hub.inject = s.hub.inject.erase e ∧ t.core = s.core)
      ∧ (qIntact q = true → s.isOwn q = false → s.knownEid (qDest q) = true → s.freeOutputs q ≤ s.transitPending.length →
        completes (.frameInject i false) s fun t => t.hub.inject = s.hub.inject ∧ t.out = s.out))
    ∧ (∀ k u dim, k < 17 → s.hub.dynWait = [u] → budgetOf (qTag u.q) u.part = k → s.affordable u.q k = true → qType u.q ≠ 0x24 →
      s.pairOpen (qDest u.q) = true → s.isOwn u.q = false → qSched u.q = false → s.firstDim (qDest u.q) = some dim →
      completes (.dynamicAdmit k) s fun t =>
        t.hub.dynWait = [] ∧ t.budgetLeft k dim = (s.budgetLeft k dim).map (· - chargedFlits u.q)
          ∧ (∃ v, (t.srcAt (qDest u.q)).unacked = (s.srcAt (qDest u.q)).unacked ++ [v] ∧ v.no = u.no
            ∧ v.seq = (s.srcAt (qDest u.q)).next ∧ t.hub.inject = s.hub.inject ++ [(93 + u.die, v.q)] ∧ v.q.payload = u.q.payload)
          ∧ t.core = s.core)
    ∧ (∀ e, x.stage = [e] → e.slot ≤ s.slot → s.slot ≤ e.last → s.schedOk = true → s.detoured p = false →
      s.slotFits p e.q = true →
        (completes (.scheduledFrameSend p false) s fun t =>
          left p e.q t ∧ (t.portAt p).stage = [] ∧ t.slotUsed p = s.slotUsed p + qFlits e.q ∧ t.core = s.core)
        ∧ (completes (.scheduledFrameSend p true) s fun t => (t.portAt p).stage = [] ∧ lost t ∧ t.core = s.core))

/-- Loss and return of ports, pitch boundaries and telemetry (R266, R267, R278 to R281, R284, R285). The model's own choices in
it: log 26. -/
def Obligations.PortsAndPitches : Prop :=
  ∀ s : State,
    (∀ p, p < 93 →
      let x := s.portAt p
      (s.portUp p = true → s.silent p = true → completes (.portLost p) s fun t =>
        (t.portAt p).st = .lost ∧ (t.portAt p).lostAt = some s.ct ∧ (t.portAt p).txLanes = 0 ∧ (t.portAt p).rxLanes = 0
          ∧ (t.portAt p).stage = [] ∧ (t.portAt p).belay = x.belay ∧ bit (t.reg A.hubEvents) 0 = true
          ∧ t.hub.inject = s.hub.inject ∧ (x.stage = [] → t.out = s.out))
      ∧ (x.st ≠ .up → x.lostAt.isSome = true → x.detour = false → completes (.detourApply p) s fun t => (t.portAt p).detour = true)
      ∧ (∀ bad, x.st ≠ .up → x.lostAt.isSome = true → completes (.belayReinject p bad) s fun t =>
        let kept := x.belay.filter fun b => !bad.contains b.fseq
        (t.portAt p).belay = [] ∧ t.hub.inject = s.hub.inject ++ kept.map (fun b => (99, qDemote b.q))
          ∧ fld (t.reg A.drops) 31 16 = min 65535 (fld (s.reg A.drops) 31 16 + (x.belay.length - kept.length))
          ∧ { t with hub := s.hub, regs := s.regs, edge := s.edge } = s ∧ ∀ q, q ≠ p → t.portAt q = s.portAt q)
      ∧ (∀ y, x.upAt = some y → x.st = .up → x.detour = true → y + 2000000 ≤ s.clk →
        s.time.counter.toNat % (128 * 2 ^ s.hub.log2P) = 0 → completes (.detourRelease p) s fun t =>
          t.portAt p = { x with detour := false } ∧ bit (t.reg A.hubEvents) 1 = true ∧ ∀ q, q ≠ p → t.portAt q = s.portAt q))
    ∧ (s.dom.hub = true → s.time.counter.toNat % (128 * 2 ^ s.hub.log2P) = 0 →
      (completes .pitchBoundary s fun t =>
        (∀ k dim, k < 17 → dim < 3 → t.budgetLeft k dim = s.budgetField k dim)
          ∧ (s.field A.telCfg 63 63 = 1 → t.hub.mapPitches = s.hub.mapPitches + 1 ∧ t.hub.port = s.hub.port)
          ∧ (s.field A.telCfg 63 63 = 0 → t.hub.mapPitches = 0)
          ∧ (∀ l, s.hub.bankWait = some l → (l = s.hub.log2P ∨ s.slot % 2 ^ l = 0) →
            t.hub.bank = 1 - s.hub.bank ∧ t.hub.log2P = l ∧ t.hub.bankWait = none)
          ∧ ((s.hub.bankWait = none ∨ ∃ l, s.hub.bankWait = some l ∧ l ≠ s.hub.log2P ∧ s.slot % 2 ^ l ≠ 0) →
            t.hub.bank = s.hub.bank ∧ t.hub.log2P = s.hub.log2P ∧ t.hub.bankWait = s.hub.bankWait)
          ∧ { t with hub := s.hub } = s)
      ∧ (s.field A.telCfg 63 63 = 1 → 2 ^ s.hub.mapEvery ≤ s.hub.mapPitches → completes .telemetryMapClose s fun t =>
        Tab.find t.hub.maps (s.hub.mapSeq % 64) = some { words := s.mapWords, touched := false }
          ∧ t.hub.newest = s.hub.mapSeq % 64 ∧ t.hub.mapSeq = s.hub.mapSeq + 1 ∧ t.hub.mapPitches = 0
          ∧ t.hub.mapStart = s.time.counter ∧ t.hub.mapEvery = s.field A.telCfg 3 0))
    ∧ (s.dom.hub = true → completes .telDataRead s fun t =>
      t.out = .softRead A.telData s.telWord :: s.out
        ∧ t.field A.telSel 8 0 = (if s.field A.telSel 8 0 = 379 then 0 else (s.field A.telSel 8 0 + 1) % 512)
        ∧ t.field A.telSel 15 10 = s.field A.telSel 15 10)

/-! ### Optical links -/

/-- Lane changes (R13, R260, R292, R293, R297, R298, R305): a silent or faulty lane leaves its receive set at once and recovers;
planned changes are announced, answered, and take effect at their switch slot or wait for a later attempt; a frame with a reserved
value is discarded and counted. The model's own choices in it: log 26, 71, 110, 112. -/
def Obligations.LanesLeaveAndJoin : Prop :=
  ∀ (p l : Nat) (s : State), s.placed p → l < fullLanes p → s.portUp p = true →
    let q := s.posServing p
    let sets := fun (t : State) => (∀ d, (t.portAt p).lanes d = (s.portAt p).lanes d) ∧ ∀ o, o ≠ p → t.portAt o = s.portAt o
    let faulty := fun (t : State) => (t.portAt p).rxLanes.getLsbD l = false ∧ (t.laneAt q l true).st = .locking
      ∧ (∀ k, k < 8 → k ≠ l → (t.portAt p).rxLanes.getLsbD k = (s.portAt p).rxLanes.getLsbD k)
      ∧ (∀ c ∈ t.opt.change, ¬(c.port = p ∧ c.lane = l ∧ c.dir = true))
      ∧ ((∀ k, k < fullLanes p → k ≠ l → (s.laneAt q k true).st ≠ .recal) → sentControl p 1 l true 1 s t)
      ∧ (∀ k, k < fullLanes p → k ≠ l → (s.laneAt q k true).st = .recal → laneCount (s.portAt p).rxLanes < fullLanes p →
        (t.laneAt q k true).st = .locking ∧ (t.laneAt q k true).toned = true ∧ (t.laneAt q k true).offset = (s.laneAt q k true).offset
          ∧ ∃ c ∈ t.opt.change, c.port = p ∧ c.lane = k ∧ c.dir = true ∧ c.add = true ∧ c.ours = true)
      ∧ fld (t.reg (A.perr q)) 15 0 = min 65535 (fld (s.reg (A.perr q)) 15 0 + 1)
      ∧ fld (t.reg A.optCounts) 47 32 = min 65535 (fld (s.reg A.optCounts) 47 32 + 1)
    ((s.portAt p).rxLanes.getLsbD l = true → Tab.get 0 (s.portAt p).lastGood l + 2000 ≤ s.ct →
      completes (.laneSilence p l) s faulty)
    ∧ ((s.portAt p).rxLanes.getLsbD l = true →
      4 ≤ ((Tab.get [] (s.portAt p).fecBad l).filter fun t => decide (s.clk < t + 2000000)).length →
        completes (.laneFecFault p l) s faulty)
    ∧ (∀ f : CtlFrame, s.takesCtl p l f 1 →
      let b := f.body
      let v := s.afterCtl p l f
      let peers := fun (add : Bool) => ({ port := p, dir := !ctlDir b, lane := ctlLane b, add := add, cause := ctlCause b, slot := ctlSlot b, ours := false, acked := true, retryAt := none, refused := false } : LaneChange)
      let crossing := fun (c : LaneChange) => c.port = p ∧ c.dir = !ctlDir b ∧ c.ours = true ∧ c.retryAt = none ∧ c.refused = false
      let gone := (s.laneAt q (ctlLane b) (!ctlDir b)).st = .retired
      let answered := fun (add : Bool) (i : Instr) =>
        (s.opt.change = [] → (add = true → ¬gone) → completes i s fun t => t.opt.change = [peers add]
            ∧ sentControl p 3 (ctlLane b) (!ctlDir b) 0 v t ∧ sets t ∧ t.opt.lane = s.opt.lane)
        ∧ (s.opt.change = [] → add = true → gone → completes i s fun t => t.opt.change = []
            ∧ sentControl p 3 (ctlLane b) (!ctlDir b) 15 v t ∧ sets t ∧ t.opt.lane = s.opt.lane)
        ∧ (∀ c, s.opt.change = [c] → crossing c → s.topo.ownEid < ctlEid b → completes i s fun t =>
          t.opt.change = [c] ∧ sentControl p 3 (ctlLane b) (!ctlDir b) 15 v t ∧ sets t)
        ∧ (∀ c, s.opt.change = [c] → crossing c → ctlEid b ≤ s.topo.ownEid → (add = true → ¬gone) → completes i s fun t =>
          t.opt.change = [{ c with refused := true }, peers add] ∧ sentControl p 3 (ctlLane b) (!ctlDir b) 0 v t ∧ sets t)
      (ctlValid b = false ∨ fullLanes p ≤ ctlLane b →
        completes (.laneDrop p l f) s (fun t => t = v.bump A.drops 15 0 1)
        ∧ completes (.laneAdd p l f) s (fun t => t = v.bump A.drops 15 0 1)
        ∧ completes (.laneAck p l f) s (fun t => t = v.bump A.drops 15 0 1))
      ∧ (ctlValid b = true → ctlLane b < fullLanes p →
        (ctlSub b = 1 → ctlCause b = 1 → completes (.laneDrop p l f) s fun t =>
          t = { v with opt := { v.opt with change :=
            (s.opt.change.filter fun (c : LaneChange) => !(c.port == p && c.lane == ctlLane b && c.dir == !ctlDir b)) ++ [peers false] } })
        ∧ (ctlSub b = 1 → ctlCause b ≠ 1 → answered false (.laneDrop p l f))
        ∧ (ctlSub b = 2 → answered true (.laneAdd p l f))
        ∧ (∀ c, ctlSub b = 3 → s.opt.change = [c] → c.lane = ctlLane b → crossing c → completes (.laneAck p l f) s fun t =>
          t = { v with opt := { v.opt with change := [if ctlCause b = 0 then { c with acked := true } else { c with refused := true }] } })))
    ∧ (∀ c, s.opt.change = [c] → c.port = p → c.lane = l →
      let x := s.laneAt q l c.dir
      (c.retryAt = none → c.refused = false → c.slot ≤ s.slot →
        (c.ours = true → c.acked = false → completes (.laneChangeSwitch p c.dir l) s fun t =>
          t = { s with opt := { s.opt with change := [{ c with retryAt := some (s.clk + 2000000) }] } })
        ∧ (c.ours = false ∨ c.acked = true → completes (.laneChangeSwitch p c.dir l) s fun t =>
          (c.ours = true ∨ c.add = true ∨ c.cause ≠ 1 ∨ (∀ k, k < fullLanes p → (s.laneAt q k c.dir).st ≠ .recal) → t.opt.change = [])
            ∧ (∀ k, k < 8 → k ≠ l → ((t.portAt p).lanes c.dir).getLsbD k = ((s.portAt p).lanes c.dir).getLsbD k)
            ∧ (x.st = .retired → ((t.portAt p).lanes c.dir).getLsbD l = false ∧ t.laneAt q l c.dir = x)
            ∧ (x.st ≠ .retired → ((t.portAt p).lanes c.dir).getLsbD l = c.add
              ∧ (t.laneAt q l c.dir).st = (if c.add then .working else if c.ours = false then .down
                else if c.cause = 4 then .down else if c.cause = 2 then .recal else if c.cause = 3 then .retired else .locking)
              ∧ (c.add = true → (t.laneAt q l c.dir).outRecal = none)
              ∧ (c.add = false → c.cause = 2 → (t.laneAt q l c.dir).outRecal = some c.ours))))
      ∧ ((∃ y, c.retryAt = some y ∧ y ≤ s.clk) ∨ (c.refused = true ∧ c.ours = true) → c.cause < 16 →
        completes (.laneChangeRetry p c.dir l) s fun t =>
        t.opt.change = [{ c with slot := s.switchSlot p, ours := true, acked := false, retryAt := none, refused := false }]
          ∧ sentControl p (if c.add then 2 else 1) l c.dir (if c.add then 0 else c.cause) s t ∧ sets t))

/-- Rings (R294 to R297, R299, R313): locking, the tone check, qualification, recalibration, retirement and restoring. The model's
own choices in it: log 15, 26, 72, 111, 112. -/
def Obligations.RingsLockAndRecalibrate : Prop :=
  ∀ (q l : Nat) (dir : Bool) (s : State), q < 96 → l < posLanes q → s.topo.ownEid < 2 ^ 16 →
    let x := s.laneAt q l dir
    let only := fun (y : Lane) (t : State) => t = s.setLane q l dir y
    let count := fun (hi lo : Nat) (t : State) =>
      fld (t.reg A.optCounts) hi lo = min 65535 (fld (s.reg A.optCounts) hi lo + 1)
    let failed := fun (t : State) => (t.laneAt q l dir).fails = min 3 (x.fails + 1)
      ∧ (t.laneAt q l dir).st = (if 2 ≤ x.fails then .retired else .locking)
      ∧ (2 ≤ x.fails → count 15 0 t ∧ bit (t.reg A.optEvents) 1 = true)
      ∧ ((∀ p, s.portOfPos q = some p → s.portUp p = true → ((s.portAt p).lanes dir).getLsbD l = false) → t.hub = s.hub)
      ∧ ∀ p, s.portOfPos q = some p → s.portUp p = true → ((s.portAt p).lanes dir).getLsbD l = true →
        ((t.portAt p).lanes dir).getLsbD l = false ∧ ∀ o, o ≠ p → t.portAt o = s.portAt o
    let sets := fun (p : Nat) (t : State) => (∀ d, (t.portAt p).lanes d = (s.portAt p).lanes d) ∧ ∀ o, o ≠ p → t.portAt o = s.portAt o
    (∀ (step err : Int),
      (s.ringHeld q l dir = true → completes (.pilotLoopUpdate q l dir step err) s (only { x with
        heater := max 0 (min 4095 (x.heater + step))
        okSince := if -2000 ≤ err ∧ err ≤ 2000 then some (x.okSince.getD s.clk) else none
        locked := if -2000 ≤ err ∧ err ≤ 2000 then x.locked else false
        lockedAt := if -2000 ≤ err ∧ err ≤ 2000 then x.lockedAt else none
        toned := if -2000 ≤ err ∧ err ≤ 2000 then x.toned else false
        tonedAt := if -2000 ≤ err ∧ err ≤ 2000 then x.tonedAt else none }))
      ∧ (s.ringHeld q l dir = false → completes (.pilotLoopUpdate q l dir step err) s fun t => t = s))
    ∧ (∀ y, x.okSince = some y → s.ringHeld q l dir = true → x.locked = false → y + 40000 ≤ s.clk →
      completes (.ringLock q l dir) s (only { x with locked := true, lockedAt := some s.clk }))
    ∧ (∀ (tone : Nat) (margin : Int) (y : Nat), x.locked = true → x.toned = false → x.lockedAt = some y → y + 80000 ≤ s.clk →
      (toneExpected q l dir tone = true → 10 ≤ margin → completes (.toneCheck q l dir tone margin) s
        (only { x with tone := tone % 8, toned := true, tonedAt := some s.clk, fails := 0 }))
      ∧ (toneExpected q l dir tone = false ∨ margin < 10 → completes (.toneCheck q l dir tone margin) s fun t =>
        failed t ∧ count 63 48 t ∧ bit (t.reg A.optEvents) 0 = true))
    ∧ (∀ (corrected bad : Nat) (w : Nat × Nat), x.st = .locking → x.toned = true → s.qualWindow q x = some w → w.1 ≤ s.clk →
      let v := if corrected = 0 then s else s.bumpKi (A.perr q) 63 32 corrected
      (bad = 0 → corrected ≤ w.2 →
        (s.portOfPos q = none → completes (.laneQualified q l dir corrected bad) s fun t => t = v.setLane q l dir { x with st := .working })
        ∧ (∀ p, s.portOfPos q = some p →
          (s.portUp p = true → completes (.laneQualified q l dir corrected bad) s fun t =>
            planned p l dir true 0 s t ∧ t.opt.lane = s.opt.lane ∧ t.regs = v.regs)
          ∧ (s.portUp p = false → completes (.laneQualified q l dir corrected bad) s fun t => t = v.setLane q l dir { x with st := .working })))
      ∧ (bad ≠ 0 ∨ w.2 < corrected → completes (.laneQualified q l dir corrected bad) s fun t => failed t ∧ (x.fails < 2 → count 47 32 t)))
    ∧ (∀ p, s.portOfPos q = some p → s.svc.switching = none → s.portUp p = true → s.field A.optCtrl 0 0 = 1 → x.st = .working →
      ((s.portAt p).lanes dir).getLsbD l = true → s.recalDue q x = true → s.recalOut p dir = false → s.recalsOf (engineOf q) < 4 →
      completes (.recalStart q l dir) s fun t => planned p l dir false 2 s t ∧ t.opt.lane = s.opt.lane ∧ sets p t)
    ∧ (x.st = .recal →
      (∀ (offset : Int) (y : Nat), x.toned = true → x.tonedAt = some y → y + 2000000 ≤ s.clk →
        completes (.recalComplete q l dir true offset) s fun t =>
        (t.laneAt q l dir).offset = offset ∧ (t.laneAt q l dir).calAt = s.clk ∧ (t.laneAt q l dir).calTemp = s.engineTemp (engineOf q)
          ∧ (t.laneAt q l dir).fails = 0 ∧ (t.laneAt q l dir).st = .locking ∧ count 31 16 t
          ∧ ∀ p, s.portOfPos q = some p → s.portUp p = true → planned p l dir true 0 s t)
      ∧ ∀ offset : Int, completes (.recalComplete q l dir false offset) s fun t => failed t ∧ (x.fails < 2 → count 47 32 t))
    ∧ (s.dom.hub = true → completes .recalNow s fun t => t = { s with opt := { s.opt with recalAt := some s.clk } })
    ∧ (s.dom.hub = true → s.laneSelected = (q, l, dir) → x.st ≠ .retired →
      (∀ p, s.portOfPos q = some p → s.portUp p = true → ((s.portAt p).lanes dir).getLsbD l = true →
        completes .retire s fun t => planned p l dir false 3 s t ∧ t.opt.lane = s.opt.lane)
      ∧ (s.portOfPos q = none → completes .retire s fun t =>
        (t.laneAt q l dir).st = .retired ∧ bit (t.reg A.optEvents) 1 = true ∧ count 15 0 t ∧ t.hub = s.hub))
    ∧ (s.dom.hub = true → s.laneSelected = (q, l, dir) → x.st = .retired → completes .restore s fun t =>
      (t.laneAt q l dir).st = .locking ∧ (t.laneAt q l dir).fails = 0 ∧ count 47 32 t ∧ t.hub = s.hub)

/-- Cassettes and feeds (R302 to R304, R426, R427): failures move the feeds of the cassette's primary engines to their secondary
cassettes, spares and new cassettes come into use, and feeds move back. The model's own choices in it: log 26, 113. -/
def Obligations.CassettesFeedTheEngines : Prop :=
  ∀ (c : Nat) (s : State), c < 4 →
    let x := s.cassAt c
    let second := fun (k : Nat) (t : State) => ∀ e, e < 16 → e % 4 = c → (t.secAt e).getLsbD k = true
    let opticsOnly := fun (t : State) => { t with opt := s.opt, regs := s.regs, edge := s.edge } = s ∧ ∀ a, a ≠ A.optCounts → t.reg a = s.reg a
    (∀ i, i < 8 → x.st = .running → x.failed.getLsbD i = false → x.failTimes = [] → completes (.sourceFail c i) s fun t =>
      (t.cassAt c).st = .running ∧ (t.cassAt c).failed.getLsbD i = true ∧ second i t ∧ bit (t.reg A.optEvents) 2 = true
        ∧ ((x.fail i s.clk).hasSpare = false → bit (t.reg A.optEvents) 11 = true) ∧ t.hub = s.hub)
    ∧ (∀ i, i < 2 → x.st = .running → x.spareBad.getLsbD i = false → x.failTimes = [] →
      completes (.sourceFail c (8 + i)) s fun t =>
        (t.cassAt c).st = .running ∧ (t.cassAt c).spareBad.getLsbD i = true ∧ bit (t.reg A.optEvents) 2 = true ∧ t.hub = s.hub
          ∧ (∀ k, x.waveOfSource (8 + i) = some k → k < 8 → second k t)
          ∧ (x.waveOfSource (8 + i) = none → t.opt.feedSec = s.opt.feedSec))
    ∧ (∀ i y z, i < 8 → x.st = .running → x.failed.getLsbD i = false → x.failTimes = [y, z] → s.clk < y + 2000000 → s.clk < z + 2000000 →
      completes (.sourceFail c i) s fun t =>
        (t.cassAt c).st = .failed ∧ (∀ k, k < 8 → second k t) ∧ bit (t.reg A.optEvents) 2 = true ∧ bit (t.reg A.optEvents) 3 = true)
    ∧ (∀ i k, i < 2 → x.st = .running → s.svc.switching = none → (if i = 0 then x.tune0 else x.tune1) = some k → k < 8 → completes (.spareVerified c i) s fun t =>
        t.cassAt c = (if i = 0 then { x with spare0 := some k, tune0 := none } else { x with spare1 := some k, tune1 := none }) ∧ (t.cassAt c).gives k = true
          ∧ opticsOnly t)
    ∧ (∀ removed, x.present = true →
      (removed = false ∨ x.safe = false → completes (.cassetteFail c removed) s fun t =>
        (t.cassAt c).st = (if removed then .absent else .failed) ∧ (t.cassAt c).present = !removed ∧ (∀ k, k < 8 → second k t)
          ∧ bit (t.reg A.optEvents) 3 = true)
      ∧ (x.safe = true → completes (.cassetteFail c true) s fun t =>
        (t.cassAt c).st = .absent ∧ (t.cassAt c).present = false ∧ t.opt.feedSec = s.opt.feedSec ∧ opticsOnly t))
    ∧ (∀ e k, e < 16 → e % 4 = c → k < 8 → (s.secAt e).getLsbD k = true → x.gives k = true → x.st = .running →
      ((s.lanesOn e k).all (fun y => !((s.portAt y.1).lanes y.2.2).getLsbD y.2.1) = true →
        (∀ y ∈ s.lanesOn e k, s.laneOut y.1 y.2.2 k = false ∧ ∀ c ∈ s.opt.change, ¬ (c.port = y.1 ∧ c.dir = y.2.2)) →
        completes (.feedSwitchBack e k) s fun t =>
        (t.secAt e).getLsbD k = false ∧ (∀ j, j < 8 → j ≠ k → (t.secAt e).getLsbD j = (s.secAt e).getLsbD j) ∧ t.hub = s.hub)
      ∧ (∀ p l, s.lanesOn e k = [(p, l, false)] → (s.portAt p).txLanes.getLsbD l = true → laneCount (s.portAt p).txLanes = fullLanes p →
        s.opt.change = [] → s.posServing p < 96 → s.topo.ownEid < 2 ^ 16 → p < 93 → l < 8 → completes (.feedSwitchBack e k) s fun t =>
          planned p l false false 4 s t ∧ t.opt.feedSec = s.opt.feedSec ∧ (t.portAt p).txLanes = (s.portAt p).txLanes
            ∧ ∀ o, o ≠ p → t.portAt o = s.portAt o))
    ∧ (x.present = false → completes (.cassetteInsert c) s fun t =>
      t = s.setCass c { Cass.init with present := true, st := .starting })
    ∧ (∀ ok, x.st = .starting → completes (.cassetteVerifyEnd c ok) s fun t =>
      t.cassAt c = { x with st := if ok then .running else .failed } ∧ opticsOnly t)
    ∧ (x.st = .removing → completes (.cassetteSafe c) s fun t =>
      (t.cassAt c).safe = true ∧ (t.cassAt c).st = .removing ∧ (∀ k, k < 8 → second k t) ∧ t.hub = s.hub)

/-- Bring-up of ports (R285, R303, R306 to R312): release to training, the checks of the peer's identity and wiring, UP, failed
attempts, bars and holds. The model's own choices in it: log 26, 73, 74, 75, 111, 114. -/
def Obligations.PortsComeUpOrAreBarred : Prop :=
  ∀ (p : Nat) (s : State), s.placed p → s.dom.hub = true →
    let q := s.posServing p
    let x := s.portAt p
    let b := s.bringAt p
    let trains := fun (n : Nat) (t : State) => (t.portAt p).st = .training ∧ (t.bringAt p).releasedAt = some s.clk ∧ (t.bringAt p).fails = n
      ∧ (∀ l d, l < fullLanes p → (t.laneAt q l d).st = if s.ringDark q l d then .down else .locking)
      ∧ Tab.find t.opt.posIdent q = none ∧ t.regs = s.regs
    let barred := fun (cause : Nat) (t : State) => (t.portAt p).st = .barred ∧ (t.bringAt p).cause = cause ∧ (t.bringAt p).ident = none
    (s.farEid p ≠ none → x.st ≠ .up → x.st ≠ .training → completes (.releasePort p) s (trains 0)
      ∧ (∀ y, x.st = .lost → x.lostAt = some y → y + 200000000 ≤ s.ct → completes (.portRetry p) s (trains b.fails))
      ∧ (∀ y, x.st = .down → b.retryAt = some y → y ≤ s.clk → completes (.portRetry p) s (trains b.fails)))
    ∧ (s.farEid p = none → x.st = .held → completes (.releasePort p) s fun t => t = s.setPort p { x with st := .down })
    ∧ (completes (.holdPort p) s fun t => (t.portAt p).st = .held ∧ (x.st = .up → bit (t.reg A.hubEvents) 0 = true)
      ∧ (x.st ≠ .up ∨ x.stage = [] → ∀ o, o ≠ p → t.portAt o = s.portAt o))
    ∧ (∀ (l : Nat) (g : CtlFrame), l < posLanes q → cfIntact g = true → cfValid g = true → cfType g = 1 →
      s.portOfPos q = some p → x.st = .training → ctlSub g.body = 0 →
      let f := g.body
      (ctlValid f = false → completes (.ident q l g) s fun t => t = s.bump A.drops 15 0 1)
      ∧ (ctlValid f = true →
        (ctlMajor f + 1 < s.svc.protoMajor ∨ s.svc.protoMajor + 1 < ctlMajor f → completes (.ident q l g) s fun t =>
          barred 2 t ∧ bit (t.reg A.optEvents) 7 = true)
        ∧ (ctlMajor f = s.svc.protoMajor →
          (∀ d, s.digestFor (ctlEid f) = some d → d ≠ f.w1 → completes (.ident q l g) s fun t => barred 3 t ∧ bit (t.reg A.optEvents) 9 = true)
          ∧ (s.digestFor (ctlEid f) = none →
            (∀ y, b.identAt = some y → y + 2000000 ≤ s.clk → ctlRxPeer f ≠ 0xFFFF → ctlRxPeer f ≠ s.topo.ownEid →
              completes (.ident q l g) s fun t => barred 4 t ∧ bit (t.reg A.optEvents) 8 = true)
            ∧ (s.field A.optCfg 8 8 = 0 → ctlRxPeer f = s.topo.ownEid → s.farEid p ≠ some (ctlEid f) → completes (.ident q l g) s fun t =>
              barred 1 t ∧ bit (t.reg A.optEvents) 5 = true)
            ∧ (s.field A.optCfg 8 8 = 0 → ctlRxPeer f = s.topo.ownEid → s.farEid p = some (ctlEid f) →
              s.peerPort p = some (ctlLogPort f) → ctlLogPort f ≠ 127 → completes (.ident q l g) s fun t =>
                (t.bringAt p).ident = some f ∧ (t.portAt p).st = .training ∧ Tab.find t.opt.posIdent q = some f ∧ t.hub = s.hub ∧ t.out = s.out
                  ∧ (b.upSlot = none → ctlLanes f &&& BitVec.ofNat 8 (2 ^ fullLanes p - 1) ≠ 0 → s.readyLanes p ≠ 0 →
                    (t.bringAt p).upSlot = some (s.switchSlot p)))
            ∧ (∀ n, s.field A.optCfg 8 8 = 1 → ctlRxPeer f = s.topo.ownEid → s.adoptable q f = some n → s.posServing n ≠ q →
              s.wired n f = some true → completes (.ident q l g) s fun t =>
                t.posServing n = q ∧ (t.bringAt n).ident = some f ∧ bit (t.reg A.optEvents) 6 = true ∧ t.hub = s.hub)))))
    ∧ (∀ (k l : Nat) (g : CtlFrame), k < 96 → l < posLanes k → s.portOfPos k = none → cfIntact g = true → cfValid g = true → cfType g = 1 →
      ctlSub g.body = 0 → ctlValid g.body = true → Tab.find s.opt.posBar k = none →
      let first := (Tab.find s.opt.spareAt k).getD s.clk
      (s.field A.optCfg 8 8 = 1 → s.adoptable k g.body = none → s.identCause first g.body = none → completes (.ident k l g) s fun t =>
        Tab.find t.opt.posBar k = some (1, none) ∧ bit (t.reg A.optEvents) 5 = true ∧ t.hub = s.hub)
      ∧ (∀ why, s.identCause first g.body = some why → completes (.ident k l g) s fun t =>
        Tab.find t.opt.posBar k = some (why, none) ∧ t.hub = s.hub))
    ∧ (∀ (l : Nat) (g : CtlFrame), l < posLanes q → s.portOfPos q = some p → ctlValid g.body = true → ctlSub g.body = 4 →
      (x.st = .training → cfIntact g = true → cfValid g = true → cfType g = 1 → completes (.bar q l g) s (barred 5))
      ∧ (s.takesCtl p l g 1 → completes (.bar q l g) s fun t => barred 5 t ∧ bit (t.reg A.hubEvents) 0 = true))
    ∧ (x.st = .barred → s.portOfPos q = some p → b.barSentAt = none → b.cause < 16 → completes (.barRepeat q) s fun t =>
      (∃ os, t.out = os ++ s.out ∧ os.length = posLanes q ∧ ∀ l, l < posLanes q → ∃ o ∈ os, leftControl q p l 4 0 false b.cause s o)
        ∧ (t.bringAt p).barSentAt = some s.clk ∧ ∀ o, o ≠ p → t.portAt o = s.portAt o)
    ∧ (∀ f y n, b.ident = some f → b.releasedAt = some y → b.upSlot = some n → n ≤ s.slot → x.st = .training →
      y + (if s.coherent p then 40000000 else 30000000) ≤ s.clk →
      let tx := ctlLanes f &&& BitVec.ofNat 8 (2 ^ fullLanes p - 1)
      tx ≠ 0 → s.readyLanes p ≠ 0 → completes (.portUp p) s fun t =>
        (t.portAt p).st = .up ∧ (t.portAt p).peerEid = ctlEid f ∧ (t.portAt p).txSeq = 0 ∧ (t.portAt p).rxSeq = 0
          ∧ (t.portAt p).belay = [] ∧ (t.portAt p).txLanes = tx ∧ (t.portAt p).rxLanes = s.readyLanes p ∧ t.regs = s.regs
          ∧ ∀ o, o ≠ p → t.portAt o = s.portAt o)
    ∧ (∀ y, x.st = .training → b.releasedAt = some y → s.attemptOver p y = true → completes (.portAttemptFail p) s fun t =>
      (t.portAt p).st = .down ∧ (t.bringAt p).fails = b.fails + 1
        ∧ (t.bringAt p).retryAt = some (s.clk + (if b.fails < 9 then 200000000 else 2000000000)) ∧ t.regs = s.regs)

/-! ### The topo image -/

/-- Topo sections arrive in chunks (R318, R326, R327, R331, R336, R343): a chunk is stored or dropped, and the chunk that
completes a section makes it pending or rejects it with its cause. The model's own choices in it: log 13, 80, 81, 82. -/
def Obligations.TopoSectionsArrive : Prop :=
  ∀ (image sec : Nat) (s : State),
    let rejected := fun (why : Rej) (type gen : Nat) (t : State) =>
      fld (t.reg A.topoReject) 63 60 = why.code ∧ fld (t.reg A.topoReject) 55 48 = type ∧ fld (t.reg A.topoReject) 31 0 = gen
        ∧ t.reg A.topoRejectCt = s.time.counter ∧ bit (t.reg A.topoEvents) 1 = true ∧ t.topo.pend = s.topo.pend
        ∧ t.topo.items = s.topo.items
    let old := fun (w : List W64) => s.asmOf (chunkImage w) (chunkSec w)
    let fits := fun (w : List W64) => s.sectDone (chunkImage w) (chunkSec w) = false
      ∧ chunkOffset w + chunkBytes w ≤ 8 * chunkWords w ∧ (old w = none → s.tooMuch (chunkImage w) (chunkWords w) = false)
      ∧ ∀ a, old w = some a → a.words = chunkWords w ∧ a.kept = true
        ∧ ∀ i, i < chunkBytes w / 8 → Tab.find a.data (chunkOffset w / 8 + i) = none
    let words := fun (w : List W64) => (w.drop 2).zipIdx.foldl (fun t (e : W64 × Nat) => Tab.put t (chunkOffset w / 8 + e.2) e.1)
      (((old w).map Asm.data).getD [])
    let stored := fun (w : List W64) (t : State) => t.topo.asm = s.topo.asm.filter (fun (a : Asm) => !(a.image == chunkImage w && a.sec == chunkSec w))
        ++ [{ image := chunkImage w, sec := chunkSec w, words := chunkWords w, data := words w, lastAt := s.clk, kept := true }]
      ∧ t.topo.pend = s.topo.pend ∧ t.topo.items = s.topo.items ∧ t.topo.done = s.topo.done
    let idle := ∀ e ∈ s.topo.pend, e.2.missed = true ∨ s.time.counter.toNat < e.2.due.toNat
    let completed := fun (w : List W64) (t : State) => t.topo.done = (chunkImage w, chunkSec w, chunkWords w) :: s.topo.done
      ∧ (∀ why, readSection s.svc.fmtMajor (chunkSec w) (Tab.vals (words w)) = .error why →
        rejected why (fld ((Tab.vals (words w)).getD 0 0) 63 56) (fld ((Tab.vals (words w)).getD 1 0) 63 32) t)
      ∧ (∀ x, readSection s.svc.fmtMajor (chunkSec w) (Tab.vals (words w)) = .ok x → x.actCt ≠ 0 →
        inScope (s.projected x.type x.due).topo.ownEid x = true → x.gen < 2 ^ 32 →
        (∀ why, s.sectionCause x = some why → rejected why x.type x.gen t)
        ∧ (s.sectionCause x = none → Tab.find t.topo.pend x.type = some x ∧ t.topo.items = s.topo.items ∧ t.topo.gen = s.topo.gen))
    (∀ (p : Nat) (q : Packet), p < 93 → s.hears q → qType q = 0x24 →
      let w := wordsOf (q.payload.length / 8) q.payload
      (s.portUp p = true → qSrc q = (s.portAt p).peerEid → qTag q = 0 → qAddr q = 0 → qSeq q = 0 → qSync q = false → qRetry q = false →
        qLen q = q.payload.length → q.payload.length % 8 = 0 → chunkOk w = true →
        (fits w → 62 ≤ p → (words w).length ≠ chunkWords w → completes (.topoChunk p q) s (stored w))
        ∧ (fits w → 62 ≤ p → idle → (words w).length = chunkWords w → completes (.topoChunk p q) s (completed w))
        ∧ (s.sectDone (chunkImage w) (chunkSec w) = true → completes (.topoChunk p q) s fun t =>
          t.topo = s.topo ∧ fld (t.reg A.topoCounts) 15 0 = min 65535 (fld (s.reg A.topoCounts) 15 0 + 1)))
      ∧ (s.portUp p = true → qSrc q = (s.portAt p).peerEid → qTag q = 0 → qAddr q = 0 → qSeq q = 0 → qSync q = false → qRetry q = false →
        qLen q = q.payload.length → q.payload.length % 8 = 0 → chunkOk w = true → s.sectDone (chunkImage w) (chunkSec w) = false →
        chunkOffset w + chunkBytes w ≤ 8 * chunkWords w → old w = none → s.tooMuch (chunkImage w) (chunkWords w) = true →
        62 ≤ p → chunkBytes w / 8 < chunkWords w → completes (.topoChunk p q) s fun t => rejected .size 0 0 t
          ∧ (t.asmOf (chunkImage w) (chunkSec w)).map Asm.kept = some false ∧ t.topo.done = s.topo.done)
      ∧ (qSrc q ≠ (s.portAt p).peerEid → completes (.topoChunk p q) s fun t =>
        t.topo = s.topo ∧ fld (t.reg A.drops) 15 0 = min 65535 (fld (s.reg A.drops) 15 0 + 1)))
    ∧ (∀ a, s.asmOf image sec = some a → a.lastAt + 2000000000 ≤ s.clk → sec < 2 ^ 16 → completes (.sectionIncomplete image sec) s fun t =>
      rejected .incomplete 0 0 t ∧ t.asmOf image sec = none ∧ ∀ b, b ∈ s.topo.asm → b ≠ a → b.image ≠ image ∨ b.sec ≠ sec → b ∈ t.topo.asm)
    ∧ (∀ (p : Nat) (m : UMsg), s.accepts p m → uType m = 4 →
      (chunkOk m.body = true → chunkSpread m.body = false → fits m.body → (words m.body).length ≠ chunkWords m.body →
        completes (.image p m) s fun t => stored m.body t ∧ repliedWith p m 0 [] t)
      ∧ (chunkOk m.body = false → completes (.image p m) s (concluded p m 2 [] (s.counted p m))))

/-- Pending sections (R332, R333, R367): activation in a time state that allows it or after ACTIVATE_NOW, a section that misses
its time or whose slot is over (log 104), one that fails its checks then, cancelling, and the image store. The model's own choices
in it: log 83, 104. -/
def Obligations.PendingSectionsTakeEffect : Prop :=
  ∀ (k : Nat) (x : Sect) (s : State), Tab.find s.topo.pend k = some x → x.type = k →
    let timed := (s.time.st = .locked ∨ s.time.st = .holdover) ∧ s.time.counter.toNat < x.due.toNat + 128
    let alone := s.topo.pend = [(k, x)] ∧ 1 ≤ k ∧ k ≤ 10 ∧ x.missed = false ∧ x.due.toNat ≤ s.time.counter.toNat
    let acts := x.missed = false ∧ x.due.toNat ≤ s.time.counter.toNat ∧ (x.now = true ∨ timed)
    let topoOnly := fun (t : State) => { t with topo := s.topo } = s
    (s.dom.mgmt = true → alone → timed ∨ x.now = true → k ≠ 10 → s.baseOk x = true → s.contentCause x = none →
      completes .sectionActivate s fun t =>
        Tab.get 0 t.topo.gen k = x.gen ∧ Tab.get [] t.topo.items k = amendItems (Tab.get [] s.topo.items k) x
          ∧ t.topo.pend = [] ∧ bit (t.reg A.topoEvents) 0 = true ∧ t.sec.meas2 = s.sec.meas2
          ∧ t.sec.meas3 = sha3 (toBytes 32 s.sec.meas3.toNat ++ toBytes 32 (sha3 x.msg).toNat))
    ∧ (s.dom.mgmt = true → alone → timed ∨ x.now = true → x.gen < 2 ^ 32 → x.sec < 2 ^ 16 → ∀ why, (s.baseOk x = false ∧ why = .base) ∨ (s.baseOk x = true ∧ s.contentCause x = some why) →
      completes .sectionActivate s fun t =>
        t.topo.pend = [] ∧ t.topo.items = s.topo.items ∧ t.topo.gen = s.topo.gen ∧ fld (t.reg A.topoReject) 63 60 = why.code
          ∧ bit (t.reg A.topoEvents) 1 = true)
    ∧ (s.dom.mgmt = true → alone → ¬ timed → x.now = false → completes .sectionActivate s fun t =>
      Tab.find t.topo.pend k = some { x with missed := true } ∧ t.topo.items = s.topo.items ∧ t.topo.gen = s.topo.gen
        ∧ bit (t.reg A.topoEvents) 2 = true)
    ∧ (acts → completes (.cancel k) s (fun t => t = s) ∧ completes (.activateNow k) s (fun t => t = s))
    ∧ (¬ acts → completes (.cancel k) s fun t =>
      Tab.find t.topo.pend k = none ∧ (∀ j, j ≠ k → Tab.find t.topo.pend j = Tab.find s.topo.pend j) ∧ t.topo.items = s.topo.items
        ∧ topoOnly t)
    ∧ (¬ acts → completes (.activateNow k) s fun t =>
      Tab.find t.topo.pend k = some { x with now := true, missed := false, due := BitVec.ofNat 64 ((s.time.counter.toNat / 128 + 1) * 128) }
        ∧ (∀ j, j ≠ k → Tab.find t.topo.pend j = Tab.find s.topo.pend j) ∧ t.topo.items = s.topo.items ∧ topoOnly t)
    ∧ (s.self.nvmOk = true → s.topo.storeDirty = true → completes .imageStoreWrite s fun t =>
      t.topo.storeGen = s.topo.gen ∧ t.topo.storeItems = s.topo.items ∧ t.topo.storePend = s.topo.pend
        ∧ t.topo.storeSigned = s.topo.signed ∧ t.topo.storeDirty = false ∧ t.topo.pend = s.topo.pend ∧ topoOnly t)

/-! ### The Uafada protocol -/

/-- Requests (R13, R239, R340 to R345, R347): PING, READ, WRITE, TEARDOWN and EVENT_ACK are performed and answered, a request that
comes again is answered from its kept reply and not performed again, and one that is denied, malformed or of no type has no
effect. The model's own choices in it: log 35, 36, 37, 40, 43, 100. -/
def Obligations.UafadaRequestsAreAnswered : Prop :=
  ∀ (p : Nat) (m : UMsg) (s : State),
    let v := s.counted p m
    let l := (List.range (fld (uBody m 0) 63 56 + 1)).map fun i => fld (uBody m 0) 25 0 + 8 * i
    (s.accepts p m →
      (uType m = 1 → m.body = [] → completes (.ping p m) s (concluded p m 0 [v.regView A.globalId, v.regView A.timeStatus] v))
      ∧ (uType m = 2 → m.body.length = 1 → fld (uBody m 0) 55 26 = 0 → fld (uBody m 0) 63 56 < 64 → fld (uBody m 0) 25 0 % 8 = 0 →
        fld (uBody m 0) 25 0 + 8 * (fld (uBody m 0) 63 56 + 1) ≤ 0x4000000 →
        (l.any v.notReady = false → completes (.uafadaRead p m) s (concluded p m 0 (v.readAll l).2 (v.readAll l).1))
        ∧ (l.any v.notReady = true → completes (.uafadaRead p m) s (concluded p m 4 [] v)))
      ∧ (uType m = 3 → m.body.length % 2 = 0 → 0 < m.body.length → m.body.length ≤ 128 → (uPairs m).all (fun e => addrOk e.1) = true →
        ((uPairs m).any (fun e => v.notReady e.1) = false → completes (.uafadaWrite p m) s
          (concluded p m 0 [] ((uPairs m).foldl (fun u e => u.writeReg (p + 1) e.1 e.2) v)))
        ∧ ((uPairs m).any (fun e => v.notReady e.1) = true → completes (.uafadaWrite p m) s (concluded p m 4 [] v)))
      ∧ (uType m = 5 → m.body.length = 2 → fld (uBody m 0) 47 0 = 0 →
        let tag := fld (uBody m 0) 63 52
        let k := fld (uBody m 0) 51 48
        (tag ≠ 0 → s.partTag k = tag → s.time.counter.toNat ≤ (uBody m 1).toNat → completes (.teardown p m) s fun t =>
          Tab.find t.ep.teardown k = some (tag, uBody m 1) ∧ repliedWith p m 0 [] t ∧ t.core = s.core ∧ t.hub = s.hub)
        ∧ (tag ≠ 0 → s.partTag k = tag → (uBody m 1).toNat < s.time.counter.toNat → completes (.teardown p m) s fun t =>
          t.ep.torn.contains tag = true ∧ repliedWith p m 5 [] t ∧ Tab.find t.ep.teardown k = none)
        ∧ (s.partTag k ≠ tag → completes (.teardown p m) s (concluded p m 6 [] v)))
      ∧ (uType m = 6 → m.body.length = 1 → fld (uBody m 0) 63 32 = 0 → completes (.eventAck p m) s fun t =>
        t.eth.events = s.eth.events.filter (fun (e : Ev) => decide (2 ^ 31 ≤ (fld (uBody m 0) 31 0 + 2 ^ 32 - e.seq % 2 ^ 32) % 2 ^ 32))
          ∧ repliedWith p m 0 [] t ∧ t.core = s.core ∧ t.hub = s.hub))
    ∧ (∀ r, p < 2 → s.ethOn p = true → s.frameFits p m = true → s.svc.switching = none → s.gate m = .pass → s.keptReply p m = some r → uType m = 3 →
      completes (.uafadaWrite p m) s fun t =>
        t.out = .reply p r :: s.out ∧ { t with sec := s.sec, regs := s.regs, edge := s.edge, out := s.out } = s
          ∧ ∀ a, a ≠ A.ethCnt p → t.reg a = s.reg a)
    ∧ (p < 2 → s.ethOn p = true → s.frameFits p m = true → s.svc.switching = none → s.gate m = .pass → s.keptReply p m = none → uSession m = 0 →
      s.session 0 = none → s.sec.recovery = false → s.waitingOn p < 64 → uType m = 3 → completes (.uafadaWrite p m) s (concluded p m 3 [] v))
    ∧ (p < 2 → s.ethOn p = true → s.frameFits p m = true → s.svc.switching = none → s.gate m = .pass → s.keptReply p m = none →
      (s.session (uSession m)).all (fun x => x.admits (uReqId m)) = true → 64 ≤ s.waitingOn p → uType m = 3 →
      completes (.uafadaWrite p m) s fun t =>
        repliedWith p m 1 [] t ∧ { t with out := s.out, regs := s.regs, edge := s.edge } = s
          ∧ fld (t.reg (A.ethCnt p)) 47 32 = min 65535 (fld (s.reg (A.ethCnt p)) 47 32 + 1))
    ∧ (p < 2 → s.ethOn p = true → s.frameFits p m = true → s.gate m = .authFail → uType m = 3 → completes (.uafadaWrite p m) s fun t =>
      { t with regs := s.regs, edge := s.edge } = s ∧ fld (t.reg (A.ethCnt p)) 31 16 = min 65535 (fld (s.reg (A.ethCnt p)) 31 16 + 1))
    ∧ (p < 2 → s.ethOn p = true → s.frameFits p m = true → s.svc.switching.isSome = true → s.gate m = .pass → uType m = 3 →
      completes (.uafadaWrite p m) s fun t => repliedWith p m 1 [] t ∧ { t with out := s.out, regs := s.regs, edge := s.edge } = s)
    ∧ (p < 2 → s.ethOn p = true → s.gate m = .pass → uType m = 0 ∨ 7 < uType m ∨ (uType m = 7 ∧ 2 < uOp m) →
      completes (.uafadaUndefinedType p m) s fun t =>
        { t with regs := s.regs, edge := s.edge } = s ∧ fld (t.reg (A.ethCnt p)) 15 0 = min 65535 (fld (s.reg (A.ethCnt p)) 15 0 + 1))
    ∧ (∀ k tag y, k < 16 → Tab.find s.ep.teardown k = some (tag, y) → y.toNat ≤ s.time.counter.toNat → completes (.teardownAtT k) s fun t =>
      t.ep.torn.contains tag = true ∧ Tab.find t.ep.teardown k = none ∧ (∀ e, e ∈ t.ep.records → e.tag ≠ tag)
        ∧ ∀ n, n < 2560 → s.corePart n = k → 0 < s.fuse.arrays n → (t.coreAt n).st = .reset)

/-- Attestation and sessions (R395 to R399): a quote, opening a session under a key that may open one, closing one or all, the
idle limit, and the kept replies' second. Random values are free (log 13). The model's own choices in it: log 36, 38. -/
def Obligations.SessionsOpenAndClose : Prop :=
  ∀ (p : Nat) (m : UMsg) (s : State),
    let v := s.counted p m
    (s.accepts p m → uType m = 7 →
      (uOp m = 0 → m.body.length = 5 → fld (uBody m 0) 55 0 = 0 → completes (.quote p m) s fun t =>
        repliedWith p m 0 (v.signed (v.attestHead m 0 0)) t ∧ (v.signed (v.attestHead m 0 0)).length = 700
          ∧ t.sec.sessions.length = s.sec.sessions.length
          ∧ fld (t.reg A.secCounts) 15 0 = min 65535 (fld (s.reg A.secCounts) 15 0 + 1))
      ∧ (uOp m = 1 → s.sec.recovery = false → m.body.length = 828 → fld (uBody m 0) 39 0 = 0 → fld (uBody m 405) 47 0 = 0 →
        s.sec.sessions.length < 16 → completes (.openSession p m) s fun t =>
          let valid := pairVerifies (uPart m 157 248) (s.openMsg m) (uPart m 406 422)
          (s.openKeyOk m = true → valid = true →
            ∀ x, keyExchange (s.draw 1) (s.draw 2) (uPart m 5 4) (uPart m 9 148) = some x →
              t.sec.sessions.length = s.sec.sessions.length + 1
                ∧ (∃ y, t.sec.sessions.getLast? = some y ∧ y.num = s.nextSession ∧ y.auth = fld (uBody m 0) 55 48
                  ∧ y.slot = fld (uBody m 0) 47 40 ∧ y.key = s.sessionKey x.ss1 x.ss2 (uPart m 1 4) s.nextSession
                  ∧ y.usedAt = s.clk ∧ y.claim = !s.sec.owned)
                ∧ (∃ b, repliedWith p m 0 b t ∧ b.length = 840 ∧ (b.drop 277).take 140 = x.own ++ x.cipher)
                ∧ fld (t.reg A.secCounts) 31 16 = min 65535 (fld (s.reg A.secCounts) 31 16 + 1))
          ∧ (s.openKeyOk m = false ∨ valid = false → t.out = s.out ∧ t.sec.sessions.map Session.num = s.sec.sessions.map Session.num
            ∧ fld (t.reg A.secCounts) 63 48 = min 65535 (fld (s.reg A.secCounts) 63 48 + 1)
            ∧ (s.openKeyOk m = true → bit (t.reg A.secEvents) 0 = true)))
      ∧ (uOp m = 2 → m.body.length = 5 → fld (uBody m 0) 55 16 = 0 →
        (uSession m ≠ 0 → fld (uBody m 0) 15 0 = uSession m → completes (.closeSession p m) s fun t =>
          repliedWith p m 0 [] t ∧ t.session (uSession m) = none
            ∧ t.sec.sessions = s.sec.sessions.filter fun (x : Session) => x.num != uSession m)
        ∧ (fld (uBody m 0) 15 0 ≠ uSession m → completes (.closeSession p m) s fun t =>
          repliedWith p m 3 [] t ∧ t.sec.sessions.map Session.num = s.sec.sessions.map Session.num)))
    ∧ (∀ num, completes (.sessionIdleTimeout num) s fun t =>
      (∀ x, x ∈ t.sec.sessions ↔ x ∈ s.sec.sessions ∧ (x.num ≠ num ∨ s.clk < x.usedAt + s.sessIdle * 2000000000))
        ∧ { t with sec := s.sec } = s)
    ∧ (completes .closeAll s fun t => t = { s with sec := { s.sec with sessions := [] } })
    ∧ (p < 2 → completes (.replyCacheExpiry p) s fun t =>
      (∀ k, k ∈ t.keptAt p ↔ k ∈ s.keptAt p ∧ s.clk < k.at_ + 2000000000) ∧ t.keptAt (1 - p) = s.keptAt (1 - p)
        ∧ { t with eth := s.eth } = s)

/-- Event datagrams and frames of the Ethernet ports (R337, R338, R346, R347, R355). The model's own choices in it: log 26, 41,
42. -/
def Obligations.EthernetPortsSendAndAnswer : Prop :=
  ∀ (p : Nat) (s : State), p < 2 →
    (∀ e k, s.dom.mgmt = true → s.mayDatagram p = true → s.dueEvent p = some (e, k) → completes (.eventDatagramSend p) s fun t =>
      t.out = .datagram (s.eventTo p k) (headWord0 e.type 0 e.seq false) (s.headWord1 0 e.body.length) s.time.counter s.headWord3 e.body :: s.out
        ∧ t.lastSent p = some s.clk
        ∧ (∀ x, x ∈ t.eth.events → x.seq = e.seq → x.sent.getLsbD k = true ∧ x.sentAt = some s.clk)
        ∧ t.eth.events.length = s.eth.events.length ∧ t.regs = s.regs)
    ∧ (∀ k ws, s.dom.mgmt = true → s.mayDatagram p = true → s.dueEvent p = none → s.eth.telOut = [(k, ws)] → s.eventPort k = some p →
      3200 ≤ s.field (A.ethPcfg p) 13 0 → completes (.eventDatagramSend p) s fun t =>
        t.out = .datagram (s.eventTo p k) (headWord0 0x42 0 0 false) (s.headWord1 0 ws.length) s.time.counter s.headWord3 ws :: s.out
          ∧ t.eth.telOut = [] ∧ t.lastSent p = some s.clk ∧ t.regs = s.regs)
    ∧ (∀ e y, s.svc.switching = none → s.eth.events = [e] → e.sentAt = some y → y + 200000000 ≤ s.clk →
      completes (.eventResend e.seq) s fun t => t = { s with eth := { s.eth with events := [{ e with sent := 0, sentAt := some s.clk }] } })
    ∧ (∀ r, s.ethOn p = true → completes (.ethNeighborReply p r) s fun t =>
      (s.vlanFits p r.vlan = true → s.ownRequest p r = true → s.echoFits p r = true →
          t = s.emit (.nbrReply { port := p, mac := r.mac, vlan := s.vlanOf p } r.ask r.data))
        ∧ (s.vlanFits p r.vlan = false ∨ s.ownRequest p r = false ∨ s.echoFits p r = false → { t with regs := s.regs, edge := s.edge } = s
          ∧ fld (t.reg (A.ethCnt p)) 15 0 = min 65535 (fld (s.reg (A.ethCnt p)) 15 0 + 1)))
    ∧ (∀ up, s.dom.hub = true → completes (.ethLinkChange p up) s fun t =>
      t.eth.linkUp.getLsbD p = up ∧ t.eth.linkUp.getLsbD (1 - p) = s.eth.linkUp.getLsbD (1 - p)
        ∧ { t with eth := { t.eth with linkUp := s.eth.linkUp, fecUp := s.eth.fecUp }, time := s.time } = s ∧ (up = true → t.time = s.time)
        ∧ (up = false → (t.ptpSide p).heard = [] ∧ t.ptpSide (1 - p) = s.ptpSide (1 - p)))
    ∧ (s.ethOn p = true → completes (.ethFrameDiscard p) s fun t =>
      { t with regs := s.regs, edge := s.edge } = s ∧ fld (t.reg (A.ethCnt p)) 15 0 = min 65535 (fld (s.reg (A.ethCnt p)) 15 0 + 1))

/-! ### RoCEv2 connections -/

/-- Connections (R243, R348 to R351, R355): requests in sequence are performed and acknowledged, others are refused or answered as
they stand; answers release, resend or fail what is outstanding; the rate follows congestion; registers select, commit and reset.
The model's own choices in it: log 3, 77. -/
def Obligations.RoceConnections : Prop :=
  ∀ (n : Nat) (r : RoceReq) (s : State), n < 256 →
    let x := s.qpAt n
    let faulted := fun (cause : Nat) (t : State) => (t.qpAt n).st = .error ∧ (t.qpAt n).err = cause ∧ (t.qpAt n).outstanding = []
      ∧ (s.partTag x.part ≠ 0 → bit (t.reg A.epJobfault) x.part = true)
    let mtu := s.field (A.ethPcfg x.port) 13 0
    let answers := fun (o : Out) (t : State) => s.ethOn x.port = true → roceBytes o ≤ mtu → t.out.head? = some o
    let h := r.head
    let heard := s.roceOn n = true ∧ s.vlanFits x.port h.vlan = true ∧ h.icrc = true ∧ h.ecn = false
    let back := s.roceTo n (some h.mac)
    let advanced := fun (k : Nat) => s.setQp n { x with rq := (x.rq + k) % 2 ^ 24 }
    (heard → h.psn.toNat = x.rq →
      (x.writing = none → r.part = .only → r.data.length = r.len → r.len ≤ x.pmtu → s.roceMay x r = true → completes (.rdmaWrite n r) s fun t =>
        (t.qpAt n).rq = (x.rq + 1) % 2 ^ 24 ∧ (t.qpAt n).st = .ready ∧ answers (.roceAck n back h.psn.toNat 0) t
          ∧ t.mem = ((advanced 1).writeMem 0 x.part r.addr r.data).1.mem)
      ∧ (x.writing = none → r.part = .first → r.data.length = x.pmtu → x.pmtu < r.len → s.roceMay x r = true → completes (.rdmaWrite n r) s fun t =>
        (t.qpAt n).writing = some (r.addr + x.pmtu, r.len - x.pmtu) ∧ answers (.roceAck n back h.psn.toNat 0) t)
      ∧ (x.writeFits r = false → completes (.rdmaWrite n r) s fun t => faulted 4 t ∧ answers (.roceAck n back h.psn.toNat 3) t)
      ∧ (x.writing = none → x.writeFits r = true → s.roceMay x r = false → completes (.rdmaWrite n r) s fun t =>
        faulted 3 t ∧ answers (.roceAck n back h.psn.toNat 2) t)
      ∧ (x.writing = none → r.part = .only → s.roceMay x r = true → ((advanced (x.packets r.len)).roceBytes x r).2.length ≤ x.pmtu →
        completes (.rdmaReadRequest n r) s fun t =>
        (t.qpAt n).rq = (x.rq + x.packets r.len) % 2 ^ 24
          ∧ answers (.roceReadResp n back h.psn.toNat .only ((advanced (x.packets r.len)).roceBytes x r).2) t)
      ∧ (x.writing = none → r.part = .only → s.roceMay x r = false → completes (.rdmaReadRequest n r) s (faulted 3)))
    ∧ (heard → x.rq < 2 ^ 24 → 0 < (h.psn.toNat + 2 ^ 24 - x.rq) % 2 ^ 24 → (h.psn.toNat + 2 ^ 24 - x.rq) % 2 ^ 24 < 2 ^ 23 →
      completes (.rdmaWrite n r) s fun t => t.qpAt n = x ∧ t.mem = s.mem ∧ answers (.roceAck n back x.rq 1) t)
    ∧ (∀ o : RoceOut, heard → x.outstanding = [o] → o.psn < 2 ^ 24 →
      (o.read = true → o.part ≠ .middle → h.psn.toNat = o.psn → r.part = .only → r.data.length = o.len → o.len ≤ x.pmtu →
        completes (.rdmaReadResponse n r) s fun t =>
        (t.coreAt o.core).store = Memory.write (s.coreAt o.core).store o.addr r.data ∧ (t.qpAt n).outstanding = []
          ∧ (t.qpAt n).retries = 0 ∧ (t.qpAt n).sentAt = none
          ∧ ∀ d, (s.descAt o.die o.id) = some d → (t.descAt o.die o.id).map Desc.bytes = some (d.bytes + o.len))
      ∧ (o.read = false → h.psn.toNat = o.psn → completes (.acknowledge n h .ack) s fun t =>
        (t.qpAt n).outstanding = [] ∧ (t.qpAt n).retries = 0 ∧ (t.qpAt n).sentAt = none
          ∧ ∀ d, (s.descAt o.die o.id) = some d → (t.descAt o.die o.id).map Desc.bytes = some (d.bytes + o.len))
      ∧ completes (.acknowledge n h .otherNak) s (faulted 2))
    ∧ (∀ o : RoceOut, x.st = .ready → x.outstanding = [o] →
      (∀ y, x.sentAt = some y → y + 8192 * 2 ^ fld (x.word 0) 52 48 ≤ s.clk →
        (x.retries < 7 → completes (.rdmaLocalTimeout n) s fun t =>
          t.qpAt n = { x with
            retries := x.retries + 1, sentAt := some s.clk, outstanding := [{ o with part := if o.read then .only else o.part }] }
            ∧ answers (if o.read then .roceReadReq n (s.roceTo n none) o.psn (BitVec.ofNat 64 o.rva) o.len
              else .roceWrite n (s.roceTo n none) o.psn o.part (BitVec.ofNat 64 o.rva) o.len
                (Memory.bytes (s.coreAt o.core).store o.addr o.len)) t)
        ∧ (7 ≤ x.retries → completes (.rdmaLocalTimeout n) s (faulted 1))))
    ∧ (heard → completes (.rdmaUnsupportedOpcode n h) s fun t => faulted 4 t ∧ answers (.roceAck n back h.psn.toNat 3) t)
    ∧ (s.roceOn n = true → completes (.cnp n) s fun t => t = s.setQp n { x with rate := max 1000000000 (x.rate / 2), rateAt := s.clk })
    ∧ (s.roceOn n = false ∨ (s.vlanFits x.port h.vlan = true ∧ h.icrc = false) → ∀ code i, i ∈ [Instr.rdmaWrite n r, .rdmaReadRequest n r,
      .rdmaReadResponse n r, .acknowledge n h code, .rdmaUnsupportedOpcode n h] → completes i s fun t => t = s)
    ∧ (s.roceOn n = false → completes (.cnp n) s fun t => t = s)
    ∧ (x.st = .ready → x.rateAt + 200000 ≤ s.clk → x.rate < 100000000000 → completes (.rdmaRateRaise n) s fun t =>
      t = s.setQp n { x with rate := min 100000000000 (x.rate + 5000000000), rateAt := s.clk })
    ∧ (∀ v : W64, fld v 7 0 = n → completes (.qpselWrite v) s fun t =>
      fld (t.reg A.qpsel) 7 0 = n ∧ (∀ k, k < 7 → t.reg (qpdataAddr k) = (if k = 0 then x.word k &&& maskOf 61 0 else x.word k))
        ∧ { t with regs := s.regs, edge := s.edge } = s)
    ∧ (∀ v : W64, bit v 0 = false → s.qpSelected = n → x.st = .reset → completes (.qpCommit v) s fun t =>
      (t.qpAt n).st = .ready ∧ (∀ k, k < 7 → (t.qpAt n).word k = s.reg (qpdataAddr k)) ∧ (t.qpAt n).sq = fld (s.reg (qpdataAddr 1)) 23 0
        ∧ (t.qpAt n).rq = fld (s.reg (qpdataAddr 2)) 23 0 ∧ (t.qpAt n).outstanding = [] ∧ t.regs = s.regs)
    ∧ (∀ v : W64, s.qpSelected = n → completes (.qpReset v) s fun t =>
      (t.qpAt n).st = .reset ∧ (t.qpAt n).outstanding = [] ∧ (x.outstanding ≠ [] → (t.qpAt n).err = 5) ∧ t.regs = s.regs
        ∧ ∀ m, m ≠ n → t.qpAt m = s.qpAt m)

/-! ### Measurement and limits -/

/-- Measurement (R356, R357, R359 to R363, R365 to R367, R375, R376): readings, the ceilings and steps that follow, windows, trips
and restarts, and straggler periods. The model's own choices in it: log 26, 50, 90, 91, 92, 93. -/
def Obligations.ReadingsCeilingsAndTrips : Prop :=
  (∀ (r : Sample) (d : Nat) (s : State), d < 4 →
      let o := s.opAt d
      (s.dom.mgmt = true →
        (r.temps = [] → completes (.sensorSample r) s fun t =>
          t.self.mvolt = r.mvolt ∧ t.self.samples = (r.watts :: s.self.samples).take 200 ∧ t.self.peakW = max s.self.peakW r.watts
            ∧ (∀ i, t.sensorAt i = s.sensorAt i)
            ∧ (∀ T i, (∀ j, j < 4 → (s.sensorAt (464 + 4 * d + j)).valid = true) → s.invalidOn d ≤ 8 → o.trip = false →
              s.dieHottest d = some (T, i) →
              let ceil := if 420 ≤ T then 0 else if (s.bound 4 : Int) ≤ T then 48 - (T - s.bound 4).toNat else 48
              (t.opAt d).allow = o.allows ceil s.clk ∧ (t.opAt d).ceilTherm = min ceil o.ceilTherm)
            ∧ (8 < s.invalidOn d → (t.opAt d).allow = [(0, ((o.allow.head?).map Prod.snd).getD s.clk)] ∧ (t.opAt d).ceilTherm = 0))
        ∧ (∀ i T, i < 482 → r.temps = [(i, some T)] → -160 ≤ T → T ≤ 600 → completes (.sensorSample r) s fun t =>
          t.sensorAt i = { valid := true, temp := T, peak := if (s.sensorAt i).hasPeak then max (s.sensorAt i).peak T else T, hasPeak := true }
            ∧ ∀ j, j ≠ i → t.sensorAt j = s.sensorAt j)
        ∧ (∀ i T, i < 482 → r.temps = [(i, T)] → (∀ v, T = some v → v < -160 ∨ 600 < v) → completes (.sensorSample r) s fun t =>
          (t.sensorAt i).valid = false ∧ bit (t.reg A.thermEvents) 5 = true ∧ ∀ j, j ≠ i → t.sensorAt j = s.sensorAt j))
      ∧ (∀ y, o.allowedSince (o.ceilTherm + 1) = some y → y + 2000000 ≤ s.clk → (∀ z, o.roseAt = some z → z + 200000 ≤ s.clk) →
        completes (.thermalCeilingRise d) s fun t => t = s.setOp d { o with ceilTherm := o.ceilTherm + 1, roseAt := some s.clk })
      ∧ (s.peakLimit < s.self.samples.headD 0 ∨ s.self.falling = true → 0 < s.self.powerCeil →
        (∀ z, s.self.ceilFellAt = some z → z + 1000 ≤ s.clk) → completes .powerCeilingStep s fun t =>
          t.self = { s.self with powerCeil := s.self.powerCeil - 1, ceilFellAt := some s.clk } ∧ { t with self := s.self, regs := s.regs, edge := s.edge } = s)
      ∧ (∀ y, s.self.samples.headD 0 ≤ s.peakLimit → s.self.falling = false → s.self.underSince = some y → y + 2000000 ≤ s.clk →
        s.self.powerCeil < 48 → (∀ z, s.self.ceilRoseAt = some z → z + 200000 ≤ s.clk) → completes .powerCeilingStep s fun t =>
          t = { s with self := { s.self with powerCeil := s.self.powerCeil + 1, ceilRoseAt := some s.clk } })
      ∧ (s.coreDom d = true → (∀ z, o.steppedAt = some z → z + 1000 ≤ s.clk) → completes (.opPointStep d) s fun t =>
        (t.opAt d).step = (let aim := if s.svc.stage = .dies then 0 else s.target d
          if o.step < aim then o.step + 1 else if aim < o.step then o.step - 1 else o.step)
          ∧ (t.opAt d).gbandEff = o.gband ∧ (t.opAt d).steppedAt = some s.clk ∧ (∀ e, e ≠ d → t.opAt e = s.opAt e)
          ∧ { t with self := s.self } = s)
      ∧ (∀ i, i < 8 →
        let k := s.stackAt d i
        (k.limit = 2 → s.since k.limitCool 2000000 = true → completes (.stackLimitRelease d i) s fun t =>
          t.stackAt d i = { k with limit := if s.since k.cool95 2000000 then 0 else 1 } ∧ { t with mem := s.mem } = s)
        ∧ (k.limit = 1 → s.since k.cool95 2000000 = true → completes (.stackLimitRelease d i) s fun t =>
          t.stackAt d i = { k with limit := 0 } ∧ { t with mem := s.mem } = s))
      ∧ (s.since s.self.fuseSince 200000000 = true → completes (.nvmWindowOpen true) s fun t =>
        t = { s with self := { s.self with fuseOk := true } })
      ∧ (s.since s.self.nvmSince 200000000 = true → completes (.nvmWindowOpen false) s fun t =>
        t = { s with self := { s.self with nvmOk := true } }))
  ∧ (∀ s : State,
      let restarted := fun (t : State) => t.self.tripped = false ∧ t.self.hotBivouac = false ∧ bit (t.reg A.thermEvents) 3 = true
        ∧ t.svc.stage = (if s.svc.memOff then .hub else .dies) ∧ (∀ d, d < 4 → (t.opAt d).trip = false)
        ∧ ∀ d, d < 4 → s.svc.memOff = false → s.memDom d = true → s.linkUp d = true → s.svc.dieFail.getLsbD d = false → t.coreDom d = true
      (∀ i, 464 ≤ i → i < 480 → (s.sensorAt i).valid = true → 460 ≤ (s.sensorAt i).temp → s.self.tripped = false →
        completes (.thermalTrip i) s fun t =>
          t.self.tripped = true ∧ t.dom.core = 0 ∧ t.dom.mem = s.dom.mem ∧ t.dom.hub = s.dom.hub ∧ (s.svc.stage = .dies ∨ s.svc.stage = .running → t.svc.stage = .bivouac)
            ∧ t.svc.commanded = false ∧ t.reg A.tripCt = s.time.counter ∧ bit (t.reg A.thermEvents) 2 = true
            ∧ t.self.trips = s.clk :: s.self.trips)
      ∧ (s.restartOk = true → s.bound 0xC = 1 → s.trips24 < s.bound 0xD → completes .restartQualified s restarted)
      ∧ (s.restartOk = true → completes .thermRestart s restarted)
      ∧ (s.restartOk = false → completes .thermRestart s fun t => t = s)
      ∧ (s.dom.mgmt = true → s.time.counter.toNat % (s.bound 0xE * 2000000) = 0 → s.self.periodAt ≠ some s.time.counter →
          completes .stragglerPeriodEnd s fun t =>
        t.self.late = [] ∧ t.self.slow = [] ∧ t.self.periodAt = some s.time.counter
          ∧ (∀ k, k < 16 → fld (t.reg (A.plate k)) 31 0 = min 0xFFFFFFFF ((s.lateOf k).foldl (fun n e => n + e.2) 0))
          ∧ (∀ k, k < 16 → 0 < s.bound 0xF → s.bound 0xF ≤ (s.lateOf k).foldl (fun n e => n + e.2) 0 → bit (t.reg A.selfEvents) 7 = true)
          ∧ (∀ d, d < 4 → (t.opAt d).minStep = (s.opAt d).step) ∧ t.core = s.core ∧ t.hub = s.hub))

/-! ### Self-checking, fuses and the log -/

/-- Probes and fault counts (R368 to R371, R379): a probe ends once its 40,000 planes have issued. The model's own choices in it:
log 15, 50. -/
def Obligations.ProbesCheckPositions : Prop :=
  ∀ (n j : Nat) (s : State), n < 2560 → j < 17 →
    let p := s.posAt n j
    let begun := fun (i : Instr) => completes i s fun t =>
      (t.posAt n j).asks = (if p.asks.any (fun a => !a.2) then p.asks else p.asks ++ [(s.clk, false)]) ∧ (t.posAt n j).run = p.run
      ∧ (∀ k, k ≠ j → t.posAt n k = s.posAt n k) ∧ onlyCore n s t
    (s.coreDom (dieOf n) = true → (s.enabledPos n).head? = some j →
      begun (.probeNow n)
      ∧ ((s.time.counter.toNat % (s.bound 0xB * 2000000) + s.bound 0xB * 2000000 - n * (s.bound 0xB * 2000000) / 2560) % (s.bound 0xB * 2000000) < 3 →
        begun (.probeRoundStart n)))
    ∧ (∀ y f l, p.asks = (y, f) :: l →
      (y + 2000000 ≤ s.clk → completes (.probeHoldExpiry n j) s fun t => t = s.setPos n j { p with hold := true })
      ∧ (s.coreDom (dieOf n) = true → p.held = [] → p.run = none → completes (.probeStart n j) s fun t =>
        t = s.setPos n j { p with asks := l, run := some (f, 40000), hold := false, active := true }))
    ∧ (∀ f k, p.run = some (f, k + 1) → ∀ crc : BitVec 32, completes (.probeComplete n j crc) s fun t => t = s)
    ∧ (p.run = some (false, 0) → ∀ crc : BitVec 32, completes (.probeComplete n j crc) s fun t =>
      fld (t.reg A.selfCounts) 63 32 = min 0xFFFFFFFF (fld (s.reg A.selfCounts) 63 32 + 1) ∧ (t.posAt n j).run = none
        ∧ (crc = Config.probeCrc n j → t.faultsOf n j = s.faultsOf n j
          ∧ fld (t.reg A.selfCounts) 31 16 = fld (s.reg A.selfCounts) 31 16)
        ∧ (crc ≠ Config.probeCrc n j → (t.faultsOf n j).1 = min 255 ((s.faultsOf n j).1 + 1) ∧ bit (t.reg A.selfEvents) 0 = true
          ∧ fld (t.reg A.selfCounts) 31 16 = min 0xFFFF (fld (s.reg A.selfCounts) 31 16 + 1)
          ∧ (s.bound 8 = 1 → s.bound 7 ≤ (s.faultsOf n j).1 + 1 → s.bound 7 ≤ 255 → p.fenced = false → s.svc.switching = none →
            (t.posAt n j).fenced = true ∧ bit (t.reg A.selfEvents) 2 = true)))
    ∧ (s.dom.mgmt = true → completes (.clrFaults n) s fun t =>
      t.faultsOf n j = (0, 0) ∧ ((s.coreAt n).st = .reset → (t.posAt n j).fenced = false)
        ∧ ((s.coreAt n).st ≠ .reset → t.posAt n j = p) ∧ t.regs = s.regs ∧ t.hub = s.hub)

/-- Fuse writes, endorsement reads, and the cairn log's writing, reading and clearing (R384, R388, R404 to R407, R410, R414,
R415). The model's own choices in it: log 17, 86. -/
def Obligations.FusesAndTheCairnLog : Prop :=
  ∀ s : State,
    (∀ j l, s.sec.jobs = j :: l → s.dom.mgmt = true → s.self.fuseOk = true → completes .fuseWrite s fun t =>
      t.sec = { s.sec with jobs := l } ∧ (l = [] → bit (t.reg A.secEvents) 4 = true) ∧ { t with sec := s.sec, fuse := s.fuse, regs := s.regs, edge := s.edge } = s
        ∧ (∀ a b, j = .claim a b → t.fuse = { s.fuse with claimed := s.fuse.claimed + 1, anchor0 := a, anchor1 := b, revoked0 := 0, revoked1 := 0 })
        ∧ (∀ k, j = .revoke 0 k → t.fuse = { s.fuse with revoked0 := s.fuse.revoked0 ||| BitVec.ofNat 4 (2 ^ k) })
        ∧ (∀ k, j = .revoke 1 k → t.fuse = { s.fuse with revoked1 := s.fuse.revoked1 ||| BitVec.ofNat 4 (2 ^ k) })
        ∧ (∀ v, j = .rollback v → t.fuse = { s.fuse with svnMin := max s.fuse.svnMin v })
        ∧ (j = .release → t.fuse = { s.fuse with released := s.fuse.released + 1 })
        ∧ (∀ i, j = .revokeVendor i → t.fuse = { s.fuse with vkeyRevoked := s.fuse.vkeyRevoked ||| BitVec.ofNat 2 (2 ^ i) }))
    ∧ (s.dom.mgmt = true → completes .edataRead s fun t =>
      t.out = .softRead A.edata s.edataWord :: s.out
        ∧ s.edataWord = (if s.field A.esel 8 0 < 422 then Tab.get 0 s.fuse.endorsement (s.field A.esel 8 0) else 0)
        ∧ t.field A.esel 8 0 = (if s.field A.esel 8 0 = 421 then 0 else (s.field A.esel 8 0 + 1) % 512)
        ∧ { t with out := s.out, regs := s.regs, edge := s.edge } = s)
    ∧ (∀ r l, s.cairn.buf = r :: l → s.dom.mgmt = true → s.self.nvmOk = true → completes .cairnRecordWrite s fun t =>
      t.slotAt r.num = slotOfWords r.words ∧ t.cairn.buf = l ∧ t.cairn.written = r.num + 1
        ∧ (if (r.num + 1) % 2 = 0 then t.cairn.head0 = headCell (r.num + 1) ∧ t.cairn.head1 = s.cairn.head1
          else t.cairn.head1 = headCell (r.num + 1) ∧ t.cairn.head0 = s.cairn.head0)
        ∧ (∀ m, slotKey m ≠ slotKey r.num → t.slotAt m = s.slotAt m) ∧ { t with cairn := s.cairn } = s)
    ∧ completes .cairnWin3Read s (fun t =>
      t.out = .softRead (A.win 3) ((s.recordWords s.cursor).getD 3 0) :: s.out ∧ t.cursor = (s.cursor + 1) % 2 ^ 48
        ∧ (s.recordState s.cursor = 3 → bit (t.reg A.cairnEvents) 2 = true) ∧ t.cairn = s.cairn)
    ∧ (∀ limit w k l, s.cairn.clearing = (limit, w, k) :: l → s.dom.mgmt = true → s.self.nvmOk = true →
      (∀ m, s.nextToClear limit w k = some m → completes .ringClearSlot s fun t =>
        slotValid (t.slotAt m) = 0x5A5A ∧ (slotWords (t.slotAt m)).take 3 = (slotWords (s.slotAt m)).take 3
          ∧ t.cairn.clearing = (limit, w, m + 1) :: l ∧ (∀ i, slotKey i ≠ slotKey m → t.slotAt i = s.slotAt i)
          ∧ fld (t.reg A.cairnCounts) 15 0 = min 65535 (fld (s.reg A.cairnCounts) 15 0 + 1))
      ∧ (s.nextToClear limit w k = none → completes .ringClearSlot s fun t =>
        t.cairn = { s.cairn with clearing := l } ∧ bit (t.reg A.cairnEvents) 3 = true ∧ { t with cairn := s.cairn, regs := s.regs, edge := s.edge } = s))

/-! ### Live service -/

/-- Power and reset of the module (R21, R411, R418 to R420, R423 to R426, R436 to R438): mating and power-up, input loss and what
it removes, the end of the hold-up time, the commanded power-down, the hub reset, the dies' self-test, bivouac and its end, and
the preparing of a cassette for removal; each with what leaves it without effect. The model's own choices in it: log 5, 24, 95,
96, 97, 99, 120. -/
def Obligations.PowerComesAndGoes : Prop :=
  ∀ s : State,
    let dark := fun (t : State) => t.dom.hub = false ∧ t.dom.mem = 0 ∧ t.dom.core = 0
    let still := fun (i : Instr) => completes i s (fun t => t = s)
    let powered := s.svc.ramping = true ∨ s.svc.restored = true ∨ (s.svc.powerGood = true ∧ s.svc.powerDown = false)
    (s.dom.hub = false → completes .bladeMate s fun t =>
      t = { s with svc := { s.svc with mated := true, presOpen := false, ramping := true, powerGood := false, lossAt := none } })
    ∧ (s.dom.hub = true → still .bladeMate)
    ∧ (s.dom.hub = false → s.svc.presOpen = false → s.svc.mated = true → powered → s.svc.lossAt = none →
      completes .modulePowerUp s fun t =>
        t.dom.mgmt = true ∧ t.dom.core = 0 ∧ t.fuse = s.fuse ∧ t.cairn.slot = s.cairn.slot ∧ t.topo.storeItems = s.topo.storeItems
          ∧ t.svc.bank0 = s.svc.bank0 ∧ t.svc.bank1 = s.svc.bank1 ∧ (t.sec.recovery = true → t.dom.hub = false)
          ∧ (t.sec.recovery = false → t.dom.hub = true ∧ t.dom.mem = 15 ∧ t.svc.stage = .hub))
    ∧ (s.dom.hub = true ∨ s.svc.presOpen = true ∨ s.svc.mated = false ∨ ¬ powered ∨ s.svc.lossAt.isSome = true → still .modulePowerUp)
    ∧ (∀ c, s.dom.mgmt = true → s.svc.lossAt = none → completes (.inputLoss c) s fun t =>
      dark t ∧ t.dom.mgmt = true ∧ t.svc.lossAt = some s.clk ∧ t.cairn.closed = true ∧ (c = .presOpen → t.svc.presOpen = true)
        ∧ t.svc.ramping = false ∧ t.svc.powerGood = false
        ∧ (s.cairn.closed = false → t.cairn.buf.length = s.cairn.buf.length + 1))
    ∧ (∀ c, s.dom.mgmt = false ∨ s.svc.lossAt.isSome = true → completes (.inputLoss c) s fun t =>
      t.dom = s.dom ∧ t.svc.lossAt = s.svc.lossAt ∧ (c = .presOpen → t.svc.presOpen = true) ∧ t.svc.ramping = false
        ∧ t.cairn.buf.length = s.cairn.buf.length)
    ∧ (s.dom.mgmt = true → s.svc.lossAt.isSome = true → completes .inputRestore s fun t =>
      t.svc.lossAt = none ∧ t.svc.restored = true ∧ (s.self.nvmOk = true → t.cairn.buf = []) ∧ t.dom = s.dom)
    ∧ (s.dom.mgmt = false ∨ s.svc.lossAt = none → still .inputRestore)
    ∧ (∀ y, s.svc.lossAt = some y → s.dom.mgmt = true → y + 80000000 ≤ s.clk → completes .managementDomainDown s fun t =>
      dark t ∧ t.dom.mgmt = false ∧ t.sec.sessions = [] ∧ t.cairn.buf = [] ∧ t.cairn.slot = s.writeAll.cairn.slot
        ∧ (s.self.nvmOk = false → t.cairn.slot = s.cairn.slot) ∧ t.fuse = s.fuse)
    ∧ (∀ y, s.svc.lossAt = none ∨ s.dom.mgmt = false ∨ (s.svc.lossAt = some y ∧ s.clk < y + 80000000) → still .managementDomainDown)
    ∧ (s.dom.mgmt = true → completes .powerDown s fun t =>
      dark t ∧ t.svc.powerDown = true ∧ t.svc.stage = .poweringDown ∧ t.cairn.closed = true
        ∧ (s.cairn.closed = false → ∃ x, t.cairn.buf = s.cairn.buf ++ [x] ∧ fld x.w0 15 0 = 2 ∧ fld x.w2 63 32 = 1))
    ∧ (s.dom.mgmt = false → still .powerDown)
    ∧ (s.dom.hub = true → completes .hubReset s fun t =>
      t.dom = s.dom ∧ (∀ p, p < 93 → t.portAt p = { Port.init with tel := (t.portAt p).tel }) ∧ t.hub.inject = [] ∧ t.ep.src = [] ∧ t.ep.dst = [] ∧ t.opt.cass = s.opt.cass ∧ t.svc.hubStartAt = some s.clk
        ∧ t.mem.bytes = s.mem.bytes ∧ t.rc = s.rc
        ∧ ∀ d l, d < 4 → Tab.find s.link d = some l → (t.linkAt d).st = .down ∧ (t.linkAt d).badTx = l.badTx ∧ (t.linkAt d).badRx = l.badRx)
    ∧ (s.dom.hub = false → still .hubReset)
    ∧ (s.dom.hub = true → s.svc.stage ≠ .bivouac → s.svc.bivAt = none → ∀ memOff resume,
      completes (.bivouac memOff resume) s fun t =>
        t = { s with svc := { s.svc with bivAt := some (memOff, BitVec.ofNat 64 ((s.time.counter.toNat / 128 + 1) * 128)) } })
    ∧ (∀ memOff resume, s.dom.hub = false ∨ s.svc.stage = .bivouac ∨ s.svc.bivAt.isSome = true → still (.bivouac memOff resume))
    ∧ (∀ memOff, s.pending = [] → s.dom.hub = true → s.svc.stage ≠ .bivouac → s.svc.hubStartAt = none → s.time.slewing = false →
      s.time.rate = 0 → s.time.frac = 0 →
      ∀ x : W64, s.svc.bivAt = some (memOff, x) → x.toNat ≤ s.time.counter.toNat + 1 → s.time.counter.toNat + 1 < 2 ^ 64 →
        ∃ t, step s = .next t ∧ t.svc.stage = .bivouac ∧ t.svc.commanded = true ∧ t.svc.memOff = memOff ∧ t.svc.bivAt = none ∧ t.dom.core = 0
          ∧ t.dom.mem = (if memOff then 0 else s.dom.mem) ∧ bit (t.reg A.svcEvents) 1 = true)
    ∧ (s.svc.stage = .bivouac → s.svc.commanded = true → s.self.tripped = false →
      (s.svc.memOff = false → completes .resume s fun t =>
        t.svc.stage = .dies ∧ t.svc.commanded = false
          ∧ ∀ d, d < 4 → s.memDom d = true → s.linkUp d = true → s.svc.dieFail.getLsbD d = false → t.coreDom d = true)
      ∧ (s.svc.memOff = true → completes .resume s fun t =>
        t.svc.stage = .hub ∧ t.svc.commanded = false ∧ t.svc.memOff = false ∧ t.dom.mem = 15 ∧ ∀ d, d < 4 → (t.linkAt d).st = .down))
    ∧ (s.svc.stage ≠ .bivouac ∨ s.svc.commanded = false ∨ s.self.tripped = true → still .resume)
    ∧ (∀ c, c < 4 →
      (s.removeRefused c = true ∨ (s.cassAt c).present = false → completes (.cassRemove c) s fun t =>
        bit (t.reg A.svcEvents) 4 = true ∧ { t with regs := s.regs, edge := s.edge } = s)
      ∧ (s.removeRefused c = false → (s.cassAt c).present = true → completes (.cassRemove c) s fun t =>
        t = s.setCass c { s.cassAt c with st := .removing, safe := false }))
    ∧ (∀ (d : Nat) (r : SelfTest), d < 4 → (∀ e ∈ r.badPos, dieOf e.1 = d) → (∀ n ∈ r.badCores, dieOf n = d) →
      let fenced := s.core.filter fun (e : Nat × Core) => dieOf e.1 == d && decide (e.2.st = .fenced)
      (s.coreDom d = false ∨ s.svc.stage ≠ .dies → still (.selftestComplete d r))
      ∧ (s.coreDom d = true → s.svc.stage = .dies →
        (r.badPos = [] → r.badCores = [] → r.pathOk = true → fenced.length ≤ 64 → completes (.selftestComplete d r) s fun t =>
          t.svc.selfDone.getLsbD d = true ∧ t.svc.dieFail = s.svc.dieFail ∧ t.svc.selfMs = min r.ms 0xFFFFF ∧ t.regs = s.regs
            ∧ t.dom = s.dom
            ∧ ((∀ e, e < 4 → e ≠ d → s.coreDom e = true → s.svc.selfDone.getLsbD e = true) → t.svc.stage = .running))
        ∧ (r.pathOk = false → completes (.selftestComplete d r) s fun t =>
          t.svc.selfDone.getLsbD d = true ∧ t.svc.dieFail.getLsbD d = true ∧ bit (t.reg A.svcEvents) 0 = true)
        ∧ (r.badPos ≠ [] ∨ r.badCores ≠ [] → completes (.selftestComplete d r) s fun t =>
          t.svc.selfDone.getLsbD d = true ∧ bit (t.reg A.svcEvents) 0 = true ∧ t.svc.selfMs = min r.ms 0xFFFFF)
        ∧ (∀ n, r.badPos = [] → r.badCores = [n] → r.pathOk = true → fenced.length < 64 → n < 2560 → 0 < s.fuse.arrays n →
          (s.coreAt n).st = .reset → s.trimmed n = true → completes (.selftestComplete d r) s fun t =>
            (t.coreAt n).st = .fenced ∧ t.svc.dieFail = s.svc.dieFail ∧ t.dom = s.dom)))

/-- Firmware (R391 to R394, R428 to R431, R434): the staging bank, its verification, and the switch at its time. The model's own
choices in it: log 14, 88, 94, 98. -/
def Obligations.FirmwareIsStagedAndSwitched : Prop :=
  ∀ s : State,
    let svcOnly := fun (t : State) => { t with svc := s.svc } = s
    (∀ v : W64, s.svc.switchPending = false → s.svc.erasing = false → completes (.fwDataWrite v) s fun t =>
      (∀ i, i < 8 → Memory.byte (t.bankBytes s.stagingBank) (8 * s.field A.fwSel 24 3 + i) = BitVec.ofNat 8 (v.toNat / 256 ^ i))
        ∧ (∀ a, a < 8 * s.field A.fwSel 24 3 ∨ 8 * s.field A.fwSel 24 3 + 8 ≤ a →
          Memory.byte (t.bankBytes s.stagingBank) a = Memory.byte (s.bankBytes s.stagingBank) a)
        ∧ t.field A.fwSel 24 3 = (s.field A.fwSel 24 3 + 1) % 2 ^ 22 ∧ t.svc.staged = 1)
    ∧ (completes .fwCancel s fun t => t = { s with svc := { s.svc with switchPending := false } })
    ∧ (s.svc.switchPending = false → completes .fwErase s fun t => t = { s with svc := { s.svc with erasing := true } })
    ∧ (s.svc.erasing = true → completes .fwEraseComplete s fun t =>
      t.bankBytes s.stagingBank = [] ∧ t.svc.erasing = false ∧ t.svc.staged = 0 ∧ t.svc.stagedSvn = 0 ∧ t.svc.stagedMajor = 0 ∧ svcOnly t)
    ∧ (completes .fwVerify s fun t => svcOnly t ∧ t.svc.bank0 = s.svc.bank0 ∧ t.svc.bank1 = s.svc.bank1
      ∧ (Config.container (s.bankBytes s.stagingBank) = none → t.svc.staged = 3)
      ∧ ∀ m, Config.container (s.bankBytes s.stagingBank) = some m →
        (t.svc.staged = 2 ↔ s.manifestOk m = true ∧ m.proto ≤ s.svc.protoMajor + 1 ∧ s.svc.protoMajor ≤ m.proto + 1
          ∧ m.fmt ≤ s.svc.fmtMajor + 1 ∧ s.svc.fmtMajor ≤ m.fmt + 1)
        ∧ (t.svc.staged = 2 ∨ t.svc.staged = 3) ∧ t.svc.stagedSvn = m.svn)
    ∧ (let f := (s.reg A.fwCt).toNat
      (s.svc.staged = 2 → f % 128 = 0 → s.time.counter.toNat + 4000000 ≤ f →
        (∀ e, e ∈ s.topo.pend → e.2.due.toNat < f ∨ f + 1000000000 ≤ e.2.due.toNat) → completes .fwSwitch s fun t =>
          t = { s with svc := { s.svc with switchPending := true } })
      ∧ (s.svc.staged ≠ 2 ∨ f % 128 ≠ 0 ∨ f < s.time.counter.toNat + 4000000 → completes .fwSwitch s fun t =>
        bit (t.reg A.svcEvents) 4 = true ∧ { t with regs := s.regs, edge := s.edge } = s))
    ∧ (s.svc.switchPending = true → (s.reg A.fwCt).toNat ≤ s.time.counter.toNat → s.topo.pend = [] →
      (s.time.st = .locked ∨ s.time.st = .holdover → completes .firmwareSwitch s fun t =>
        t.svc.bootBank = s.stagingBank ∧ t.svc.switching = some s.clk ∧ t.svc.switchPending = false ∧ t.sec.sessions = [] ∧ t.core = s.core
          ∧ t.hub = s.hub)
      ∧ (s.time.st ≠ .locked → s.time.st ≠ .holdover → completes .firmwareSwitch s fun t =>
        t.svc.switching = s.svc.switching ∧ t.svc.switchPending = false ∧ t.svc.bootBank = s.svc.bootBank
          ∧ bit (t.reg A.svcEvents) 3 = true))
    ∧ (s.svc.switching.isSome = true → completes .newFirmwareStart s fun t =>
      t.svc.switching = none ∧ (t.sec.recovery = false → bit (t.reg A.svcEvents) 2 = true)
        ∧ (s.goodManifest s.svc.bootBank = none → s.goodManifest (1 - s.svc.bootBank) = none →
          t.sec.recovery = true ∧ bit (t.reg A.secEvents) 5 = true ∧ t.sec.meas1 = 0 ∧ t.sec.meas2 = 0 ∧ t.sec.meas3 = 0 ∧ t.dom.hub = false ∧ t.dom.mem = 0 ∧ t.dom.core = 0)
        ∧ (∀ m, s.goodManifest s.svc.bootBank = some m → t.svc.runBank = s.svc.bootBank ∧ t.svc.fwWord = m.fw ∧ t.sec.fwSvn = m.svn
          ∧ t.sec.recovery = false ∧ t.sec.meas1 = sha3 (toBytes 32 s.sec.meas1.toNat ++ toBytes 32 (sha3 m.body).toNat)
          ∧ t.sec.meas0 = extend (extend s.sec.meas0 (sha3Bytes (m.signed ++ m.signature))) (toBytes 32 (sha3 m.loader).toNat))
        ∧ (∀ m, s.goodManifest s.svc.bootBank = none → s.goodManifest (1 - s.svc.bootBank) = some m →
          t.svc.runBank = 1 - s.svc.bootBank ∧ bit (t.reg A.secEvents) 5 = true))

/-! ### Registers -/

/-- Software accesses to the control space (R8 to R13, R335, R341, R352): a plain field after a write and after a read is what its
access code and the events of the tick make it, the later of two writers of a tick has the last word, and an access outside every
register or to a domain that is down does nothing and reads zero. The model's own choices in it: log 31. -/
def Obligations.RegisterFieldsFollowTheirAccessCodes : Prop :=
  ∀ (w : Writer) (a : Nat) (v : W64) (s : State), a % 8 = 0 → a < 0x4000000 →
    (s.live a = false ∨ regAt a = none → (completes (.registerWrite w a v) s fun t => { t with edge := s.edge } = s)
      ∧ completes (.readClear a) s fun t => t = { s with out := .softRead a 0 :: s.out })
    ∧ (∀ d i j, s.live a = true → regAt a = some (d, i, j) → s.writeHubReg d.base i v = none → s.writeDieReg d.base i j v = none →
      (s.laterWrites a (writerIndex w) = [] → completes (.registerWrite w a v) s fun t =>
        (∀ f, f ∈ d.fields → ∀ b, f.lo ≤ b → b ≤ f.hi → bit (t.reg a) b =
          match f.acc with
          | .rw => if legalValue d.base f.lo (fld v f.hi f.lo) && !s.edge.image.contains a then bit v b else bit (s.reg a) b
          | .w1c => bit (s.reg a) b && (!bit v b || bit (s.eventBits a) b)
          | .w1s => bit (s.reg a) b || bit v b
          | _ => bit (s.reg a) b)
        ∧ (∀ b, b ≠ a → t.reg b = s.reg b) ∧ { t with regs := s.regs, edge := s.edge, opt := s.opt } = s)
      ∧ (∀ e l, s.laterWrites a (writerIndex w) = l ++ [e] → s.plainReg d.base = true → d.base ≠ A.coreSwdata 0 →
        valueReg d.base = false → completes (.registerWrite w a v) s fun t =>
          (∀ f, f ∈ d.fields → ∀ b, f.lo ≤ b → b ≤ f.hi → f.acc = .rw → legalValue d.base f.lo (fld e.2 f.hi f.lo) = true →
            s.edge.image.contains a = false → bit (t.reg a) b = bit e.2 b)
          ∧ (∀ b, b ≠ a → t.reg b = s.reg b)))
    ∧ (∀ d i j, s.live a = true → regAt a = some (d, i, j) → s.peakIndex d.base = none →
      [A.telData, A.edata, A.coreSwdata 0, A.ethFec 0].contains d.base = false → ¬ (d.base = A.win 0 ∧ i = 3) →
      completes (.readClear a) s fun t =>
        t.out = .softRead a ((s.beforeEvents d a).viewReg d i j a) :: s.out
          ∧ (∀ f, f ∈ d.fields → fld (t.reg a) f.hi f.lo =
            if f.acc = .rc then (match Tab.find s.edge.hw a with | some e => fld e.2 f.hi f.lo | none => f.reset) else fld (s.reg a) f.hi f.lo)
          ∧ (∀ b, b ≠ a → t.reg b = s.reg b) ∧ { t with regs := s.regs, edge := s.edge, out := s.out } = s)

/-- A write to a register with command fields has the command's effect, and so has a read with one (R9, R285, R299, R313, R333,
R336, R341, R355, R366, R379, R399, R404, R414, R423 to R426, R434). The model's own choices in it: log 32. -/
def Obligations.CommandRegistersGiveTheirCommands : Prop :=
  ∀ (w : Writer) (s : State), s.dom.hub = true → s.dom.mgmt = true →
    let writes := fun (a v : Nat) (c : Instr) => s.writesTo a = [] →
      exec (.registerWrite w a (BitVec.ofNat 64 v)) s = exec c (s.logWrite a (writerIndex w) (BitVec.ofNat 64 v))
    (∀ p, p < 93 → writes A.hubCtrl (4 * p + 2) (.holdPort p) ∧ writes A.hubCtrl (4 * p + 1) (.releasePort p))
    ∧ writes A.lcmd 1 .retire ∧ writes A.lcmd 2 .restore
    ∧ (∀ k, k < 16 → writes A.topoCmd (4 * k + 1) (.cancel k) ∧ writes A.topoCmd (4 * k + 2) (.activateNow k))
    ∧ (∀ v, v < 256 → writes A.qpsel v (.qpselWrite (BitVec.ofNat 64 v))) ∧ writes A.qpcmd 1 (.qpReset 1) ∧ writes A.qpcmd 2 (.qpCommit 2)
    ∧ writes A.thermCtrl 1 .thermRestart
    ∧ (∀ n, n < 2560 → writes A.selfCtrl (2 * n + 1) (.probeNow n) ∧ writes A.selfCtrl (2 * n + 2 ^ 13) (.clrFaults n))
    ∧ writes A.secSess 32 .closeAll
    ∧ (∀ c, c < 4 → writes A.svcCtrl (2 ^ (8 + c)) (.cassRemove c))
    ∧ writes A.svcCtrl (2 ^ 13) (.bivouac false false) ∧ writes A.svcCtrl (2 ^ 13 + 2 ^ 12) (.bivouac true false)
    ∧ writes A.svcCtrl (2 ^ 14) .resume ∧ writes A.svcCtrl (2 ^ 15) .powerDown
    ∧ (∀ v, v < 2 ^ 64 → writes A.fwData v (.fwDataWrite (BitVec.ofNat 64 v)))
    ∧ writes A.fwCmd 1 .fwErase ∧ writes A.fwCmd 2 .fwVerify ∧ writes A.fwCmd 4 .fwSwitch ∧ writes A.fwCmd 8 .fwCancel
    ∧ exec (.readClear A.telData) s = exec .telDataRead s ∧ exec (.readClear (A.win 3)) s = exec .cairnWin3Read s
    ∧ exec (.readClear A.edata) s = exec .edataRead s

/-! ### Single rules -/

/-- A frame that arrives in order on a port whose peer is an external endpoint and that does not carry its EID is discarded,
counted in SEC.COUNTS.SPOOFED, and sets SEC.EVENTS.SPOOF (R402). -/
def Obligations.SpoofedFramesAreDiscarded : Prop :=
  ∀ (p l e : Nat) (f : Frame) (s : State), p < 93 → l < fullLanes p → s.portUp p = true → (s.portAt p).rxLanes.getLsbD l = true →
    f.errs.any cwBad = false → fIntact f = true → fValid f = true → fType f = 1 → fSeq f = (s.portAt p).rxSeq → (s.portAt p).held = [] → (s.portAt p).belay = [] →
    qIntact f.q = true → qValid f.q = true → s.externalAt p = some e → qSrc f.q ≠ e → completes (.dataFrame p l f) s fun t =>
      t.hub.inbound = s.hub.inbound ∧ t.hub.inject = s.hub.inject ∧ t.out = s.out ∧ (∀ o, o ≠ p → t.portAt o = s.portAt o)
        ∧ fld (t.reg A.secCounts) 47 32 = min 65535 (fld (s.reg A.secCounts) 47 32 + 1) ∧ bit (t.reg A.secEvents) 6 = true

/-- In a die-local segment the die offset gives the channel and the channel-local address by the hash of R180. -/
def Obligations.DieLocalOffsetsSpreadOverChannels : Prop :=
  ∀ (s : State) (d : Nat) (a : BitVec 38), d < 4 → bit (s.reg (A.memMap d)) (a.extractLsb' 34 4).toNat = false →
    s.place (d * 2 ^ 38 + a.toNat) =
      { die := d
        chan := (a.extractLsb' 8 7 ^^^ a.extractLsb' 15 7 ^^^ a.extractLsb' 22 7 ^^^ a.extractLsb' 29 7 ^^^ (a.extractLsb' 36 2).zeroExtend 7).toNat
        addr := (a.extractLsb' 15 23 ++ a.extractLsb' 0 8).toNat }
end

