-- ==== Sys2Proof/Laws/State.lean ====
section
/-! SUPPORT. Every field of the state under every named update: what an update does not name stays (R9, R13). -/
namespace Sys2Proof.Machine

variable (s : State)

/-! ### State.setReg -/

@[simp] theorem State.setReg_pending (a : Nat) (v : W64) : (s.setReg a v).pending = s.pending := rfl
@[simp] theorem State.setReg_clk (a : Nat) (v : W64) : (s.setReg a v).clk = s.clk := rfl
@[simp] theorem State.setReg_free (a : Nat) (v : W64) : (s.setReg a v).free = s.free := rfl
@[simp] theorem State.setReg_out (a : Nat) (v : W64) : (s.setReg a v).out = s.out := rfl
@[simp] theorem State.setReg_parts (a : Nat) (v : W64) : (s.setReg a v).parts = s.parts := rfl
@[simp] theorem State.setReg_edge (a : Nat) (v : W64) : (s.setReg a v).edge = s.edge := rfl
@[simp] theorem State.setReg_fuse (a : Nat) (v : W64) : (s.setReg a v).fuse = s.fuse := rfl
@[simp] theorem State.setReg_dom (a : Nat) (v : W64) : (s.setReg a v).dom = s.dom := rfl
@[simp] theorem State.setReg_time (a : Nat) (v : W64) : (s.setReg a v).time = s.time := rfl
@[simp] theorem State.setReg_core (a : Nat) (v : W64) : (s.setReg a v).core = s.core := rfl
@[simp] theorem State.setReg_mem (a : Nat) (v : W64) : (s.setReg a v).mem = s.mem := rfl
@[simp] theorem State.setReg_upd (a : Nat) (v : W64) : (s.setReg a v).upd = s.upd := rfl
@[simp] theorem State.setReg_link (a : Nat) (v : W64) : (s.setReg a v).link = s.link := rfl
@[simp] theorem State.setReg_rc (a : Nat) (v : W64) : (s.setReg a v).rc = s.rc := rfl
@[simp] theorem State.setReg_ep (a : Nat) (v : W64) : (s.setReg a v).ep = s.ep := rfl
@[simp] theorem State.setReg_copy (a : Nat) (v : W64) : (s.setReg a v).copy = s.copy := rfl
@[simp] theorem State.setReg_hub (a : Nat) (v : W64) : (s.setReg a v).hub = s.hub := rfl
@[simp] theorem State.setReg_opt (a : Nat) (v : W64) : (s.setReg a v).opt = s.opt := rfl
@[simp] theorem State.setReg_topo (a : Nat) (v : W64) : (s.setReg a v).topo = s.topo := rfl
@[simp] theorem State.setReg_eth (a : Nat) (v : W64) : (s.setReg a v).eth = s.eth := rfl
@[simp] theorem State.setReg_self (a : Nat) (v : W64) : (s.setReg a v).self = s.self := rfl
@[simp] theorem State.setReg_sec (a : Nat) (v : W64) : (s.setReg a v).sec = s.sec := rfl
@[simp] theorem State.setReg_cairn (a : Nat) (v : W64) : (s.setReg a v).cairn = s.cairn := rfl
@[simp] theorem State.setReg_svc (a : Nat) (v : W64) : (s.setReg a v).svc = s.svc := rfl

/-! ### State.event -/

@[simp] theorem State.event_pending (a : Nat) (f : W64 → W64) : (s.event a f).pending = s.pending := rfl
@[simp] theorem State.event_clk (a : Nat) (f : W64 → W64) : (s.event a f).clk = s.clk := rfl
@[simp] theorem State.event_free (a : Nat) (f : W64 → W64) : (s.event a f).free = s.free := rfl
@[simp] theorem State.event_out (a : Nat) (f : W64 → W64) : (s.event a f).out = s.out := rfl
@[simp] theorem State.event_parts (a : Nat) (f : W64 → W64) : (s.event a f).parts = s.parts := rfl
@[simp] theorem State.event_fuse (a : Nat) (f : W64 → W64) : (s.event a f).fuse = s.fuse := rfl
@[simp] theorem State.event_dom (a : Nat) (f : W64 → W64) : (s.event a f).dom = s.dom := rfl
@[simp] theorem State.event_time (a : Nat) (f : W64 → W64) : (s.event a f).time = s.time := rfl
@[simp] theorem State.event_core (a : Nat) (f : W64 → W64) : (s.event a f).core = s.core := rfl
@[simp] theorem State.event_mem (a : Nat) (f : W64 → W64) : (s.event a f).mem = s.mem := rfl
@[simp] theorem State.event_upd (a : Nat) (f : W64 → W64) : (s.event a f).upd = s.upd := rfl
@[simp] theorem State.event_link (a : Nat) (f : W64 → W64) : (s.event a f).link = s.link := rfl
@[simp] theorem State.event_rc (a : Nat) (f : W64 → W64) : (s.event a f).rc = s.rc := rfl
@[simp] theorem State.event_ep (a : Nat) (f : W64 → W64) : (s.event a f).ep = s.ep := rfl
@[simp] theorem State.event_copy (a : Nat) (f : W64 → W64) : (s.event a f).copy = s.copy := rfl
@[simp] theorem State.event_hub (a : Nat) (f : W64 → W64) : (s.event a f).hub = s.hub := rfl
@[simp] theorem State.event_opt (a : Nat) (f : W64 → W64) : (s.event a f).opt = s.opt := rfl
@[simp] theorem State.event_topo (a : Nat) (f : W64 → W64) : (s.event a f).topo = s.topo := rfl
@[simp] theorem State.event_eth (a : Nat) (f : W64 → W64) : (s.event a f).eth = s.eth := rfl
@[simp] theorem State.event_self (a : Nat) (f : W64 → W64) : (s.event a f).self = s.self := rfl
@[simp] theorem State.event_sec (a : Nat) (f : W64 → W64) : (s.event a f).sec = s.sec := rfl
@[simp] theorem State.event_cairn (a : Nat) (f : W64 → W64) : (s.event a f).cairn = s.cairn := rfl
@[simp] theorem State.event_svc (a : Nat) (f : W64 → W64) : (s.event a f).svc = s.svc := rfl

/-! ### State.logWrite -/

@[simp] theorem State.logWrite_pending (a w : Nat) (v : W64) : (s.logWrite a w v).pending = s.pending := rfl
@[simp] theorem State.logWrite_clk (a w : Nat) (v : W64) : (s.logWrite a w v).clk = s.clk := rfl
@[simp] theorem State.logWrite_free (a w : Nat) (v : W64) : (s.logWrite a w v).free = s.free := rfl
@[simp] theorem State.logWrite_out (a w : Nat) (v : W64) : (s.logWrite a w v).out = s.out := rfl
@[simp] theorem State.logWrite_regs (a w : Nat) (v : W64) : (s.logWrite a w v).regs = s.regs := rfl
@[simp] theorem State.logWrite_parts (a w : Nat) (v : W64) : (s.logWrite a w v).parts = s.parts := rfl
@[simp] theorem State.logWrite_fuse (a w : Nat) (v : W64) : (s.logWrite a w v).fuse = s.fuse := rfl
@[simp] theorem State.logWrite_dom (a w : Nat) (v : W64) : (s.logWrite a w v).dom = s.dom := rfl
@[simp] theorem State.logWrite_time (a w : Nat) (v : W64) : (s.logWrite a w v).time = s.time := rfl
@[simp] theorem State.logWrite_core (a w : Nat) (v : W64) : (s.logWrite a w v).core = s.core := rfl
@[simp] theorem State.logWrite_mem (a w : Nat) (v : W64) : (s.logWrite a w v).mem = s.mem := rfl
@[simp] theorem State.logWrite_upd (a w : Nat) (v : W64) : (s.logWrite a w v).upd = s.upd := rfl
@[simp] theorem State.logWrite_link (a w : Nat) (v : W64) : (s.logWrite a w v).link = s.link := rfl
@[simp] theorem State.logWrite_rc (a w : Nat) (v : W64) : (s.logWrite a w v).rc = s.rc := rfl
@[simp] theorem State.logWrite_ep (a w : Nat) (v : W64) : (s.logWrite a w v).ep = s.ep := rfl
@[simp] theorem State.logWrite_copy (a w : Nat) (v : W64) : (s.logWrite a w v).copy = s.copy := rfl
@[simp] theorem State.logWrite_hub (a w : Nat) (v : W64) : (s.logWrite a w v).hub = s.hub := rfl
@[simp] theorem State.logWrite_opt (a w : Nat) (v : W64) : (s.logWrite a w v).opt = s.opt := rfl
@[simp] theorem State.logWrite_topo (a w : Nat) (v : W64) : (s.logWrite a w v).topo = s.topo := rfl
@[simp] theorem State.logWrite_eth (a w : Nat) (v : W64) : (s.logWrite a w v).eth = s.eth := rfl
@[simp] theorem State.logWrite_self (a w : Nat) (v : W64) : (s.logWrite a w v).self = s.self := rfl
@[simp] theorem State.logWrite_sec (a w : Nat) (v : W64) : (s.logWrite a w v).sec = s.sec := rfl
@[simp] theorem State.logWrite_cairn (a w : Nat) (v : W64) : (s.logWrite a w v).cairn = s.cairn := rfl
@[simp] theorem State.logWrite_svc (a w : Nat) (v : W64) : (s.logWrite a w v).svc = s.svc := rfl

/-! ### State.bySection -/

@[simp] theorem State.bySection_pending (k : Nat) : (s.bySection k).pending = s.pending := rfl
@[simp] theorem State.bySection_clk (k : Nat) : (s.bySection k).clk = s.clk := rfl
@[simp] theorem State.bySection_free (k : Nat) : (s.bySection k).free = s.free := rfl
@[simp] theorem State.bySection_out (k : Nat) : (s.bySection k).out = s.out := rfl
@[simp] theorem State.bySection_regs (k : Nat) : (s.bySection k).regs = s.regs := rfl
@[simp] theorem State.bySection_parts (k : Nat) : (s.bySection k).parts = s.parts := rfl
@[simp] theorem State.bySection_fuse (k : Nat) : (s.bySection k).fuse = s.fuse := rfl
@[simp] theorem State.bySection_dom (k : Nat) : (s.bySection k).dom = s.dom := rfl
@[simp] theorem State.bySection_time (k : Nat) : (s.bySection k).time = s.time := rfl
@[simp] theorem State.bySection_core (k : Nat) : (s.bySection k).core = s.core := rfl
@[simp] theorem State.bySection_mem (k : Nat) : (s.bySection k).mem = s.mem := rfl
@[simp] theorem State.bySection_upd (k : Nat) : (s.bySection k).upd = s.upd := rfl
@[simp] theorem State.bySection_link (k : Nat) : (s.bySection k).link = s.link := rfl
@[simp] theorem State.bySection_rc (k : Nat) : (s.bySection k).rc = s.rc := rfl
@[simp] theorem State.bySection_ep (k : Nat) : (s.bySection k).ep = s.ep := rfl
@[simp] theorem State.bySection_copy (k : Nat) : (s.bySection k).copy = s.copy := rfl
@[simp] theorem State.bySection_hub (k : Nat) : (s.bySection k).hub = s.hub := rfl
@[simp] theorem State.bySection_opt (k : Nat) : (s.bySection k).opt = s.opt := rfl
@[simp] theorem State.bySection_topo (k : Nat) : (s.bySection k).topo = s.topo := rfl
@[simp] theorem State.bySection_eth (k : Nat) : (s.bySection k).eth = s.eth := rfl
@[simp] theorem State.bySection_self (k : Nat) : (s.bySection k).self = s.self := rfl
@[simp] theorem State.bySection_sec (k : Nat) : (s.bySection k).sec = s.sec := rfl
@[simp] theorem State.bySection_cairn (k : Nat) : (s.bySection k).cairn = s.cairn := rfl
@[simp] theorem State.bySection_svc (k : Nat) : (s.bySection k).svc = s.svc := rfl

/-! ### State.drew -/

@[simp] theorem State.drew_pending (n : Nat) : (s.drew n).pending = s.pending := rfl
@[simp] theorem State.drew_clk (n : Nat) : (s.drew n).clk = s.clk := rfl
@[simp] theorem State.drew_free (n : Nat) : (s.drew n).free = s.free := rfl
@[simp] theorem State.drew_out (n : Nat) : (s.drew n).out = s.out := rfl
@[simp] theorem State.drew_regs (n : Nat) : (s.drew n).regs = s.regs := rfl
@[simp] theorem State.drew_parts (n : Nat) : (s.drew n).parts = s.parts := rfl
@[simp] theorem State.drew_edge (n : Nat) : (s.drew n).edge = s.edge := rfl
@[simp] theorem State.drew_fuse (n : Nat) : (s.drew n).fuse = s.fuse := rfl
@[simp] theorem State.drew_dom (n : Nat) : (s.drew n).dom = s.dom := rfl
@[simp] theorem State.drew_time (n : Nat) : (s.drew n).time = s.time := rfl
@[simp] theorem State.drew_core (n : Nat) : (s.drew n).core = s.core := rfl
@[simp] theorem State.drew_mem (n : Nat) : (s.drew n).mem = s.mem := rfl
@[simp] theorem State.drew_upd (n : Nat) : (s.drew n).upd = s.upd := rfl
@[simp] theorem State.drew_link (n : Nat) : (s.drew n).link = s.link := rfl
@[simp] theorem State.drew_rc (n : Nat) : (s.drew n).rc = s.rc := rfl
@[simp] theorem State.drew_ep (n : Nat) : (s.drew n).ep = s.ep := rfl
@[simp] theorem State.drew_copy (n : Nat) : (s.drew n).copy = s.copy := rfl
@[simp] theorem State.drew_hub (n : Nat) : (s.drew n).hub = s.hub := rfl
@[simp] theorem State.drew_opt (n : Nat) : (s.drew n).opt = s.opt := rfl
@[simp] theorem State.drew_topo (n : Nat) : (s.drew n).topo = s.topo := rfl
@[simp] theorem State.drew_eth (n : Nat) : (s.drew n).eth = s.eth := rfl
@[simp] theorem State.drew_self (n : Nat) : (s.drew n).self = s.self := rfl
@[simp] theorem State.drew_cairn (n : Nat) : (s.drew n).cairn = s.cairn := rfl
@[simp] theorem State.drew_svc (n : Nat) : (s.drew n).svc = s.svc := rfl

/-! ### State.putField -/

@[simp] theorem State.putField_pending (a hi lo v : Nat) : (s.putField a hi lo v).pending = s.pending := rfl
@[simp] theorem State.putField_clk (a hi lo v : Nat) : (s.putField a hi lo v).clk = s.clk := rfl
@[simp] theorem State.putField_free (a hi lo v : Nat) : (s.putField a hi lo v).free = s.free := rfl
@[simp] theorem State.putField_out (a hi lo v : Nat) : (s.putField a hi lo v).out = s.out := rfl
@[simp] theorem State.putField_parts (a hi lo v : Nat) : (s.putField a hi lo v).parts = s.parts := rfl
@[simp] theorem State.putField_edge (a hi lo v : Nat) : (s.putField a hi lo v).edge = s.edge := rfl
@[simp] theorem State.putField_fuse (a hi lo v : Nat) : (s.putField a hi lo v).fuse = s.fuse := rfl
@[simp] theorem State.putField_dom (a hi lo v : Nat) : (s.putField a hi lo v).dom = s.dom := rfl
@[simp] theorem State.putField_time (a hi lo v : Nat) : (s.putField a hi lo v).time = s.time := rfl
@[simp] theorem State.putField_core (a hi lo v : Nat) : (s.putField a hi lo v).core = s.core := rfl
@[simp] theorem State.putField_mem (a hi lo v : Nat) : (s.putField a hi lo v).mem = s.mem := rfl
@[simp] theorem State.putField_upd (a hi lo v : Nat) : (s.putField a hi lo v).upd = s.upd := rfl
@[simp] theorem State.putField_link (a hi lo v : Nat) : (s.putField a hi lo v).link = s.link := rfl
@[simp] theorem State.putField_rc (a hi lo v : Nat) : (s.putField a hi lo v).rc = s.rc := rfl
@[simp] theorem State.putField_ep (a hi lo v : Nat) : (s.putField a hi lo v).ep = s.ep := rfl
@[simp] theorem State.putField_copy (a hi lo v : Nat) : (s.putField a hi lo v).copy = s.copy := rfl
@[simp] theorem State.putField_hub (a hi lo v : Nat) : (s.putField a hi lo v).hub = s.hub := rfl
@[simp] theorem State.putField_opt (a hi lo v : Nat) : (s.putField a hi lo v).opt = s.opt := rfl
@[simp] theorem State.putField_topo (a hi lo v : Nat) : (s.putField a hi lo v).topo = s.topo := rfl
@[simp] theorem State.putField_eth (a hi lo v : Nat) : (s.putField a hi lo v).eth = s.eth := rfl
@[simp] theorem State.putField_self (a hi lo v : Nat) : (s.putField a hi lo v).self = s.self := rfl
@[simp] theorem State.putField_sec (a hi lo v : Nat) : (s.putField a hi lo v).sec = s.sec := rfl
@[simp] theorem State.putField_cairn (a hi lo v : Nat) : (s.putField a hi lo v).cairn = s.cairn := rfl
@[simp] theorem State.putField_svc (a hi lo v : Nat) : (s.putField a hi lo v).svc = s.svc := rfl

/-! ### State.orReg -/

@[simp] theorem State.orReg_pending (a : Nat) (m : W64) : (s.orReg a m).pending = s.pending := rfl
@[simp] theorem State.orReg_clk (a : Nat) (m : W64) : (s.orReg a m).clk = s.clk := rfl
@[simp] theorem State.orReg_free (a : Nat) (m : W64) : (s.orReg a m).free = s.free := rfl
@[simp] theorem State.orReg_out (a : Nat) (m : W64) : (s.orReg a m).out = s.out := rfl
@[simp] theorem State.orReg_parts (a : Nat) (m : W64) : (s.orReg a m).parts = s.parts := rfl
@[simp] theorem State.orReg_fuse (a : Nat) (m : W64) : (s.orReg a m).fuse = s.fuse := rfl
@[simp] theorem State.orReg_dom (a : Nat) (m : W64) : (s.orReg a m).dom = s.dom := rfl
@[simp] theorem State.orReg_time (a : Nat) (m : W64) : (s.orReg a m).time = s.time := rfl
@[simp] theorem State.orReg_core (a : Nat) (m : W64) : (s.orReg a m).core = s.core := rfl
@[simp] theorem State.orReg_mem (a : Nat) (m : W64) : (s.orReg a m).mem = s.mem := rfl
@[simp] theorem State.orReg_upd (a : Nat) (m : W64) : (s.orReg a m).upd = s.upd := rfl
@[simp] theorem State.orReg_link (a : Nat) (m : W64) : (s.orReg a m).link = s.link := rfl
@[simp] theorem State.orReg_rc (a : Nat) (m : W64) : (s.orReg a m).rc = s.rc := rfl
@[simp] theorem State.orReg_ep (a : Nat) (m : W64) : (s.orReg a m).ep = s.ep := rfl
@[simp] theorem State.orReg_copy (a : Nat) (m : W64) : (s.orReg a m).copy = s.copy := rfl
@[simp] theorem State.orReg_hub (a : Nat) (m : W64) : (s.orReg a m).hub = s.hub := rfl
@[simp] theorem State.orReg_opt (a : Nat) (m : W64) : (s.orReg a m).opt = s.opt := rfl
@[simp] theorem State.orReg_topo (a : Nat) (m : W64) : (s.orReg a m).topo = s.topo := rfl
@[simp] theorem State.orReg_eth (a : Nat) (m : W64) : (s.orReg a m).eth = s.eth := rfl
@[simp] theorem State.orReg_self (a : Nat) (m : W64) : (s.orReg a m).self = s.self := rfl
@[simp] theorem State.orReg_sec (a : Nat) (m : W64) : (s.orReg a m).sec = s.sec := rfl
@[simp] theorem State.orReg_cairn (a : Nat) (m : W64) : (s.orReg a m).cairn = s.cairn := rfl
@[simp] theorem State.orReg_svc (a : Nat) (m : W64) : (s.orReg a m).svc = s.svc := rfl

/-! ### State.setBit -/

@[simp] theorem State.setBit_pending (a i : Nat) : (s.setBit a i).pending = s.pending := rfl
@[simp] theorem State.setBit_clk (a i : Nat) : (s.setBit a i).clk = s.clk := rfl
@[simp] theorem State.setBit_free (a i : Nat) : (s.setBit a i).free = s.free := rfl
@[simp] theorem State.setBit_out (a i : Nat) : (s.setBit a i).out = s.out := rfl
@[simp] theorem State.setBit_parts (a i : Nat) : (s.setBit a i).parts = s.parts := rfl
@[simp] theorem State.setBit_fuse (a i : Nat) : (s.setBit a i).fuse = s.fuse := rfl
@[simp] theorem State.setBit_dom (a i : Nat) : (s.setBit a i).dom = s.dom := rfl
@[simp] theorem State.setBit_time (a i : Nat) : (s.setBit a i).time = s.time := rfl
@[simp] theorem State.setBit_core (a i : Nat) : (s.setBit a i).core = s.core := rfl
@[simp] theorem State.setBit_mem (a i : Nat) : (s.setBit a i).mem = s.mem := rfl
@[simp] theorem State.setBit_upd (a i : Nat) : (s.setBit a i).upd = s.upd := rfl
@[simp] theorem State.setBit_link (a i : Nat) : (s.setBit a i).link = s.link := rfl
@[simp] theorem State.setBit_rc (a i : Nat) : (s.setBit a i).rc = s.rc := rfl
@[simp] theorem State.setBit_ep (a i : Nat) : (s.setBit a i).ep = s.ep := rfl
@[simp] theorem State.setBit_copy (a i : Nat) : (s.setBit a i).copy = s.copy := rfl
@[simp] theorem State.setBit_hub (a i : Nat) : (s.setBit a i).hub = s.hub := rfl
@[simp] theorem State.setBit_opt (a i : Nat) : (s.setBit a i).opt = s.opt := rfl
@[simp] theorem State.setBit_topo (a i : Nat) : (s.setBit a i).topo = s.topo := rfl
@[simp] theorem State.setBit_eth (a i : Nat) : (s.setBit a i).eth = s.eth := rfl
@[simp] theorem State.setBit_self (a i : Nat) : (s.setBit a i).self = s.self := rfl
@[simp] theorem State.setBit_sec (a i : Nat) : (s.setBit a i).sec = s.sec := rfl
@[simp] theorem State.setBit_cairn (a i : Nat) : (s.setBit a i).cairn = s.cairn := rfl
@[simp] theorem State.setBit_svc (a i : Nat) : (s.setBit a i).svc = s.svc := rfl

/-! ### State.bump -/

@[simp] theorem State.bump_pending (a hi lo k : Nat) : (s.bump a hi lo k).pending = s.pending := rfl
@[simp] theorem State.bump_clk (a hi lo k : Nat) : (s.bump a hi lo k).clk = s.clk := rfl
@[simp] theorem State.bump_free (a hi lo k : Nat) : (s.bump a hi lo k).free = s.free := rfl
@[simp] theorem State.bump_out (a hi lo k : Nat) : (s.bump a hi lo k).out = s.out := rfl
@[simp] theorem State.bump_parts (a hi lo k : Nat) : (s.bump a hi lo k).parts = s.parts := rfl
@[simp] theorem State.bump_fuse (a hi lo k : Nat) : (s.bump a hi lo k).fuse = s.fuse := rfl
@[simp] theorem State.bump_dom (a hi lo k : Nat) : (s.bump a hi lo k).dom = s.dom := rfl
@[simp] theorem State.bump_time (a hi lo k : Nat) : (s.bump a hi lo k).time = s.time := rfl
@[simp] theorem State.bump_core (a hi lo k : Nat) : (s.bump a hi lo k).core = s.core := rfl
@[simp] theorem State.bump_mem (a hi lo k : Nat) : (s.bump a hi lo k).mem = s.mem := rfl
@[simp] theorem State.bump_upd (a hi lo k : Nat) : (s.bump a hi lo k).upd = s.upd := rfl
@[simp] theorem State.bump_link (a hi lo k : Nat) : (s.bump a hi lo k).link = s.link := rfl
@[simp] theorem State.bump_rc (a hi lo k : Nat) : (s.bump a hi lo k).rc = s.rc := rfl
@[simp] theorem State.bump_ep (a hi lo k : Nat) : (s.bump a hi lo k).ep = s.ep := rfl
@[simp] theorem State.bump_copy (a hi lo k : Nat) : (s.bump a hi lo k).copy = s.copy := rfl
@[simp] theorem State.bump_hub (a hi lo k : Nat) : (s.bump a hi lo k).hub = s.hub := rfl
@[simp] theorem State.bump_opt (a hi lo k : Nat) : (s.bump a hi lo k).opt = s.opt := rfl
@[simp] theorem State.bump_topo (a hi lo k : Nat) : (s.bump a hi lo k).topo = s.topo := rfl
@[simp] theorem State.bump_eth (a hi lo k : Nat) : (s.bump a hi lo k).eth = s.eth := rfl
@[simp] theorem State.bump_self (a hi lo k : Nat) : (s.bump a hi lo k).self = s.self := rfl
@[simp] theorem State.bump_sec (a hi lo k : Nat) : (s.bump a hi lo k).sec = s.sec := rfl
@[simp] theorem State.bump_cairn (a hi lo k : Nat) : (s.bump a hi lo k).cairn = s.cairn := rfl
@[simp] theorem State.bump_svc (a hi lo k : Nat) : (s.bump a hi lo k).svc = s.svc := rfl

/-! ### State.bumpKi -/

@[simp] theorem State.bumpKi_pending (a hi lo k : Nat) : (s.bumpKi a hi lo k).pending = s.pending := rfl
@[simp] theorem State.bumpKi_clk (a hi lo k : Nat) : (s.bumpKi a hi lo k).clk = s.clk := rfl
@[simp] theorem State.bumpKi_free (a hi lo k : Nat) : (s.bumpKi a hi lo k).free = s.free := rfl
@[simp] theorem State.bumpKi_out (a hi lo k : Nat) : (s.bumpKi a hi lo k).out = s.out := rfl
@[simp] theorem State.bumpKi_fuse (a hi lo k : Nat) : (s.bumpKi a hi lo k).fuse = s.fuse := rfl
@[simp] theorem State.bumpKi_dom (a hi lo k : Nat) : (s.bumpKi a hi lo k).dom = s.dom := rfl
@[simp] theorem State.bumpKi_time (a hi lo k : Nat) : (s.bumpKi a hi lo k).time = s.time := rfl
@[simp] theorem State.bumpKi_core (a hi lo k : Nat) : (s.bumpKi a hi lo k).core = s.core := rfl
@[simp] theorem State.bumpKi_mem (a hi lo k : Nat) : (s.bumpKi a hi lo k).mem = s.mem := rfl
@[simp] theorem State.bumpKi_upd (a hi lo k : Nat) : (s.bumpKi a hi lo k).upd = s.upd := rfl
@[simp] theorem State.bumpKi_link (a hi lo k : Nat) : (s.bumpKi a hi lo k).link = s.link := rfl
@[simp] theorem State.bumpKi_rc (a hi lo k : Nat) : (s.bumpKi a hi lo k).rc = s.rc := rfl
@[simp] theorem State.bumpKi_ep (a hi lo k : Nat) : (s.bumpKi a hi lo k).ep = s.ep := rfl
@[simp] theorem State.bumpKi_copy (a hi lo k : Nat) : (s.bumpKi a hi lo k).copy = s.copy := rfl
@[simp] theorem State.bumpKi_hub (a hi lo k : Nat) : (s.bumpKi a hi lo k).hub = s.hub := rfl
@[simp] theorem State.bumpKi_opt (a hi lo k : Nat) : (s.bumpKi a hi lo k).opt = s.opt := rfl
@[simp] theorem State.bumpKi_topo (a hi lo k : Nat) : (s.bumpKi a hi lo k).topo = s.topo := rfl
@[simp] theorem State.bumpKi_eth (a hi lo k : Nat) : (s.bumpKi a hi lo k).eth = s.eth := rfl
@[simp] theorem State.bumpKi_self (a hi lo k : Nat) : (s.bumpKi a hi lo k).self = s.self := rfl
@[simp] theorem State.bumpKi_sec (a hi lo k : Nat) : (s.bumpKi a hi lo k).sec = s.sec := rfl
@[simp] theorem State.bumpKi_cairn (a hi lo k : Nat) : (s.bumpKi a hi lo k).cairn = s.cairn := rfl
@[simp] theorem State.bumpKi_svc (a hi lo k : Nat) : (s.bumpKi a hi lo k).svc = s.svc := rfl

/-! ### State.setFlags -/

@[simp] theorem State.setFlags_pending (n : Nat) (m : W64) : (s.setFlags n m).pending = s.pending := rfl
@[simp] theorem State.setFlags_clk (n : Nat) (m : W64) : (s.setFlags n m).clk = s.clk := rfl
@[simp] theorem State.setFlags_free (n : Nat) (m : W64) : (s.setFlags n m).free = s.free := rfl
@[simp] theorem State.setFlags_out (n : Nat) (m : W64) : (s.setFlags n m).out = s.out := rfl
@[simp] theorem State.setFlags_parts (n : Nat) (m : W64) : (s.setFlags n m).parts = s.parts := rfl
@[simp] theorem State.setFlags_fuse (n : Nat) (m : W64) : (s.setFlags n m).fuse = s.fuse := rfl
@[simp] theorem State.setFlags_dom (n : Nat) (m : W64) : (s.setFlags n m).dom = s.dom := rfl
@[simp] theorem State.setFlags_time (n : Nat) (m : W64) : (s.setFlags n m).time = s.time := rfl
@[simp] theorem State.setFlags_core (n : Nat) (m : W64) : (s.setFlags n m).core = s.core := rfl
@[simp] theorem State.setFlags_mem (n : Nat) (m : W64) : (s.setFlags n m).mem = s.mem := rfl
@[simp] theorem State.setFlags_upd (n : Nat) (m : W64) : (s.setFlags n m).upd = s.upd := rfl
@[simp] theorem State.setFlags_link (n : Nat) (m : W64) : (s.setFlags n m).link = s.link := rfl
@[simp] theorem State.setFlags_rc (n : Nat) (m : W64) : (s.setFlags n m).rc = s.rc := rfl
@[simp] theorem State.setFlags_ep (n : Nat) (m : W64) : (s.setFlags n m).ep = s.ep := rfl
@[simp] theorem State.setFlags_copy (n : Nat) (m : W64) : (s.setFlags n m).copy = s.copy := rfl
@[simp] theorem State.setFlags_hub (n : Nat) (m : W64) : (s.setFlags n m).hub = s.hub := rfl
@[simp] theorem State.setFlags_opt (n : Nat) (m : W64) : (s.setFlags n m).opt = s.opt := rfl
@[simp] theorem State.setFlags_topo (n : Nat) (m : W64) : (s.setFlags n m).topo = s.topo := rfl
@[simp] theorem State.setFlags_eth (n : Nat) (m : W64) : (s.setFlags n m).eth = s.eth := rfl
@[simp] theorem State.setFlags_self (n : Nat) (m : W64) : (s.setFlags n m).self = s.self := rfl
@[simp] theorem State.setFlags_sec (n : Nat) (m : W64) : (s.setFlags n m).sec = s.sec := rfl
@[simp] theorem State.setFlags_cairn (n : Nat) (m : W64) : (s.setFlags n m).cairn = s.cairn := rfl
@[simp] theorem State.setFlags_svc (n : Nat) (m : W64) : (s.setFlags n m).svc = s.svc := rfl

/-! ### State.setCore -/

@[simp] theorem State.setCore_pending (n : Nat) (c : Core) : (s.setCore n c).pending = s.pending := rfl
@[simp] theorem State.setCore_clk (n : Nat) (c : Core) : (s.setCore n c).clk = s.clk := rfl
@[simp] theorem State.setCore_free (n : Nat) (c : Core) : (s.setCore n c).free = s.free := rfl
@[simp] theorem State.setCore_out (n : Nat) (c : Core) : (s.setCore n c).out = s.out := rfl
@[simp] theorem State.setCore_regs (n : Nat) (c : Core) : (s.setCore n c).regs = s.regs := rfl
@[simp] theorem State.setCore_parts (n : Nat) (c : Core) : (s.setCore n c).parts = s.parts := rfl
@[simp] theorem State.setCore_edge (n : Nat) (c : Core) : (s.setCore n c).edge = s.edge := rfl
@[simp] theorem State.setCore_fuse (n : Nat) (c : Core) : (s.setCore n c).fuse = s.fuse := rfl
@[simp] theorem State.setCore_dom (n : Nat) (c : Core) : (s.setCore n c).dom = s.dom := rfl
@[simp] theorem State.setCore_time (n : Nat) (c : Core) : (s.setCore n c).time = s.time := rfl
@[simp] theorem State.setCore_mem (n : Nat) (c : Core) : (s.setCore n c).mem = s.mem := rfl
@[simp] theorem State.setCore_upd (n : Nat) (c : Core) : (s.setCore n c).upd = s.upd := rfl
@[simp] theorem State.setCore_link (n : Nat) (c : Core) : (s.setCore n c).link = s.link := rfl
@[simp] theorem State.setCore_rc (n : Nat) (c : Core) : (s.setCore n c).rc = s.rc := rfl
@[simp] theorem State.setCore_ep (n : Nat) (c : Core) : (s.setCore n c).ep = s.ep := rfl
@[simp] theorem State.setCore_copy (n : Nat) (c : Core) : (s.setCore n c).copy = s.copy := rfl
@[simp] theorem State.setCore_hub (n : Nat) (c : Core) : (s.setCore n c).hub = s.hub := rfl
@[simp] theorem State.setCore_opt (n : Nat) (c : Core) : (s.setCore n c).opt = s.opt := rfl
@[simp] theorem State.setCore_topo (n : Nat) (c : Core) : (s.setCore n c).topo = s.topo := rfl
@[simp] theorem State.setCore_eth (n : Nat) (c : Core) : (s.setCore n c).eth = s.eth := rfl
@[simp] theorem State.setCore_self (n : Nat) (c : Core) : (s.setCore n c).self = s.self := rfl
@[simp] theorem State.setCore_sec (n : Nat) (c : Core) : (s.setCore n c).sec = s.sec := rfl
@[simp] theorem State.setCore_cairn (n : Nat) (c : Core) : (s.setCore n c).cairn = s.cairn := rfl
@[simp] theorem State.setCore_svc (n : Nat) (c : Core) : (s.setCore n c).svc = s.svc := rfl

/-! ### State.done -/

@[simp] theorem State.done_pending (n : Nat) (c : Core) : (s.done n c).pending = s.pending := rfl
@[simp] theorem State.done_clk (n : Nat) (c : Core) : (s.done n c).clk = s.clk := rfl
@[simp] theorem State.done_free (n : Nat) (c : Core) : (s.done n c).free = s.free := rfl
@[simp] theorem State.done_out (n : Nat) (c : Core) : (s.done n c).out = s.out := rfl
@[simp] theorem State.done_regs (n : Nat) (c : Core) : (s.done n c).regs = s.regs := rfl
@[simp] theorem State.done_parts (n : Nat) (c : Core) : (s.done n c).parts = s.parts := rfl
@[simp] theorem State.done_edge (n : Nat) (c : Core) : (s.done n c).edge = s.edge := rfl
@[simp] theorem State.done_fuse (n : Nat) (c : Core) : (s.done n c).fuse = s.fuse := rfl
@[simp] theorem State.done_dom (n : Nat) (c : Core) : (s.done n c).dom = s.dom := rfl
@[simp] theorem State.done_time (n : Nat) (c : Core) : (s.done n c).time = s.time := rfl
@[simp] theorem State.done_mem (n : Nat) (c : Core) : (s.done n c).mem = s.mem := rfl
@[simp] theorem State.done_upd (n : Nat) (c : Core) : (s.done n c).upd = s.upd := rfl
@[simp] theorem State.done_link (n : Nat) (c : Core) : (s.done n c).link = s.link := rfl
@[simp] theorem State.done_rc (n : Nat) (c : Core) : (s.done n c).rc = s.rc := rfl
@[simp] theorem State.done_ep (n : Nat) (c : Core) : (s.done n c).ep = s.ep := rfl
@[simp] theorem State.done_copy (n : Nat) (c : Core) : (s.done n c).copy = s.copy := rfl
@[simp] theorem State.done_hub (n : Nat) (c : Core) : (s.done n c).hub = s.hub := rfl
@[simp] theorem State.done_opt (n : Nat) (c : Core) : (s.done n c).opt = s.opt := rfl
@[simp] theorem State.done_topo (n : Nat) (c : Core) : (s.done n c).topo = s.topo := rfl
@[simp] theorem State.done_eth (n : Nat) (c : Core) : (s.done n c).eth = s.eth := rfl
@[simp] theorem State.done_self (n : Nat) (c : Core) : (s.done n c).self = s.self := rfl
@[simp] theorem State.done_sec (n : Nat) (c : Core) : (s.done n c).sec = s.sec := rfl
@[simp] theorem State.done_cairn (n : Nat) (c : Core) : (s.done n c).cairn = s.cairn := rfl
@[simp] theorem State.done_svc (n : Nat) (c : Core) : (s.done n c).svc = s.svc := rfl

/-! ### State.emit -/

@[simp] theorem State.emit_pending (o : Out) : (s.emit o).pending = s.pending := rfl
@[simp] theorem State.emit_clk (o : Out) : (s.emit o).clk = s.clk := rfl
@[simp] theorem State.emit_free (o : Out) : (s.emit o).free = s.free := rfl
@[simp] theorem State.emit_regs (o : Out) : (s.emit o).regs = s.regs := rfl
@[simp] theorem State.emit_parts (o : Out) : (s.emit o).parts = s.parts := rfl
@[simp] theorem State.emit_edge (o : Out) : (s.emit o).edge = s.edge := rfl
@[simp] theorem State.emit_fuse (o : Out) : (s.emit o).fuse = s.fuse := rfl
@[simp] theorem State.emit_dom (o : Out) : (s.emit o).dom = s.dom := rfl
@[simp] theorem State.emit_time (o : Out) : (s.emit o).time = s.time := rfl
@[simp] theorem State.emit_core (o : Out) : (s.emit o).core = s.core := rfl
@[simp] theorem State.emit_mem (o : Out) : (s.emit o).mem = s.mem := rfl
@[simp] theorem State.emit_upd (o : Out) : (s.emit o).upd = s.upd := rfl
@[simp] theorem State.emit_link (o : Out) : (s.emit o).link = s.link := rfl
@[simp] theorem State.emit_rc (o : Out) : (s.emit o).rc = s.rc := rfl
@[simp] theorem State.emit_ep (o : Out) : (s.emit o).ep = s.ep := rfl
@[simp] theorem State.emit_copy (o : Out) : (s.emit o).copy = s.copy := rfl
@[simp] theorem State.emit_hub (o : Out) : (s.emit o).hub = s.hub := rfl
@[simp] theorem State.emit_opt (o : Out) : (s.emit o).opt = s.opt := rfl
@[simp] theorem State.emit_topo (o : Out) : (s.emit o).topo = s.topo := rfl
@[simp] theorem State.emit_eth (o : Out) : (s.emit o).eth = s.eth := rfl
@[simp] theorem State.emit_self (o : Out) : (s.emit o).self = s.self := rfl
@[simp] theorem State.emit_sec (o : Out) : (s.emit o).sec = s.sec := rfl
@[simp] theorem State.emit_cairn (o : Out) : (s.emit o).cairn = s.cairn := rfl
@[simp] theorem State.emit_svc (o : Out) : (s.emit o).svc = s.svc := rfl

/-! ### State.useFree -/

@[simp] theorem State.useFree_pending : (s.useFree).pending = s.pending := rfl
@[simp] theorem State.useFree_clk : (s.useFree).clk = s.clk := rfl
@[simp] theorem State.useFree_out : (s.useFree).out = s.out := rfl
@[simp] theorem State.useFree_regs : (s.useFree).regs = s.regs := rfl
@[simp] theorem State.useFree_parts : (s.useFree).parts = s.parts := rfl
@[simp] theorem State.useFree_edge : (s.useFree).edge = s.edge := rfl
@[simp] theorem State.useFree_fuse : (s.useFree).fuse = s.fuse := rfl
@[simp] theorem State.useFree_dom : (s.useFree).dom = s.dom := rfl
@[simp] theorem State.useFree_time : (s.useFree).time = s.time := rfl
@[simp] theorem State.useFree_core : (s.useFree).core = s.core := rfl
@[simp] theorem State.useFree_mem : (s.useFree).mem = s.mem := rfl
@[simp] theorem State.useFree_upd : (s.useFree).upd = s.upd := rfl
@[simp] theorem State.useFree_link : (s.useFree).link = s.link := rfl
@[simp] theorem State.useFree_rc : (s.useFree).rc = s.rc := rfl
@[simp] theorem State.useFree_ep : (s.useFree).ep = s.ep := rfl
@[simp] theorem State.useFree_copy : (s.useFree).copy = s.copy := rfl
@[simp] theorem State.useFree_hub : (s.useFree).hub = s.hub := rfl
@[simp] theorem State.useFree_opt : (s.useFree).opt = s.opt := rfl
@[simp] theorem State.useFree_topo : (s.useFree).topo = s.topo := rfl
@[simp] theorem State.useFree_eth : (s.useFree).eth = s.eth := rfl
@[simp] theorem State.useFree_self : (s.useFree).self = s.self := rfl
@[simp] theorem State.useFree_sec : (s.useFree).sec = s.sec := rfl
@[simp] theorem State.useFree_cairn : (s.useFree).cairn = s.cairn := rfl
@[simp] theorem State.useFree_svc : (s.useFree).svc = s.svc := rfl

/-! ### State.setPort -/

@[simp] theorem State.setPort_pending (p : Nat) (x : Port) : (s.setPort p x).pending = s.pending := rfl
@[simp] theorem State.setPort_clk (p : Nat) (x : Port) : (s.setPort p x).clk = s.clk := rfl
@[simp] theorem State.setPort_free (p : Nat) (x : Port) : (s.setPort p x).free = s.free := rfl
@[simp] theorem State.setPort_out (p : Nat) (x : Port) : (s.setPort p x).out = s.out := rfl
@[simp] theorem State.setPort_regs (p : Nat) (x : Port) : (s.setPort p x).regs = s.regs := rfl
@[simp] theorem State.setPort_parts (p : Nat) (x : Port) : (s.setPort p x).parts = s.parts := rfl
@[simp] theorem State.setPort_edge (p : Nat) (x : Port) : (s.setPort p x).edge = s.edge := rfl
@[simp] theorem State.setPort_fuse (p : Nat) (x : Port) : (s.setPort p x).fuse = s.fuse := rfl
@[simp] theorem State.setPort_dom (p : Nat) (x : Port) : (s.setPort p x).dom = s.dom := rfl
@[simp] theorem State.setPort_time (p : Nat) (x : Port) : (s.setPort p x).time = s.time := rfl
@[simp] theorem State.setPort_core (p : Nat) (x : Port) : (s.setPort p x).core = s.core := rfl
@[simp] theorem State.setPort_mem (p : Nat) (x : Port) : (s.setPort p x).mem = s.mem := rfl
@[simp] theorem State.setPort_upd (p : Nat) (x : Port) : (s.setPort p x).upd = s.upd := rfl
@[simp] theorem State.setPort_link (p : Nat) (x : Port) : (s.setPort p x).link = s.link := rfl
@[simp] theorem State.setPort_rc (p : Nat) (x : Port) : (s.setPort p x).rc = s.rc := rfl
@[simp] theorem State.setPort_ep (p : Nat) (x : Port) : (s.setPort p x).ep = s.ep := rfl
@[simp] theorem State.setPort_copy (p : Nat) (x : Port) : (s.setPort p x).copy = s.copy := rfl
@[simp] theorem State.setPort_opt (p : Nat) (x : Port) : (s.setPort p x).opt = s.opt := rfl
@[simp] theorem State.setPort_topo (p : Nat) (x : Port) : (s.setPort p x).topo = s.topo := rfl
@[simp] theorem State.setPort_eth (p : Nat) (x : Port) : (s.setPort p x).eth = s.eth := rfl
@[simp] theorem State.setPort_self (p : Nat) (x : Port) : (s.setPort p x).self = s.self := rfl
@[simp] theorem State.setPort_sec (p : Nat) (x : Port) : (s.setPort p x).sec = s.sec := rfl
@[simp] theorem State.setPort_cairn (p : Nat) (x : Port) : (s.setPort p x).cairn = s.cairn := rfl
@[simp] theorem State.setPort_svc (p : Nat) (x : Port) : (s.setPort p x).svc = s.svc := rfl

/-! ### State.setSrc -/

@[simp] theorem State.setSrc_pending (e : Nat) (x : SrcPair) : (s.setSrc e x).pending = s.pending := rfl
@[simp] theorem State.setSrc_clk (e : Nat) (x : SrcPair) : (s.setSrc e x).clk = s.clk := rfl
@[simp] theorem State.setSrc_free (e : Nat) (x : SrcPair) : (s.setSrc e x).free = s.free := rfl
@[simp] theorem State.setSrc_out (e : Nat) (x : SrcPair) : (s.setSrc e x).out = s.out := rfl
@[simp] theorem State.setSrc_regs (e : Nat) (x : SrcPair) : (s.setSrc e x).regs = s.regs := rfl
@[simp] theorem State.setSrc_parts (e : Nat) (x : SrcPair) : (s.setSrc e x).parts = s.parts := rfl
@[simp] theorem State.setSrc_edge (e : Nat) (x : SrcPair) : (s.setSrc e x).edge = s.edge := rfl
@[simp] theorem State.setSrc_fuse (e : Nat) (x : SrcPair) : (s.setSrc e x).fuse = s.fuse := rfl
@[simp] theorem State.setSrc_dom (e : Nat) (x : SrcPair) : (s.setSrc e x).dom = s.dom := rfl
@[simp] theorem State.setSrc_time (e : Nat) (x : SrcPair) : (s.setSrc e x).time = s.time := rfl
@[simp] theorem State.setSrc_core (e : Nat) (x : SrcPair) : (s.setSrc e x).core = s.core := rfl
@[simp] theorem State.setSrc_mem (e : Nat) (x : SrcPair) : (s.setSrc e x).mem = s.mem := rfl
@[simp] theorem State.setSrc_upd (e : Nat) (x : SrcPair) : (s.setSrc e x).upd = s.upd := rfl
@[simp] theorem State.setSrc_link (e : Nat) (x : SrcPair) : (s.setSrc e x).link = s.link := rfl
@[simp] theorem State.setSrc_rc (e : Nat) (x : SrcPair) : (s.setSrc e x).rc = s.rc := rfl
@[simp] theorem State.setSrc_copy (e : Nat) (x : SrcPair) : (s.setSrc e x).copy = s.copy := rfl
@[simp] theorem State.setSrc_hub (e : Nat) (x : SrcPair) : (s.setSrc e x).hub = s.hub := rfl
@[simp] theorem State.setSrc_opt (e : Nat) (x : SrcPair) : (s.setSrc e x).opt = s.opt := rfl
@[simp] theorem State.setSrc_topo (e : Nat) (x : SrcPair) : (s.setSrc e x).topo = s.topo := rfl
@[simp] theorem State.setSrc_eth (e : Nat) (x : SrcPair) : (s.setSrc e x).eth = s.eth := rfl
@[simp] theorem State.setSrc_self (e : Nat) (x : SrcPair) : (s.setSrc e x).self = s.self := rfl
@[simp] theorem State.setSrc_sec (e : Nat) (x : SrcPair) : (s.setSrc e x).sec = s.sec := rfl
@[simp] theorem State.setSrc_cairn (e : Nat) (x : SrcPair) : (s.setSrc e x).cairn = s.cairn := rfl
@[simp] theorem State.setSrc_svc (e : Nat) (x : SrcPair) : (s.setSrc e x).svc = s.svc := rfl

/-! ### State.setDst -/

@[simp] theorem State.setDst_pending (e : Nat) (x : DstPair) : (s.setDst e x).pending = s.pending := rfl
@[simp] theorem State.setDst_clk (e : Nat) (x : DstPair) : (s.setDst e x).clk = s.clk := rfl
@[simp] theorem State.setDst_free (e : Nat) (x : DstPair) : (s.setDst e x).free = s.free := rfl
@[simp] theorem State.setDst_out (e : Nat) (x : DstPair) : (s.setDst e x).out = s.out := rfl
@[simp] theorem State.setDst_regs (e : Nat) (x : DstPair) : (s.setDst e x).regs = s.regs := rfl
@[simp] theorem State.setDst_parts (e : Nat) (x : DstPair) : (s.setDst e x).parts = s.parts := rfl
@[simp] theorem State.setDst_edge (e : Nat) (x : DstPair) : (s.setDst e x).edge = s.edge := rfl
@[simp] theorem State.setDst_fuse (e : Nat) (x : DstPair) : (s.setDst e x).fuse = s.fuse := rfl
@[simp] theorem State.setDst_dom (e : Nat) (x : DstPair) : (s.setDst e x).dom = s.dom := rfl
@[simp] theorem State.setDst_time (e : Nat) (x : DstPair) : (s.setDst e x).time = s.time := rfl
@[simp] theorem State.setDst_core (e : Nat) (x : DstPair) : (s.setDst e x).core = s.core := rfl
@[simp] theorem State.setDst_mem (e : Nat) (x : DstPair) : (s.setDst e x).mem = s.mem := rfl
@[simp] theorem State.setDst_upd (e : Nat) (x : DstPair) : (s.setDst e x).upd = s.upd := rfl
@[simp] theorem State.setDst_link (e : Nat) (x : DstPair) : (s.setDst e x).link = s.link := rfl
@[simp] theorem State.setDst_rc (e : Nat) (x : DstPair) : (s.setDst e x).rc = s.rc := rfl
@[simp] theorem State.setDst_copy (e : Nat) (x : DstPair) : (s.setDst e x).copy = s.copy := rfl
@[simp] theorem State.setDst_hub (e : Nat) (x : DstPair) : (s.setDst e x).hub = s.hub := rfl
@[simp] theorem State.setDst_opt (e : Nat) (x : DstPair) : (s.setDst e x).opt = s.opt := rfl
@[simp] theorem State.setDst_topo (e : Nat) (x : DstPair) : (s.setDst e x).topo = s.topo := rfl
@[simp] theorem State.setDst_eth (e : Nat) (x : DstPair) : (s.setDst e x).eth = s.eth := rfl
@[simp] theorem State.setDst_self (e : Nat) (x : DstPair) : (s.setDst e x).self = s.self := rfl
@[simp] theorem State.setDst_sec (e : Nat) (x : DstPair) : (s.setDst e x).sec = s.sec := rfl
@[simp] theorem State.setDst_cairn (e : Nat) (x : DstPair) : (s.setDst e x).cairn = s.cairn := rfl
@[simp] theorem State.setDst_svc (e : Nat) (x : DstPair) : (s.setDst e x).svc = s.svc := rfl

/-! ### State.setCopy -/

@[simp] theorem State.setCopy_pending (d : Nat) (x : CopyEng) : (s.setCopy d x).pending = s.pending := rfl
@[simp] theorem State.setCopy_clk (d : Nat) (x : CopyEng) : (s.setCopy d x).clk = s.clk := rfl
@[simp] theorem State.setCopy_free (d : Nat) (x : CopyEng) : (s.setCopy d x).free = s.free := rfl
@[simp] theorem State.setCopy_out (d : Nat) (x : CopyEng) : (s.setCopy d x).out = s.out := rfl
@[simp] theorem State.setCopy_regs (d : Nat) (x : CopyEng) : (s.setCopy d x).regs = s.regs := rfl
@[simp] theorem State.setCopy_parts (d : Nat) (x : CopyEng) : (s.setCopy d x).parts = s.parts := rfl
@[simp] theorem State.setCopy_edge (d : Nat) (x : CopyEng) : (s.setCopy d x).edge = s.edge := rfl
@[simp] theorem State.setCopy_fuse (d : Nat) (x : CopyEng) : (s.setCopy d x).fuse = s.fuse := rfl
@[simp] theorem State.setCopy_dom (d : Nat) (x : CopyEng) : (s.setCopy d x).dom = s.dom := rfl
@[simp] theorem State.setCopy_time (d : Nat) (x : CopyEng) : (s.setCopy d x).time = s.time := rfl
@[simp] theorem State.setCopy_core (d : Nat) (x : CopyEng) : (s.setCopy d x).core = s.core := rfl
@[simp] theorem State.setCopy_mem (d : Nat) (x : CopyEng) : (s.setCopy d x).mem = s.mem := rfl
@[simp] theorem State.setCopy_upd (d : Nat) (x : CopyEng) : (s.setCopy d x).upd = s.upd := rfl
@[simp] theorem State.setCopy_link (d : Nat) (x : CopyEng) : (s.setCopy d x).link = s.link := rfl
@[simp] theorem State.setCopy_rc (d : Nat) (x : CopyEng) : (s.setCopy d x).rc = s.rc := rfl
@[simp] theorem State.setCopy_ep (d : Nat) (x : CopyEng) : (s.setCopy d x).ep = s.ep := rfl
@[simp] theorem State.setCopy_hub (d : Nat) (x : CopyEng) : (s.setCopy d x).hub = s.hub := rfl
@[simp] theorem State.setCopy_opt (d : Nat) (x : CopyEng) : (s.setCopy d x).opt = s.opt := rfl
@[simp] theorem State.setCopy_topo (d : Nat) (x : CopyEng) : (s.setCopy d x).topo = s.topo := rfl
@[simp] theorem State.setCopy_eth (d : Nat) (x : CopyEng) : (s.setCopy d x).eth = s.eth := rfl
@[simp] theorem State.setCopy_self (d : Nat) (x : CopyEng) : (s.setCopy d x).self = s.self := rfl
@[simp] theorem State.setCopy_sec (d : Nat) (x : CopyEng) : (s.setCopy d x).sec = s.sec := rfl
@[simp] theorem State.setCopy_cairn (d : Nat) (x : CopyEng) : (s.setCopy d x).cairn = s.cairn := rfl
@[simp] theorem State.setCopy_svc (d : Nat) (x : CopyEng) : (s.setCopy d x).svc = s.svc := rfl

/-! ### State.setLink -/

@[simp] theorem State.setLink_pending (d : Nat) (x : Link) : (s.setLink d x).pending = s.pending := rfl
@[simp] theorem State.setLink_clk (d : Nat) (x : Link) : (s.setLink d x).clk = s.clk := rfl
@[simp] theorem State.setLink_free (d : Nat) (x : Link) : (s.setLink d x).free = s.free := rfl
@[simp] theorem State.setLink_out (d : Nat) (x : Link) : (s.setLink d x).out = s.out := rfl
@[simp] theorem State.setLink_regs (d : Nat) (x : Link) : (s.setLink d x).regs = s.regs := rfl
@[simp] theorem State.setLink_parts (d : Nat) (x : Link) : (s.setLink d x).parts = s.parts := rfl
@[simp] theorem State.setLink_edge (d : Nat) (x : Link) : (s.setLink d x).edge = s.edge := rfl
@[simp] theorem State.setLink_fuse (d : Nat) (x : Link) : (s.setLink d x).fuse = s.fuse := rfl
@[simp] theorem State.setLink_dom (d : Nat) (x : Link) : (s.setLink d x).dom = s.dom := rfl
@[simp] theorem State.setLink_time (d : Nat) (x : Link) : (s.setLink d x).time = s.time := rfl
@[simp] theorem State.setLink_core (d : Nat) (x : Link) : (s.setLink d x).core = s.core := rfl
@[simp] theorem State.setLink_mem (d : Nat) (x : Link) : (s.setLink d x).mem = s.mem := rfl
@[simp] theorem State.setLink_upd (d : Nat) (x : Link) : (s.setLink d x).upd = s.upd := rfl
@[simp] theorem State.setLink_rc (d : Nat) (x : Link) : (s.setLink d x).rc = s.rc := rfl
@[simp] theorem State.setLink_ep (d : Nat) (x : Link) : (s.setLink d x).ep = s.ep := rfl
@[simp] theorem State.setLink_copy (d : Nat) (x : Link) : (s.setLink d x).copy = s.copy := rfl
@[simp] theorem State.setLink_hub (d : Nat) (x : Link) : (s.setLink d x).hub = s.hub := rfl
@[simp] theorem State.setLink_opt (d : Nat) (x : Link) : (s.setLink d x).opt = s.opt := rfl
@[simp] theorem State.setLink_topo (d : Nat) (x : Link) : (s.setLink d x).topo = s.topo := rfl
@[simp] theorem State.setLink_eth (d : Nat) (x : Link) : (s.setLink d x).eth = s.eth := rfl
@[simp] theorem State.setLink_self (d : Nat) (x : Link) : (s.setLink d x).self = s.self := rfl
@[simp] theorem State.setLink_sec (d : Nat) (x : Link) : (s.setLink d x).sec = s.sec := rfl
@[simp] theorem State.setLink_cairn (d : Nat) (x : Link) : (s.setLink d x).cairn = s.cairn := rfl
@[simp] theorem State.setLink_svc (d : Nat) (x : Link) : (s.setLink d x).svc = s.svc := rfl

/-! ### State.setMem -/

@[simp] theorem State.setMem_pending (d : Nat) (x : MemDie) : (s.setMem d x).pending = s.pending := rfl
@[simp] theorem State.setMem_clk (d : Nat) (x : MemDie) : (s.setMem d x).clk = s.clk := rfl
@[simp] theorem State.setMem_free (d : Nat) (x : MemDie) : (s.setMem d x).free = s.free := rfl
@[simp] theorem State.setMem_out (d : Nat) (x : MemDie) : (s.setMem d x).out = s.out := rfl
@[simp] theorem State.setMem_regs (d : Nat) (x : MemDie) : (s.setMem d x).regs = s.regs := rfl
@[simp] theorem State.setMem_parts (d : Nat) (x : MemDie) : (s.setMem d x).parts = s.parts := rfl
@[simp] theorem State.setMem_edge (d : Nat) (x : MemDie) : (s.setMem d x).edge = s.edge := rfl
@[simp] theorem State.setMem_fuse (d : Nat) (x : MemDie) : (s.setMem d x).fuse = s.fuse := rfl
@[simp] theorem State.setMem_dom (d : Nat) (x : MemDie) : (s.setMem d x).dom = s.dom := rfl
@[simp] theorem State.setMem_time (d : Nat) (x : MemDie) : (s.setMem d x).time = s.time := rfl
@[simp] theorem State.setMem_core (d : Nat) (x : MemDie) : (s.setMem d x).core = s.core := rfl
@[simp] theorem State.setMem_upd (d : Nat) (x : MemDie) : (s.setMem d x).upd = s.upd := rfl
@[simp] theorem State.setMem_link (d : Nat) (x : MemDie) : (s.setMem d x).link = s.link := rfl
@[simp] theorem State.setMem_rc (d : Nat) (x : MemDie) : (s.setMem d x).rc = s.rc := rfl
@[simp] theorem State.setMem_ep (d : Nat) (x : MemDie) : (s.setMem d x).ep = s.ep := rfl
@[simp] theorem State.setMem_copy (d : Nat) (x : MemDie) : (s.setMem d x).copy = s.copy := rfl
@[simp] theorem State.setMem_hub (d : Nat) (x : MemDie) : (s.setMem d x).hub = s.hub := rfl
@[simp] theorem State.setMem_opt (d : Nat) (x : MemDie) : (s.setMem d x).opt = s.opt := rfl
@[simp] theorem State.setMem_topo (d : Nat) (x : MemDie) : (s.setMem d x).topo = s.topo := rfl
@[simp] theorem State.setMem_eth (d : Nat) (x : MemDie) : (s.setMem d x).eth = s.eth := rfl
@[simp] theorem State.setMem_self (d : Nat) (x : MemDie) : (s.setMem d x).self = s.self := rfl
@[simp] theorem State.setMem_sec (d : Nat) (x : MemDie) : (s.setMem d x).sec = s.sec := rfl
@[simp] theorem State.setMem_cairn (d : Nat) (x : MemDie) : (s.setMem d x).cairn = s.cairn := rfl
@[simp] theorem State.setMem_svc (d : Nat) (x : MemDie) : (s.setMem d x).svc = s.svc := rfl

/-! ### State.setRc -/

@[simp] theorem State.setRc_pending (d : Nat) (l : List RcLine) : (s.setRc d l).pending = s.pending := rfl
@[simp] theorem State.setRc_clk (d : Nat) (l : List RcLine) : (s.setRc d l).clk = s.clk := rfl
@[simp] theorem State.setRc_free (d : Nat) (l : List RcLine) : (s.setRc d l).free = s.free := rfl
@[simp] theorem State.setRc_out (d : Nat) (l : List RcLine) : (s.setRc d l).out = s.out := rfl
@[simp] theorem State.setRc_regs (d : Nat) (l : List RcLine) : (s.setRc d l).regs = s.regs := rfl
@[simp] theorem State.setRc_parts (d : Nat) (l : List RcLine) : (s.setRc d l).parts = s.parts := rfl
@[simp] theorem State.setRc_edge (d : Nat) (l : List RcLine) : (s.setRc d l).edge = s.edge := rfl
@[simp] theorem State.setRc_fuse (d : Nat) (l : List RcLine) : (s.setRc d l).fuse = s.fuse := rfl
@[simp] theorem State.setRc_dom (d : Nat) (l : List RcLine) : (s.setRc d l).dom = s.dom := rfl
@[simp] theorem State.setRc_time (d : Nat) (l : List RcLine) : (s.setRc d l).time = s.time := rfl
@[simp] theorem State.setRc_core (d : Nat) (l : List RcLine) : (s.setRc d l).core = s.core := rfl
@[simp] theorem State.setRc_mem (d : Nat) (l : List RcLine) : (s.setRc d l).mem = s.mem := rfl
@[simp] theorem State.setRc_upd (d : Nat) (l : List RcLine) : (s.setRc d l).upd = s.upd := rfl
@[simp] theorem State.setRc_link (d : Nat) (l : List RcLine) : (s.setRc d l).link = s.link := rfl
@[simp] theorem State.setRc_ep (d : Nat) (l : List RcLine) : (s.setRc d l).ep = s.ep := rfl
@[simp] theorem State.setRc_copy (d : Nat) (l : List RcLine) : (s.setRc d l).copy = s.copy := rfl
@[simp] theorem State.setRc_hub (d : Nat) (l : List RcLine) : (s.setRc d l).hub = s.hub := rfl
@[simp] theorem State.setRc_opt (d : Nat) (l : List RcLine) : (s.setRc d l).opt = s.opt := rfl
@[simp] theorem State.setRc_topo (d : Nat) (l : List RcLine) : (s.setRc d l).topo = s.topo := rfl
@[simp] theorem State.setRc_eth (d : Nat) (l : List RcLine) : (s.setRc d l).eth = s.eth := rfl
@[simp] theorem State.setRc_self (d : Nat) (l : List RcLine) : (s.setRc d l).self = s.self := rfl
@[simp] theorem State.setRc_sec (d : Nat) (l : List RcLine) : (s.setRc d l).sec = s.sec := rfl
@[simp] theorem State.setRc_cairn (d : Nat) (l : List RcLine) : (s.setRc d l).cairn = s.cairn := rfl
@[simp] theorem State.setRc_svc (d : Nat) (l : List RcLine) : (s.setRc d l).svc = s.svc := rfl

/-! ### State.setQp -/

@[simp] theorem State.setQp_pending (n : Nat) (x : Qp) : (s.setQp n x).pending = s.pending := rfl
@[simp] theorem State.setQp_clk (n : Nat) (x : Qp) : (s.setQp n x).clk = s.clk := rfl
@[simp] theorem State.setQp_free (n : Nat) (x : Qp) : (s.setQp n x).free = s.free := rfl
@[simp] theorem State.setQp_out (n : Nat) (x : Qp) : (s.setQp n x).out = s.out := rfl
@[simp] theorem State.setQp_regs (n : Nat) (x : Qp) : (s.setQp n x).regs = s.regs := rfl
@[simp] theorem State.setQp_parts (n : Nat) (x : Qp) : (s.setQp n x).parts = s.parts := rfl
@[simp] theorem State.setQp_edge (n : Nat) (x : Qp) : (s.setQp n x).edge = s.edge := rfl
@[simp] theorem State.setQp_fuse (n : Nat) (x : Qp) : (s.setQp n x).fuse = s.fuse := rfl
@[simp] theorem State.setQp_dom (n : Nat) (x : Qp) : (s.setQp n x).dom = s.dom := rfl
@[simp] theorem State.setQp_time (n : Nat) (x : Qp) : (s.setQp n x).time = s.time := rfl
@[simp] theorem State.setQp_core (n : Nat) (x : Qp) : (s.setQp n x).core = s.core := rfl
@[simp] theorem State.setQp_mem (n : Nat) (x : Qp) : (s.setQp n x).mem = s.mem := rfl
@[simp] theorem State.setQp_upd (n : Nat) (x : Qp) : (s.setQp n x).upd = s.upd := rfl
@[simp] theorem State.setQp_link (n : Nat) (x : Qp) : (s.setQp n x).link = s.link := rfl
@[simp] theorem State.setQp_rc (n : Nat) (x : Qp) : (s.setQp n x).rc = s.rc := rfl
@[simp] theorem State.setQp_ep (n : Nat) (x : Qp) : (s.setQp n x).ep = s.ep := rfl
@[simp] theorem State.setQp_copy (n : Nat) (x : Qp) : (s.setQp n x).copy = s.copy := rfl
@[simp] theorem State.setQp_hub (n : Nat) (x : Qp) : (s.setQp n x).hub = s.hub := rfl
@[simp] theorem State.setQp_opt (n : Nat) (x : Qp) : (s.setQp n x).opt = s.opt := rfl
@[simp] theorem State.setQp_topo (n : Nat) (x : Qp) : (s.setQp n x).topo = s.topo := rfl
@[simp] theorem State.setQp_self (n : Nat) (x : Qp) : (s.setQp n x).self = s.self := rfl
@[simp] theorem State.setQp_sec (n : Nat) (x : Qp) : (s.setQp n x).sec = s.sec := rfl
@[simp] theorem State.setQp_cairn (n : Nat) (x : Qp) : (s.setQp n x).cairn = s.cairn := rfl
@[simp] theorem State.setQp_svc (n : Nat) (x : Qp) : (s.setQp n x).svc = s.svc := rfl

/-! ### State.setOp -/

@[simp] theorem State.setOp_pending (d : Nat) (x : OpPoint) : (s.setOp d x).pending = s.pending := rfl
@[simp] theorem State.setOp_clk (d : Nat) (x : OpPoint) : (s.setOp d x).clk = s.clk := rfl
@[simp] theorem State.setOp_free (d : Nat) (x : OpPoint) : (s.setOp d x).free = s.free := rfl
@[simp] theorem State.setOp_out (d : Nat) (x : OpPoint) : (s.setOp d x).out = s.out := rfl
@[simp] theorem State.setOp_regs (d : Nat) (x : OpPoint) : (s.setOp d x).regs = s.regs := rfl
@[simp] theorem State.setOp_parts (d : Nat) (x : OpPoint) : (s.setOp d x).parts = s.parts := rfl
@[simp] theorem State.setOp_edge (d : Nat) (x : OpPoint) : (s.setOp d x).edge = s.edge := rfl
@[simp] theorem State.setOp_fuse (d : Nat) (x : OpPoint) : (s.setOp d x).fuse = s.fuse := rfl
@[simp] theorem State.setOp_dom (d : Nat) (x : OpPoint) : (s.setOp d x).dom = s.dom := rfl
@[simp] theorem State.setOp_time (d : Nat) (x : OpPoint) : (s.setOp d x).time = s.time := rfl
@[simp] theorem State.setOp_core (d : Nat) (x : OpPoint) : (s.setOp d x).core = s.core := rfl
@[simp] theorem State.setOp_mem (d : Nat) (x : OpPoint) : (s.setOp d x).mem = s.mem := rfl
@[simp] theorem State.setOp_upd (d : Nat) (x : OpPoint) : (s.setOp d x).upd = s.upd := rfl
@[simp] theorem State.setOp_link (d : Nat) (x : OpPoint) : (s.setOp d x).link = s.link := rfl
@[simp] theorem State.setOp_rc (d : Nat) (x : OpPoint) : (s.setOp d x).rc = s.rc := rfl
@[simp] theorem State.setOp_ep (d : Nat) (x : OpPoint) : (s.setOp d x).ep = s.ep := rfl
@[simp] theorem State.setOp_copy (d : Nat) (x : OpPoint) : (s.setOp d x).copy = s.copy := rfl
@[simp] theorem State.setOp_hub (d : Nat) (x : OpPoint) : (s.setOp d x).hub = s.hub := rfl
@[simp] theorem State.setOp_opt (d : Nat) (x : OpPoint) : (s.setOp d x).opt = s.opt := rfl
@[simp] theorem State.setOp_topo (d : Nat) (x : OpPoint) : (s.setOp d x).topo = s.topo := rfl
@[simp] theorem State.setOp_eth (d : Nat) (x : OpPoint) : (s.setOp d x).eth = s.eth := rfl
@[simp] theorem State.setOp_sec (d : Nat) (x : OpPoint) : (s.setOp d x).sec = s.sec := rfl
@[simp] theorem State.setOp_cairn (d : Nat) (x : OpPoint) : (s.setOp d x).cairn = s.cairn := rfl
@[simp] theorem State.setOp_svc (d : Nat) (x : OpPoint) : (s.setOp d x).svc = s.svc := rfl

/-! ### State.setNbr -/

@[simp] theorem State.setNbr_pending (p : Nat) (x : Nbr) : (s.setNbr p x).pending = s.pending := rfl
@[simp] theorem State.setNbr_clk (p : Nat) (x : Nbr) : (s.setNbr p x).clk = s.clk := rfl
@[simp] theorem State.setNbr_free (p : Nat) (x : Nbr) : (s.setNbr p x).free = s.free := rfl
@[simp] theorem State.setNbr_out (p : Nat) (x : Nbr) : (s.setNbr p x).out = s.out := rfl
@[simp] theorem State.setNbr_regs (p : Nat) (x : Nbr) : (s.setNbr p x).regs = s.regs := rfl
@[simp] theorem State.setNbr_parts (p : Nat) (x : Nbr) : (s.setNbr p x).parts = s.parts := rfl
@[simp] theorem State.setNbr_edge (p : Nat) (x : Nbr) : (s.setNbr p x).edge = s.edge := rfl
@[simp] theorem State.setNbr_fuse (p : Nat) (x : Nbr) : (s.setNbr p x).fuse = s.fuse := rfl
@[simp] theorem State.setNbr_dom (p : Nat) (x : Nbr) : (s.setNbr p x).dom = s.dom := rfl
@[simp] theorem State.setNbr_core (p : Nat) (x : Nbr) : (s.setNbr p x).core = s.core := rfl
@[simp] theorem State.setNbr_mem (p : Nat) (x : Nbr) : (s.setNbr p x).mem = s.mem := rfl
@[simp] theorem State.setNbr_upd (p : Nat) (x : Nbr) : (s.setNbr p x).upd = s.upd := rfl
@[simp] theorem State.setNbr_link (p : Nat) (x : Nbr) : (s.setNbr p x).link = s.link := rfl
@[simp] theorem State.setNbr_rc (p : Nat) (x : Nbr) : (s.setNbr p x).rc = s.rc := rfl
@[simp] theorem State.setNbr_ep (p : Nat) (x : Nbr) : (s.setNbr p x).ep = s.ep := rfl
@[simp] theorem State.setNbr_copy (p : Nat) (x : Nbr) : (s.setNbr p x).copy = s.copy := rfl
@[simp] theorem State.setNbr_hub (p : Nat) (x : Nbr) : (s.setNbr p x).hub = s.hub := rfl
@[simp] theorem State.setNbr_opt (p : Nat) (x : Nbr) : (s.setNbr p x).opt = s.opt := rfl
@[simp] theorem State.setNbr_topo (p : Nat) (x : Nbr) : (s.setNbr p x).topo = s.topo := rfl
@[simp] theorem State.setNbr_eth (p : Nat) (x : Nbr) : (s.setNbr p x).eth = s.eth := rfl
@[simp] theorem State.setNbr_self (p : Nat) (x : Nbr) : (s.setNbr p x).self = s.self := rfl
@[simp] theorem State.setNbr_sec (p : Nat) (x : Nbr) : (s.setNbr p x).sec = s.sec := rfl
@[simp] theorem State.setNbr_cairn (p : Nat) (x : Nbr) : (s.setNbr p x).cairn = s.cairn := rfl
@[simp] theorem State.setNbr_svc (p : Nat) (x : Nbr) : (s.setNbr p x).svc = s.svc := rfl

/-! ### State.setUpd -/

@[simp] theorem State.setUpd_pending (d : Nat) (x : UpdDie) : (s.setUpd d x).pending = s.pending := rfl
@[simp] theorem State.setUpd_clk (d : Nat) (x : UpdDie) : (s.setUpd d x).clk = s.clk := rfl
@[simp] theorem State.setUpd_free (d : Nat) (x : UpdDie) : (s.setUpd d x).free = s.free := rfl
@[simp] theorem State.setUpd_out (d : Nat) (x : UpdDie) : (s.setUpd d x).out = s.out := rfl
@[simp] theorem State.setUpd_regs (d : Nat) (x : UpdDie) : (s.setUpd d x).regs = s.regs := rfl
@[simp] theorem State.setUpd_parts (d : Nat) (x : UpdDie) : (s.setUpd d x).parts = s.parts := rfl
@[simp] theorem State.setUpd_edge (d : Nat) (x : UpdDie) : (s.setUpd d x).edge = s.edge := rfl
@[simp] theorem State.setUpd_fuse (d : Nat) (x : UpdDie) : (s.setUpd d x).fuse = s.fuse := rfl
@[simp] theorem State.setUpd_dom (d : Nat) (x : UpdDie) : (s.setUpd d x).dom = s.dom := rfl
@[simp] theorem State.setUpd_time (d : Nat) (x : UpdDie) : (s.setUpd d x).time = s.time := rfl
@[simp] theorem State.setUpd_core (d : Nat) (x : UpdDie) : (s.setUpd d x).core = s.core := rfl
@[simp] theorem State.setUpd_mem (d : Nat) (x : UpdDie) : (s.setUpd d x).mem = s.mem := rfl
@[simp] theorem State.setUpd_link (d : Nat) (x : UpdDie) : (s.setUpd d x).link = s.link := rfl
@[simp] theorem State.setUpd_rc (d : Nat) (x : UpdDie) : (s.setUpd d x).rc = s.rc := rfl
@[simp] theorem State.setUpd_ep (d : Nat) (x : UpdDie) : (s.setUpd d x).ep = s.ep := rfl
@[simp] theorem State.setUpd_copy (d : Nat) (x : UpdDie) : (s.setUpd d x).copy = s.copy := rfl
@[simp] theorem State.setUpd_hub (d : Nat) (x : UpdDie) : (s.setUpd d x).hub = s.hub := rfl
@[simp] theorem State.setUpd_opt (d : Nat) (x : UpdDie) : (s.setUpd d x).opt = s.opt := rfl
@[simp] theorem State.setUpd_topo (d : Nat) (x : UpdDie) : (s.setUpd d x).topo = s.topo := rfl
@[simp] theorem State.setUpd_eth (d : Nat) (x : UpdDie) : (s.setUpd d x).eth = s.eth := rfl
@[simp] theorem State.setUpd_self (d : Nat) (x : UpdDie) : (s.setUpd d x).self = s.self := rfl
@[simp] theorem State.setUpd_sec (d : Nat) (x : UpdDie) : (s.setUpd d x).sec = s.sec := rfl
@[simp] theorem State.setUpd_cairn (d : Nat) (x : UpdDie) : (s.setUpd d x).cairn = s.cairn := rfl
@[simp] theorem State.setUpd_svc (d : Nat) (x : UpdDie) : (s.setUpd d x).svc = s.svc := rfl

/-! ### State.setCass -/

@[simp] theorem State.setCass_pending (c : Nat) (x : Cass) : (s.setCass c x).pending = s.pending := rfl
@[simp] theorem State.setCass_clk (c : Nat) (x : Cass) : (s.setCass c x).clk = s.clk := rfl
@[simp] theorem State.setCass_free (c : Nat) (x : Cass) : (s.setCass c x).free = s.free := rfl
@[simp] theorem State.setCass_out (c : Nat) (x : Cass) : (s.setCass c x).out = s.out := rfl
@[simp] theorem State.setCass_regs (c : Nat) (x : Cass) : (s.setCass c x).regs = s.regs := rfl
@[simp] theorem State.setCass_parts (c : Nat) (x : Cass) : (s.setCass c x).parts = s.parts := rfl
@[simp] theorem State.setCass_edge (c : Nat) (x : Cass) : (s.setCass c x).edge = s.edge := rfl
@[simp] theorem State.setCass_fuse (c : Nat) (x : Cass) : (s.setCass c x).fuse = s.fuse := rfl
@[simp] theorem State.setCass_dom (c : Nat) (x : Cass) : (s.setCass c x).dom = s.dom := rfl
@[simp] theorem State.setCass_time (c : Nat) (x : Cass) : (s.setCass c x).time = s.time := rfl
@[simp] theorem State.setCass_core (c : Nat) (x : Cass) : (s.setCass c x).core = s.core := rfl
@[simp] theorem State.setCass_mem (c : Nat) (x : Cass) : (s.setCass c x).mem = s.mem := rfl
@[simp] theorem State.setCass_upd (c : Nat) (x : Cass) : (s.setCass c x).upd = s.upd := rfl
@[simp] theorem State.setCass_link (c : Nat) (x : Cass) : (s.setCass c x).link = s.link := rfl
@[simp] theorem State.setCass_rc (c : Nat) (x : Cass) : (s.setCass c x).rc = s.rc := rfl
@[simp] theorem State.setCass_ep (c : Nat) (x : Cass) : (s.setCass c x).ep = s.ep := rfl
@[simp] theorem State.setCass_copy (c : Nat) (x : Cass) : (s.setCass c x).copy = s.copy := rfl
@[simp] theorem State.setCass_hub (c : Nat) (x : Cass) : (s.setCass c x).hub = s.hub := rfl
@[simp] theorem State.setCass_topo (c : Nat) (x : Cass) : (s.setCass c x).topo = s.topo := rfl
@[simp] theorem State.setCass_eth (c : Nat) (x : Cass) : (s.setCass c x).eth = s.eth := rfl
@[simp] theorem State.setCass_self (c : Nat) (x : Cass) : (s.setCass c x).self = s.self := rfl
@[simp] theorem State.setCass_sec (c : Nat) (x : Cass) : (s.setCass c x).sec = s.sec := rfl
@[simp] theorem State.setCass_cairn (c : Nat) (x : Cass) : (s.setCass c x).cairn = s.cairn := rfl
@[simp] theorem State.setCass_svc (c : Nat) (x : Cass) : (s.setCass c x).svc = s.svc := rfl

/-! ### State.setBring -/

@[simp] theorem State.setBring_pending (p : Nat) (x : Bring) : (s.setBring p x).pending = s.pending := rfl
@[simp] theorem State.setBring_clk (p : Nat) (x : Bring) : (s.setBring p x).clk = s.clk := rfl
@[simp] theorem State.setBring_free (p : Nat) (x : Bring) : (s.setBring p x).free = s.free := rfl
@[simp] theorem State.setBring_out (p : Nat) (x : Bring) : (s.setBring p x).out = s.out := rfl
@[simp] theorem State.setBring_regs (p : Nat) (x : Bring) : (s.setBring p x).regs = s.regs := rfl
@[simp] theorem State.setBring_parts (p : Nat) (x : Bring) : (s.setBring p x).parts = s.parts := rfl
@[simp] theorem State.setBring_edge (p : Nat) (x : Bring) : (s.setBring p x).edge = s.edge := rfl
@[simp] theorem State.setBring_fuse (p : Nat) (x : Bring) : (s.setBring p x).fuse = s.fuse := rfl
@[simp] theorem State.setBring_dom (p : Nat) (x : Bring) : (s.setBring p x).dom = s.dom := rfl
@[simp] theorem State.setBring_time (p : Nat) (x : Bring) : (s.setBring p x).time = s.time := rfl
@[simp] theorem State.setBring_core (p : Nat) (x : Bring) : (s.setBring p x).core = s.core := rfl
@[simp] theorem State.setBring_mem (p : Nat) (x : Bring) : (s.setBring p x).mem = s.mem := rfl
@[simp] theorem State.setBring_upd (p : Nat) (x : Bring) : (s.setBring p x).upd = s.upd := rfl
@[simp] theorem State.setBring_link (p : Nat) (x : Bring) : (s.setBring p x).link = s.link := rfl
@[simp] theorem State.setBring_rc (p : Nat) (x : Bring) : (s.setBring p x).rc = s.rc := rfl
@[simp] theorem State.setBring_ep (p : Nat) (x : Bring) : (s.setBring p x).ep = s.ep := rfl
@[simp] theorem State.setBring_copy (p : Nat) (x : Bring) : (s.setBring p x).copy = s.copy := rfl
@[simp] theorem State.setBring_hub (p : Nat) (x : Bring) : (s.setBring p x).hub = s.hub := rfl
@[simp] theorem State.setBring_topo (p : Nat) (x : Bring) : (s.setBring p x).topo = s.topo := rfl
@[simp] theorem State.setBring_eth (p : Nat) (x : Bring) : (s.setBring p x).eth = s.eth := rfl
@[simp] theorem State.setBring_self (p : Nat) (x : Bring) : (s.setBring p x).self = s.self := rfl
@[simp] theorem State.setBring_sec (p : Nat) (x : Bring) : (s.setBring p x).sec = s.sec := rfl
@[simp] theorem State.setBring_cairn (p : Nat) (x : Bring) : (s.setBring p x).cairn = s.cairn := rfl
@[simp] theorem State.setBring_svc (p : Nat) (x : Bring) : (s.setBring p x).svc = s.svc := rfl

/-! ### State.setSensor -/

@[simp] theorem State.setSensor_pending (i : Nat) (x : Sensor) : (s.setSensor i x).pending = s.pending := rfl
@[simp] theorem State.setSensor_clk (i : Nat) (x : Sensor) : (s.setSensor i x).clk = s.clk := rfl
@[simp] theorem State.setSensor_free (i : Nat) (x : Sensor) : (s.setSensor i x).free = s.free := rfl
@[simp] theorem State.setSensor_out (i : Nat) (x : Sensor) : (s.setSensor i x).out = s.out := rfl
@[simp] theorem State.setSensor_regs (i : Nat) (x : Sensor) : (s.setSensor i x).regs = s.regs := rfl
@[simp] theorem State.setSensor_parts (i : Nat) (x : Sensor) : (s.setSensor i x).parts = s.parts := rfl
@[simp] theorem State.setSensor_edge (i : Nat) (x : Sensor) : (s.setSensor i x).edge = s.edge := rfl
@[simp] theorem State.setSensor_fuse (i : Nat) (x : Sensor) : (s.setSensor i x).fuse = s.fuse := rfl
@[simp] theorem State.setSensor_dom (i : Nat) (x : Sensor) : (s.setSensor i x).dom = s.dom := rfl
@[simp] theorem State.setSensor_time (i : Nat) (x : Sensor) : (s.setSensor i x).time = s.time := rfl
@[simp] theorem State.setSensor_core (i : Nat) (x : Sensor) : (s.setSensor i x).core = s.core := rfl
@[simp] theorem State.setSensor_mem (i : Nat) (x : Sensor) : (s.setSensor i x).mem = s.mem := rfl
@[simp] theorem State.setSensor_upd (i : Nat) (x : Sensor) : (s.setSensor i x).upd = s.upd := rfl
@[simp] theorem State.setSensor_link (i : Nat) (x : Sensor) : (s.setSensor i x).link = s.link := rfl
@[simp] theorem State.setSensor_rc (i : Nat) (x : Sensor) : (s.setSensor i x).rc = s.rc := rfl
@[simp] theorem State.setSensor_ep (i : Nat) (x : Sensor) : (s.setSensor i x).ep = s.ep := rfl
@[simp] theorem State.setSensor_copy (i : Nat) (x : Sensor) : (s.setSensor i x).copy = s.copy := rfl
@[simp] theorem State.setSensor_hub (i : Nat) (x : Sensor) : (s.setSensor i x).hub = s.hub := rfl
@[simp] theorem State.setSensor_opt (i : Nat) (x : Sensor) : (s.setSensor i x).opt = s.opt := rfl
@[simp] theorem State.setSensor_topo (i : Nat) (x : Sensor) : (s.setSensor i x).topo = s.topo := rfl
@[simp] theorem State.setSensor_eth (i : Nat) (x : Sensor) : (s.setSensor i x).eth = s.eth := rfl
@[simp] theorem State.setSensor_sec (i : Nat) (x : Sensor) : (s.setSensor i x).sec = s.sec := rfl
@[simp] theorem State.setSensor_cairn (i : Nat) (x : Sensor) : (s.setSensor i x).cairn = s.cairn := rfl
@[simp] theorem State.setSensor_svc (i : Nat) (x : Sensor) : (s.setSensor i x).svc = s.svc := rfl

/-! ### State.setPos -/

@[simp] theorem State.setPos_pending (n j : Nat) (x : Pos) : (s.setPos n j x).pending = s.pending := rfl
@[simp] theorem State.setPos_clk (n j : Nat) (x : Pos) : (s.setPos n j x).clk = s.clk := rfl
@[simp] theorem State.setPos_free (n j : Nat) (x : Pos) : (s.setPos n j x).free = s.free := rfl
@[simp] theorem State.setPos_out (n j : Nat) (x : Pos) : (s.setPos n j x).out = s.out := rfl
@[simp] theorem State.setPos_regs (n j : Nat) (x : Pos) : (s.setPos n j x).regs = s.regs := rfl
@[simp] theorem State.setPos_parts (n j : Nat) (x : Pos) : (s.setPos n j x).parts = s.parts := rfl
@[simp] theorem State.setPos_edge (n j : Nat) (x : Pos) : (s.setPos n j x).edge = s.edge := rfl
@[simp] theorem State.setPos_fuse (n j : Nat) (x : Pos) : (s.setPos n j x).fuse = s.fuse := rfl
@[simp] theorem State.setPos_dom (n j : Nat) (x : Pos) : (s.setPos n j x).dom = s.dom := rfl
@[simp] theorem State.setPos_time (n j : Nat) (x : Pos) : (s.setPos n j x).time = s.time := rfl
@[simp] theorem State.setPos_mem (n j : Nat) (x : Pos) : (s.setPos n j x).mem = s.mem := rfl
@[simp] theorem State.setPos_upd (n j : Nat) (x : Pos) : (s.setPos n j x).upd = s.upd := rfl
@[simp] theorem State.setPos_link (n j : Nat) (x : Pos) : (s.setPos n j x).link = s.link := rfl
@[simp] theorem State.setPos_rc (n j : Nat) (x : Pos) : (s.setPos n j x).rc = s.rc := rfl
@[simp] theorem State.setPos_ep (n j : Nat) (x : Pos) : (s.setPos n j x).ep = s.ep := rfl
@[simp] theorem State.setPos_copy (n j : Nat) (x : Pos) : (s.setPos n j x).copy = s.copy := rfl
@[simp] theorem State.setPos_hub (n j : Nat) (x : Pos) : (s.setPos n j x).hub = s.hub := rfl
@[simp] theorem State.setPos_opt (n j : Nat) (x : Pos) : (s.setPos n j x).opt = s.opt := rfl
@[simp] theorem State.setPos_topo (n j : Nat) (x : Pos) : (s.setPos n j x).topo = s.topo := rfl
@[simp] theorem State.setPos_eth (n j : Nat) (x : Pos) : (s.setPos n j x).eth = s.eth := rfl
@[simp] theorem State.setPos_self (n j : Nat) (x : Pos) : (s.setPos n j x).self = s.self := rfl
@[simp] theorem State.setPos_sec (n j : Nat) (x : Pos) : (s.setPos n j x).sec = s.sec := rfl
@[simp] theorem State.setPos_cairn (n j : Nat) (x : Pos) : (s.setPos n j x).cairn = s.cairn := rfl
@[simp] theorem State.setPos_svc (n j : Nat) (x : Pos) : (s.setPos n j x).svc = s.svc := rfl

/-! ### State.acceptRec -/

@[simp] theorem State.acceptRec_pending (n : Note) : (s.acceptRec n).pending = s.pending := rfl
@[simp] theorem State.acceptRec_clk (n : Note) : (s.acceptRec n).clk = s.clk := rfl
@[simp] theorem State.acceptRec_free (n : Note) : (s.acceptRec n).free = s.free := rfl
@[simp] theorem State.acceptRec_out (n : Note) : (s.acceptRec n).out = s.out := rfl
@[simp] theorem State.acceptRec_regs (n : Note) : (s.acceptRec n).regs = s.regs := rfl
@[simp] theorem State.acceptRec_parts (n : Note) : (s.acceptRec n).parts = s.parts := rfl
@[simp] theorem State.acceptRec_edge (n : Note) : (s.acceptRec n).edge = s.edge := rfl
@[simp] theorem State.acceptRec_fuse (n : Note) : (s.acceptRec n).fuse = s.fuse := rfl
@[simp] theorem State.acceptRec_dom (n : Note) : (s.acceptRec n).dom = s.dom := rfl
@[simp] theorem State.acceptRec_time (n : Note) : (s.acceptRec n).time = s.time := rfl
@[simp] theorem State.acceptRec_core (n : Note) : (s.acceptRec n).core = s.core := rfl
@[simp] theorem State.acceptRec_mem (n : Note) : (s.acceptRec n).mem = s.mem := rfl
@[simp] theorem State.acceptRec_upd (n : Note) : (s.acceptRec n).upd = s.upd := rfl
@[simp] theorem State.acceptRec_link (n : Note) : (s.acceptRec n).link = s.link := rfl
@[simp] theorem State.acceptRec_rc (n : Note) : (s.acceptRec n).rc = s.rc := rfl
@[simp] theorem State.acceptRec_ep (n : Note) : (s.acceptRec n).ep = s.ep := rfl
@[simp] theorem State.acceptRec_copy (n : Note) : (s.acceptRec n).copy = s.copy := rfl
@[simp] theorem State.acceptRec_hub (n : Note) : (s.acceptRec n).hub = s.hub := rfl
@[simp] theorem State.acceptRec_opt (n : Note) : (s.acceptRec n).opt = s.opt := rfl
@[simp] theorem State.acceptRec_topo (n : Note) : (s.acceptRec n).topo = s.topo := rfl
@[simp] theorem State.acceptRec_eth (n : Note) : (s.acceptRec n).eth = s.eth := rfl
@[simp] theorem State.acceptRec_self (n : Note) : (s.acceptRec n).self = s.self := rfl
@[simp] theorem State.acceptRec_sec (n : Note) : (s.acceptRec n).sec = s.sec := rfl
@[simp] theorem State.acceptRec_svc (n : Note) : (s.acceptRec n).svc = s.svc := rfl

/-! ### State.setPtpSide -/

@[simp] theorem State.setPtpSide_pending (e : Nat) (x : PtpSide) : (s.setPtpSide e x).pending = s.pending := rfl
@[simp] theorem State.setPtpSide_clk (e : Nat) (x : PtpSide) : (s.setPtpSide e x).clk = s.clk := rfl
@[simp] theorem State.setPtpSide_free (e : Nat) (x : PtpSide) : (s.setPtpSide e x).free = s.free := rfl
@[simp] theorem State.setPtpSide_out (e : Nat) (x : PtpSide) : (s.setPtpSide e x).out = s.out := rfl
@[simp] theorem State.setPtpSide_regs (e : Nat) (x : PtpSide) : (s.setPtpSide e x).regs = s.regs := rfl
@[simp] theorem State.setPtpSide_parts (e : Nat) (x : PtpSide) : (s.setPtpSide e x).parts = s.parts := rfl
@[simp] theorem State.setPtpSide_edge (e : Nat) (x : PtpSide) : (s.setPtpSide e x).edge = s.edge := rfl
@[simp] theorem State.setPtpSide_fuse (e : Nat) (x : PtpSide) : (s.setPtpSide e x).fuse = s.fuse := rfl
@[simp] theorem State.setPtpSide_dom (e : Nat) (x : PtpSide) : (s.setPtpSide e x).dom = s.dom := rfl
@[simp] theorem State.setPtpSide_core (e : Nat) (x : PtpSide) : (s.setPtpSide e x).core = s.core := rfl
@[simp] theorem State.setPtpSide_mem (e : Nat) (x : PtpSide) : (s.setPtpSide e x).mem = s.mem := rfl
@[simp] theorem State.setPtpSide_upd (e : Nat) (x : PtpSide) : (s.setPtpSide e x).upd = s.upd := rfl
@[simp] theorem State.setPtpSide_link (e : Nat) (x : PtpSide) : (s.setPtpSide e x).link = s.link := rfl
@[simp] theorem State.setPtpSide_rc (e : Nat) (x : PtpSide) : (s.setPtpSide e x).rc = s.rc := rfl
@[simp] theorem State.setPtpSide_ep (e : Nat) (x : PtpSide) : (s.setPtpSide e x).ep = s.ep := rfl
@[simp] theorem State.setPtpSide_copy (e : Nat) (x : PtpSide) : (s.setPtpSide e x).copy = s.copy := rfl
@[simp] theorem State.setPtpSide_hub (e : Nat) (x : PtpSide) : (s.setPtpSide e x).hub = s.hub := rfl
@[simp] theorem State.setPtpSide_opt (e : Nat) (x : PtpSide) : (s.setPtpSide e x).opt = s.opt := rfl
@[simp] theorem State.setPtpSide_topo (e : Nat) (x : PtpSide) : (s.setPtpSide e x).topo = s.topo := rfl
@[simp] theorem State.setPtpSide_eth (e : Nat) (x : PtpSide) : (s.setPtpSide e x).eth = s.eth := rfl
@[simp] theorem State.setPtpSide_self (e : Nat) (x : PtpSide) : (s.setPtpSide e x).self = s.self := rfl
@[simp] theorem State.setPtpSide_sec (e : Nat) (x : PtpSide) : (s.setPtpSide e x).sec = s.sec := rfl
@[simp] theorem State.setPtpSide_cairn (e : Nat) (x : PtpSide) : (s.setPtpSide e x).cairn = s.cairn := rfl
@[simp] theorem State.setPtpSide_svc (e : Nat) (x : PtpSide) : (s.setPtpSide e x).svc = s.svc := rfl

/-! ### State.setLane -/

@[simp] theorem State.setLane_pending (q l : Nat) (dir : Bool) (x : Lane) : (s.setLane q l dir x).pending = s.pending := rfl
@[simp] theorem State.setLane_clk (q l : Nat) (dir : Bool) (x : Lane) : (s.setLane q l dir x).clk = s.clk := rfl
@[simp] theorem State.setLane_free (q l : Nat) (dir : Bool) (x : Lane) : (s.setLane q l dir x).free = s.free := rfl
@[simp] theorem State.setLane_out (q l : Nat) (dir : Bool) (x : Lane) : (s.setLane q l dir x).out = s.out := rfl
@[simp] theorem State.setLane_regs (q l : Nat) (dir : Bool) (x : Lane) : (s.setLane q l dir x).regs = s.regs := rfl
@[simp] theorem State.setLane_parts (q l : Nat) (dir : Bool) (x : Lane) : (s.setLane q l dir x).parts = s.parts := rfl
@[simp] theorem State.setLane_edge (q l : Nat) (dir : Bool) (x : Lane) : (s.setLane q l dir x).edge = s.edge := rfl
@[simp] theorem State.setLane_fuse (q l : Nat) (dir : Bool) (x : Lane) : (s.setLane q l dir x).fuse = s.fuse := rfl
@[simp] theorem State.setLane_dom (q l : Nat) (dir : Bool) (x : Lane) : (s.setLane q l dir x).dom = s.dom := rfl
@[simp] theorem State.setLane_time (q l : Nat) (dir : Bool) (x : Lane) : (s.setLane q l dir x).time = s.time := rfl
@[simp] theorem State.setLane_core (q l : Nat) (dir : Bool) (x : Lane) : (s.setLane q l dir x).core = s.core := rfl
@[simp] theorem State.setLane_mem (q l : Nat) (dir : Bool) (x : Lane) : (s.setLane q l dir x).mem = s.mem := rfl
@[simp] theorem State.setLane_upd (q l : Nat) (dir : Bool) (x : Lane) : (s.setLane q l dir x).upd = s.upd := rfl
@[simp] theorem State.setLane_link (q l : Nat) (dir : Bool) (x : Lane) : (s.setLane q l dir x).link = s.link := rfl
@[simp] theorem State.setLane_rc (q l : Nat) (dir : Bool) (x : Lane) : (s.setLane q l dir x).rc = s.rc := rfl
@[simp] theorem State.setLane_ep (q l : Nat) (dir : Bool) (x : Lane) : (s.setLane q l dir x).ep = s.ep := rfl
@[simp] theorem State.setLane_copy (q l : Nat) (dir : Bool) (x : Lane) : (s.setLane q l dir x).copy = s.copy := rfl
@[simp] theorem State.setLane_hub (q l : Nat) (dir : Bool) (x : Lane) : (s.setLane q l dir x).hub = s.hub := rfl
@[simp] theorem State.setLane_topo (q l : Nat) (dir : Bool) (x : Lane) : (s.setLane q l dir x).topo = s.topo := rfl
@[simp] theorem State.setLane_eth (q l : Nat) (dir : Bool) (x : Lane) : (s.setLane q l dir x).eth = s.eth := rfl
@[simp] theorem State.setLane_self (q l : Nat) (dir : Bool) (x : Lane) : (s.setLane q l dir x).self = s.self := rfl
@[simp] theorem State.setLane_sec (q l : Nat) (dir : Bool) (x : Lane) : (s.setLane q l dir x).sec = s.sec := rfl
@[simp] theorem State.setLane_cairn (q l : Nat) (dir : Bool) (x : Lane) : (s.setLane q l dir x).cairn = s.cairn := rfl
@[simp] theorem State.setLane_svc (q l : Nat) (dir : Bool) (x : Lane) : (s.setLane q l dir x).svc = s.svc := rfl

/-! ### State.setStack -/

@[simp] theorem State.setStack_pending (d i : Nat) (x : Stack) : (s.setStack d i x).pending = s.pending := rfl
@[simp] theorem State.setStack_clk (d i : Nat) (x : Stack) : (s.setStack d i x).clk = s.clk := rfl
@[simp] theorem State.setStack_free (d i : Nat) (x : Stack) : (s.setStack d i x).free = s.free := rfl
@[simp] theorem State.setStack_out (d i : Nat) (x : Stack) : (s.setStack d i x).out = s.out := rfl
@[simp] theorem State.setStack_regs (d i : Nat) (x : Stack) : (s.setStack d i x).regs = s.regs := rfl
@[simp] theorem State.setStack_parts (d i : Nat) (x : Stack) : (s.setStack d i x).parts = s.parts := rfl
@[simp] theorem State.setStack_edge (d i : Nat) (x : Stack) : (s.setStack d i x).edge = s.edge := rfl
@[simp] theorem State.setStack_fuse (d i : Nat) (x : Stack) : (s.setStack d i x).fuse = s.fuse := rfl
@[simp] theorem State.setStack_dom (d i : Nat) (x : Stack) : (s.setStack d i x).dom = s.dom := rfl
@[simp] theorem State.setStack_time (d i : Nat) (x : Stack) : (s.setStack d i x).time = s.time := rfl
@[simp] theorem State.setStack_core (d i : Nat) (x : Stack) : (s.setStack d i x).core = s.core := rfl
@[simp] theorem State.setStack_upd (d i : Nat) (x : Stack) : (s.setStack d i x).upd = s.upd := rfl
@[simp] theorem State.setStack_link (d i : Nat) (x : Stack) : (s.setStack d i x).link = s.link := rfl
@[simp] theorem State.setStack_rc (d i : Nat) (x : Stack) : (s.setStack d i x).rc = s.rc := rfl
@[simp] theorem State.setStack_ep (d i : Nat) (x : Stack) : (s.setStack d i x).ep = s.ep := rfl
@[simp] theorem State.setStack_copy (d i : Nat) (x : Stack) : (s.setStack d i x).copy = s.copy := rfl
@[simp] theorem State.setStack_hub (d i : Nat) (x : Stack) : (s.setStack d i x).hub = s.hub := rfl
@[simp] theorem State.setStack_opt (d i : Nat) (x : Stack) : (s.setStack d i x).opt = s.opt := rfl
@[simp] theorem State.setStack_topo (d i : Nat) (x : Stack) : (s.setStack d i x).topo = s.topo := rfl
@[simp] theorem State.setStack_eth (d i : Nat) (x : Stack) : (s.setStack d i x).eth = s.eth := rfl
@[simp] theorem State.setStack_self (d i : Nat) (x : Stack) : (s.setStack d i x).self = s.self := rfl
@[simp] theorem State.setStack_sec (d i : Nat) (x : Stack) : (s.setStack d i x).sec = s.sec := rfl
@[simp] theorem State.setStack_cairn (d i : Nat) (x : Stack) : (s.setStack d i x).cairn = s.cairn := rfl
@[simp] theorem State.setStack_svc (d i : Nat) (x : Stack) : (s.setStack d i x).svc = s.svc := rfl

/-! ### State.setPoison -/

@[simp] theorem State.setPoison_pending (p : Place) (b : Bool) : (s.setPoison p b).pending = s.pending := rfl
@[simp] theorem State.setPoison_clk (p : Place) (b : Bool) : (s.setPoison p b).clk = s.clk := rfl
@[simp] theorem State.setPoison_free (p : Place) (b : Bool) : (s.setPoison p b).free = s.free := rfl
@[simp] theorem State.setPoison_out (p : Place) (b : Bool) : (s.setPoison p b).out = s.out := rfl
@[simp] theorem State.setPoison_regs (p : Place) (b : Bool) : (s.setPoison p b).regs = s.regs := rfl
@[simp] theorem State.setPoison_parts (p : Place) (b : Bool) : (s.setPoison p b).parts = s.parts := rfl
@[simp] theorem State.setPoison_edge (p : Place) (b : Bool) : (s.setPoison p b).edge = s.edge := rfl
@[simp] theorem State.setPoison_fuse (p : Place) (b : Bool) : (s.setPoison p b).fuse = s.fuse := rfl
@[simp] theorem State.setPoison_dom (p : Place) (b : Bool) : (s.setPoison p b).dom = s.dom := rfl
@[simp] theorem State.setPoison_time (p : Place) (b : Bool) : (s.setPoison p b).time = s.time := rfl
@[simp] theorem State.setPoison_core (p : Place) (b : Bool) : (s.setPoison p b).core = s.core := rfl
@[simp] theorem State.setPoison_upd (p : Place) (b : Bool) : (s.setPoison p b).upd = s.upd := rfl
@[simp] theorem State.setPoison_link (p : Place) (b : Bool) : (s.setPoison p b).link = s.link := rfl
@[simp] theorem State.setPoison_rc (p : Place) (b : Bool) : (s.setPoison p b).rc = s.rc := rfl
@[simp] theorem State.setPoison_ep (p : Place) (b : Bool) : (s.setPoison p b).ep = s.ep := rfl
@[simp] theorem State.setPoison_copy (p : Place) (b : Bool) : (s.setPoison p b).copy = s.copy := rfl
@[simp] theorem State.setPoison_hub (p : Place) (b : Bool) : (s.setPoison p b).hub = s.hub := rfl
@[simp] theorem State.setPoison_opt (p : Place) (b : Bool) : (s.setPoison p b).opt = s.opt := rfl
@[simp] theorem State.setPoison_topo (p : Place) (b : Bool) : (s.setPoison p b).topo = s.topo := rfl
@[simp] theorem State.setPoison_eth (p : Place) (b : Bool) : (s.setPoison p b).eth = s.eth := rfl
@[simp] theorem State.setPoison_self (p : Place) (b : Bool) : (s.setPoison p b).self = s.self := rfl
@[simp] theorem State.setPoison_sec (p : Place) (b : Bool) : (s.setPoison p b).sec = s.sec := rfl
@[simp] theorem State.setPoison_cairn (p : Place) (b : Bool) : (s.setPoison p b).cairn = s.cairn := rfl
@[simp] theorem State.setPoison_svc (p : Place) (b : Bool) : (s.setPoison p b).svc = s.svc := rfl

/-! ### Updates of a core -/

variable (c : Core)

@[simp] theorem Core.setV_st (i : Nat) (x : Vec) : (c.setV i x).st = c.st := rfl
@[simp] theorem Core.setV_pc (i : Nat) (x : Vec) : (c.setV i x).pc = c.pc := rfl
@[simp] theorem Core.setV_s (i : Nat) (x : Vec) : (c.setV i x).s = c.s := rfl
@[simp] theorem Core.setV_p (i : Nat) (x : Vec) : (c.setV i x).p = c.p := rfl
@[simp] theorem Core.setV_cnt (i : Nat) (x : Vec) : (c.setV i x).cnt = c.cnt := rfl
@[simp] theorem Core.setV_store (i : Nat) (x : Vec) : (c.setV i x).store = c.store := rfl
@[simp] theorem Core.setV_ibuf (i : Nat) (x : Vec) : (c.setV i x).ibuf = c.ibuf := rfl
@[simp] theorem Core.setV_wait (i : Nat) (x : Vec) : (c.setV i x).wait = c.wait := rfl
@[simp] theorem Core.setV_fence (i : Nat) (x : Vec) : (c.setV i x).fence = c.fence := rfl
@[simp] theorem Core.setV_halting (i : Nat) (x : Vec) : (c.setV i x).halting = c.halting := rfl
@[simp] theorem Core.setV_copyWait (i : Nat) (x : Vec) : (c.setV i x).copyWait = c.copyWait := rfl
@[simp] theorem Core.setV_queue (i : Nat) (x : Vec) : (c.setV i x).queue = c.queue := rfl
@[simp] theorem Core.setV_pos (i : Nat) (x : Vec) : (c.setV i x).pos = c.pos := rfl
@[simp] theorem Core.setV_gs (i : Nat) (x : Vec) : (c.setV i x).gs = c.gs := rfl
@[simp] theorem Core.setV_route (i : Nat) (x : Vec) : (c.setV i x).route = c.route := rfl
@[simp] theorem Core.setV_routeQ (i : Nat) (x : Vec) : (c.setV i x).routeQ = c.routeQ := rfl
@[simp] theorem Core.setV_routeOut (i : Nat) (x : Vec) : (c.setV i x).routeOut = c.routeOut := rfl
@[simp] theorem Core.setV_rem (i : Nat) (x : Vec) : (c.setV i x).rem = c.rem := rfl
@[simp] theorem Core.setV_rstores (i : Nat) (x : Vec) : (c.setV i x).rstores = c.rstores := rfl
@[simp] theorem Core.setV_nextId (i : Nat) (x : Vec) : (c.setV i x).nextId = c.nextId := rfl
@[simp] theorem Core.setV_upd (i : Nat) (x : Vec) : (c.setV i x).upd = c.upd := rfl
@[simp] theorem Core.setV_shadowR (i : Nat) (x : Vec) : (c.setV i x).shadowR = c.shadowR := rfl
@[simp] theorem Core.setV_tileSeq (i : Nat) (x : Vec) : (c.setV i x).tileSeq = c.tileSeq := rfl
@[simp] theorem Core.setCounter_st (i : Nat) (x : W32) : (c.setCounter i x).st = c.st := rfl
@[simp] theorem Core.setCounter_pc (i : Nat) (x : W32) : (c.setCounter i x).pc = c.pc := rfl
@[simp] theorem Core.setCounter_s (i : Nat) (x : W32) : (c.setCounter i x).s = c.s := rfl
@[simp] theorem Core.setCounter_v (i : Nat) (x : W32) : (c.setCounter i x).v = c.v := rfl
@[simp] theorem Core.setCounter_p (i : Nat) (x : W32) : (c.setCounter i x).p = c.p := rfl
@[simp] theorem Core.setCounter_store (i : Nat) (x : W32) : (c.setCounter i x).store = c.store := rfl
@[simp] theorem Core.setCounter_ibuf (i : Nat) (x : W32) : (c.setCounter i x).ibuf = c.ibuf := rfl
@[simp] theorem Core.setCounter_wait (i : Nat) (x : W32) : (c.setCounter i x).wait = c.wait := rfl
@[simp] theorem Core.setCounter_fence (i : Nat) (x : W32) : (c.setCounter i x).fence = c.fence := rfl
@[simp] theorem Core.setCounter_halting (i : Nat) (x : W32) : (c.setCounter i x).halting = c.halting := rfl
@[simp] theorem Core.setCounter_copyWait (i : Nat) (x : W32) : (c.setCounter i x).copyWait = c.copyWait := rfl
@[simp] theorem Core.setCounter_queue (i : Nat) (x : W32) : (c.setCounter i x).queue = c.queue := rfl
@[simp] theorem Core.setCounter_pos (i : Nat) (x : W32) : (c.setCounter i x).pos = c.pos := rfl
@[simp] theorem Core.setCounter_gs (i : Nat) (x : W32) : (c.setCounter i x).gs = c.gs := rfl
@[simp] theorem Core.setCounter_route (i : Nat) (x : W32) : (c.setCounter i x).route = c.route := rfl
@[simp] theorem Core.setCounter_routeQ (i : Nat) (x : W32) : (c.setCounter i x).routeQ = c.routeQ := rfl
@[simp] theorem Core.setCounter_routeOut (i : Nat) (x : W32) : (c.setCounter i x).routeOut = c.routeOut := rfl
@[simp] theorem Core.setCounter_rem (i : Nat) (x : W32) : (c.setCounter i x).rem = c.rem := rfl
@[simp] theorem Core.setCounter_rstores (i : Nat) (x : W32) : (c.setCounter i x).rstores = c.rstores := rfl
@[simp] theorem Core.setCounter_nextId (i : Nat) (x : W32) : (c.setCounter i x).nextId = c.nextId := rfl
@[simp] theorem Core.setCounter_upd (i : Nat) (x : W32) : (c.setCounter i x).upd = c.upd := rfl
@[simp] theorem Core.setCounter_shadowR (i : Nat) (x : W32) : (c.setCounter i x).shadowR = c.shadowR := rfl
@[simp] theorem Core.setCounter_tileSeq (i : Nat) (x : W32) : (c.setCounter i x).tileSeq = c.tileSeq := rfl
@[simp] theorem Core.nextPc_st : (c.nextPc).st = c.st := rfl
@[simp] theorem Core.nextPc_s : (c.nextPc).s = c.s := rfl
@[simp] theorem Core.nextPc_v : (c.nextPc).v = c.v := rfl
@[simp] theorem Core.nextPc_p : (c.nextPc).p = c.p := rfl
@[simp] theorem Core.nextPc_cnt : (c.nextPc).cnt = c.cnt := rfl
@[simp] theorem Core.nextPc_store : (c.nextPc).store = c.store := rfl
@[simp] theorem Core.nextPc_ibuf : (c.nextPc).ibuf = c.ibuf := rfl
@[simp] theorem Core.nextPc_wait : (c.nextPc).wait = c.wait := rfl
@[simp] theorem Core.nextPc_fence : (c.nextPc).fence = c.fence := rfl
@[simp] theorem Core.nextPc_halting : (c.nextPc).halting = c.halting := rfl
@[simp] theorem Core.nextPc_copyWait : (c.nextPc).copyWait = c.copyWait := rfl
@[simp] theorem Core.nextPc_queue : (c.nextPc).queue = c.queue := rfl
@[simp] theorem Core.nextPc_pos : (c.nextPc).pos = c.pos := rfl
@[simp] theorem Core.nextPc_gs : (c.nextPc).gs = c.gs := rfl
@[simp] theorem Core.nextPc_route : (c.nextPc).route = c.route := rfl
@[simp] theorem Core.nextPc_routeQ : (c.nextPc).routeQ = c.routeQ := rfl
@[simp] theorem Core.nextPc_routeOut : (c.nextPc).routeOut = c.routeOut := rfl
@[simp] theorem Core.nextPc_rem : (c.nextPc).rem = c.rem := rfl
@[simp] theorem Core.nextPc_rstores : (c.nextPc).rstores = c.rstores := rfl
@[simp] theorem Core.nextPc_nextId : (c.nextPc).nextId = c.nextId := rfl
@[simp] theorem Core.nextPc_upd : (c.nextPc).upd = c.upd := rfl
@[simp] theorem Core.nextPc_shadowR : (c.nextPc).shadowR = c.shadowR := rfl
@[simp] theorem Core.nextPc_tileSeq : (c.nextPc).tileSeq = c.tileSeq := rfl
@[simp] theorem Core.jump_st (t : W64) : (c.jump t).st = c.st := rfl
@[simp] theorem Core.jump_s (t : W64) : (c.jump t).s = c.s := rfl
@[simp] theorem Core.jump_v (t : W64) : (c.jump t).v = c.v := rfl
@[simp] theorem Core.jump_p (t : W64) : (c.jump t).p = c.p := rfl
@[simp] theorem Core.jump_cnt (t : W64) : (c.jump t).cnt = c.cnt := rfl
@[simp] theorem Core.jump_store (t : W64) : (c.jump t).store = c.store := rfl
@[simp] theorem Core.jump_ibuf (t : W64) : (c.jump t).ibuf = c.ibuf := rfl
@[simp] theorem Core.jump_wait (t : W64) : (c.jump t).wait = c.wait := rfl
@[simp] theorem Core.jump_fence (t : W64) : (c.jump t).fence = c.fence := rfl
@[simp] theorem Core.jump_halting (t : W64) : (c.jump t).halting = c.halting := rfl
@[simp] theorem Core.jump_copyWait (t : W64) : (c.jump t).copyWait = c.copyWait := rfl
@[simp] theorem Core.jump_queue (t : W64) : (c.jump t).queue = c.queue := rfl
@[simp] theorem Core.jump_pos (t : W64) : (c.jump t).pos = c.pos := rfl
@[simp] theorem Core.jump_gs (t : W64) : (c.jump t).gs = c.gs := rfl
@[simp] theorem Core.jump_route (t : W64) : (c.jump t).route = c.route := rfl
@[simp] theorem Core.jump_routeQ (t : W64) : (c.jump t).routeQ = c.routeQ := rfl
@[simp] theorem Core.jump_routeOut (t : W64) : (c.jump t).routeOut = c.routeOut := rfl
@[simp] theorem Core.jump_rem (t : W64) : (c.jump t).rem = c.rem := rfl
@[simp] theorem Core.jump_rstores (t : W64) : (c.jump t).rstores = c.rstores := rfl
@[simp] theorem Core.jump_nextId (t : W64) : (c.jump t).nextId = c.nextId := rfl
@[simp] theorem Core.jump_upd (t : W64) : (c.jump t).upd = c.upd := rfl
@[simp] theorem Core.jump_shadowR (t : W64) : (c.jump t).shadowR = c.shadowR := rfl
@[simp] theorem Core.jump_tileSeq (t : W64) : (c.jump t).tileSeq = c.tileSeq := rfl
@[simp] theorem Core.storeN_st (a w x : Nat) : (c.storeN a w x).st = c.st := rfl
@[simp] theorem Core.storeN_pc (a w x : Nat) : (c.storeN a w x).pc = c.pc := rfl
@[simp] theorem Core.storeN_s (a w x : Nat) : (c.storeN a w x).s = c.s := rfl
@[simp] theorem Core.storeN_v (a w x : Nat) : (c.storeN a w x).v = c.v := rfl
@[simp] theorem Core.storeN_p (a w x : Nat) : (c.storeN a w x).p = c.p := rfl
@[simp] theorem Core.storeN_cnt (a w x : Nat) : (c.storeN a w x).cnt = c.cnt := rfl
@[simp] theorem Core.storeN_ibuf (a w x : Nat) : (c.storeN a w x).ibuf = c.ibuf := rfl
@[simp] theorem Core.storeN_wait (a w x : Nat) : (c.storeN a w x).wait = c.wait := rfl
@[simp] theorem Core.storeN_fence (a w x : Nat) : (c.storeN a w x).fence = c.fence := rfl
@[simp] theorem Core.storeN_halting (a w x : Nat) : (c.storeN a w x).halting = c.halting := rfl
@[simp] theorem Core.storeN_copyWait (a w x : Nat) : (c.storeN a w x).copyWait = c.copyWait := rfl
@[simp] theorem Core.storeN_queue (a w x : Nat) : (c.storeN a w x).queue = c.queue := rfl
@[simp] theorem Core.storeN_pos (a w x : Nat) : (c.storeN a w x).pos = c.pos := rfl
@[simp] theorem Core.storeN_gs (a w x : Nat) : (c.storeN a w x).gs = c.gs := rfl
@[simp] theorem Core.storeN_route (a w x : Nat) : (c.storeN a w x).route = c.route := rfl
@[simp] theorem Core.storeN_routeQ (a w x : Nat) : (c.storeN a w x).routeQ = c.routeQ := rfl
@[simp] theorem Core.storeN_routeOut (a w x : Nat) : (c.storeN a w x).routeOut = c.routeOut := rfl
@[simp] theorem Core.storeN_rem (a w x : Nat) : (c.storeN a w x).rem = c.rem := rfl
@[simp] theorem Core.storeN_rstores (a w x : Nat) : (c.storeN a w x).rstores = c.rstores := rfl
@[simp] theorem Core.storeN_nextId (a w x : Nat) : (c.storeN a w x).nextId = c.nextId := rfl
@[simp] theorem Core.storeN_upd (a w x : Nat) : (c.storeN a w x).upd = c.upd := rfl
@[simp] theorem Core.storeN_shadowR (a w x : Nat) : (c.storeN a w x).shadowR = c.shadowR := rfl
@[simp] theorem Core.storeN_tileSeq (a w x : Nat) : (c.storeN a w x).tileSeq = c.tileSeq := rfl
@[simp] theorem Core.setS_st (i : Nat) (x : W64) : (c.setS i x).st = c.st := by unfold Core.setS; split <;> rfl
@[simp] theorem Core.setS_pc (i : Nat) (x : W64) : (c.setS i x).pc = c.pc := by unfold Core.setS; split <;> rfl
@[simp] theorem Core.setS_v (i : Nat) (x : W64) : (c.setS i x).v = c.v := by unfold Core.setS; split <;> rfl
@[simp] theorem Core.setS_p (i : Nat) (x : W64) : (c.setS i x).p = c.p := by unfold Core.setS; split <;> rfl
@[simp] theorem Core.setS_cnt (i : Nat) (x : W64) : (c.setS i x).cnt = c.cnt := by unfold Core.setS; split <;> rfl
@[simp] theorem Core.setS_store (i : Nat) (x : W64) : (c.setS i x).store = c.store := by unfold Core.setS; split <;> rfl
@[simp] theorem Core.setS_ibuf (i : Nat) (x : W64) : (c.setS i x).ibuf = c.ibuf := by unfold Core.setS; split <;> rfl
@[simp] theorem Core.setS_wait (i : Nat) (x : W64) : (c.setS i x).wait = c.wait := by unfold Core.setS; split <;> rfl
@[simp] theorem Core.setS_fence (i : Nat) (x : W64) : (c.setS i x).fence = c.fence := by unfold Core.setS; split <;> rfl
@[simp] theorem Core.setS_halting (i : Nat) (x : W64) : (c.setS i x).halting = c.halting := by unfold Core.setS; split <;> rfl
@[simp] theorem Core.setS_copyWait (i : Nat) (x : W64) : (c.setS i x).copyWait = c.copyWait := by unfold Core.setS; split <;> rfl
@[simp] theorem Core.setS_queue (i : Nat) (x : W64) : (c.setS i x).queue = c.queue := by unfold Core.setS; split <;> rfl
@[simp] theorem Core.setS_pos (i : Nat) (x : W64) : (c.setS i x).pos = c.pos := by unfold Core.setS; split <;> rfl
@[simp] theorem Core.setS_gs (i : Nat) (x : W64) : (c.setS i x).gs = c.gs := by unfold Core.setS; split <;> rfl
@[simp] theorem Core.setS_route (i : Nat) (x : W64) : (c.setS i x).route = c.route := by unfold Core.setS; split <;> rfl
@[simp] theorem Core.setS_routeQ (i : Nat) (x : W64) : (c.setS i x).routeQ = c.routeQ := by unfold Core.setS; split <;> rfl
@[simp] theorem Core.setS_routeOut (i : Nat) (x : W64) : (c.setS i x).routeOut = c.routeOut := by unfold Core.setS; split <;> rfl
@[simp] theorem Core.setS_rem (i : Nat) (x : W64) : (c.setS i x).rem = c.rem := by unfold Core.setS; split <;> rfl
@[simp] theorem Core.setS_rstores (i : Nat) (x : W64) : (c.setS i x).rstores = c.rstores := by unfold Core.setS; split <;> rfl
@[simp] theorem Core.setS_nextId (i : Nat) (x : W64) : (c.setS i x).nextId = c.nextId := by unfold Core.setS; split <;> rfl
@[simp] theorem Core.setS_upd (i : Nat) (x : W64) : (c.setS i x).upd = c.upd := by unfold Core.setS; split <;> rfl
@[simp] theorem Core.setS_shadowR (i : Nat) (x : W64) : (c.setS i x).shadowR = c.shadowR := by unfold Core.setS; split <;> rfl
@[simp] theorem Core.setS_tileSeq (i : Nat) (x : W64) : (c.setS i x).tileSeq = c.tileSeq := by unfold Core.setS; split <;> rfl
@[simp] theorem Core.setP_st (i : Nat) (x : W64) : (c.setP i x).st = c.st := by unfold Core.setP; split <;> rfl
@[simp] theorem Core.setP_pc (i : Nat) (x : W64) : (c.setP i x).pc = c.pc := by unfold Core.setP; split <;> rfl
@[simp] theorem Core.setP_s (i : Nat) (x : W64) : (c.setP i x).s = c.s := by unfold Core.setP; split <;> rfl
@[simp] theorem Core.setP_v (i : Nat) (x : W64) : (c.setP i x).v = c.v := by unfold Core.setP; split <;> rfl
@[simp] theorem Core.setP_cnt (i : Nat) (x : W64) : (c.setP i x).cnt = c.cnt := by unfold Core.setP; split <;> rfl
@[simp] theorem Core.setP_store (i : Nat) (x : W64) : (c.setP i x).store = c.store := by unfold Core.setP; split <;> rfl
@[simp] theorem Core.setP_ibuf (i : Nat) (x : W64) : (c.setP i x).ibuf = c.ibuf := by unfold Core.setP; split <;> rfl
@[simp] theorem Core.setP_wait (i : Nat) (x : W64) : (c.setP i x).wait = c.wait := by unfold Core.setP; split <;> rfl
@[simp] theorem Core.setP_fence (i : Nat) (x : W64) : (c.setP i x).fence = c.fence := by unfold Core.setP; split <;> rfl
@[simp] theorem Core.setP_halting (i : Nat) (x : W64) : (c.setP i x).halting = c.halting := by unfold Core.setP; split <;> rfl
@[simp] theorem Core.setP_copyWait (i : Nat) (x : W64) : (c.setP i x).copyWait = c.copyWait := by unfold Core.setP; split <;> rfl
@[simp] theorem Core.setP_queue (i : Nat) (x : W64) : (c.setP i x).queue = c.queue := by unfold Core.setP; split <;> rfl
@[simp] theorem Core.setP_pos (i : Nat) (x : W64) : (c.setP i x).pos = c.pos := by unfold Core.setP; split <;> rfl
@[simp] theorem Core.setP_gs (i : Nat) (x : W64) : (c.setP i x).gs = c.gs := by unfold Core.setP; split <;> rfl
@[simp] theorem Core.setP_route (i : Nat) (x : W64) : (c.setP i x).route = c.route := by unfold Core.setP; split <;> rfl
@[simp] theorem Core.setP_routeQ (i : Nat) (x : W64) : (c.setP i x).routeQ = c.routeQ := by unfold Core.setP; split <;> rfl
@[simp] theorem Core.setP_routeOut (i : Nat) (x : W64) : (c.setP i x).routeOut = c.routeOut := by unfold Core.setP; split <;> rfl
@[simp] theorem Core.setP_rem (i : Nat) (x : W64) : (c.setP i x).rem = c.rem := by unfold Core.setP; split <;> rfl
@[simp] theorem Core.setP_rstores (i : Nat) (x : W64) : (c.setP i x).rstores = c.rstores := by unfold Core.setP; split <;> rfl
@[simp] theorem Core.setP_nextId (i : Nat) (x : W64) : (c.setP i x).nextId = c.nextId := by unfold Core.setP; split <;> rfl
@[simp] theorem Core.setP_upd (i : Nat) (x : W64) : (c.setP i x).upd = c.upd := by unfold Core.setP; split <;> rfl
@[simp] theorem Core.setP_shadowR (i : Nat) (x : W64) : (c.setP i x).shadowR = c.shadowR := by unfold Core.setP; split <;> rfl
@[simp] theorem Core.setP_tileSeq (i : Nat) (x : W64) : (c.setP i x).tileSeq = c.tileSeq := by unfold Core.setP; split <;> rfl
@[simp] theorem Core.fetched_st : c.fetched.st = c.st := by
  unfold Core.fetched; dsimp only; split
  · split <;> rfl
  · rfl
@[simp] theorem Core.fetched_pc : c.fetched.pc = c.pc := by
  unfold Core.fetched; dsimp only; split
  · split <;> rfl
  · rfl
@[simp] theorem Core.fetched_s : c.fetched.s = c.s := by
  unfold Core.fetched; dsimp only; split
  · split <;> rfl
  · rfl
@[simp] theorem Core.fetched_v : c.fetched.v = c.v := by
  unfold Core.fetched; dsimp only; split
  · split <;> rfl
  · rfl
@[simp] theorem Core.fetched_p : c.fetched.p = c.p := by
  unfold Core.fetched; dsimp only; split
  · split <;> rfl
  · rfl
@[simp] theorem Core.fetched_cnt : c.fetched.cnt = c.cnt := by
  unfold Core.fetched; dsimp only; split
  · split <;> rfl
  · rfl
@[simp] theorem Core.fetched_store : c.fetched.store = c.store := by
  unfold Core.fetched; dsimp only; split
  · split <;> rfl
  · rfl
@[simp] theorem Core.fetched_wait : c.fetched.wait = c.wait := by
  unfold Core.fetched; dsimp only; split
  · split <;> rfl
  · rfl
@[simp] theorem Core.fetched_fence : c.fetched.fence = c.fence := by
  unfold Core.fetched; dsimp only; split
  · split <;> rfl
  · rfl
@[simp] theorem Core.fetched_halting : c.fetched.halting = c.halting := by
  unfold Core.fetched; dsimp only; split
  · split <;> rfl
  · rfl
@[simp] theorem Core.fetched_copyWait : c.fetched.copyWait = c.copyWait := by
  unfold Core.fetched; dsimp only; split
  · split <;> rfl
  · rfl
@[simp] theorem Core.fetched_queue : c.fetched.queue = c.queue := by
  unfold Core.fetched; dsimp only; split
  · split <;> rfl
  · rfl
@[simp] theorem Core.fetched_pos : c.fetched.pos = c.pos := by
  unfold Core.fetched; dsimp only; split
  · split <;> rfl
  · rfl
@[simp] theorem Core.fetched_gs : c.fetched.gs = c.gs := by
  unfold Core.fetched; dsimp only; split
  · split <;> rfl
  · rfl
@[simp] theorem Core.fetched_route : c.fetched.route = c.route := by
  unfold Core.fetched; dsimp only; split
  · split <;> rfl
  · rfl
@[simp] theorem Core.fetched_routeQ : c.fetched.routeQ = c.routeQ := by
  unfold Core.fetched; dsimp only; split
  · split <;> rfl
  · rfl
@[simp] theorem Core.fetched_routeOut : c.fetched.routeOut = c.routeOut := by
  unfold Core.fetched; dsimp only; split
  · split <;> rfl
  · rfl
@[simp] theorem Core.fetched_rem : c.fetched.rem = c.rem := by
  unfold Core.fetched; dsimp only; split
  · split <;> rfl
  · rfl
@[simp] theorem Core.fetched_rstores : c.fetched.rstores = c.rstores := by
  unfold Core.fetched; dsimp only; split
  · split <;> rfl
  · rfl
@[simp] theorem Core.fetched_nextId : c.fetched.nextId = c.nextId := by
  unfold Core.fetched; dsimp only; split
  · split <;> rfl
  · rfl
@[simp] theorem Core.fetched_upd : c.fetched.upd = c.upd := by
  unfold Core.fetched; dsimp only; split
  · split <;> rfl
  · rfl
@[simp] theorem Core.fetched_shadowR : c.fetched.shadowR = c.shadowR := by
  unfold Core.fetched; dsimp only; split
  · split <;> rfl
  · rfl
@[simp] theorem Core.fetched_tileSeq : c.fetched.tileSeq = c.tileSeq := by
  unfold Core.fetched; dsimp only; split
  · split <;> rfl
  · rfl

@[simp] theorem Core.nextPc_pc : c.nextPc.pc = c.pc + 8 := rfl
@[simp] theorem Core.jump_pc (t : W64) : (c.jump t).pc = t.toNat := rfl

end Sys2Proof.Machine
end

