-- ==== Sys2Proof/Laws/Tab.lean ====
section
/-! SUPPORT. What tables and byte memories do: a read after a write, and the canonical form that every write keeps. -/
namespace Sys2Proof.Machine

variable {α : Type}

@[simp] theorem Tab.find_nil (i : Nat) : Tab.find ([] : Tab α) i = none := rfl

@[simp] theorem Tab.find_put_self (t : Tab α) (i : Nat) (x : α) : Tab.find (Tab.put t i x) i = some x := by
  induction t with
  | nil => simp [Tab.put, Tab.find]
  | cons e t ih =>
    obtain ⟨k, v⟩ := e
    simp only [Tab.put]
    split
    · simp_all [Tab.find]
    · split <;> simp_all [Tab.find]

theorem Tab.find_put_ne (t : Tab α) {i j : Nat} (x : α) (h : j ≠ i) : Tab.find (Tab.put t i x) j = Tab.find t j := by
  induction t with
  | nil => simp [Tab.put, Tab.find, Ne.symm h]
  | cons e t ih =>
    obtain ⟨k, v⟩ := e
    simp only [Tab.put]
    split
    · next hk => subst hk; simp [Tab.find, Ne.symm h]
    · split
      · simp [Tab.find, Ne.symm h]
      · simp only [Tab.find]; split <;> simp_all

theorem Tab.find_put (t : Tab α) (i j : Nat) (x : α) : Tab.find (Tab.put t i x) j = if j = i then some x else Tab.find t j := by
  by_cases h : j = i
  · subst h; simp
  · simp [h, Tab.find_put_ne]

@[simp] theorem Tab.find_erase_self (t : Tab α) (i : Nat) : Tab.find (Tab.erase t i) i = none := by
  induction t with
  | nil => rfl
  | cons e t ih =>
    obtain ⟨k, v⟩ := e
    simp only [Tab.erase]
    split
    · exact ih
    · next h => simp [Tab.find, h, ih]

theorem Tab.find_erase_ne (t : Tab α) {i j : Nat} (h : j ≠ i) : Tab.find (Tab.erase t i) j = Tab.find t j := by
  induction t with
  | nil => rfl
  | cons e t ih =>
    obtain ⟨k, v⟩ := e
    simp only [Tab.erase]
    split
    · next hk => subst hk; simp [Tab.find, Ne.symm h, ih]
    · simp only [Tab.find]; split <;> simp_all

@[simp] theorem Tab.get_put_self (d : α) (t : Tab α) (i : Nat) (x : α) : Tab.get d (Tab.put t i x) i = x := by simp [Tab.get]

theorem Tab.get_put_ne (d : α) (t : Tab α) {i j : Nat} (x : α) (h : j ≠ i) : Tab.get d (Tab.put t i x) j = Tab.get d t j := by
  simp [Tab.get, Tab.find_put_ne t x h]

theorem Tab.get_put (d : α) (t : Tab α) (i j : Nat) (x : α) : Tab.get d (Tab.put t i x) j = if j = i then x else Tab.get d t j := by
  by_cases h : j = i
  · subst h; simp
  · simp [h, Tab.get_put_ne]

theorem Tab.get_set [DecidableEq α] (d : α) (t : Tab α) (i j : Nat) (x : α) :
    Tab.get d (Tab.set d t i x) j = if j = i then x else Tab.get d t j := by
  unfold Tab.set
  split
  · next hx =>
    by_cases h : j = i
    · subst h; simp [Tab.get, hx]
    · simp [h, Tab.get, Tab.find_erase_ne t h]
  · exact Tab.get_put d t i j x

/-! ### The canonical form -/

theorem Tab.risesFrom_mono {a b : Nat} (h : a ≤ b) (t : Tab α) (ht : Tab.risesFrom b t = true) : Tab.risesFrom a t = true := by
  cases t with
  | nil => rfl
  | cons e t => obtain ⟨k, v⟩ := e; simp [Tab.risesFrom] at ht ⊢; exact ⟨by omega, ht.2⟩

theorem Tab.risesFrom_put (t : Tab α) (lo i : Nat) (x : α) (hl : lo ≤ i) (h : Tab.risesFrom lo t = true) :
    Tab.risesFrom lo (Tab.put t i x) = true := by
  induction t generalizing lo with
  | nil => simp [Tab.put, Tab.risesFrom, hl]
  | cons e t ih =>
    obtain ⟨k, v⟩ := e
    simp only [Tab.risesFrom, Bool.and_eq_true, decide_eq_true_eq] at h
    simp only [Tab.put]
    split
    · next hk => subst hk; simpa [Tab.risesFrom] using h
    · split
      · simp [Tab.risesFrom, hl, h.2]; omega
      · simp [Tab.risesFrom, h.1]; exact ih (k + 1) (by omega) h.2

theorem Tab.risesFrom_erase (t : Tab α) (lo i : Nat) (h : Tab.risesFrom lo t = true) :
    Tab.risesFrom lo (Tab.erase t i) = true := by
  induction t generalizing lo with
  | nil => rfl
  | cons e t ih =>
    obtain ⟨k, v⟩ := e
    simp only [Tab.risesFrom, Bool.and_eq_true, decide_eq_true_eq] at h
    simp only [Tab.erase]
    split
    · exact ih lo (Tab.risesFrom_mono (by omega) t h.2)
    · simp [Tab.risesFrom, h.1]; exact ih (k + 1) h.2

theorem Tab.risesFrom_filter (t : Tab α) (lo : Nat) (p : Nat × α → Bool) (h : Tab.risesFrom lo t = true) :
    Tab.risesFrom lo (t.filter p) = true := by
  induction t generalizing lo with
  | nil => rfl
  | cons e t ih =>
    obtain ⟨k, v⟩ := e
    simp only [Tab.risesFrom, Bool.and_eq_true, decide_eq_true_eq] at h
    rw [List.filter_cons]
    split
    · simp [Tab.risesFrom, h.1]; exact ih (k + 1) h.2
    · exact ih lo (Tab.risesFrom_mono (by omega) t h.2)

theorem Tab.mem_put {t : Tab α} {i : Nat} {x : α} {e : Nat × α} (h : e ∈ Tab.put t i x) : e = (i, x) ∨ e ∈ t := by
  induction t with
  | nil => simp [Tab.put] at h; exact .inl h
  | cons e' t ih =>
    obtain ⟨k, v⟩ := e'
    simp only [Tab.put] at h
    split at h
    · next hk => subst hk; simp at h ⊢; tauto
    · split at h
      · simp at h ⊢; tauto
      · simp at h ⊢
        rcases h with h | h
        · tauto
        · rcases ih h with h | h <;> tauto

theorem Tab.mem_erase {t : Tab α} {i : Nat} {e : Nat × α} (h : e ∈ Tab.erase t i) : e ∈ t := by
  induction t with
  | nil => simp [Tab.erase] at h
  | cons e' t ih =>
    obtain ⟨k, v⟩ := e'
    simp only [Tab.erase] at h
    split at h
    · exact List.mem_cons_of_mem _ (ih h)
    · simp at h ⊢; rcases h with h | h
      · exact .inl h
      · exact .inr (ih h)

theorem Tab.wf_set [DecidableEq α] (d : α) (t : Tab α) (i : Nat) (x : α) (h : Tab.wf d t = true) : Tab.wf d (Tab.set d t i x) = true := by
  simp only [Tab.wf, Bool.and_eq_true, List.all_eq_true] at h ⊢
  unfold Tab.set
  split
  · exact ⟨Tab.risesFrom_erase t 0 i h.1, fun e he => h.2 e (Tab.mem_erase he)⟩
  · next hx =>
    refine ⟨Tab.risesFrom_put t 0 i x (Nat.zero_le _) h.1, fun e he => ?_⟩
    rcases Tab.mem_put he with rfl | he
    · simpa using hx
    · exact h.2 e he

theorem Tab.wf_filter [DecidableEq α] (d : α) (t : Tab α) (p : Nat × α → Bool) (h : Tab.wf d t = true) :
    Tab.wf d (t.filter p) = true := by
  simp only [Tab.wf, Bool.and_eq_true, List.all_eq_true] at h ⊢
  exact ⟨Tab.risesFrom_filter t 0 p h.1, fun e he => h.2 e (List.mem_of_mem_filter he)⟩

/-! ### Byte memories -/

@[simp] theorem Memory.wf_nil : Memory.wf [] = true := rfl

theorem Memory.wf_setByte (m : Memory) (a : Nat) (b : Byte) (h : m.wf = true) : (m.setByte a b).wf = true := Tab.wf_set 0 m a b h

theorem Memory.wf_write (bs : List Byte) (m : Memory) (a : Nat) (h : m.wf = true) : (m.write a bs).wf = true := by
  induction bs generalizing m a with
  | nil => exact h
  | cons b bs ih => exact ih _ _ (Memory.wf_setByte m a b h)

theorem Memory.wf_filter (m : Memory) (p : Nat × Byte → Bool) (h : m.wf = true) : Memory.wf (m.filter p) = true := Tab.wf_filter 0 m p h

theorem Memory.byte_setByte (m : Memory) (a c : Nat) (b : Byte) : (m.setByte a b).byte c = if c = a then b else m.byte c :=
  Tab.get_set 0 m a c b

/-- A byte after a write: the written one inside the extent, the old one outside. -/
theorem Memory.byte_write (bs : List Byte) (m : Memory) (a c : Nat) :
    (m.write a bs).byte c = if a ≤ c ∧ c < a + bs.length then bs.getD (c - a) 0 else m.byte c := by
  induction bs generalizing m a with
  | nil => simp [Memory.write]
  | cons b bs ih =>
    simp only [Memory.write, ih, Memory.byte_setByte, List.length_cons]
    by_cases h1 : a + 1 ≤ c ∧ c < a + 1 + bs.length
    · rw [if_pos h1, if_pos (by omega), show c - a = (c - (a + 1)) + 1 by omega]; simp
    · rw [if_neg h1]
      by_cases h2 : c = a
      · subst h2; simp
      · rw [if_neg h2, if_neg (by omega)]

@[simp] theorem Memory.bytes_length (m : Memory) (a n : Nat) : (m.bytes a n).length = n := by simp [Memory.bytes]

@[simp] theorem toBytes_length (n v : Nat) : (toBytes n v).length = n := by
  induction n generalizing v with
  | zero => rfl
  | succ n ih => simp [toBytes, ih]

theorem toBytes_getD (n v i : Nat) (h : i < n) : (toBytes n v).getD i 0 = BitVec.ofNat 8 (v / 256 ^ i) := by
  induction n generalizing v i with
  | zero => omega
  | succ n ih =>
    cases i with
    | zero => simp [toBytes]
    | succ i => simp only [toBytes, List.getD_cons_succ]; rw [ih _ _ (by omega), Nat.div_div_eq_div_mul, Nat.pow_succ, Nat.mul_comm]

end Sys2Proof.Machine
end

