-- ==== Sys2Proof/Laws/Core.lean ====
section
/-! SUPPORT. Reads after writes of cores, registers and control-space registers, and what issuing an instruction comes to. -/
namespace Sys2Proof.Machine
open Sys2Proof

theorem onUnit_true (t : State) : onUnit true t = .next t := rfl

theorem completes_of {i : Instr} {s t : State} {P : State → Prop} (h : exec i s = .next t) (hp : P t) : completes i s P := ⟨t, h, hp⟩

/-! ### Control-space registers -/

theorem State.reg_setReg (s : State) (a b : Nat) (v : W64) : (s.setReg a v).reg b = if b = a then v else s.reg b := by
  simp only [State.reg, State.setReg, Tab.find_put]
  split <;> simp_all

@[simp] theorem State.reg_setReg_self (s : State) (a : Nat) (v : W64) : (s.setReg a v).reg a = v := by simp [State.reg_setReg]

theorem State.reg_setReg_ne (s : State) {a b : Nat} (v : W64) (h : b ≠ a) : (s.setReg a v).reg b = s.reg b := by
  simp [State.reg_setReg, h]

theorem State.reg_orReg (s : State) (a b : Nat) (m : W64) : (s.orReg a m).reg b = if b = a then s.reg a ||| m else s.reg b :=
  State.reg_setReg s a b _

theorem State.reg_putField (s : State) (a b hi lo v : Nat) :
    (s.putField a hi lo v).reg b = if b = a then setFld (s.reg a) hi lo v else s.reg b := State.reg_setReg s a b _

theorem State.reg_setBit (s : State) (a b i : Nat) :
    (s.setBit a i).reg b = if b = a then s.reg a ||| maskOf i i else s.reg b := State.reg_setReg s a b _

theorem State.reg_bump (s : State) (a b hi lo k : Nat) :
    (s.bump a hi lo k).reg b
      = if b = a then setFld (s.reg a) hi lo (satAdd (2 ^ (hi + 1 - lo) - 1) (s.field a hi lo) k) else s.reg b :=
  State.reg_setReg s a b _

theorem State.reg_bumpKi_ne (s : State) {a b : Nat} (hi lo k : Nat) (h : b ≠ a) : (s.bumpKi a hi lo k).reg b = s.reg b :=
  State.reg_setReg_ne s _ h

@[simp] theorem State.reg_setCore (s : State) (n a : Nat) (c : Core) : (s.setCore n c).reg a = s.reg a := rfl
@[simp] theorem State.reg_done (s : State) (n a : Nat) (c : Core) : (s.done n c).reg a = s.reg a := rfl
@[simp] theorem State.reg_emit (s : State) (o : Out) (a : Nat) : (s.emit o).reg a = s.reg a := rfl

/-! ### Cores -/

theorem State.coreAt_setCore (s : State) (n m : Nat) (c : Core) : (s.setCore n c).coreAt m = if m = n then c else s.coreAt m :=
  Tab.get_put Core.init s.core n m c

@[simp] theorem State.coreAt_setCore_self (s : State) (n : Nat) (c : Core) : (s.setCore n c).coreAt n = c := by
  simp [State.coreAt_setCore]

theorem State.coreAt_setCore_ne (s : State) {n m : Nat} (c : Core) (h : m ≠ n) : (s.setCore n c).coreAt m = s.coreAt m := by
  simp [State.coreAt_setCore, h]

@[simp] theorem State.coreAt_done_self (s : State) (n : Nat) (c : Core) : (s.done n c).coreAt n = c.nextPc := by simp [State.done]
theorem State.coreAt_done_ne (s : State) {n m : Nat} (c : Core) (h : m ≠ n) : (s.done n c).coreAt m = s.coreAt m := by
  simp [State.done, State.coreAt_setCore_ne, h]

@[simp] theorem State.coreAt_setReg (s : State) (a n : Nat) (v : W64) : (s.setReg a v).coreAt n = s.coreAt n := rfl
@[simp] theorem State.coreAt_setFlags (s : State) (n m : Nat) (v : W64) : (s.setFlags n v).coreAt m = s.coreAt m := rfl

/-! ### Registers of a core -/

theorem Core.sreg_setS (c : Core) (i r : Nat) (v : W64) :
    (c.setS i v).sreg r = if r = 0 then 0 else if r = i then v else c.sreg r := by
  unfold Core.sreg Core.setS
  by_cases hr : r = 0
  · simp [hr]
  · by_cases hi : i = 0
    · simp only [hi, if_true, if_neg hr]
    · simp only [if_neg hr, if_neg hi, Tab.get_put]

theorem Core.preg_setP (c : Core) (i r : Nat) (v : W64) :
    (c.setP i v).preg r = if r = 0 then BitVec.allOnes 64 else if r = i then v else c.preg r := by
  unfold Core.preg Core.setP
  by_cases hr : r = 0
  · simp [hr]
  · by_cases hi : i = 0
    · simp only [hi, if_true, if_neg hr]
    · simp only [if_neg hr, if_neg hi, Tab.get_put]

theorem Core.vreg_setV (c : Core) (i r : Nat) (v : Vec) : (c.setV i v).vreg r = if r = i then v else c.vreg r :=
  Tab.get_put 0 c.v i r v

@[simp] theorem Core.sreg_zero (c : Core) : c.sreg 0 = 0 := rfl
@[simp] theorem Core.preg_zero (c : Core) : c.preg 0 = BitVec.allOnes 64 := rfl
@[simp] theorem Core.sreg_fetched (c : Core) (i : Nat) : c.fetched.sreg i = c.sreg i := by simp [Core.sreg]
@[simp] theorem Core.preg_fetched (c : Core) (i : Nat) : c.fetched.preg i = c.preg i := by simp [Core.preg]
@[simp] theorem Core.vreg_fetched (c : Core) (i : Nat) : c.fetched.vreg i = c.vreg i := by simp [Core.vreg]
@[simp] theorem Core.counter_fetched (c : Core) (i : Nat) : c.fetched.counter i = c.counter i := by simp [Core.counter]
@[simp] theorem Core.owed_fetched (c : Core) (u : Use) (f : BitVec 5) : c.fetched.owed u f = c.owed u f := by cases u <;> simp [Core.owed]
@[simp] theorem Core.guardWord_fetched (c : Core) (b : Bool) (g : BitVec 3) : c.fetched.guardWord b g = c.guardWord b g := by
  simp [Core.guardWord]
@[simp] theorem RF.stalls_fetched (f : RF) (u : RUse) (c : Core) : RF.stalls f u c.fetched = RF.stalls f u c := by simp [RF.stalls]
@[simp] theorem IF.stalls_fetched (f : IF) (d a : Use) (c : Core) : IF.stalls f d a c.fetched = IF.stalls f d a c := by simp [IF.stalls]
@[simp] theorem CF.stalls_fetched (f : CF) (c : Core) : CF.stalls f c.fetched = CF.stalls f c := by simp [CF.stalls]
@[simp] theorem RF.mode_fetched (f : RF) (c : Core) (j : Nat) : RF.mode f c.fetched j = RF.mode f c j := by simp [RF.mode]
@[simp] theorem Core.loadN_fetched (c : Core) (a w : Nat) : c.fetched.loadN a w = c.loadN a w := by simp [Core.loadN]
@[simp] theorem localAddr_fetched (c : Core) (f : IF) : localAddr c.fetched f = localAddr c f := by simp [localAddr]

/-! ### Issue -/

/-- An instruction that may issue, is legal and is not held back runs on the core with its line fetched. -/
theorem State.issue_runs (s : State) (n : Nat) (legal : Bool) (stall : Core → Bool) (run : Core → State) (hr : s.ready n)
    (hl : legal = true) (hs : stall (s.coreAt n).fetched = false) : s.issue n legal stall run = run (s.coreAt n).fetched := by
  obtain ⟨-, hm, hp⟩ := hr
  unfold State.issue
  simp only [hm, hl, hs, Bool.not_true, Bool.false_eq_true, if_false]
  rw [if_neg (by omega)]

theorem State.runR_eq (s : State) (n : Nat) (f : RF) (u : RUse) (run : Core → State) (h : s.runsR n f u) :
    s.runR n f u run = run (s.coreAt n).fetched := by
  obtain ⟨hr, hl, hs, hg⟩ := h
  unfold State.runR
  rw [State.issue_runs s n _ _ _ hr hl (by simpa using hs)]
  simp [State.guarded, hg]

theorem State.runV_eq (s : State) (n : Nat) (f : RF) (u : RUse) (run : W64 → Core → State) (h : s.runsV n f u) :
    s.runV n f u run = run ((s.coreAt n).guardWord f.gneg f.guard) (s.coreAt n).fetched := by
  obtain ⟨hr, hl, hs, hg⟩ := h
  unfold State.runV
  rw [State.issue_runs s n _ _ _ hr hl (by simpa using hs)]
  simp only [State.lanewise, Core.guardWord_fetched, if_neg hg]

theorem State.runI_eq (s : State) (n : Nat) (f : IF) (d a : Use) (imm : Bool) (run : Core → State) (h : s.runsI n f d a imm) :
    s.runI n f d a imm run = run (s.coreAt n).fetched := by
  obtain ⟨hr, hl, hs, hg⟩ := h
  unfold State.runI
  rw [State.issue_runs s n _ _ _ hr hl (by simpa using hs)]
  simp [State.guarded, hg]

theorem State.runIV_eq (s : State) (n : Nat) (f : IF) (run : W64 → Core → State) (h : s.runsIV n f) :
    s.runIV n f run = run ((s.coreAt n).guardWord f.gneg f.guard) (s.coreAt n).fetched := by
  obtain ⟨hr, hl, hs, hg⟩ := h
  unfold State.runIV
  rw [State.issue_runs s n _ _ _ hr hl (by simpa using hs)]
  simp only [State.lanewise, Core.guardWord_fetched, if_neg hg]

theorem State.runC_eq (s : State) (n : Nat) (f : CF) (legal : Bool) (run : Core → State) (h : s.runsC n f legal) :
    s.runC n f legal run = run (s.coreAt n).fetched := by
  obtain ⟨hr, hl, hs, hg⟩ := h
  unfold State.runC
  rw [State.issue_runs s n _ _ _ hr hl (by simpa using hs)]
  simp [State.guarded, hg]

theorem BitVec5.toNat_eq_zero (d : BitVec 5) : d.toNat = 0 ↔ d = 0 := by
  constructor
  · intro h; exact BitVec.eq_of_toNat_eq (by simpa using h)
  · rintro rfl; rfl

/-- Writing a scalar result, said once for every instruction that does so. -/
theorem wroteScalar_done (s : State) (n : Nat) (d : BitVec 5) (v : W64) :
    wroteScalar n d v s (s.done n ((s.coreAt n).fetched.setS d.toNat v)) := by
  refine ⟨?_, ?_, ?_, ?_, ?_, ?_⟩
  · simp only [State.coreAt_done_self, asScalar]
    show ((s.coreAt n).fetched.setS d.toNat v).sreg d.toNat = _
    rw [Core.sreg_setS]; simp [BitVec5.toNat_eq_zero]
  · intro r hr
    simp only [State.coreAt_done_self]
    show ((s.coreAt n).fetched.setS d.toNat v).sreg r = _
    rw [Core.sreg_setS, if_neg hr, Core.sreg_fetched]
    split
    · next h => subst h; rfl
    · rfl
  · simp
  · simp [sameButScalars]
  · rfl
  · intro m hm; exact State.coreAt_done_ne s _ hm

/-- Writing a predicate result. -/
theorem wrotePredicate_done (s : State) (n : Nat) (d : BitVec 5) (v : W64) :
    wrotePredicate n d v s (s.done n ((s.coreAt n).fetched.setP d.toNat v)) := by
  refine ⟨?_, ?_, ?_, ?_, ?_, ?_⟩
  · simp only [State.coreAt_done_self, asPredicate]
    show ((s.coreAt n).fetched.setP d.toNat v).preg d.toNat = _
    rw [Core.preg_setP]; simp [BitVec5.toNat_eq_zero]
  · intro r hr
    simp only [State.coreAt_done_self]
    show ((s.coreAt n).fetched.setP d.toNat v).preg r = _
    rw [Core.preg_setP, if_neg hr, Core.preg_fetched]
    split
    · next h => subst h; rfl
    · rfl
  · simp
  · simp [sameButPredicates]
  · rfl
  · intro m hm; exact State.coreAt_done_ne s _ hm

/-! ### Accesses, branches and exceptions -/

/-- An aligned local access inside the store is performed (R126, R133). -/
theorem State.access_ok (s : State) {n a w : Nat} (run : State) (h : a % w = 0) (hs : a + w ≤ storeSize) : s.access n a w run = run := by
  simp [State.access, h, Nat.not_lt.mpr hs]

theorem State.access_misaligned (s : State) {n a w : Nat} (run : State) (h : a % w ≠ 0) :
    s.access n a w run = s.takeException n .misaligned (s.coreAt n).pc := by simp [State.access, h]

theorem State.access_outside (s : State) {n a w : Nat} (run : State) (h : a % w = 0) (hs : storeSize < a + w) :
    s.access n a w run = s.takeException n .storeRange (s.coreAt n).pc := by simp [State.access, h, hs]

/-- A branch reaches a good target, and any other raises PC_RANGE (R132). -/
theorem State.branchTo_good (s : State) (n : Nat) (c : Core) {t : W64} (h : goodTarget t = true) :
    s.branchTo n c t = s.setCore n (c.jump t) := by simp [State.branchTo, h]

theorem State.branchTo_bad (s : State) (n : Nat) (c : Core) {t : W64} (h : goodTarget t = false) :
    s.branchTo n c t = (s.setCore n c).takeException n .pcRange c.pc := by simp [State.branchTo, h]

/-- An exception has no effect on a core that is neither RUNNING nor WAITING (R97). -/
theorem State.takeException_idle (s : State) (n : Nat) (cause : Cause) (pc : Nat)
    (h : (s.coreAt n).st ≠ .running) (hw : (s.coreAt n).st ≠ .waiting) : s.takeException n cause pc = s := by
  simp [State.takeException, h, hw]

/-- Causes above 7 raise no job fault: the core faults and CORE.FAULT records the cause and the address (R98, R126). -/
theorem State.takeException_quiet (s : State) (n : Nat) (cause : Cause) (pc : Nat) (hr : (s.coreAt n).st = .running)
    (h : 7 < cause.code) :
    s.takeException n cause pc = (s.setCore n (s.coreAt n).toFaulted).setReg (A.coreFault n)
      (BitVec.ofNat 64 (cause.code * 2 ^ 56 + pc % 2 ^ 20)) := by
  simp [State.takeException, hr, Nat.not_le.mpr h]

end Sys2Proof.Machine
end

