-- ==== Sys2Proof/Laws/PerInstr.lean ====
section
/-! SUPPORT. Facts about commands as syntax, one lemma for each constructor. -/
namespace Sys2Proof.Laws

/-- A command that has a word is a core instruction, and it is well formed when its core exists (R14, R121). -/
def CoreWord.Statement (i : Instr) : Prop := ∀ (n : Nat) (w : W64), encodeCoreWord i = some (n, w) → i.wf = decide (n < 2560)

/-- The lemma for a command with a word. -/
theorem CoreWord.of_word {i : Instr} {n : Nat} {w : W64} (h : encodeCoreWord i = some (n, w)) (k : i.wf = decide (n < 2560)) :
    CoreWord.Statement i := by
  intro m v e
  rw [h] at e
  cases e
  exact k

/-- The lemma for a command without one. -/
theorem CoreWord.of_none {i : Instr} (h : encodeCoreWord i = none) : CoreWord.Statement i := by
  intro m v e
  rw [h] at e
  cases e

theorem CoreWord.timeFrameSend (x0 : Nat) : CoreWord.Statement (.timeFrameSend x0) := CoreWord.of_none rfl
theorem CoreWord.timeFrameReceive (x0 : Nat) (x1 : Nat) (x2 : CtlFrame) (x3 : (BitVec 4)) : CoreWord.Statement (.timeFrameReceive x0 x1 x2 x3) := CoreWord.of_none rfl
theorem CoreWord.parentFramesStale (x0 : Nat) : CoreWord.Statement (.parentFramesStale x0) := CoreWord.of_none rfl
theorem CoreWord.ptpMessage (x0 : Nat) (x1 : PtpMsg) : CoreWord.Statement (.ptpMessage x0 x1) := CoreWord.of_none rfl
theorem CoreWord.ptpLockLost : CoreWord.Statement .ptpLockLost := CoreWord.of_none rfl
theorem CoreWord.holdoverTimeout : CoreWord.Statement .holdoverTimeout := CoreWord.of_none rfl
theorem CoreWord.acquireTimeout : CoreWord.Statement .acquireTimeout := CoreWord.of_none rfl
theorem CoreWord.oscillatorFault (x0 : Bool) : CoreWord.Statement (.oscillatorFault x0) := CoreWord.of_none rfl
theorem CoreWord.parentRejectExpiry (x0 : Nat) : CoreWord.Statement (.parentRejectExpiry x0) := CoreWord.of_none rfl
theorem CoreWord.slewBackEnd : CoreWord.Statement .slewBackEnd := CoreWord.of_none rfl
theorem CoreWord.scheduledTrafficResume : CoreWord.Statement .scheduledTrafficResume := CoreWord.of_none rfl
theorem CoreWord.waitTimeResume (x0 : Nat) : CoreWord.Statement (.waitTimeResume x0) := CoreWord.of_none rfl
theorem CoreWord.nop (x0 : Nat) (x1 : RF) : CoreWord.Statement (.nop x0 x1) := CoreWord.of_word rfl rfl
theorem CoreWord.add (x0 : Nat) (x1 : RF) : CoreWord.Statement (.add x0 x1) := CoreWord.of_word rfl rfl
theorem CoreWord.sub (x0 : Nat) (x1 : RF) : CoreWord.Statement (.sub x0 x1) := CoreWord.of_word rfl rfl
theorem CoreWord.mul (x0 : Nat) (x1 : RF) : CoreWord.Statement (.mul x0 x1) := CoreWord.of_word rfl rfl
theorem CoreWord.andS (x0 : Nat) (x1 : RF) : CoreWord.Statement (.andS x0 x1) := CoreWord.of_word rfl rfl
theorem CoreWord.orS (x0 : Nat) (x1 : RF) : CoreWord.Statement (.orS x0 x1) := CoreWord.of_word rfl rfl
theorem CoreWord.xorS (x0 : Nat) (x1 : RF) : CoreWord.Statement (.xorS x0 x1) := CoreWord.of_word rfl rfl
theorem CoreWord.shl (x0 : Nat) (x1 : RF) : CoreWord.Statement (.shl x0 x1) := CoreWord.of_word rfl rfl
theorem CoreWord.shr (x0 : Nat) (x1 : RF) : CoreWord.Statement (.shr x0 x1) := CoreWord.of_word rfl rfl
theorem CoreWord.sra (x0 : Nat) (x1 : RF) : CoreWord.Statement (.sra x0 x1) := CoreWord.of_word rfl rfl
theorem CoreWord.minS (x0 : Nat) (x1 : RF) : CoreWord.Statement (.minS x0 x1) := CoreWord.of_word rfl rfl
theorem CoreWord.maxS (x0 : Nat) (x1 : RF) : CoreWord.Statement (.maxS x0 x1) := CoreWord.of_word rfl rfl
theorem CoreWord.minu (x0 : Nat) (x1 : RF) : CoreWord.Statement (.minu x0 x1) := CoreWord.of_word rfl rfl
theorem CoreWord.maxu (x0 : Nat) (x1 : RF) : CoreWord.Statement (.maxu x0 x1) := CoreWord.of_word rfl rfl
theorem CoreWord.addi (x0 : Nat) (x1 : IF) : CoreWord.Statement (.addi x0 x1) := CoreWord.of_word rfl rfl
theorem CoreWord.andi (x0 : Nat) (x1 : IF) : CoreWord.Statement (.andi x0 x1) := CoreWord.of_word rfl rfl
theorem CoreWord.ori (x0 : Nat) (x1 : IF) : CoreWord.Statement (.ori x0 x1) := CoreWord.of_word rfl rfl
theorem CoreWord.shli (x0 : Nat) (x1 : IF) : CoreWord.Statement (.shli x0 x1) := CoreWord.of_word rfl rfl
theorem CoreWord.shri (x0 : Nat) (x1 : IF) : CoreWord.Statement (.shri x0 x1) := CoreWord.of_word rfl rfl
theorem CoreWord.srai (x0 : Nat) (x1 : IF) : CoreWord.Statement (.srai x0 x1) := CoreWord.of_word rfl rfl
theorem CoreWord.li (x0 : Nat) (x1 : IF) : CoreWord.Statement (.li x0 x1) := CoreWord.of_word rfl rfl
theorem CoreWord.lih (x0 : Nat) (x1 : IF) : CoreWord.Statement (.lih x0 x1) := CoreWord.of_word rfl rfl
theorem CoreWord.cmpeq (x0 : Nat) (x1 : RF) : CoreWord.Statement (.cmpeq x0 x1) := CoreWord.of_word rfl rfl
theorem CoreWord.cmpne (x0 : Nat) (x1 : RF) : CoreWord.Statement (.cmpne x0 x1) := CoreWord.of_word rfl rfl
theorem CoreWord.cmplt (x0 : Nat) (x1 : RF) : CoreWord.Statement (.cmplt x0 x1) := CoreWord.of_word rfl rfl
theorem CoreWord.cmpltu (x0 : Nat) (x1 : RF) : CoreWord.Statement (.cmpltu x0 x1) := CoreWord.of_word rfl rfl
theorem CoreWord.cmple (x0 : Nat) (x1 : RF) : CoreWord.Statement (.cmple x0 x1) := CoreWord.of_word rfl rfl
theorem CoreWord.cmpleu (x0 : Nat) (x1 : RF) : CoreWord.Statement (.cmpleu x0 x1) := CoreWord.of_word rfl rfl
theorem CoreWord.pand (x0 : Nat) (x1 : RF) : CoreWord.Statement (.pand x0 x1) := CoreWord.of_word rfl rfl
theorem CoreWord.por (x0 : Nat) (x1 : RF) : CoreWord.Statement (.por x0 x1) := CoreWord.of_word rfl rfl
theorem CoreWord.pxor (x0 : Nat) (x1 : RF) : CoreWord.Statement (.pxor x0 x1) := CoreWord.of_word rfl rfl
theorem CoreWord.pandn (x0 : Nat) (x1 : RF) : CoreWord.Statement (.pandn x0 x1) := CoreWord.of_word rfl rfl
theorem CoreWord.pcnt (x0 : Nat) (x1 : RF) : CoreWord.Statement (.pcnt x0 x1) := CoreWord.of_word rfl rfl
theorem CoreWord.pfrom (x0 : Nat) (x1 : RF) : CoreWord.Statement (.pfrom x0 x1) := CoreWord.of_word rfl rfl
theorem CoreWord.pto (x0 : Nat) (x1 : RF) : CoreWord.Statement (.pto x0 x1) := CoreWord.of_word rfl rfl
theorem CoreWord.rdct (x0 : Nat) (x1 : RF) : CoreWord.Statement (.rdct x0 x1) := CoreWord.of_word rfl rfl
theorem CoreWord.rdflags (x0 : Nat) (x1 : RF) : CoreWord.Statement (.rdflags x0 x1) := CoreWord.of_word rfl rfl
theorem CoreWord.clrflags (x0 : Nat) (x1 : RF) : CoreWord.Statement (.clrflags x0 x1) := CoreWord.of_word rfl rfl
theorem CoreWord.rdid (x0 : Nat) (x1 : RF) : CoreWord.Statement (.rdid x0 x1) := CoreWord.of_word rfl rfl
theorem CoreWord.branchB (x0 : Nat) (x1 : IF) : CoreWord.Statement (.branchB x0 x1) := CoreWord.of_word rfl rfl
theorem CoreWord.bl (x0 : Nat) (x1 : IF) : CoreWord.Statement (.bl x0 x1) := CoreWord.of_word rfl rfl
theorem CoreWord.br (x0 : Nat) (x1 : IF) : CoreWord.Statement (.br x0 x1) := CoreWord.of_word rfl rfl
theorem CoreWord.blr (x0 : Nat) (x1 : IF) : CoreWord.Statement (.blr x0 x1) := CoreWord.of_word rfl rfl
theorem CoreWord.loop (x0 : Nat) (x1 : IF) : CoreWord.Statement (.loop x0 x1) := CoreWord.of_word rfl rfl
theorem CoreWord.ldB (x0 : Nat) (x1 : IF) : CoreWord.Statement (.ldB x0 x1) := CoreWord.of_word rfl rfl
theorem CoreWord.ldBu (x0 : Nat) (x1 : IF) : CoreWord.Statement (.ldBu x0 x1) := CoreWord.of_word rfl rfl
theorem CoreWord.ldH (x0 : Nat) (x1 : IF) : CoreWord.Statement (.ldH x0 x1) := CoreWord.of_word rfl rfl
theorem CoreWord.ldHu (x0 : Nat) (x1 : IF) : CoreWord.Statement (.ldHu x0 x1) := CoreWord.of_word rfl rfl
theorem CoreWord.ldW (x0 : Nat) (x1 : IF) : CoreWord.Statement (.ldW x0 x1) := CoreWord.of_word rfl rfl
theorem CoreWord.ldWu (x0 : Nat) (x1 : IF) : CoreWord.Statement (.ldWu x0 x1) := CoreWord.of_word rfl rfl
theorem CoreWord.ldD (x0 : Nat) (x1 : IF) : CoreWord.Statement (.ldD x0 x1) := CoreWord.of_word rfl rfl
theorem CoreWord.stB (x0 : Nat) (x1 : IF) : CoreWord.Statement (.stB x0 x1) := CoreWord.of_word rfl rfl
theorem CoreWord.stH (x0 : Nat) (x1 : IF) : CoreWord.Statement (.stH x0 x1) := CoreWord.of_word rfl rfl
theorem CoreWord.stW (x0 : Nat) (x1 : IF) : CoreWord.Statement (.stW x0 x1) := CoreWord.of_word rfl rfl
theorem CoreWord.stD (x0 : Nat) (x1 : IF) : CoreWord.Statement (.stD x0 x1) := CoreWord.of_word rfl rfl
theorem CoreWord.vld (x0 : Nat) (x1 : IF) : CoreWord.Statement (.vld x0 x1) := CoreWord.of_word rfl rfl
theorem CoreWord.vst (x0 : Nat) (x1 : IF) : CoreWord.Statement (.vst x0 x1) := CoreWord.of_word rfl rfl
theorem CoreWord.pld (x0 : Nat) (x1 : IF) : CoreWord.Statement (.pld x0 x1) := CoreWord.of_word rfl rfl
theorem CoreWord.pst (x0 : Nat) (x1 : IF) : CoreWord.Statement (.pst x0 x1) := CoreWord.of_word rfl rfl
theorem CoreWord.rldW (x0 : Nat) (x1 : RF) : CoreWord.Statement (.rldW x0 x1) := CoreWord.of_word rfl rfl
theorem CoreWord.rldD (x0 : Nat) (x1 : RF) : CoreWord.Statement (.rldD x0 x1) := CoreWord.of_word rfl rfl
theorem CoreWord.rstW (x0 : Nat) (x1 : RF) : CoreWord.Statement (.rstW x0 x1) := CoreWord.of_word rfl rfl
theorem CoreWord.rstD (x0 : Nat) (x1 : RF) : CoreWord.Statement (.rstD x0 x1) := CoreWord.of_word rfl rfl
theorem CoreWord.raddI32 (x0 : Nat) (x1 : RF) : CoreWord.Statement (.raddI32 x0 x1) := CoreWord.of_word rfl rfl
theorem CoreWord.raddI64 (x0 : Nat) (x1 : RF) : CoreWord.Statement (.raddI64 x0 x1) := CoreWord.of_word rfl rfl
theorem CoreWord.raddF32 (x0 : Nat) (x1 : RF) : CoreWord.Statement (.raddF32 x0 x1) := CoreWord.of_word rfl rfl
theorem CoreWord.raddBf16x2 (x0 : Nat) (x1 : RF) : CoreWord.Statement (.raddBf16x2 x0 x1) := CoreWord.of_word rfl rfl
theorem CoreWord.rswapW (x0 : Nat) (x1 : RF) : CoreWord.Statement (.rswapW x0 x1) := CoreWord.of_word rfl rfl
theorem CoreWord.rswapD (x0 : Nat) (x1 : RF) : CoreWord.Statement (.rswapD x0 x1) := CoreWord.of_word rfl rfl
theorem CoreWord.rcasW (x0 : Nat) (x1 : RF) : CoreWord.Statement (.rcasW x0 x1) := CoreWord.of_word rfl rfl
theorem CoreWord.rcasD (x0 : Nat) (x1 : RF) : CoreWord.Statement (.rcasD x0 x1) := CoreWord.of_word rfl rfl
theorem CoreWord.rminI32 (x0 : Nat) (x1 : RF) : CoreWord.Statement (.rminI32 x0 x1) := CoreWord.of_word rfl rfl
theorem CoreWord.rminI64 (x0 : Nat) (x1 : RF) : CoreWord.Statement (.rminI64 x0 x1) := CoreWord.of_word rfl rfl
theorem CoreWord.rmaxI32 (x0 : Nat) (x1 : RF) : CoreWord.Statement (.rmaxI32 x0 x1) := CoreWord.of_word rfl rfl
theorem CoreWord.rmaxI64 (x0 : Nat) (x1 : RF) : CoreWord.Statement (.rmaxI64 x0 x1) := CoreWord.of_word rfl rfl
theorem CoreWord.randW (x0 : Nat) (x1 : RF) : CoreWord.Statement (.randW x0 x1) := CoreWord.of_word rfl rfl
theorem CoreWord.randD (x0 : Nat) (x1 : RF) : CoreWord.Statement (.randD x0 x1) := CoreWord.of_word rfl rfl
theorem CoreWord.rorW (x0 : Nat) (x1 : RF) : CoreWord.Statement (.rorW x0 x1) := CoreWord.of_word rfl rfl
theorem CoreWord.rorD (x0 : Nat) (x1 : RF) : CoreWord.Statement (.rorD x0 x1) := CoreWord.of_word rfl rfl
theorem CoreWord.rxorW (x0 : Nat) (x1 : RF) : CoreWord.Statement (.rxorW x0 x1) := CoreWord.of_word rfl rfl
theorem CoreWord.rxorD (x0 : Nat) (x1 : RF) : CoreWord.Statement (.rxorD x0 x1) := CoreWord.of_word rfl rfl
theorem CoreWord.vadd (x0 : Nat) (x1 : RF) : CoreWord.Statement (.vadd x0 x1) := CoreWord.of_word rfl rfl
theorem CoreWord.vsub (x0 : Nat) (x1 : RF) : CoreWord.Statement (.vsub x0 x1) := CoreWord.of_word rfl rfl
theorem CoreWord.vmul (x0 : Nat) (x1 : RF) : CoreWord.Statement (.vmul x0 x1) := CoreWord.of_word rfl rfl
theorem CoreWord.vfma (x0 : Nat) (x1 : RF) : CoreWord.Statement (.vfma x0 x1) := CoreWord.of_word rfl rfl
theorem CoreWord.vfnma (x0 : Nat) (x1 : RF) : CoreWord.Statement (.vfnma x0 x1) := CoreWord.of_word rfl rfl
theorem CoreWord.vmin (x0 : Nat) (x1 : RF) : CoreWord.Statement (.vmin x0 x1) := CoreWord.of_word rfl rfl
theorem CoreWord.vmax (x0 : Nat) (x1 : RF) : CoreWord.Statement (.vmax x0 x1) := CoreWord.of_word rfl rfl
theorem CoreWord.vabs (x0 : Nat) (x1 : RF) : CoreWord.Statement (.vabs x0 x1) := CoreWord.of_word rfl rfl
theorem CoreWord.vneg (x0 : Nat) (x1 : RF) : CoreWord.Statement (.vneg x0 x1) := CoreWord.of_word rfl rfl
theorem CoreWord.vdiv (x0 : Nat) (x1 : RF) : CoreWord.Statement (.vdiv x0 x1) := CoreWord.of_word rfl rfl
theorem CoreWord.vsqrt (x0 : Nat) (x1 : RF) : CoreWord.Statement (.vsqrt x0 x1) := CoreWord.of_word rfl rfl
theorem CoreWord.vrsqrt (x0 : Nat) (x1 : RF) : CoreWord.Statement (.vrsqrt x0 x1) := CoreWord.of_word rfl rfl
theorem CoreWord.vexp (x0 : Nat) (x1 : RF) : CoreWord.Statement (.vexp x0 x1) := CoreWord.of_word rfl rfl
theorem CoreWord.vlog (x0 : Nat) (x1 : RF) : CoreWord.Statement (.vlog x0 x1) := CoreWord.of_word rfl rfl
theorem CoreWord.vrsum (x0 : Nat) (x1 : RF) : CoreWord.Statement (.vrsum x0 x1) := CoreWord.of_word rfl rfl
theorem CoreWord.vrmax (x0 : Nat) (x1 : RF) : CoreWord.Statement (.vrmax x0 x1) := CoreWord.of_word rfl rfl
theorem CoreWord.vcmpeq (x0 : Nat) (x1 : RF) : CoreWord.Statement (.vcmpeq x0 x1) := CoreWord.of_word rfl rfl
theorem CoreWord.vcmplt (x0 : Nat) (x1 : RF) : CoreWord.Statement (.vcmplt x0 x1) := CoreWord.of_word rfl rfl
theorem CoreWord.vcmple (x0 : Nat) (x1 : RF) : CoreWord.Statement (.vcmple x0 x1) := CoreWord.of_word rfl rfl
theorem CoreWord.vcmpun (x0 : Nat) (x1 : RF) : CoreWord.Statement (.vcmpun x0 x1) := CoreWord.of_word rfl rfl
theorem CoreWord.vsel (x0 : Nat) (x1 : RF) : CoreWord.Statement (.vsel x0 x1) := CoreWord.of_word rfl rfl
theorem CoreWord.vmov (x0 : Nat) (x1 : RF) : CoreWord.Statement (.vmov x0 x1) := CoreWord.of_word rfl rfl
theorem CoreWord.vbcast (x0 : Nat) (x1 : RF) : CoreWord.Statement (.vbcast x0 x1) := CoreWord.of_word rfl rfl
theorem CoreWord.vextr (x0 : Nat) (x1 : RF) : CoreWord.Statement (.vextr x0 x1) := CoreWord.of_word rfl rfl
theorem CoreWord.vand (x0 : Nat) (x1 : RF) : CoreWord.Statement (.vand x0 x1) := CoreWord.of_word rfl rfl
theorem CoreWord.vor (x0 : Nat) (x1 : RF) : CoreWord.Statement (.vor x0 x1) := CoreWord.of_word rfl rfl
theorem CoreWord.vxor (x0 : Nat) (x1 : RF) : CoreWord.Statement (.vxor x0 x1) := CoreWord.of_word rfl rfl
theorem CoreWord.vshl (x0 : Nat) (x1 : RF) : CoreWord.Statement (.vshl x0 x1) := CoreWord.of_word rfl rfl
theorem CoreWord.vshr (x0 : Nat) (x1 : RF) : CoreWord.Statement (.vshr x0 x1) := CoreWord.of_word rfl rfl
theorem CoreWord.viota (x0 : Nat) (x1 : RF) : CoreWord.Statement (.viota x0 x1) := CoreWord.of_word rfl rfl
theorem CoreWord.cvtBf (x0 : Nat) (x1 : RF) : CoreWord.Statement (.cvtBf x0 x1) := CoreWord.of_word rfl rfl
theorem CoreWord.cvtFblo (x0 : Nat) (x1 : RF) : CoreWord.Statement (.cvtFblo x0 x1) := CoreWord.of_word rfl rfl
theorem CoreWord.cvtFbhi (x0 : Nat) (x1 : RF) : CoreWord.Statement (.cvtFbhi x0 x1) := CoreWord.of_word rfl rfl
theorem CoreWord.cvtIf (x0 : Nat) (x1 : RF) : CoreWord.Statement (.cvtIf x0 x1) := CoreWord.of_word rfl rfl
theorem CoreWord.cvtFi (x0 : Nat) (x1 : RF) : CoreWord.Statement (.cvtFi x0 x1) := CoreWord.of_word rfl rfl
theorem CoreWord.rint (x0 : Nat) (x1 : RF) : CoreWord.Statement (.rint x0 x1) := CoreWord.of_word rfl rfl
theorem CoreWord.pack (x0 : Nat) (x1 : RF) : CoreWord.Statement (.pack x0 x1) := CoreWord.of_word rfl rfl
theorem CoreWord.unpack (x0 : Nat) (x1 : RF) : CoreWord.Statement (.unpack x0 x1) := CoreWord.of_word rfl rfl
theorem CoreWord.tile (x0 : Nat) (x1 : CF) : CoreWord.Statement (.tile x0 x1) := CoreWord.of_word rfl rfl
theorem CoreWord.twarm (x0 : Nat) (x1 : CF) : CoreWord.Statement (.twarm x0 x1) := CoreWord.of_word rfl rfl
theorem CoreWord.gather (x0 : Nat) (x1 : RF) : CoreWord.Statement (.gather x0 x1) := CoreWord.of_word rfl rfl
theorem CoreWord.scatter (x0 : Nat) (x1 : RF) : CoreWord.Statement (.scatter x0 x1) := CoreWord.of_word rfl rfl
theorem CoreWord.scatadd (x0 : Nat) (x1 : RF) : CoreWord.Statement (.scatadd x0 x1) := CoreWord.of_word rfl rfl
theorem CoreWord.rgather (x0 : Nat) (x1 : RF) : CoreWord.Statement (.rgather x0 x1) := CoreWord.of_word rfl rfl
theorem CoreWord.rscatter (x0 : Nat) (x1 : RF) : CoreWord.Statement (.rscatter x0 x1) := CoreWord.of_word rfl rfl
theorem CoreWord.rscatadd (x0 : Nat) (x1 : RF) : CoreWord.Statement (.rscatadd x0 x1) := CoreWord.of_word rfl rfl
theorem CoreWord.route (x0 : Nat) (x1 : CF) : CoreWord.Statement (.route x0 x1) := CoreWord.of_word rfl rfl
theorem CoreWord.copy (x0 : Nat) (x1 : CF) : CoreWord.Statement (.copy x0 x1) := CoreWord.of_word rfl rfl
theorem CoreWord.waitt (x0 : Nat) (x1 : CF) : CoreWord.Statement (.waitt x0 x1) := CoreWord.of_word rfl rfl
theorem CoreWord.waitc (x0 : Nat) (x1 : CF) : CoreWord.Statement (.waitc x0 x1) := CoreWord.of_word rfl rfl
theorem CoreWord.setcnt (x0 : Nat) (x1 : CF) : CoreWord.Statement (.setcnt x0 x1) := CoreWord.of_word rfl rfl
theorem CoreWord.rdcnt (x0 : Nat) (x1 : RF) : CoreWord.Statement (.rdcnt x0 x1) := CoreWord.of_word rfl rfl
theorem CoreWord.fence (x0 : Nat) (x1 : RF) : CoreWord.Statement (.fence x0 x1) := CoreWord.of_word rfl rfl
theorem CoreWord.fenceEid (x0 : Nat) (x1 : RF) : CoreWord.Statement (.fenceEid x0 x1) := CoreWord.of_word rfl rfl
theorem CoreWord.acq (x0 : Nat) (x1 : RF) : CoreWord.Statement (.acq x0 x1) := CoreWord.of_word rfl rfl
theorem CoreWord.rel (x0 : Nat) (x1 : RF) : CoreWord.Statement (.rel x0 x1) := CoreWord.of_word rfl rfl
theorem CoreWord.halt (x0 : Nat) (x1 : RF) : CoreWord.Statement (.halt x0 x1) := CoreWord.of_word rfl rfl
theorem CoreWord.upd (x0 : Nat) (x1 : CF) : CoreWord.Statement (.upd x0 x1) := CoreWord.of_word rfl rfl
theorem CoreWord.updrow (x0 : Nat) (x1 : CF) : CoreWord.Statement (.updrow x0 x1) := CoreWord.of_word rfl rfl
theorem CoreWord.rootreq (x0 : Nat) (x1 : CF) : CoreWord.Statement (.rootreq x0 x1) := CoreWord.of_word rfl rfl
theorem CoreWord.stepend (x0 : Nat) (x1 : CF) : CoreWord.Statement (.stepend x0 x1) := CoreWord.of_word rfl rfl
theorem CoreWord.coreStart (x0 : Nat) : CoreWord.Statement (.coreStart x0) := CoreWord.of_none rfl
theorem CoreWord.counterWaitResume (x0 : Nat) : CoreWord.Statement (.counterWaitResume x0) := CoreWord.of_none rfl
theorem CoreWord.coreHalted (x0 : Nat) : CoreWord.Statement (.coreHalted x0) := CoreWord.of_none rfl
theorem CoreWord.tileAccept (x0 : Nat) (x1 : Nat) : CoreWord.Statement (.tileAccept x0 x1) := CoreWord.of_none rfl
theorem CoreWord.tileStart (x0 : Nat) (x1 : Nat) : CoreWord.Statement (.tileStart x0 x1) := CoreWord.of_none rfl
theorem CoreWord.stationarySwap (x0 : Nat) (x1 : Nat) : CoreWord.Statement (.stationarySwap x0 x1) := CoreWord.of_none rfl
theorem CoreWord.tileWritebackEnd (x0 : Nat) (x1 : Nat) (x2 : (List (Nat×BitVec 32))) (x3 : (List (Nat×BitVec 32))) : CoreWord.Statement (.tileWritebackEnd x0 x1 x2 x3) := CoreWord.of_none rfl
theorem CoreWord.levelUpdate (x0 : Nat) (x1 : Nat) : CoreWord.Statement (.levelUpdate x0 x1) := CoreWord.of_none rfl
theorem CoreWord.twarmEnd (x0 : Nat) (x1 : Nat) : CoreWord.Statement (.twarmEnd x0 x1) := CoreWord.of_none rfl
theorem CoreWord.gatherScatterComplete (x0 : Nat) : CoreWord.Statement (.gatherScatterComplete x0) := CoreWord.of_none rfl
theorem CoreWord.routeStart (x0 : Nat) : CoreWord.Statement (.routeStart x0) := CoreWord.of_none rfl
theorem CoreWord.routeLeave (x0 : Nat) : CoreWord.Statement (.routeLeave x0) := CoreWord.of_none rfl
theorem CoreWord.routeComplete (x0 : Nat) : CoreWord.Statement (.routeComplete x0) := CoreWord.of_none rfl
theorem CoreWord.coreResetHold (x0 : Nat) (x1 : (BitVec 64)) : CoreWord.Statement (.coreResetHold x0 x1) := CoreWord.of_none rfl
theorem CoreWord.coreFence (x0 : Nat) (x1 : (BitVec 64)) : CoreWord.Statement (.coreFence x0 x1) := CoreWord.of_none rfl
theorem CoreWord.coreRun (x0 : Nat) (x1 : (BitVec 64)) : CoreWord.Statement (.coreRun x0 x1) := CoreWord.of_none rfl
theorem CoreWord.swdataAccess (x0 : Nat) (x1 : (Option (BitVec 64))) : CoreWord.Statement (.swdataAccess x0 x1) := CoreWord.of_none rfl
theorem CoreWord.updateCallStart (x0 : Nat) (x1 : Nat) : CoreWord.Statement (.updateCallStart x0 x1) := CoreWord.of_none rfl
theorem CoreWord.updateCallComplete (x0 : Nat) (x1 : Nat) : CoreWord.Statement (.updateCallComplete x0 x1) := CoreWord.of_none rfl
theorem CoreWord.rootRefreshStart (x0 : Nat) (x1 : Nat) : CoreWord.Statement (.rootRefreshStart x0 x1) := CoreWord.of_none rfl
theorem CoreWord.rootRefreshComplete (x0 : Nat) (x1 : Nat) : CoreWord.Statement (.rootRefreshComplete x0 x1) := CoreWord.of_none rfl
theorem CoreWord.stependSwap (x0 : Nat) (x1 : Nat) : CoreWord.Statement (.stependSwap x0 x1) := CoreWord.of_none rfl
theorem CoreWord.updGsel (x0 : Nat) (x1 : (BitVec 64)) : CoreWord.Statement (.updGsel x0 x1) := CoreWord.of_none rfl
theorem CoreWord.updCommit (x0 : Nat) (x1 : (BitVec 64)) : CoreWord.Statement (.updCommit x0 x1) := CoreWord.of_none rfl
theorem CoreWord.updClrStat (x0 : Nat) (x1 : (BitVec 64)) : CoreWord.Statement (.updClrStat x0 x1) := CoreWord.of_none rfl
theorem CoreWord.memoryRequest (x0 : Nat) (x1 : MemReq) : CoreWord.Statement (.memoryRequest x0 x1) := CoreWord.of_none rfl
theorem CoreWord.memoryAdmit (x0 : Nat) (x1 : Nat) : CoreWord.Statement (.memoryAdmit x0 x1) := CoreWord.of_none rfl
theorem CoreWord.channelServe (x0 : Nat) (x1 : Nat) (x2 : (BitVec 16)) (x3 : Damage) : CoreWord.Statement (.channelServe x0 x1 x2 x3) := CoreWord.of_none rfl
theorem CoreWord.regulatorCreditTick (x0 : Nat) : CoreWord.Statement (.regulatorCreditTick x0) := CoreWord.of_none rfl
theorem CoreWord.refreshCommand (x0 : Nat) (x1 : Nat) (x2 : Nat) : CoreWord.Statement (.refreshCommand x0 x1 x2) := CoreWord.of_none rfl
theorem CoreWord.refreshIntervalRelax (x0 : Nat) (x1 : Nat) : CoreWord.Statement (.refreshIntervalRelax x0 x1) := CoreWord.of_none rfl
theorem CoreWord.scrubRead (x0 : Nat) (x1 : Nat) (x2 : Damage) : CoreWord.Statement (.scrubRead x0 x1 x2) := CoreWord.of_none rfl
theorem CoreWord.memoryInitComplete (x0 : Nat) (x1 : Nat) : CoreWord.Statement (.memoryInitComplete x0 x1) := CoreWord.of_none rfl
theorem CoreWord.zeroMapFill (x0 : Nat) (x1 : Nat) (x2 : Damage) : CoreWord.Statement (.zeroMapFill x0 x1 x2) := CoreWord.of_none rfl
theorem CoreWord.zrangeEnable (x0 : Nat) (x1 : Nat) (x2 : (BitVec 64)) : CoreWord.Statement (.zrangeEnable x0 x1 x2) := CoreWord.of_none rfl
theorem CoreWord.zrangeDisable (x0 : Nat) (x1 : Nat) (x2 : (BitVec 64)) : CoreWord.Statement (.zrangeDisable x0 x1 x2) := CoreWord.of_none rfl
theorem CoreWord.zrangeFlushComplete (x0 : Nat) (x1 : Nat) : CoreWord.Statement (.zrangeFlushComplete x0 x1) := CoreWord.of_none rfl
theorem CoreWord.linkTrainStart (x0 : Nat) : CoreWord.Statement (.linkTrainStart x0) := CoreWord.of_none rfl
theorem CoreWord.trainAttemptFail (x0 : Nat) (x1 : (BitVec 96)) (x2 : (BitVec 96)) (x3 : (List WireFault)) : CoreWord.Statement (.trainAttemptFail x0 x1 x2 x3) := CoreWord.of_none rfl
theorem CoreWord.linkTrainComplete (x0 : Nat) (x1 : (BitVec 96)) (x2 : (BitVec 96)) (x3 : (List WireFault)) : CoreWord.Statement (.linkTrainComplete x0 x1 x2 x3) := CoreWord.of_none rfl
theorem CoreWord.parityError (x0 : Nat) (x1 : Bool) (x2 : Nat) (x3 : (BitVec 66)) (x4 : Bool) (x5 : (List LinkMsg)) : CoreWord.Statement (.parityError x0 x1 x2 x3 x4 x5) := CoreWord.of_none rfl
theorem CoreWord.bundleDrop (x0 : Nat) (x1 : Bool) (x2 : Nat) : CoreWord.Statement (.bundleDrop x0 x1 x2) := CoreWord.of_none rfl
theorem CoreWord.bundleRestripe (x0 : Nat) (x1 : Bool) (x2 : Nat) : CoreWord.Statement (.bundleRestripe x0 x1 x2) := CoreWord.of_none rfl
theorem CoreWord.dieFence (x0 : Nat) (x1 : FenceCause) : CoreWord.Statement (.dieFence x0 x1) := CoreWord.of_none rfl
theorem CoreWord.linkRejoinComplete (x0 : Nat) : CoreWord.Statement (.linkRejoinComplete x0) := CoreWord.of_none rfl
theorem CoreWord.d2dFence (x0 : Nat) : CoreWord.Statement (.d2dFence x0) := CoreWord.of_none rfl
theorem CoreWord.d2dRejoin (x0 : Nat) : CoreWord.Statement (.d2dRejoin x0) := CoreWord.of_none rfl
theorem CoreWord.d2dRetrain (x0 : Nat) : CoreWord.Statement (.d2dRetrain x0) := CoreWord.of_none rfl
theorem CoreWord.d2dHold (x0 : Nat) (x1 : Bool) : CoreWord.Statement (.d2dHold x0 x1) := CoreWord.of_none rfl
theorem CoreWord.invAll (x0 : Nat) : CoreWord.Statement (.invAll x0) := CoreWord.of_none rfl
theorem CoreWord.invPart (x0 : Nat) (x1 : Nat) : CoreWord.Statement (.invPart x0 x1) := CoreWord.of_none rfl
theorem CoreWord.rcEnable (x0 : Nat) (x1 : (BitVec 64)) : CoreWord.Statement (.rcEnable x0 x1) := CoreWord.of_none rfl
theorem CoreWord.load (x0 : Packet) : CoreWord.Statement (.load x0) := CoreWord.of_none rfl
theorem CoreWord.store (x0 : Packet) : CoreWord.Statement (.store x0) := CoreWord.of_none rfl
theorem CoreWord.atomic (x0 : Packet) : CoreWord.Statement (.atomic x0) := CoreWord.of_none rfl
theorem CoreWord.write (x0 : Packet) : CoreWord.Statement (.write x0) := CoreWord.of_none rfl
theorem CoreWord.reduce (x0 : Packet) : CoreWord.Statement (.reduce x0) := CoreWord.of_none rfl
theorem CoreWord.gfxor (x0 : Packet) : CoreWord.Statement (.gfxor x0) := CoreWord.of_none rfl
theorem CoreWord.readReq (x0 : Packet) : CoreWord.Statement (.readReq x0) := CoreWord.of_none rfl
theorem CoreWord.topoChunk (x0 : Nat) (x1 : Packet) : CoreWord.Statement (.topoChunk x0 x1) := CoreWord.of_none rfl
theorem CoreWord.reply (x0 : Packet) : CoreWord.Statement (.reply x0) := CoreWord.of_none rfl
theorem CoreWord.refusal (x0 : Packet) : CoreWord.Statement (.refusal x0) := CoreWord.of_none rfl
theorem CoreWord.ack (x0 : Packet) : CoreWord.Statement (.ack x0) := CoreWord.of_none rfl
theorem CoreWord.readData (x0 : Packet) : CoreWord.Statement (.readData x0) := CoreWord.of_none rfl
theorem CoreWord.remoteAccessTimeout (x0 : Nat) (x1 : Nat) : CoreWord.Statement (.remoteAccessTimeout x0 x1) := CoreWord.of_none rfl
theorem CoreWord.retransmitTimeout (x0 : Nat) (x1 : Nat) : CoreWord.Statement (.retransmitTimeout x0 x1) := CoreWord.of_none rfl
theorem CoreWord.copyTimeout (x0 : Nat) (x1 : Nat) : CoreWord.Statement (.copyTimeout x0 x1) := CoreWord.of_none rfl
theorem CoreWord.replyRecordExpiry (x0 : Nat) (x1 : Nat) : CoreWord.Statement (.replyRecordExpiry x0 x1) := CoreWord.of_none rfl
theorem CoreWord.recordWaitPerform (x0 : Nat) : CoreWord.Statement (.recordWaitPerform x0) := CoreWord.of_none rfl
theorem CoreWord.ackTimer (x0 : Nat) : CoreWord.Statement (.ackTimer x0) := CoreWord.of_none rfl
theorem CoreWord.fenceComplete (x0 : Nat) : CoreWord.Statement (.fenceComplete x0) := CoreWord.of_none rfl
theorem CoreWord.fenceTimeout (x0 : Nat) : CoreWord.Statement (.fenceTimeout x0) := CoreWord.of_none rfl
theorem CoreWord.copyEngineAdmit (x0 : Nat) (x1 : Nat) : CoreWord.Statement (.copyEngineAdmit x0 x1) := CoreWord.of_none rfl
theorem CoreWord.copyPacketSend (x0 : Nat) (x1 : Nat) : CoreWord.Statement (.copyPacketSend x0 x1) := CoreWord.of_none rfl
theorem CoreWord.copyDescriptorComplete (x0 : Nat) (x1 : Nat) : CoreWord.Statement (.copyDescriptorComplete x0 x1) := CoreWord.of_none rfl
theorem CoreWord.teardownAtT (x0 : Nat) : CoreWord.Statement (.teardownAtT x0) := CoreWord.of_none rfl
theorem CoreWord.dataFrame (x0 : Nat) (x1 : Nat) (x2 : Frame) : CoreWord.Statement (.dataFrame x0 x1 x2) := CoreWord.of_none rfl
theorem CoreWord.frameInject (x0 : Nat) (x1 : Bool) : CoreWord.Statement (.frameInject x0 x1) := CoreWord.of_none rfl
theorem CoreWord.dynamicAdmit (x0 : Nat) : CoreWord.Statement (.dynamicAdmit x0) := CoreWord.of_none rfl
theorem CoreWord.scheduledFrameSend (x0 : Nat) (x1 : Bool) : CoreWord.Statement (.scheduledFrameSend x0 x1) := CoreWord.of_none rfl
theorem CoreWord.idle (x0 : Nat) (x1 : Nat) (x2 : Frame) : CoreWord.Statement (.idle x0 x1 x2) := CoreWord.of_none rfl
theorem CoreWord.idleSend (x0 : Nat) (x1 : Nat) : CoreWord.Statement (.idleSend x0 x1) := CoreWord.of_none rfl
theorem CoreWord.nak (x0 : Nat) (x1 : Nat) (x2 : Frame) (x3 : (List Nat)) : CoreWord.Statement (.nak x0 x1 x2 x3) := CoreWord.of_none rfl
theorem CoreWord.reorderGapTimeout (x0 : Nat) : CoreWord.Statement (.reorderGapTimeout x0) := CoreWord.of_none rfl
theorem CoreWord.laneSilence (x0 : Nat) (x1 : Nat) : CoreWord.Statement (.laneSilence x0 x1) := CoreWord.of_none rfl
theorem CoreWord.portLost (x0 : Nat) : CoreWord.Statement (.portLost x0) := CoreWord.of_none rfl
theorem CoreWord.detourApply (x0 : Nat) : CoreWord.Statement (.detourApply x0) := CoreWord.of_none rfl
theorem CoreWord.belayReinject (x0 : Nat) (x1 : (List Nat)) : CoreWord.Statement (.belayReinject x0 x1) := CoreWord.of_none rfl
theorem CoreWord.detourRelease (x0 : Nat) : CoreWord.Statement (.detourRelease x0) := CoreWord.of_none rfl
theorem CoreWord.pitchBoundary : CoreWord.Statement .pitchBoundary := CoreWord.of_none rfl
theorem CoreWord.telemetryMapClose : CoreWord.Statement .telemetryMapClose := CoreWord.of_none rfl
theorem CoreWord.holdPort (x0 : Nat) : CoreWord.Statement (.holdPort x0) := CoreWord.of_none rfl
theorem CoreWord.releasePort (x0 : Nat) : CoreWord.Statement (.releasePort x0) := CoreWord.of_none rfl
theorem CoreWord.telDataRead : CoreWord.Statement .telDataRead := CoreWord.of_none rfl
theorem CoreWord.ident (x0 : Nat) (x1 : Nat) (x2 : CtlFrame) : CoreWord.Statement (.ident x0 x1 x2) := CoreWord.of_none rfl
theorem CoreWord.laneDrop (x0 : Nat) (x1 : Nat) (x2 : CtlFrame) : CoreWord.Statement (.laneDrop x0 x1 x2) := CoreWord.of_none rfl
theorem CoreWord.laneAdd (x0 : Nat) (x1 : Nat) (x2 : CtlFrame) : CoreWord.Statement (.laneAdd x0 x1 x2) := CoreWord.of_none rfl
theorem CoreWord.laneAck (x0 : Nat) (x1 : Nat) (x2 : CtlFrame) : CoreWord.Statement (.laneAck x0 x1 x2) := CoreWord.of_none rfl
theorem CoreWord.bar (x0 : Nat) (x1 : Nat) (x2 : CtlFrame) : CoreWord.Statement (.bar x0 x1 x2) := CoreWord.of_none rfl
theorem CoreWord.barRepeat (x0 : Nat) : CoreWord.Statement (.barRepeat x0) := CoreWord.of_none rfl
theorem CoreWord.laneChangeSwitch (x0 : Nat) (x1 : Bool) (x2 : Nat) : CoreWord.Statement (.laneChangeSwitch x0 x1 x2) := CoreWord.of_none rfl
theorem CoreWord.laneChangeRetry (x0 : Nat) (x1 : Bool) (x2 : Nat) : CoreWord.Statement (.laneChangeRetry x0 x1 x2) := CoreWord.of_none rfl
theorem CoreWord.laneFecFault (x0 : Nat) (x1 : Nat) : CoreWord.Statement (.laneFecFault x0 x1) := CoreWord.of_none rfl
theorem CoreWord.ringLock (x0 : Nat) (x1 : Nat) (x2 : Bool) : CoreWord.Statement (.ringLock x0 x1 x2) := CoreWord.of_none rfl
theorem CoreWord.pilotLoopUpdate (x0 : Nat) (x1 : Nat) (x2 : Bool) (x3 : Int) (x4 : Int) : CoreWord.Statement (.pilotLoopUpdate x0 x1 x2 x3 x4) := CoreWord.of_none rfl
theorem CoreWord.toneCheck (x0 : Nat) (x1 : Nat) (x2 : Bool) (x3 : Nat) (x4 : Int) : CoreWord.Statement (.toneCheck x0 x1 x2 x3 x4) := CoreWord.of_none rfl
theorem CoreWord.laneQualified (x0 : Nat) (x1 : Nat) (x2 : Bool) (x3 : Nat) (x4 : Nat) : CoreWord.Statement (.laneQualified x0 x1 x2 x3 x4) := CoreWord.of_none rfl
theorem CoreWord.recalStart (x0 : Nat) (x1 : Nat) (x2 : Bool) : CoreWord.Statement (.recalStart x0 x1 x2) := CoreWord.of_none rfl
theorem CoreWord.recalComplete (x0 : Nat) (x1 : Nat) (x2 : Bool) (x3 : Bool) (x4 : Int) : CoreWord.Statement (.recalComplete x0 x1 x2 x3 x4) := CoreWord.of_none rfl
theorem CoreWord.sourceFail (x0 : Nat) (x1 : Nat) : CoreWord.Statement (.sourceFail x0 x1) := CoreWord.of_none rfl
theorem CoreWord.spareVerified (x0 : Nat) (x1 : Nat) : CoreWord.Statement (.spareVerified x0 x1) := CoreWord.of_none rfl
theorem CoreWord.cassetteFail (x0 : Nat) (x1 : Bool) : CoreWord.Statement (.cassetteFail x0 x1) := CoreWord.of_none rfl
theorem CoreWord.feedSwitchBack (x0 : Nat) (x1 : Nat) : CoreWord.Statement (.feedSwitchBack x0 x1) := CoreWord.of_none rfl
theorem CoreWord.cassetteInsert (x0 : Nat) : CoreWord.Statement (.cassetteInsert x0) := CoreWord.of_none rfl
theorem CoreWord.cassetteVerifyEnd (x0 : Nat) (x1 : Bool) : CoreWord.Statement (.cassetteVerifyEnd x0 x1) := CoreWord.of_none rfl
theorem CoreWord.cassetteSafe (x0 : Nat) : CoreWord.Statement (.cassetteSafe x0) := CoreWord.of_none rfl
theorem CoreWord.portUp (x0 : Nat) : CoreWord.Statement (.portUp x0) := CoreWord.of_none rfl
theorem CoreWord.portAttemptFail (x0 : Nat) : CoreWord.Statement (.portAttemptFail x0) := CoreWord.of_none rfl
theorem CoreWord.portRetry (x0 : Nat) : CoreWord.Statement (.portRetry x0) := CoreWord.of_none rfl
theorem CoreWord.recalNow : CoreWord.Statement .recalNow := CoreWord.of_none rfl
theorem CoreWord.retire : CoreWord.Statement .retire := CoreWord.of_none rfl
theorem CoreWord.restore : CoreWord.Statement .restore := CoreWord.of_none rfl
theorem CoreWord.sectionIncomplete (x0 : Nat) (x1 : Nat) : CoreWord.Statement (.sectionIncomplete x0 x1) := CoreWord.of_none rfl
theorem CoreWord.sectionActivate : CoreWord.Statement .sectionActivate := CoreWord.of_none rfl
theorem CoreWord.cancel (x0 : Nat) : CoreWord.Statement (.cancel x0) := CoreWord.of_none rfl
theorem CoreWord.activateNow (x0 : Nat) : CoreWord.Statement (.activateNow x0) := CoreWord.of_none rfl
theorem CoreWord.imageStoreWrite : CoreWord.Statement .imageStoreWrite := CoreWord.of_none rfl
theorem CoreWord.ping (x0 : Nat) (x1 : UMsg) : CoreWord.Statement (.ping x0 x1) := CoreWord.of_none rfl
theorem CoreWord.uafadaRead (x0 : Nat) (x1 : UMsg) : CoreWord.Statement (.uafadaRead x0 x1) := CoreWord.of_none rfl
theorem CoreWord.uafadaWrite (x0 : Nat) (x1 : UMsg) : CoreWord.Statement (.uafadaWrite x0 x1) := CoreWord.of_none rfl
theorem CoreWord.image (x0 : Nat) (x1 : UMsg) : CoreWord.Statement (.image x0 x1) := CoreWord.of_none rfl
theorem CoreWord.teardown (x0 : Nat) (x1 : UMsg) : CoreWord.Statement (.teardown x0 x1) := CoreWord.of_none rfl
theorem CoreWord.eventAck (x0 : Nat) (x1 : UMsg) : CoreWord.Statement (.eventAck x0 x1) := CoreWord.of_none rfl
theorem CoreWord.quote (x0 : Nat) (x1 : UMsg) : CoreWord.Statement (.quote x0 x1) := CoreWord.of_none rfl
theorem CoreWord.openSession (x0 : Nat) (x1 : UMsg) : CoreWord.Statement (.openSession x0 x1) := CoreWord.of_none rfl
theorem CoreWord.closeSession (x0 : Nat) (x1 : UMsg) : CoreWord.Statement (.closeSession x0 x1) := CoreWord.of_none rfl
theorem CoreWord.eventDatagramSend (x0 : Nat) : CoreWord.Statement (.eventDatagramSend x0) := CoreWord.of_none rfl
theorem CoreWord.eventResend (x0 : Nat) : CoreWord.Statement (.eventResend x0) := CoreWord.of_none rfl
theorem CoreWord.replyCacheExpiry (x0 : Nat) : CoreWord.Statement (.replyCacheExpiry x0) := CoreWord.of_none rfl
theorem CoreWord.sessionIdleTimeout (x0 : Nat) : CoreWord.Statement (.sessionIdleTimeout x0) := CoreWord.of_none rfl
theorem CoreWord.ethNeighborReply (x0 : Nat) (x1 : NbrReq) : CoreWord.Statement (.ethNeighborReply x0 x1) := CoreWord.of_none rfl
theorem CoreWord.rdmaWrite (x0 : Nat) (x1 : RoceReq) : CoreWord.Statement (.rdmaWrite x0 x1) := CoreWord.of_none rfl
theorem CoreWord.rdmaReadRequest (x0 : Nat) (x1 : RoceReq) : CoreWord.Statement (.rdmaReadRequest x0 x1) := CoreWord.of_none rfl
theorem CoreWord.rdmaReadResponse (x0 : Nat) (x1 : RoceReq) : CoreWord.Statement (.rdmaReadResponse x0 x1) := CoreWord.of_none rfl
theorem CoreWord.acknowledge (x0 : Nat) (x1 : RoceHead) (x2 : AckCode) : CoreWord.Statement (.acknowledge x0 x1 x2) := CoreWord.of_none rfl
theorem CoreWord.cnp (x0 : Nat) : CoreWord.Statement (.cnp x0) := CoreWord.of_none rfl
theorem CoreWord.rdmaUnsupportedOpcode (x0 : Nat) (x1 : RoceHead) : CoreWord.Statement (.rdmaUnsupportedOpcode x0 x1) := CoreWord.of_none rfl
theorem CoreWord.rdmaLocalTimeout (x0 : Nat) : CoreWord.Statement (.rdmaLocalTimeout x0) := CoreWord.of_none rfl
theorem CoreWord.rdmaRateRaise (x0 : Nat) : CoreWord.Statement (.rdmaRateRaise x0) := CoreWord.of_none rfl
theorem CoreWord.qpselWrite (x0 : (BitVec 64)) : CoreWord.Statement (.qpselWrite x0) := CoreWord.of_none rfl
theorem CoreWord.qpCommit (x0 : (BitVec 64)) : CoreWord.Statement (.qpCommit x0) := CoreWord.of_none rfl
theorem CoreWord.qpReset (x0 : (BitVec 64)) : CoreWord.Statement (.qpReset x0) := CoreWord.of_none rfl
theorem CoreWord.sensorSample (x0 : Sample) : CoreWord.Statement (.sensorSample x0) := CoreWord.of_none rfl
theorem CoreWord.thermalCeilingRise (x0 : Nat) : CoreWord.Statement (.thermalCeilingRise x0) := CoreWord.of_none rfl
theorem CoreWord.powerCeilingStep : CoreWord.Statement .powerCeilingStep := CoreWord.of_none rfl
theorem CoreWord.opPointStep (x0 : Nat) : CoreWord.Statement (.opPointStep x0) := CoreWord.of_none rfl
theorem CoreWord.thermalTrip (x0 : Nat) : CoreWord.Statement (.thermalTrip x0) := CoreWord.of_none rfl
theorem CoreWord.stackLimitRelease (x0 : Nat) (x1 : Nat) : CoreWord.Statement (.stackLimitRelease x0 x1) := CoreWord.of_none rfl
theorem CoreWord.restartQualified : CoreWord.Statement .restartQualified := CoreWord.of_none rfl
theorem CoreWord.thermRestart : CoreWord.Statement .thermRestart := CoreWord.of_none rfl
theorem CoreWord.nvmWindowOpen (x0 : Bool) : CoreWord.Statement (.nvmWindowOpen x0) := CoreWord.of_none rfl
theorem CoreWord.probeRoundStart (x0 : Nat) : CoreWord.Statement (.probeRoundStart x0) := CoreWord.of_none rfl
theorem CoreWord.probeHoldExpiry (x0 : Nat) (x1 : Nat) : CoreWord.Statement (.probeHoldExpiry x0 x1) := CoreWord.of_none rfl
theorem CoreWord.probeStart (x0 : Nat) (x1 : Nat) : CoreWord.Statement (.probeStart x0 x1) := CoreWord.of_none rfl
theorem CoreWord.probeComplete (x0 : Nat) (x1 : Nat) (x2 : (BitVec 32)) : CoreWord.Statement (.probeComplete x0 x1 x2) := CoreWord.of_none rfl
theorem CoreWord.stragglerPeriodEnd : CoreWord.Statement .stragglerPeriodEnd := CoreWord.of_none rfl
theorem CoreWord.clrFaults (x0 : Nat) : CoreWord.Statement (.clrFaults x0) := CoreWord.of_none rfl
theorem CoreWord.probeNow (x0 : Nat) : CoreWord.Statement (.probeNow x0) := CoreWord.of_none rfl
theorem CoreWord.fuseWrite : CoreWord.Statement .fuseWrite := CoreWord.of_none rfl
theorem CoreWord.closeAll : CoreWord.Statement .closeAll := CoreWord.of_none rfl
theorem CoreWord.edataRead : CoreWord.Statement .edataRead := CoreWord.of_none rfl
theorem CoreWord.cairnRecordWrite : CoreWord.Statement .cairnRecordWrite := CoreWord.of_none rfl
theorem CoreWord.cairnWin3Read : CoreWord.Statement .cairnWin3Read := CoreWord.of_none rfl
theorem CoreWord.ringClearSlot : CoreWord.Statement .ringClearSlot := CoreWord.of_none rfl
theorem CoreWord.bladeMate : CoreWord.Statement .bladeMate := CoreWord.of_none rfl
theorem CoreWord.modulePowerUp : CoreWord.Statement .modulePowerUp := CoreWord.of_none rfl
theorem CoreWord.selftestComplete (x0 : Nat) (x1 : SelfTest) : CoreWord.Statement (.selftestComplete x0 x1) := CoreWord.of_none rfl
theorem CoreWord.inputLoss (x0 : LossCause) : CoreWord.Statement (.inputLoss x0) := CoreWord.of_none rfl
theorem CoreWord.inputRestore : CoreWord.Statement .inputRestore := CoreWord.of_none rfl
theorem CoreWord.managementDomainDown : CoreWord.Statement .managementDomainDown := CoreWord.of_none rfl
theorem CoreWord.hubReset : CoreWord.Statement .hubReset := CoreWord.of_none rfl
theorem CoreWord.powerDown : CoreWord.Statement .powerDown := CoreWord.of_none rfl
theorem CoreWord.bivouac (x0 : Bool) (x1 : Bool) : CoreWord.Statement (.bivouac x0 x1) := CoreWord.of_none rfl
theorem CoreWord.resume : CoreWord.Statement .resume := CoreWord.of_none rfl
theorem CoreWord.cassRemove (x0 : Nat) : CoreWord.Statement (.cassRemove x0) := CoreWord.of_none rfl
theorem CoreWord.fwDataWrite (x0 : (BitVec 64)) : CoreWord.Statement (.fwDataWrite x0) := CoreWord.of_none rfl
theorem CoreWord.fwCancel : CoreWord.Statement .fwCancel := CoreWord.of_none rfl
theorem CoreWord.fwSwitch : CoreWord.Statement .fwSwitch := CoreWord.of_none rfl
theorem CoreWord.fwVerify : CoreWord.Statement .fwVerify := CoreWord.of_none rfl
theorem CoreWord.fwErase : CoreWord.Statement .fwErase := CoreWord.of_none rfl
theorem CoreWord.fwEraseComplete : CoreWord.Statement .fwEraseComplete := CoreWord.of_none rfl
theorem CoreWord.firmwareSwitch : CoreWord.Statement .firmwareSwitch := CoreWord.of_none rfl
theorem CoreWord.newFirmwareStart : CoreWord.Statement .newFirmwareStart := CoreWord.of_none rfl
theorem CoreWord.readClear (x0 : Nat) : CoreWord.Statement (.readClear x0) := CoreWord.of_none rfl
theorem CoreWord.registerWrite (x0 : Writer) (x1 : Nat) (x2 : (BitVec 64)) : CoreWord.Statement (.registerWrite x0 x1 x2) := CoreWord.of_none rfl
theorem CoreWord.ethLinkChange (x0 : Nat) (x1 : Bool) : CoreWord.Statement (.ethLinkChange x0 x1) := CoreWord.of_none rfl
theorem CoreWord.ptpTransmitterNotHeard (x0 : Nat) : CoreWord.Statement (.ptpTransmitterNotHeard x0) := CoreWord.of_none rfl
theorem CoreWord.uafadaUndefinedType (x0 : Nat) (x1 : UMsg) : CoreWord.Statement (.uafadaUndefinedType x0 x1) := CoreWord.of_none rfl
theorem CoreWord.ethFrameDiscard (x0 : Nat) : CoreWord.Statement (.ethFrameDiscard x0) := CoreWord.of_none rfl

end Sys2Proof.Laws
end

