-- ==== Sys2Proof/Laws/Reports.lean ====
section
/-! SUPPORT. What reporting can do (R237, R346, R409, R410): a record, its datagram and a job fault touch the cairn log, the ring of events
and their own counters, and nothing else. -/
namespace Sys2Proof.Machine
open Sys2Proof

/-- The second state has records and events that the first has not, and is otherwise the same. -/
structure State.Logged (s t : State) : Prop where
  pending : t.pending = s.pending
  clk : t.clk = s.clk
  free : t.free = s.free
  out : t.out = s.out
  parts : t.parts = s.parts
  fuse : t.fuse = s.fuse
  dom : t.dom = s.dom
  time : t.time = s.time
  core : t.core = s.core
  mem : t.mem = s.mem
  upd : t.upd = s.upd
  link : t.link = s.link
  rc : t.rc = s.rc
  ep : t.ep = s.ep
  copy : t.copy = s.copy
  hub : t.hub = s.hub
  opt : t.opt = s.opt
  topo : t.topo = s.topo
  self : t.self = s.self
  sec : t.sec = s.sec
  svc : t.svc = s.svc
  eth : { t.eth with events := s.eth.events, nextSeq := s.eth.nextSeq } = s.eth
  reg : ∀ a, a ≠ A.cairnCounts → a ≠ A.cairnEvents → a ≠ A.evStat → t.reg a = s.reg a

theorem State.Logged.refl (s : State) : s.Logged s := by constructor <;> intros <;> rfl

theorem State.Logged.trans {s t u : State} (h : s.Logged t) (k : t.Logged u) : s.Logged u where
  pending := k.pending.trans h.pending
  clk := k.clk.trans h.clk
  free := k.free.trans h.free
  out := k.out.trans h.out
  parts := k.parts.trans h.parts
  fuse := k.fuse.trans h.fuse
  dom := k.dom.trans h.dom
  time := k.time.trans h.time
  core := k.core.trans h.core
  mem := k.mem.trans h.mem
  upd := k.upd.trans h.upd
  link := k.link.trans h.link
  rc := k.rc.trans h.rc
  ep := k.ep.trans h.ep
  copy := k.copy.trans h.copy
  hub := k.hub.trans h.hub
  opt := k.opt.trans h.opt
  topo := k.topo.trans h.topo
  self := k.self.trans h.self
  sec := k.sec.trans h.sec
  svc := k.svc.trans h.svc
  eth := by rw [← h.eth, ← k.eth]
  reg a x y z := (k.reg a x y z).trans (h.reg a x y z)

theorem State.Logged.of_bump (s : State) {a : Nat} (hi lo k : Nat) (h : a = A.cairnCounts ∨ a = A.evStat) : s.Logged (s.bump a hi lo k) where
  pending := rfl
  clk := rfl
  free := rfl
  out := rfl
  parts := rfl
  fuse := rfl
  dom := rfl
  time := rfl
  core := rfl
  mem := rfl
  upd := rfl
  link := rfl
  rc := rfl
  ep := rfl
  copy := rfl
  hub := rfl
  opt := rfl
  topo := rfl
  self := rfl
  sec := rfl
  svc := rfl
  eth := rfl
  reg b x _ z := by rw [State.reg_bump, if_neg]; rcases h with rfl | rfl <;> assumption

theorem State.acceptRec_logged (s : State) (n : Note) : s.Logged (s.acceptRec n) := by constructor <;> intros <;> rfl

theorem State.enterRec_logged (s : State) (n : Note) : s.Logged (s.enterRec n) := by
  unfold State.enterRec
  dsimp only
  split
  · exact s.acceptRec_logged n
  · constructor <;> intros <;> rfl

theorem State.acceptOverflow_logged (s : State) : s.Logged s.acceptOverflow := by
  unfold State.acceptOverflow
  dsimp only
  split
  · exact State.Logged.refl s
  · constructor <;> intros <;> try rfl
    exact State.reg_setReg_ne _ _ (by assumption)

/-- What handing a record to the cairn controller can do (R409, R410). -/
theorem State.cairnAccept_logged (s : State) (n : Note) : s.Logged (s.cairnAccept n).1 := by
  have drop (t : State) (k : Nat) : t.Logged { t.bump A.cairnCounts 47 32 1 with cairn := { t.cairn with dropped := k } } := by
    have h := State.Logged.of_bump t 47 32 1 (a := A.cairnCounts) (.inl rfl)
    exact { h with }
  unfold State.cairnAccept
  dsimp only
  split
  · exact State.Logged.refl s
  · split
    · exact drop s _
    · split
      · exact s.acceptOverflow_logged.trans (drop _ _)
      · exact s.acceptOverflow_logged.trans (State.enterRec_logged _ n)

theorem State.note_logged (s : State) (n : Note) : s.Logged (s.note n) := s.cairnAccept_logged n

/-- What an event's entry into the ring can do (R347). -/
theorem State.pushEvent_logged (s : State) (type : Nat) (body : List W64) : s.Logged (s.pushEvent type body) := by
  unfold State.pushEvent
  dsimp only
  split
  · exact { State.Logged.of_bump s 15 0 1 (a := A.evStat) (.inr rfl) with }
  · constructor <;> intros <;> rfl

/-- What a report can do (R346, R409). -/
theorem State.report_logged (s : State) (n : Note) : s.Logged (s.report n) := by
  have h := s.cairnAccept_logged n
  unfold State.report
  split <;> rename_i e <;> rw [e] at h
  · exact h.trans (State.pushEvent_logged _ _ _)
  · exact h

/-- What a job fault can do (R237): nothing for tag 0; else bit k of EP.JOBFAULT, a record and an event. -/
theorem State.jobFault_logged (s : State) (index cause part tag peer addr p2 : Nat) :
    (if tag = 0 then s else s.setBit A.epJobfault part).Logged (s.jobFault index cause part tag peer addr p2) := by
  unfold State.jobFault
  dsimp only
  split
  · exact State.Logged.refl s
  · split
    · exact State.note_logged _ _
    · exact (State.note_logged _ _).trans (State.pushEvent_logged _ _ _)

@[simp] theorem State.note_pending (s : State) (n : Note) : (s.note n).pending = s.pending := (s.note_logged n).pending
@[simp] theorem State.note_clk (s : State) (n : Note) : (s.note n).clk = s.clk := (s.note_logged n).clk
@[simp] theorem State.note_free (s : State) (n : Note) : (s.note n).free = s.free := (s.note_logged n).free
@[simp] theorem State.note_out (s : State) (n : Note) : (s.note n).out = s.out := (s.note_logged n).out
@[simp] theorem State.note_parts (s : State) (n : Note) : (s.note n).parts = s.parts := (s.note_logged n).parts
@[simp] theorem State.note_fuse (s : State) (n : Note) : (s.note n).fuse = s.fuse := (s.note_logged n).fuse
@[simp] theorem State.note_dom (s : State) (n : Note) : (s.note n).dom = s.dom := (s.note_logged n).dom
@[simp] theorem State.note_time (s : State) (n : Note) : (s.note n).time = s.time := (s.note_logged n).time
@[simp] theorem State.note_core (s : State) (n : Note) : (s.note n).core = s.core := (s.note_logged n).core
@[simp] theorem State.note_mem (s : State) (n : Note) : (s.note n).mem = s.mem := (s.note_logged n).mem
@[simp] theorem State.note_upd (s : State) (n : Note) : (s.note n).upd = s.upd := (s.note_logged n).upd
@[simp] theorem State.note_link (s : State) (n : Note) : (s.note n).link = s.link := (s.note_logged n).link
@[simp] theorem State.note_rc (s : State) (n : Note) : (s.note n).rc = s.rc := (s.note_logged n).rc
@[simp] theorem State.note_ep (s : State) (n : Note) : (s.note n).ep = s.ep := (s.note_logged n).ep
@[simp] theorem State.note_copy (s : State) (n : Note) : (s.note n).copy = s.copy := (s.note_logged n).copy
@[simp] theorem State.note_hub (s : State) (n : Note) : (s.note n).hub = s.hub := (s.note_logged n).hub
@[simp] theorem State.note_opt (s : State) (n : Note) : (s.note n).opt = s.opt := (s.note_logged n).opt
@[simp] theorem State.note_topo (s : State) (n : Note) : (s.note n).topo = s.topo := (s.note_logged n).topo
@[simp] theorem State.note_self (s : State) (n : Note) : (s.note n).self = s.self := (s.note_logged n).self
@[simp] theorem State.note_sec (s : State) (n : Note) : (s.note n).sec = s.sec := (s.note_logged n).sec
@[simp] theorem State.note_svc (s : State) (n : Note) : (s.note n).svc = s.svc := (s.note_logged n).svc
theorem State.reg_note (s : State) (n : Note) {r : Nat} (h : r ≠ A.cairnCounts) (k : r ≠ A.cairnEvents) (l : r ≠ A.evStat) :
    (s.note n).reg r = s.reg r := (s.note_logged n).reg r h k l

@[simp] theorem State.report_pending (s : State) (n : Note) : (s.report n).pending = s.pending := (s.report_logged n).pending
@[simp] theorem State.report_clk (s : State) (n : Note) : (s.report n).clk = s.clk := (s.report_logged n).clk
@[simp] theorem State.report_free (s : State) (n : Note) : (s.report n).free = s.free := (s.report_logged n).free
@[simp] theorem State.report_out (s : State) (n : Note) : (s.report n).out = s.out := (s.report_logged n).out
@[simp] theorem State.report_parts (s : State) (n : Note) : (s.report n).parts = s.parts := (s.report_logged n).parts
@[simp] theorem State.report_fuse (s : State) (n : Note) : (s.report n).fuse = s.fuse := (s.report_logged n).fuse
@[simp] theorem State.report_dom (s : State) (n : Note) : (s.report n).dom = s.dom := (s.report_logged n).dom
@[simp] theorem State.report_time (s : State) (n : Note) : (s.report n).time = s.time := (s.report_logged n).time
@[simp] theorem State.report_core (s : State) (n : Note) : (s.report n).core = s.core := (s.report_logged n).core
@[simp] theorem State.report_mem (s : State) (n : Note) : (s.report n).mem = s.mem := (s.report_logged n).mem
@[simp] theorem State.report_upd (s : State) (n : Note) : (s.report n).upd = s.upd := (s.report_logged n).upd
@[simp] theorem State.report_link (s : State) (n : Note) : (s.report n).link = s.link := (s.report_logged n).link
@[simp] theorem State.report_rc (s : State) (n : Note) : (s.report n).rc = s.rc := (s.report_logged n).rc
@[simp] theorem State.report_ep (s : State) (n : Note) : (s.report n).ep = s.ep := (s.report_logged n).ep
@[simp] theorem State.report_copy (s : State) (n : Note) : (s.report n).copy = s.copy := (s.report_logged n).copy
@[simp] theorem State.report_hub (s : State) (n : Note) : (s.report n).hub = s.hub := (s.report_logged n).hub
@[simp] theorem State.report_opt (s : State) (n : Note) : (s.report n).opt = s.opt := (s.report_logged n).opt
@[simp] theorem State.report_topo (s : State) (n : Note) : (s.report n).topo = s.topo := (s.report_logged n).topo
@[simp] theorem State.report_self (s : State) (n : Note) : (s.report n).self = s.self := (s.report_logged n).self
@[simp] theorem State.report_sec (s : State) (n : Note) : (s.report n).sec = s.sec := (s.report_logged n).sec
@[simp] theorem State.report_svc (s : State) (n : Note) : (s.report n).svc = s.svc := (s.report_logged n).svc
theorem State.reg_report (s : State) (n : Note) {r : Nat} (h : r ≠ A.cairnCounts) (k : r ≠ A.cairnEvents) (l : r ≠ A.evStat) :
    (s.report n).reg r = s.reg r := (s.report_logged n).reg r h k l

@[simp] theorem State.jobFault_pending (s : State) (i c p t e a x : Nat) : (s.jobFault i c p t e a x).pending = s.pending := by
  have h := (s.jobFault_logged i c p t e a x).pending
  split at h <;> exact h
@[simp] theorem State.jobFault_clk (s : State) (i c p t e a x : Nat) : (s.jobFault i c p t e a x).clk = s.clk := by
  have h := (s.jobFault_logged i c p t e a x).clk
  split at h <;> exact h
@[simp] theorem State.jobFault_free (s : State) (i c p t e a x : Nat) : (s.jobFault i c p t e a x).free = s.free := by
  have h := (s.jobFault_logged i c p t e a x).free
  split at h <;> exact h
@[simp] theorem State.jobFault_out (s : State) (i c p t e a x : Nat) : (s.jobFault i c p t e a x).out = s.out := by
  have h := (s.jobFault_logged i c p t e a x).out
  split at h <;> exact h
@[simp] theorem State.jobFault_parts (s : State) (i c p t e a x : Nat) : (s.jobFault i c p t e a x).parts = s.parts := by
  have h := (s.jobFault_logged i c p t e a x).parts
  split at h <;> exact h
@[simp] theorem State.jobFault_fuse (s : State) (i c p t e a x : Nat) : (s.jobFault i c p t e a x).fuse = s.fuse := by
  have h := (s.jobFault_logged i c p t e a x).fuse
  split at h <;> exact h
@[simp] theorem State.jobFault_dom (s : State) (i c p t e a x : Nat) : (s.jobFault i c p t e a x).dom = s.dom := by
  have h := (s.jobFault_logged i c p t e a x).dom
  split at h <;> exact h
@[simp] theorem State.jobFault_time (s : State) (i c p t e a x : Nat) : (s.jobFault i c p t e a x).time = s.time := by
  have h := (s.jobFault_logged i c p t e a x).time
  split at h <;> exact h
@[simp] theorem State.jobFault_core (s : State) (i c p t e a x : Nat) : (s.jobFault i c p t e a x).core = s.core := by
  have h := (s.jobFault_logged i c p t e a x).core
  split at h <;> exact h
@[simp] theorem State.jobFault_mem (s : State) (i c p t e a x : Nat) : (s.jobFault i c p t e a x).mem = s.mem := by
  have h := (s.jobFault_logged i c p t e a x).mem
  split at h <;> exact h
@[simp] theorem State.jobFault_upd (s : State) (i c p t e a x : Nat) : (s.jobFault i c p t e a x).upd = s.upd := by
  have h := (s.jobFault_logged i c p t e a x).upd
  split at h <;> exact h
@[simp] theorem State.jobFault_link (s : State) (i c p t e a x : Nat) : (s.jobFault i c p t e a x).link = s.link := by
  have h := (s.jobFault_logged i c p t e a x).link
  split at h <;> exact h
@[simp] theorem State.jobFault_rc (s : State) (i c p t e a x : Nat) : (s.jobFault i c p t e a x).rc = s.rc := by
  have h := (s.jobFault_logged i c p t e a x).rc
  split at h <;> exact h
@[simp] theorem State.jobFault_ep (s : State) (i c p t e a x : Nat) : (s.jobFault i c p t e a x).ep = s.ep := by
  have h := (s.jobFault_logged i c p t e a x).ep
  split at h <;> exact h
@[simp] theorem State.jobFault_copy (s : State) (i c p t e a x : Nat) : (s.jobFault i c p t e a x).copy = s.copy := by
  have h := (s.jobFault_logged i c p t e a x).copy
  split at h <;> exact h
@[simp] theorem State.jobFault_hub (s : State) (i c p t e a x : Nat) : (s.jobFault i c p t e a x).hub = s.hub := by
  have h := (s.jobFault_logged i c p t e a x).hub
  split at h <;> exact h
@[simp] theorem State.jobFault_opt (s : State) (i c p t e a x : Nat) : (s.jobFault i c p t e a x).opt = s.opt := by
  have h := (s.jobFault_logged i c p t e a x).opt
  split at h <;> exact h
@[simp] theorem State.jobFault_topo (s : State) (i c p t e a x : Nat) : (s.jobFault i c p t e a x).topo = s.topo := by
  have h := (s.jobFault_logged i c p t e a x).topo
  split at h <;> exact h
@[simp] theorem State.jobFault_self (s : State) (i c p t e a x : Nat) : (s.jobFault i c p t e a x).self = s.self := by
  have h := (s.jobFault_logged i c p t e a x).self
  split at h <;> exact h
@[simp] theorem State.jobFault_sec (s : State) (i c p t e a x : Nat) : (s.jobFault i c p t e a x).sec = s.sec := by
  have h := (s.jobFault_logged i c p t e a x).sec
  split at h <;> exact h
@[simp] theorem State.jobFault_svc (s : State) (i c p t e a x : Nat) : (s.jobFault i c p t e a x).svc = s.svc := by
  have h := (s.jobFault_logged i c p t e a x).svc
  split at h <;> exact h

/-! ### Exceptions (R98, R126) -/

/-- Taking an exception changes no core but its own, which faults where it was RUNNING or WAITING (R97, R98). -/
theorem State.core_takeException (s : State) (n : Nat) (cause : Cause) (pc : Nat) :
    (s.takeException n cause pc).core
      = if (s.coreAt n).st = .running ∨ (s.coreAt n).st = .waiting then (s.setCore n (s.coreAt n).toFaulted).core else s.core := by
  unfold State.takeException
  dsimp only
  split
  · split <;> simp
  · rfl

theorem State.coreAt_takeException (s : State) (n : Nat) (cause : Cause) (pc m : Nat) :
    (s.takeException n cause pc).coreAt m
      = if m = n ∧ ((s.coreAt n).st = .running ∨ (s.coreAt n).st = .waiting) then (s.coreAt n).toFaulted else s.coreAt m := by
  unfold State.coreAt
  rw [State.core_takeException]
  split
  · rename_i h
    have e := s.coreAt_setCore n m (s.coreAt n).toFaulted
    unfold State.coreAt at e h ⊢
    rw [e]
    split <;> simp_all
  · rename_i h
    simp [State.coreAt] at h
    simp [h]

@[simp] theorem State.takeException_pending (s : State) (n : Nat) (c : Cause) (pc : Nat) : (s.takeException n c pc).pending = s.pending := by
  unfold State.takeException; dsimp only; split
  · split <;> simp
  · rfl
@[simp] theorem State.takeException_clk (s : State) (n : Nat) (c : Cause) (pc : Nat) : (s.takeException n c pc).clk = s.clk := by
  unfold State.takeException; dsimp only; split
  · split <;> simp
  · rfl
@[simp] theorem State.takeException_free (s : State) (n : Nat) (c : Cause) (pc : Nat) : (s.takeException n c pc).free = s.free := by
  unfold State.takeException; dsimp only; split
  · split <;> simp
  · rfl
@[simp] theorem State.takeException_out (s : State) (n : Nat) (c : Cause) (pc : Nat) : (s.takeException n c pc).out = s.out := by
  unfold State.takeException; dsimp only; split
  · split <;> simp
  · rfl
@[simp] theorem State.takeException_parts (s : State) (n : Nat) (c : Cause) (pc : Nat) : (s.takeException n c pc).parts = s.parts := by
  unfold State.takeException; dsimp only; split
  · split <;> simp
  · rfl
@[simp] theorem State.takeException_fuse (s : State) (n : Nat) (c : Cause) (pc : Nat) : (s.takeException n c pc).fuse = s.fuse := by
  unfold State.takeException; dsimp only; split
  · split <;> simp
  · rfl
@[simp] theorem State.takeException_dom (s : State) (n : Nat) (c : Cause) (pc : Nat) : (s.takeException n c pc).dom = s.dom := by
  unfold State.takeException; dsimp only; split
  · split <;> simp
  · rfl
@[simp] theorem State.takeException_time (s : State) (n : Nat) (c : Cause) (pc : Nat) : (s.takeException n c pc).time = s.time := by
  unfold State.takeException; dsimp only; split
  · split <;> simp
  · rfl
@[simp] theorem State.takeException_mem (s : State) (n : Nat) (c : Cause) (pc : Nat) : (s.takeException n c pc).mem = s.mem := by
  unfold State.takeException; dsimp only; split
  · split <;> simp
  · rfl
@[simp] theorem State.takeException_upd (s : State) (n : Nat) (c : Cause) (pc : Nat) : (s.takeException n c pc).upd = s.upd := by
  unfold State.takeException; dsimp only; split
  · split <;> simp
  · rfl
@[simp] theorem State.takeException_link (s : State) (n : Nat) (c : Cause) (pc : Nat) : (s.takeException n c pc).link = s.link := by
  unfold State.takeException; dsimp only; split
  · split <;> simp
  · rfl
@[simp] theorem State.takeException_rc (s : State) (n : Nat) (c : Cause) (pc : Nat) : (s.takeException n c pc).rc = s.rc := by
  unfold State.takeException; dsimp only; split
  · split <;> simp
  · rfl
@[simp] theorem State.takeException_ep (s : State) (n : Nat) (c : Cause) (pc : Nat) : (s.takeException n c pc).ep = s.ep := by
  unfold State.takeException; dsimp only; split
  · split <;> simp
  · rfl
@[simp] theorem State.takeException_copy (s : State) (n : Nat) (c : Cause) (pc : Nat) : (s.takeException n c pc).copy = s.copy := by
  unfold State.takeException; dsimp only; split
  · split <;> simp
  · rfl
@[simp] theorem State.takeException_hub (s : State) (n : Nat) (c : Cause) (pc : Nat) : (s.takeException n c pc).hub = s.hub := by
  unfold State.takeException; dsimp only; split
  · split <;> simp
  · rfl
@[simp] theorem State.takeException_opt (s : State) (n : Nat) (c : Cause) (pc : Nat) : (s.takeException n c pc).opt = s.opt := by
  unfold State.takeException; dsimp only; split
  · split <;> simp
  · rfl
@[simp] theorem State.takeException_topo (s : State) (n : Nat) (c : Cause) (pc : Nat) : (s.takeException n c pc).topo = s.topo := by
  unfold State.takeException; dsimp only; split
  · split <;> simp
  · rfl
@[simp] theorem State.takeException_self (s : State) (n : Nat) (c : Cause) (pc : Nat) : (s.takeException n c pc).self = s.self := by
  unfold State.takeException; dsimp only; split
  · split <;> simp
  · rfl
@[simp] theorem State.takeException_sec (s : State) (n : Nat) (c : Cause) (pc : Nat) : (s.takeException n c pc).sec = s.sec := by
  unfold State.takeException; dsimp only; split
  · split <;> simp
  · rfl
@[simp] theorem State.takeException_svc (s : State) (n : Nat) (c : Cause) (pc : Nat) : (s.takeException n c pc).svc = s.svc := by
  unfold State.takeException; dsimp only; split
  · split <;> simp
  · rfl

end Sys2Proof.Machine
end

