-- ==== Sys2Proof/Laws/Tables.lean ====
section
/-! SUPPORT. Reads after writes of the module's numbered records: what was put is read, and every other number reads as before. -/
namespace Sys2Proof.Machine
open Sys2Proof

theorem State.portAt_setPort (s : State) (p k : Nat) (x : Port) : (s.setPort p x).portAt k = if k = p then x else s.portAt k :=
  Tab.get_put _ _ _ _ _

@[simp] theorem State.portAt_setPort_self (s : State) (p : Nat) (x : Port) : (s.setPort p x).portAt p = x := by
  simp [State.portAt_setPort]

theorem State.portAt_setPort_ne (s : State) {p k : Nat} (x : Port) (h : k ≠ p) : (s.setPort p x).portAt k = s.portAt k := by
  simp [State.portAt_setPort, h]

theorem State.srcAt_setSrc (s : State) (e k : Nat) (x : SrcPair) : (s.setSrc e x).srcAt k = if k = e then x else s.srcAt k :=
  Tab.get_put _ _ _ _ _

@[simp] theorem State.srcAt_setSrc_self (s : State) (e : Nat) (x : SrcPair) : (s.setSrc e x).srcAt e = x := by
  simp [State.srcAt_setSrc]

theorem State.srcAt_setSrc_ne (s : State) {e k : Nat} (x : SrcPair) (h : k ≠ e) : (s.setSrc e x).srcAt k = s.srcAt k := by
  simp [State.srcAt_setSrc, h]

theorem State.dstAt_setDst (s : State) (e k : Nat) (x : DstPair) : (s.setDst e x).dstAt k = if k = e then x else s.dstAt k :=
  Tab.get_put _ _ _ _ _

@[simp] theorem State.dstAt_setDst_self (s : State) (e : Nat) (x : DstPair) : (s.setDst e x).dstAt e = x := by
  simp [State.dstAt_setDst]

theorem State.dstAt_setDst_ne (s : State) {e k : Nat} (x : DstPair) (h : k ≠ e) : (s.setDst e x).dstAt k = s.dstAt k := by
  simp [State.dstAt_setDst, h]

theorem State.copyAt_setCopy (s : State) (d k : Nat) (x : CopyEng) : (s.setCopy d x).copyAt k = if k = d then x else s.copyAt k :=
  Tab.get_put _ _ _ _ _

@[simp] theorem State.copyAt_setCopy_self (s : State) (d : Nat) (x : CopyEng) : (s.setCopy d x).copyAt d = x := by
  simp [State.copyAt_setCopy]

theorem State.copyAt_setCopy_ne (s : State) {d k : Nat} (x : CopyEng) (h : k ≠ d) : (s.setCopy d x).copyAt k = s.copyAt k := by
  simp [State.copyAt_setCopy, h]

theorem State.linkAt_setLink (s : State) (d k : Nat) (x : Link) : (s.setLink d x).linkAt k = if k = d then x else s.linkAt k :=
  Tab.get_put _ _ _ _ _

@[simp] theorem State.linkAt_setLink_self (s : State) (d : Nat) (x : Link) : (s.setLink d x).linkAt d = x := by
  simp [State.linkAt_setLink]

theorem State.linkAt_setLink_ne (s : State) {d k : Nat} (x : Link) (h : k ≠ d) : (s.setLink d x).linkAt k = s.linkAt k := by
  simp [State.linkAt_setLink, h]

theorem State.memAt_setMem (s : State) (d k : Nat) (x : MemDie) : (s.setMem d x).memAt k = if k = d then x else s.memAt k :=
  Tab.get_put _ _ _ _ _

@[simp] theorem State.memAt_setMem_self (s : State) (d : Nat) (x : MemDie) : (s.setMem d x).memAt d = x := by
  simp [State.memAt_setMem]

theorem State.memAt_setMem_ne (s : State) {d k : Nat} (x : MemDie) (h : k ≠ d) : (s.setMem d x).memAt k = s.memAt k := by
  simp [State.memAt_setMem, h]

theorem State.qpAt_setQp (s : State) (n k : Nat) (x : Qp) : (s.setQp n x).qpAt k = if k = n then x else s.qpAt k :=
  Tab.get_put _ _ _ _ _

@[simp] theorem State.qpAt_setQp_self (s : State) (n : Nat) (x : Qp) : (s.setQp n x).qpAt n = x := by
  simp [State.qpAt_setQp]

theorem State.qpAt_setQp_ne (s : State) {n k : Nat} (x : Qp) (h : k ≠ n) : (s.setQp n x).qpAt k = s.qpAt k := by
  simp [State.qpAt_setQp, h]

theorem State.opAt_setOp (s : State) (d k : Nat) (x : OpPoint) : (s.setOp d x).opAt k = if k = d then x else s.opAt k :=
  Tab.get_put _ _ _ _ _

@[simp] theorem State.opAt_setOp_self (s : State) (d : Nat) (x : OpPoint) : (s.setOp d x).opAt d = x := by
  simp [State.opAt_setOp]

theorem State.opAt_setOp_ne (s : State) {d k : Nat} (x : OpPoint) (h : k ≠ d) : (s.setOp d x).opAt k = s.opAt k := by
  simp [State.opAt_setOp, h]

theorem State.nbrAt_setNbr (s : State) (p k : Nat) (x : Nbr) : (s.setNbr p x).nbrAt k = if k = p then x else s.nbrAt k :=
  Tab.get_put _ _ _ _ _

@[simp] theorem State.nbrAt_setNbr_self (s : State) (p : Nat) (x : Nbr) : (s.setNbr p x).nbrAt p = x := by
  simp [State.nbrAt_setNbr]

theorem State.nbrAt_setNbr_ne (s : State) {p k : Nat} (x : Nbr) (h : k ≠ p) : (s.setNbr p x).nbrAt k = s.nbrAt k := by
  simp [State.nbrAt_setNbr, h]

theorem State.updAt_setUpd (s : State) (d k : Nat) (x : UpdDie) : (s.setUpd d x).updAt k = if k = d then x else s.updAt k :=
  Tab.get_put _ _ _ _ _

@[simp] theorem State.updAt_setUpd_self (s : State) (d : Nat) (x : UpdDie) : (s.setUpd d x).updAt d = x := by
  simp [State.updAt_setUpd]

theorem State.updAt_setUpd_ne (s : State) {d k : Nat} (x : UpdDie) (h : k ≠ d) : (s.setUpd d x).updAt k = s.updAt k := by
  simp [State.updAt_setUpd, h]

theorem State.cassAt_setCass (s : State) (c k : Nat) (x : Cass) : (s.setCass c x).cassAt k = if k = c then x else s.cassAt k :=
  Tab.get_put _ _ _ _ _

@[simp] theorem State.cassAt_setCass_self (s : State) (c : Nat) (x : Cass) : (s.setCass c x).cassAt c = x := by
  simp [State.cassAt_setCass]

theorem State.cassAt_setCass_ne (s : State) {c k : Nat} (x : Cass) (h : k ≠ c) : (s.setCass c x).cassAt k = s.cassAt k := by
  simp [State.cassAt_setCass, h]

theorem State.bringAt_setBring (s : State) (p k : Nat) (x : Bring) : (s.setBring p x).bringAt k = if k = p then x else s.bringAt k :=
  Tab.get_put _ _ _ _ _

@[simp] theorem State.bringAt_setBring_self (s : State) (p : Nat) (x : Bring) : (s.setBring p x).bringAt p = x := by
  simp [State.bringAt_setBring]

theorem State.bringAt_setBring_ne (s : State) {p k : Nat} (x : Bring) (h : k ≠ p) : (s.setBring p x).bringAt k = s.bringAt k := by
  simp [State.bringAt_setBring, h]

theorem State.sensorAt_setSensor (s : State) (i k : Nat) (x : Sensor) : (s.setSensor i x).sensorAt k = if k = i then x else s.sensorAt k :=
  Tab.get_put _ _ _ _ _

@[simp] theorem State.sensorAt_setSensor_self (s : State) (i : Nat) (x : Sensor) : (s.setSensor i x).sensorAt i = x := by
  simp [State.sensorAt_setSensor]

theorem State.sensorAt_setSensor_ne (s : State) {i k : Nat} (x : Sensor) (h : k ≠ i) : (s.setSensor i x).sensorAt k = s.sensorAt k := by
  simp [State.sensorAt_setSensor, h]

theorem State.ptpSide_setPtpSide (s : State) (e k : Nat) (x : PtpSide) : (s.setPtpSide e x).ptpSide k = if k = e then x else s.ptpSide k :=
  Tab.get_put _ _ _ _ _

@[simp] theorem State.ptpSide_setPtpSide_self (s : State) (e : Nat) (x : PtpSide) : (s.setPtpSide e x).ptpSide e = x := by
  simp [State.ptpSide_setPtpSide]

theorem State.ptpSide_setPtpSide_ne (s : State) {e k : Nat} (x : PtpSide) (h : k ≠ e) : (s.setPtpSide e x).ptpSide k = s.ptpSide k := by
  simp [State.ptpSide_setPtpSide, h]

/-- Lanes by position, lane and direction. -/
theorem State.laneAt_setLane (s : State) (q l r k : Nat) (d e : Bool) (x : Lane) :
    (s.setLane q l d x).laneAt r k e = if ringOf r k e = ringOf q l d then x else s.laneAt r k e :=
  Tab.get_put _ _ _ _ _

@[simp] theorem State.laneAt_setLane_self (s : State) (q l : Nat) (d : Bool) (x : Lane) : (s.setLane q l d x).laneAt q l d = x := by
  simp [State.laneAt_setLane]

end Sys2Proof.Machine
end

