-- ==== Sys2Proof/Tests/Slice0.lean ====
section
/-! SUPPORT. Tests: commands outside their form, words of the encoding tables, the worked examples of the spec, and for every statement
with hypotheses a state and operands that meet those of each of its clauses. -/
namespace Sys2Proof.Tests
open Sys2Proof Sys2Proof.Machine
set_option maxRecDepth 100000
set_option Elab.async false

/-! ### Small states and operands, by the part of the module that they are about -/
namespace Base
def r (gneg : Bool) (guard d a b c fmt rm x idx : Nat) (half : Bool := false) (lm1 : Nat := 0) : RF :=
  { gneg := gneg, guard := BitVec.ofNat 3 guard, d := BitVec.ofNat 5 d, a := BitVec.ofNat 5 a, b := BitVec.ofNat 5 b, c := BitVec.ofNat 5 c
    fmt := BitVec.ofNat 6 fmt, rm := BitVec.ofNat 2 rm, x := BitVec.ofNat 5 x, idx := BitVec.ofNat 5 idx, half := half, lm1 := BitVec.ofNat 6 lm1, res := 0 }
def r0 := r false 0 3 2 3 0 0 0 0 0
def base : State := { State.reset with clk := 3000000000, dom := { mgmt := true, hub := true, mem := 15, core := 15 } }
def fl (k : Nat) : W32 := BitVec.ofNat 32 ([0x3F800000, 0x40490FDB, 0xC0000000, 0x7F800000, 0x7F800001, 0x7FC00000, 0x00000001, 0x80000000, 0,
  0x7F7FFFFF, 0xFF800000, 0x33800000, 0x4B800001, 0x42280000, 0xBF000000, 0x80000001, 0xCF000000, 0x3F808000, 0x80008080, 0x7F817FC0, 0x0001FF80].getD (k % 21) 0)
def va : Vec := ofLanes fl
def vb : Vec := ofLanes fun i => fl (i / 3 + 5 * i)
def vc : Vec := ofLanes fun i => fl (2 * i + 7)
def co (pc : Nat) : Core :=
  { Core.init with
      st := .running, pc := pc,
      s := [(1, 5), (2, 0xFFFFFFFFFFFFFFFB), (3, 1), (4, 0x8000000000000000), (5, 0xBFFF9), (6, 64), (7, 0x123456789ABCDEF0), (8, 0xBFFC0), (9, 0xFFFFFFFFFFFFFFC0)],
      p := [(1, 1), (2, 0xFFFFFFFF00000003), (3, 0), (4, 2)],
      v := [(1, va), (2, vb), (3, vc)],
      store := Memory.write [] 64 [0x81, 0xFF, 0x7F, 0x80, 1, 2, 3, 0x84] }
def s0 : State := (base.setCore 3 (co 64)).setReg (A.coreFlags 3) 0xF
def im (gneg : Bool) (guard d a : Nat) (v : Int) : IF := { gneg := gneg, guard := BitVec.ofNat 3 guard, d := BitVec.ofNat 5 d, a := BitVec.ofNat 5 a, imm := BitVec.ofInt 40 v }
def i0 := im false 0 1 2 5
def i3 := im false 0 7 0 0xFFFFFF
def r6 := r false 0 0 0 0 0 0 0 0 0
def i4 := im false 0 0 0 (-1)
def i7 := im false 0 0 6 0
def j0 := im false 0 4 0 2
def i1 := im false 0 0 4 (-1)
def s2 : State := s0.setCore 3 (co 61)
def s3 : State := (s0.setCore 3 (co 0xC0000)).setReg (A.corePart 3) 0x2001
def x1 := r false 0 3 2 3 1 0 0 0 0
def r9 := r true 1 1 2 2 0 0 0 0 0
def i6 := im false 0 0 0 0x100000
def j9 := im false 4 1 8 0
def grantE (part off len : Nat) : Item := (0x0012, [BitVec.ofNat 64 (part * 2 ^ 60 + off), BitVec.ofNat 64 len])
def modE (eid x y z : Nat) : Item := (0x0001, [BitVec.ofNat 64 (eid * 2 ^ 48 + x + y * 32 + z * 1024)])
def tagE (part tag : Nat) : Item := (0x0010, [BitVec.ofNat 64 (part * 2 ^ 60 + tag * 2 ^ 48)])
def topo3 : TopoS := { State.reset.topo with ownEid := 5, items := [(1, [modE 5 5 0 0, modE 9 9 0 0]), (2, [tagE 2 1, grantE 2 0 (2 ^ 39)])] }
def b3 : State :=
  { State.reset with
      clk := 3000000000, dom := { mgmt := true, hub := true, mem := 15, core := 15 }, topo := topo3
      time := { State.reset.time with counter := 2000 } }
def t4 (aFmt bFmt k sparse : Nat) : Nat := k * 2 ^ 8 + aFmt * 2 ^ 23 + bFmt * 2 ^ 29 + sparse * 2 ^ 36
def wr (m : Memory) (a : Nat) (ws : List Nat) : Memory := m ++ (ws.flatMap fun w => toBytes 8 w).zipIdx.filterMap fun (e : Byte × Nat) => if e.1 = 0 then none else some (a + e.2, e.1)
def st3 : Memory :=
  let m := wr [] 64 [0x1000 * 2 ^ 20 + 0x800, 0x2000, 0x4000 * 2 ^ 40, 0, t4 2 2 32 0]
  let m := wr m 128 [0x1000 * 2 ^ 20 + 0x800, 0x2000, 0x4000 * 2 ^ 40, 0, t4 2 2 0 0]
  let m := wr m 192 [0x1000 * 2 ^ 20 + 0x800, 0x2000, 0x4000 * 2 ^ 40, 0, t4 2 2 32 1]
  let m := wr m 256 [0x1000 * 2 ^ 20 + 0x800, 0x2000, 0xBFFF0 * 2 ^ 40, 0, t4 2 2 32 0]
  let m := wr m 320 [0x1000 * 2 ^ 20 + 0x800, 0x2000, 0x4000 * 2 ^ 40, 0, t4 2 2 32 3]
  -- route block at 384: score 0x8000, record 0x9000, rows 0xA000, table 0xB000, 4 tokens, 8 experts, k 2, rowLines 1, counter 3
  let m := wr m 384 [0x8000 + 0x9000 * 2 ^ 20 + 0xA000 * 2 ^ 40, 4 + 8 * 2 ^ 11 + 2 * 2 ^ 20 + 1 * 2 ^ 28 + 3 * 2 ^ 35 + 0xB000 * 2 ^ 40, 0xC000 * 2 ^ 8]
  -- update calls: group 1 ADAM-like rule 1? words
  let m := wr m 512 [1 + 7 * 2 ^ 16, 0x1000, 0x2000, 0x3000, 16, 0]
  let m := wr m 576 [2 + 7 * 2 ^ 16, 0x10000, 0x20000, 0x30000, 2 + 0x5000 * 2 ^ 32, 32]
  let m := wr m 640 [3 + 7 * 2 ^ 16]
  let m := wr m 704 [1 + 9 * 2 ^ 16, 0x1000, 0x2000, 0x3000, 0]
  let m := wr m 768 [2 + 9 * 2 ^ 16, 0x10000, 0x20000, 0x30000, 0 + 0x5000 * 2 ^ 32, 32]
  let m := wr m 832 [1 + 7 * 2 ^ 16]
  let m := wr m 896 [4 + 7 * 2 ^ 16]
  let m := wr m 960 [5 + 3 * 2 ^ 16, 0x1000, 0x2000, 0x3000, 0]
  -- copy descriptors at 1024: three lines
  let m := wr m 1024 [0x0, 0x1000, 0x2000, 64, 5, 6, 7, 8]
  let m := wr m 1088 [0x1, 0x1000, 0x2000, 64]
  m
def q3 : Core :=
  { Core.init with
      st := .running, pc := 64
      s := [(1, 5), (2, 0xFFFFFFFFFFFFFFFB), (3, 100), (4, 0x8000), (5, 64), (6, 0x10000), (7, 0x123456789ABCDEF0), (8, 0xBFFC0),
            (10, 0x5_40_0000_1000), (11, 0x9_00_0000_1008), (12, 0x9_00_0000_1003), (13, 0x1_00_0000_1000), (14, 0x5_00_0000_0010), (15, 0x0000_3000_0000_1000),
            (20, 3000000100), (21, 1000), (22, 0xFFFFFFFFFFFFFFFF)]
      p := [(1, 1), (2, 0xFFFFFFFF00000003), (3, 0), (4, 2)]
      v := [(1, va), (2, vb), (3, vc)]
      cnt := [(1, 5), (2, 0xFFFFFFFF)]
      store := st3 }
def rec3 (rule part valid frozen : Nat) : List W64 :=
  [BitVec.ofNat 64 (rule * 2 ^ 60 + valid * 2 ^ 59 + frozen * 2 ^ 58 + part * 2 ^ 30), 0, 0, 0, 0, BitVec.ofNat 64 (0x1000 * 2 ^ 24 + 32), BitVec.ofNat 64 (1 * 2 ^ 32 + 64), 0]
def rec3b (rule part valid frozen : Nat) : List W64 :=
  [BitVec.ofNat 64 (rule * 2 ^ 60 + valid * 2 ^ 59 + frozen * 2 ^ 58 + part * 2 ^ 30), 0, 0, 0, 0, BitVec.ofNat 64 (0x10000 * 2 ^ 24 + 32), BitVec.ofNat 64 (1 * 2 ^ 32 + 64), 0]
def rec3r (rule part valid frozen : Nat) : List W64 := (rec3 rule part valid frozen).set 6 (BitVec.ofNat 64 (64 * 2 ^ 40 + 1 * 2 ^ 32 + 64))
def upd3 : UpdDie := { UpdDie.init with group := [(1, rec3r 0 2 1 0), (2, (rec3b 0 2 1 0).set 6 (BitVec.ofNat 64 (64 * 2 ^ 40 + 1 * 2 ^ 32 + 64))), (3, rec3 3 2 1 0), (4, rec3 3 2 1 1), (5, rec3 0 2 1 1)] }
def a0 : State := ((b3.setCore 3 q3).setReg (A.corePart 3) 0x2001).setUpd 0 upd3
def cf (gneg : Bool) (guard cnt a b n : Nat) (imm : Int) : CF := { gneg := gneg, guard := BitVec.ofNat 3 guard, cnt := BitVec.ofNat 5 cnt, a := BitVec.ofNat 5 a, b := BitVec.ofNat 5 b, n := BitVec.ofNat 5 n, imm := BitVec.ofInt 30 imm }
def k64 := cf false 0 1 0 0 0 64
def k192 := cf false 0 1 0 0 0 192
def kw0 := cf false 0 0 0 0 0 (0x20000 + 0x1)
def ga0 := r false 2 2 1 6 5 0 0 9 0
def ga1 := r false 0 3 1 6 5 8 0 9 0
def gr0 := r false 2 6 1 6 5 0 0 9 0 false 1
def kr := cf false 0 0 0 0 0 384
def u512 := cf false 0 3 0 0 0 512
def u576 := cf false 0 3 0 0 0 576
def u640 := cf false 0 3 0 0 0 640
def u768 := cf false 0 3 0 0 0 768
def u896 := cf false 0 3 0 0 0 896
def z0 := cf false 0 0 0 0 0 1000
def z1 := cf false 0 0 20 0 0 1000
def z4 := cf false 0 1 0 21 2 6
def z6 := cf false 0 1 0 20 7 6
def e0 := r false 0 0 0 0 0 0 0 0 0
def a6 : State := a0.setCore 3 { q3 with gs := [⟨0, 0, 0, 0, 0, 0, 9, 0, 1, 0, 0⟩] }
def a3 : State := a0.setCore 3 { q3 with fence := some { pc := 8, acks := true, mark := 0, copyMark := 0, eid := none, loads := [], at_ := 3000000000 } }
def fr := ({ pc := 8, acks := true, mark := 0, copyMark := 0, eid := none, loads := [], at_ := 3000000000 } : FenceRun)
def a4 : State := a0.setCore 3 { q3 with rem := [{ id := 7, pc := 0, d := 30, wide := false, atomic := false, eid := 9, addr := 0, part := 2, tag := 1, home := 4, at_ := 0, noFill := false }], fence := some { pc := 8, acks := true, mark := 0, copyMark := 0, eid := none, loads := [7], at_ := 2000000000 } }
def fr2 := ({ pc := 8, acks := true, mark := 0, copyMark := 0, eid := none, loads := [7], at_ := 2000000000 } : FenceRun)
def rr0 := r false 0 2 10 0 0 0 0 0 0
def a1 : State := (a0.setReg (A.rcCtrl 0) 0x40).setRc 0 [⟨2, fieldOf 0x5_40_0000_1000 44 6, 1, 0xFFFF, 0x1122334455667788, 0⟩, ⟨2, fieldOf 0x9_00_0000_1008 44 6, 4, 0x000C, 0x1122334455667788, 0⟩, ⟨3, 7, 4, 0, 0, 0⟩]
def rr2 := r false 0 0 12 0 0 0 0 0 0
def rr3 := r false 0 2 13 0 0 0 0 0 0
def rr4 := r false 0 0 14 0 0 0 0 0 0
end Base

namespace Packets
open Base
def lk (st : LinkSt) (bad : BitVec 96 := 0) : Link := { Link.init with st := st, enTx := BitVec.allOnes 96, enRx := BitVec.allOnes 96, badTx := bad }
def rem0 : Remote := { id := 7, pc := 128, d := 30, wide := false, atomic := false, eid := 9, addr := 0x1000, part := 2, tag := 1, home := 4, at_ := 2999999990, noFill := false }
def rem1 : Remote := { rem0 with wide := true, at_ := 2000000000, d := 29 }
def dst0 : DstPair := { expected := some 7, reorder := [], ackDue := none, waitRec := false, bad := [], sync := none }
def base4 : State := ((a0.setLink 0 (lk .up)).setDst 9 dst0)
def mk (dest src tag type arg seq len addr : Nat) (payload : List Byte) (w1x : Nat := 0) (w3x : Nat := 0) : Packet :=
  let q := qMake dest src tag type arg seq len addr payload
  qSeal { q with w1 := q.w1 ||| BitVec.ofNat 64 w1x, w3 := q.w3 ||| BitVec.ofNat 64 w3x }
def sp (core st : Nat) : Nat := 2 ^ 44 + core * 2 ^ 20 + st
def bs (n : Nat) : List Byte := (List.range n).map fun i => BitVec.ofNat 8 (i + 1)
def pairS (s : State) (un : List Unacked) (ans : Tab (Owner × Nat × Nat)) : State := s.setSrc 9 { next := 40, needSync := false, unacked := un, answers := ans, ignoreResync := false }
def rst0 : RStore := { id := 8, pc := 136, eid := 9, addr := 0x1000, part := 2, tag := 1 }
def upP (s : State) (p : Nat) : State := s.setPort p { s.portAt p with st := .up, txLanes := 0xFF, rxLanes := 0xFF, peerEid := 9 }
def tagged (x : Session) (m : UMsg) : UMsg := { m with tag := uTag x m }
end Packets

namespace Vectors
open Base
def f4 := r false 2 4 1 2 0 8 0 0 0 false 0
def f6 := r true 2 4 1 0 0 8 0 0 0 false 0
def f0 := r false 0 4 1 2 0 0 0 0 0 false 0
def f9 := r false 0 4 1 0 0 0 0 0 0 false 0
def w0 : W32 := fl 0
def w1 : W32 := fl 4
def b1 := r false 0 0 1 6 5 2 1 0 0 true 0
def c2 : BFmt := ⟨2, 8, 32, .small 3 7 0x7E, 8⟩
def u1 := r false 0 1 0 6 5 2 1 0 0 true 0
end Vectors

namespace Updates
open Base
def b5 := a0.setCore 3 { q3 with upd := 8 }
def U (x : UpdDie) : State := a0.setUpd 0 x
def rf (g core at_ : Nat) : URefresh := ⟨g, [], 2, [(core, 1)], false, 0, none, at_⟩
def b4 := U { upd3 with refresh := [rf 3 9 1, rf 2 600 3000000000] }
def rf3 := rf 3 9 1
end Updates

namespace Time
open Base
def up (s : State) (p : Nat) : State := s.setPort p { s.portAt p with st := .up, txLanes := 0xFF, rxLanes := 0xFF, peerEid := 7 }
def T (t : TimeS) : State := up { b3 with time := t, eth := { b3.eth with linkUp := 3 } } 0
def tx0 : PtpTx := ⟨77, ⟨1, 6, 0x20, 100, 2, 0x1122334455667788, 0⟩⟩
def tx1 : PtpTx := ⟨78, ⟨2, 6, 0x20, 100, 2, 0x1122334455667789, 0⟩⟩
def sd0 : PtpSide := { heard := [tx0, tx1], sync := none, t1 := 1000000000, t2 := 1000065536000, req := some (4, 1000075536000), delay := none, nextSeq := 5 }
def sd1 : PtpSide := { sd0 with heard := [tx1], delay := some 5, req := none }
def tm (st : TState) : TimeS := { State.reset.time with counter := 256, st := st, since := 100, ptpPort := 0, ptp := [(0, sd0), (1, sd1)], ptpState := 2 }
def t0 := T (tm .locked)
def cf0 (t : Nat) (b : Words4) : CtlFrame := ctlFrameOf t 5 b
def fw (w0 w1 w2 root st seqE seq : Nat) (res : Nat := 0) : Words4 := ⟨BitVec.ofNat 64 w0, BitVec.ofNat 64 w1, BitVec.ofNat 64 w2, BitVec.ofNat 64 (root * 2 ^ 48 + st * 2 ^ 33 + seq * 2 ^ 8 + seqE + res * 2 ^ 16)⟩
def g0 := cf0 0 (fw 250 100 120 9 2 7 1)
def g2 := cf0 0 (fw 250 100 120 9 5 7 1)
def t2 := T (tm .holdover)
def nb0 : Nbr := { Nbr.init with st := .locked, rootEid := 9, hops := 1, measured := true, rxAt := some 2999999999, sent := [(7, 3000000000)], seq := 3, nextSeq := 255 }
def nbx (t : TimeS) (n : Nbr) : TimeS := { t with nbr := [(0, n)] }
def t3 := T (nbx { tm .acquire with parent := some 0 } nb0)
def t4 := T (nbx { tm .acquire with parent := some 0, slewing := true, slewBack := 0 } nb0)
def t6 := T { tm .locked with counter := 0, relockedAt := some 5, schedStopped := true }
def t7 := T (nbx { tm .lost with parent := none } { nb0 with rejectedUntil := some 7 })
def t8 := (T { tm .locked with primary := true, rootEid := 5 }).setReg A.timeRoots (BitVec.ofNat 64 (5 * 2 ^ 48 + 0xFFFFFFFFFFFF))
def m0 : PtpMsg := { domain := 0, transport := 0, source := 77, body := .announce ⟨1, 6, 0x20, 100, 2, 0x1122334455667788, 3⟩ }
def pd0 : PtpData := ⟨1, 6, 0x20, 100, 2, 0x1122334455667788, 3⟩
def pt (sec ns c : Nat) : PtpTime := ⟨BitVec.ofNat 48 sec, BitVec.ofNat 32 ns, BitVec.ofNat 64 c⟩
def m1 : PtpMsg := { domain := 0, transport := 0, source := 77, body := .sync false 3 (pt 1 1000 70000) }
def o0 := pt 1 1000 70000
def q3' : BitVec 16 := 3
def idn : BitVec 80 := t8.ptpIdentity 0
def m2 : PtpMsg := { domain := 0, transport := 0, source := 77, body := .delayResp 4 idn (pt 1 5000 70000) true }
def o1 := pt 1 5000 70000
def q4 : BitVec 16 := 4
def i0 : Int := 1000075536000
def t10 := T (nbx { tm .locked with parent := some 0 } { nb0 with rxAt := some 5 })
def t11 := T (nbx { tm .acquire with parent := some 0 } { nb0 with rxAt := some 5 })
def x2 : W64 := 2
def C (c : Core) : State := a0.setCore 3 c
def c0 := C { q3 with st := .armed, gs := [⟨0, 0, 0, 0, 0, 0, 9, 0, 1, 0, 0⟩] }
def c1 := C { q3 with halting := true }
def c2 := C { q3 with st := .waiting, wait := some (.time 1500) }
def x0 : W64 := 1500
def c3 := C { q3 with st := .waiting, wait := some (.counter 1 5 none 2) }
def dl0 : Option W64 := none
def v0 : W32 := 5
def c4 := C { q3 with st := .waiting, wait := some (.counter 1 6 (some 1000) 0) }
def dl1 : Option W64 := some 1000
def v1 : W32 := 6
def x1 : W64 := 1000
def c6 := C { q3 with st := .reset, pos := (List.range 17).map fun j => (j, { Pos.init with trim := if j < 6 then 3 else if j < 12 then 2 else if j < 16 then 1 else 0, logical := j }) }
def c7 := C { q3 with st := .idle }
def ca : State := let s := C { q3 with st := .waiting, wait := some (.time 1500) }; { s with core := s.core ++ [(5, { q3 with st := .waiting, wait := some (.time 1499) })] }
end Time

namespace Tiles
open Base
def C (c : Core) : State := a0.setCore 3 c
def p0 : Pos := { Pos.init with logical := 0, level := 3, levelAt := some 0, active := true, warm := some 5 }
def P (p : Pos) (q : List TileOp := []) : Core := { q3 with pos := [(0, p), (1, { p0 with logical := 1 })], queue := [(0, q)] }
def bk (a : Nat) : TileBlk := tileBlkOf (wordsOf 8 (Memory.bytes st3 a 64))
def o0 : TileOp := ⟨bk 64, 1, false, 0⟩
def t0 := C (P p0 [o0])
def e0 : List TileOp := []
def o1 : TileOp := ⟨bk 64, 2, true, 0⟩
def t1 := C (P p0 [o1])
def l0 : List TileRun := []
def r0 : TileRun := ⟨o0, false, 0, [], 0, 0, false, none⟩
def t3 := C (P { p0 with held := [r0] })
def o2 : TileOp := ⟨bk 128, 2, false, 0⟩
def r1 : TileRun := ⟨o2, false, 0, [], 0, 0, false, none⟩
def t4 := C (P { p0 with held := [r1] })
def l1 : List TileRun := [r0]
def r2 : TileRun := ⟨o0, true, 0, List.replicate 256 0x3F800000, 0, 0, false, none⟩
def t5 := C (P { p0 with held := [r2, r0] })
def t7 := C (P { p0 with wb := [r2] })
def g0 : GsOp := ⟨0, BitVec.ofNat 2048 1, 3, 0x8000, 100, 0, 5, 0, 1, 0, 9⟩
def gl : List GsOp := []
def s0 := C { q3 with gs := [g0] }
def b0 : RouteBlk := routeBlkOf 64 (wordsOf 8 (Memory.bytes st3 384 64))
def s5 := C { q3 with routeQ := some b0 }
def stx (v : Nat) : Memory := (List.range 8).foldl (fun m e => wr m (0xB000 + 16 * e) [v, 0x10 * 2 ^ 0]) st3
def s6 := C { q3 with routeQ := some b0, store := stx 0xFFFFFFFFFFFFFFFF }
def rr : RouteRun := ⟨b0, []⟩
def s7 := C { q3 with route := some rr }
def rr2 : RouteRun := ⟨b0, [1]⟩
def s8 := C { q3 with routeOut := [rr2, rr] }
def dw (op zskip rec row : Nat) : List W64 := [BitVec.ofNat 64 (op * 2 ^ 58 + zskip * 2 ^ 56 + rec * 2 ^ 55 + 0x77), 0x40, 0x3000, BitVec.ofNat 64 row, 0, 0x5000, 0, 0]
def d0 : Desc := { id := 0, core := 3, cnt := some 4, words := dw 0 0 0 320, part := 2, tag := 1, next := 0, given := 0, got := [], outstanding := 0, status := 0, peer := 0xFFFF, failAddr := 0, bytes := 0, at_ := 0 }
def D (x : Desc) : State := a0.setCopy 0 { descs := [x], nextId := 9 }
def q0 := D d0
def d3 : Desc := { d0 with next := 2, given := 2 }
def q3' := D d3
def s9 := C { q3 with copyWait := some (4, 1024, 2, 7) }
end Tiles

namespace Engines
open Base
def uw (g n : Nat) : List W64 := [BitVec.ofNat 64 (g + 7 * 2 ^ 16), 0x1000, 0x2000, 0x3000, BitVec.ofNat 64 n, 0, 0, 0]
def k0 : UCall := { id := 4, kind := 0, core := 3, cnt := 5, group := 1, words := uw 1 16, record := rec3r 0 2 1 0, lr := 0x3C000000, scale := 0, rows := [], bad := false, running := true, at_ := 1 }
def U (cs : List UCall) (rs : List URefresh) : State := (a0.setUpd 0 { upd3 with calls := cs, refresh := rs }).setCore 3 { q3 with upd := 1 }
def s0 := U [k0] []
def v0 : W64 := 0
def k3 : UCall := { k0 with kind := 2, record := rec3r 3 2 1 0, group := 3, running := false }
def s3 := U [k3] []
def f0 : URefresh := ⟨3, rec3r 3 2 1 0, 2, [(3, 5)], false, 0, none, 0⟩
def rl0 : List URefresh := []
def s4 := (U [] [f0]).setReg (A.updCtrl 0) 0
def hl : List (List W32) × List (List W32) × Bool := ([], [], false)
def f1 : URefresh := ⟨3, rec3r 3 2 1 0, 2, [(3, 5)], true, 0, some hl, 0⟩
def s5 := U [] [f1]
def s6 := (a0.setReg (A.updGselReg 0) 2).setReg (A.updGdata 0 6) 0x100000040
def s8 := ((U [] [f0]).setReg (A.updCtrl 0) 1)
def sa := (a0.setUpd 0 { upd3 with refresh := [f1], stateOff := [(3, 64)] }).setCore 3 { q3 with upd := 1 }
def rq (lc : Bool) (op : MemOp) (off len tag : Nat) : MemReq := ⟨2, 2, lc, 100, op, off, len, [1,2,3], tag, false⟩
def m0 := rq false .read 0x1008 8 3
def m4 : MemReq := { m0 with req := 0 }
def M (x : MemDie) : State := a0.setMem 0 x
def i0 : MemDie := { MemDie.init with upAt := 2999999999 }
def mm8 := M i0
def l1 : List MemReq := MemReq.pieces m0
def m1 := rq false .write 0x1008 0 4
def mm9 := (M { i0 with regEff := [(2, 0x8001000000000000)], credit := [(2, 0)], waiting := [(4, m0), (4, m1)] }).setReg (A.memReg 0 2) 0x8001000000000010
def ch0 : Nat := (b3.place 0x1008).chan
def b0 : BitVec 16 := 0
def d0 : Damage := []
def mma := M { i0 with waiting := [(4, m0), (4, m1)] }
def sg := (a0.setReg (A.memCtrl 0) 0x8000)
def si := { a0 with time := { a0.time with counter := 128 } }
def sp := (M { i0 with stack := [((b3.place 0x1008).chan / 16, { Stack.init with limit := 1 })], served := [((b3.place 0x1008).chan, 2999999999)], chan := [((b3.place 0x1008).chan, [m0])] })
def srm := (M { i0 with chan := [((b3.place 0x1008).chan, [{ m4 with len := 70000 }])] }).setLink 0 { Link.init with st := .up }
def st (x : Stack) : State := M { i0 with stack := [(1, x)] }
def se := st { Stack.init with interval := 2, cool85 := some 5, cool95 := some 5 }
def sf := st { Stack.init with interval := 2, cool95 := some 5 }
def sj := (a0.setReg (A.zrange 0 1) 0x8000000000000001).setMem 0 { i0 with zcache := [(3, 1, 0, true)] }
def sk := (a0.setReg (A.zrange 0 1) 0xC000000000000001).setMem 0 { i0 with zcache := [(3, 1, 0, true)], zflush := [1] }
end Engines

namespace Lanes
def base : State := { State.reset with clk := 3000000000, dom := { mgmt := true, hub := true, mem := 0, core := 0 } }
def up (s : State) (p : Nat) : State :=
  s.setPort p { s.portAt p with st := .up, txLanes := 0xFF, rxLanes := 0xFF, peerEid := 7 }
def s0 : State := up { base with topo := { base.topo with ownEid := 5 } } 0
def cf (b : Words4) (errs : List Nat := []) : CtlFrame := { ctlFrameOf 1 5 b with errs := errs }
def ctl (sub major q p lanes eid rx lane dir cause slot : Nat) : Words4 :=
  ⟨BitVec.ofNat 64 (sub * 2 ^ 60 + major * 2 ^ 52 + q * 2 ^ 37 + p * 2 ^ 30 + lanes * 2 ^ 16 + eid), 0,
   BitVec.ofNat 64 (0xFFFF * 2 ^ 48 + rx * 2 ^ 32), BitVec.ofNat 64 (lane * 2 ^ 61 + dir * 2 ^ 60 + cause * 2 ^ 56 + slot)⟩
def kFault := cf (ctl 1 0 0 0 0 9 0 3 0 1 77)
def kPlan := cf (ctl 1 0 0 0 0 9 0 3 0 4 77) [2, 0]
def kAdd := cf (ctl 2 0 0 0 0 9 0 3 0 0 77)
def kBad := cf (ctl 1 0 0 0 0 9 0 3 0 9 77)
def chg (dir ours acked : Bool) (add : Bool) (cause : Nat) (retry : Option Nat) : LaneChange :=
  { port := 0, dir := dir, lane := 3, add := add, cause := cause, slot := 0, ours := ours, acked := acked, retryAt := retry, refused := false }
def c1 := chg true true false false 4 none
def withC (c : LaneChange) : State := { s0 with opt := { s0.opt with change := [c] } }
def s1 := withC c1
def kPlanLow := cf (ctl 1 0 0 0 0 3 0 3 0 4 77)
def kAnsw := cf (ctl 3 0 0 0 0 9 0 3 0 0 0)
def kAddLow := cf (ctl 2 0 0 0 0 3 0 3 0 0 77)
def s9 := { s0 with opt := { s0.opt with lane := [((0 * 8 + 3) * 2, { Lane.init with st := .retired }), ((0 * 8 + 5) * 2 + 1, { Lane.init with st := .recal, offset := 9 })] } }
def kAddR := cf (ctl 2 0 0 0 0 9 0 3 1 0 77)
def c2 := chg true false true false 4 none
def s2 := withC c2
def c8 := { chg false true true false 9 none with refused := true }
def s8 := withC c8
def c9 := { chg true false true false 1 none with }
def sa : State := { s9 with opt := { s9.opt with change := [c9] } }.setPort 0 { s9.portAt 0 with rxLanes := 0x5F, fecBad := [(3, [2999999999, 2999999998, 2999999999, 2999999997, 5])] }
end Lanes

namespace DieLinks
open Base Packets
def L (l : Link) : State := ({ a0 with mem := { a0.mem with bytes := [(5, 1), (128 * 2 ^ 31 + 7, 2)] } }.setRc 1 [⟨2, 5, 0, 0xF, 0, 0⟩, ⟨2, 6, 4, 0xF, 0, 1⟩]).setLink 0 l
def s0 := L (lk .down)
def s1 := L { lk .training with attempts := 1 }
def s2 := L { lk .training with attempts := 3, afterFence := true }
def s3 := L (lk .ready)
def s4 := L { lk .ready with rejoining := true }
def s5 := L (lk .up)
def w66b : BitVec 66 := 0
def w66a : BitVec 66 := 1
def s6 := L { lk .up with drops := [(false, 3, 2), (true, 3, 15)] }
def s8 := (L (lk .up)).setCore 3 { q3 with rem := [rem0, rem1] }
def xq := (L { lk .up with parity := [(3, [2999999999])] }).setReg (A.d2dCfg 0) 2
def xs := (L (lk .up (BitVec.ofNat 96 (2 ^ 25 - 1 - 8)))).setReg (A.d2dCfg 0) 1
def v0 : W64 := 0x40
end DieLinks

namespace Targets
open Base Packets
def s0 := base4
def w0 := mk 5 9 1 1 0 7 4 (sp 3 64) []
def w2 := mk 5 9 1 3 0 7 4 (sp 3 64) (bs 4)
def w4 := mk 5 9 1 8 0 7 4 (sp 3 64) (bs 4)
def w6 := mk 5 9 1 0x20 0 7 64 (sp 3 64) (bs 64) (0x60000 + 0x5000)
def w7 := mk 5 9 1 0x21 0 7 128 (sp 3 64) (bs 64) 0 (2 ^ 51)
def w8 := mk 5 9 1 0x22 0 7 64 (sp 3 64) (bs 64) 0 (2 ^ 47)
def w9 := mk 5 9 1 0x23 0 7 128 (sp 3 64) []
def wf (w : Nat) (t : Nat) (len : Nat) (p : Nat) := mk 5 9 w t 0 7 len (sp 3 64) (bs p)
def f0 := wf 2 1 4 0
def f1 := wf 2 3 4 4
def f2 := wf 2 8 4 4
def f3 := wf 2 0x20 64 64
def f4 := wf 2 0x21 64 64
def f5 := wf 2 0x22 64 64
def f6 := wf 2 0x23 64 0
end Targets

namespace Sources
open Base Packets
def a0 := mk 5 9 1 0x30 0 12 8 0 (bs 8)
def base4' : State := { base4 with hub := { base4.hub with budget := [(6, some 100000)] } }
def Z : State := base4'.setCore 3 { q3 with rem := [rem0], rstores := [{ rst0 with id := 7 }] }
def s0 := pairS Z [] [(12, (.access 3 7, 0, 0x1000))]
def pp0 : Nat × Nat := (0, 0x1000)
def late (s : State) : State := { s with time := { s.time with counter := 300000000 } }
def Zl : State := base4.setCore 3 { q3 with rem := [{ rem1 with at_ := 5 }], rstores := [{ rst0 with id := 7 }] }
def s1 := pairS Zl [] [(12, (.access 3 7, 0, 0x1000))]
def s1L := late s1
def rem2 : Remote := { rem1 with at_ := 5 }
def a1 := mk 5 9 1 0x30 0 12 8 0 (bs 8) 0 (2 ^ 47)
def a2 := mk 5 9 1 0x31 2 12 0 0 []
def un (own : Owner) (type seq : Nat) (lastAt tries : Nat) : Unacked :=
  { no := 0, seq := seq, q := mk 9 5 1 type 0 seq 8 0x1000 [], part := 2, core := 3, die := 0, own := own, firstAt := lastAt, lastAt := lastAt, tries := tries, lost := false }
def u0 := un (.access 3 7) 1 12 5 0
def s2 := pairS Z [u0] []
def u1 := un (.store 3 7) 3 12 5 0
def s3 := pairS Z [u1] []
def rs : RStore := { Packets.rst0 with id := 7 }
def cp : Desc := { id := 7, core := 3, cnt := some 4, words := [0x77, BitVec.ofNat 64 (9 * 2 ^ 48 + 2 ^ 46 + 0x40), 0x3000, 320, 0, 0x5000, 0, 0], part := 2, tag := 1, next := 2, given := 0, got := [], outstanding := 2, status := 0, peer := 0xFFFF, failAddr := 0, bytes := 0, at_ := 0 }
def u2 := un (.copy 0 7 0) 0x23 12 5 0
def s4 := pairS (Z.setCopy 0 { descs := [cp], nextId := 9 }) [u2] []
def a5 := mk 5 9 1 0x32 0 0 0 0 [] (12 * 2 ^ 24 + 2 ^ 23)
def a6 := mk 5 9 1 0x33 0 12 256 0 (bs 256)
def s6 := pairS (Z.setCopy 0 { descs := [cp], nextId := 9 }) [] [(12, (.copy 0 7 0, 0, 0x40))]
def pp1 : Nat × Nat := (0, 0x40)
def s8 := base4.setDst 9 { dst0 with waitRec := true, reorder := [(7, mk 5 9 1 1 0 7 4 (sp 3 64) [])] }
def a7 := mk 5 9 1 1 0 7 4 (sp 3 64) []
def s9 := base4.setDst 9 { dst0 with ackDue := some 5 }
end Sources

namespace Router
open Base Packets
def B : State :=
  let s := upP (upP base4 3) 8
  { s with hub := { s.hub with budget := [(6, some 100000), (48, some 1000)] }, time := { s.time with st := .locked, counter := 1024 * 128 } }
def P (x : Port → Port) : State := B.setPort 3 (x (B.portAt 3))
def s0 := P fun x => { x with rxSeq := 5 }
def fr (t seq ack : Nat) (q : Packet) : Frame := frameOf t seq ack q
def ts (q : Packet) : Packet := qSeal { q with w2 := BitVec.ofNat 64 (131000 * 2 ^ 16) }
def q0 := ts <| mk 5 9 0 0x32 0 0 0 0 []
def f0 := fr 1 5 0 q0
def q1 := ts <| mk 9 7 0 0x31 3 0 0 0 []
def s2 := P fun x => { x with rxSeq := 5, gapAt := some 7, held := [(9, q1)] }
def qs := ts <| mk 9 7 0 3 0 0 4 0x1000 (bs 4) (2 ^ 20 + 6)
def s3 := { B with hub := { B.hub with inject := [(94, q1), (95, qs)] } }
def e0 : Nat × Packet := (94, q1)
def v0 : Leave := ⟨8, false, false⟩
def q2 := ts <| mk 9 5 1 3 0 0 8 0x1000 (bs 8)
def un : Unacked := { no := 3, seq := 0, q := q2, part := 2, core := 3, die := 0, own := .store 3 8, firstAt := 5, lastAt := 5, tries := 0, lost := false }
def s4 := { B with hub := { B.hub with dynWait := [un] } }
def qu := ts <| mk 33 5 0 0x31 3 0 0 0 []
def s6 := { B with hub := { B.hub with inject := [(96, qu)] } }
def e2 : Nat × Packet := (96, qu)
def f1 := fr 1 5 0 q1
def s7 : State := let s := s3.setPort 3 { s3.portAt 3 with rxSeq := 5 }
  let s := s.setPort 8 { s.portAt 8 with rxSeq := 5 }
  { s with pending := [.dataFrame 3 2 f1, .dataFrame 8 2 f1] }
def f3 : Frame := { f1 with crc := f1.crc + 1 }
def f4 := fr 0 0 0 noPacket
def s1 := P fun x => { x with rxSeq := 5, belay := [⟨7, q1, 1⟩] }
def f5 := fr 3 0 6 noPacket
def b0 : Belay := ⟨7, q1, 1⟩
-- ports and pitches
def stg : Staged := ⟨qs, 1023, 1024, 3⟩
def s5 := { (B.setPort 8 { B.portAt 8 with stage := [stg] }) with hub := { (B.setPort 8 { B.portAt 8 with stage := [stg] }).hub with sched := [(8, [BitVec.ofNat 32 (6 * 2 ^ 20 + 20 * 2 ^ 12 + 0xFFF)])] } }
def t1 := P fun x => { x with st := .lost, lostAt := some 9, belay := [⟨7, q1, 1⟩] }
def t2 := P fun x => { x with upAt := some 9, detour := true }
def t4 := (B.setReg A.telCfg 0x8000000000000003)
def t5 := { t4 with hub := { t4.hub with mapPitches := 20 } }
end Router

namespace Optics
open Base Packets
def l0 : Lane := { Lane.init with st := .locking, okSince := some 5 }
def B : State := upP base4 3
def ln (x : Lane) : State := B.setLane 3 2 false x
def s0 := ln l0
def s7 := { (base4.setLane 31 2 false { l0 with st := .locking, toned := true }) with dom := base4.dom }
def s1 := ln { l0 with locked := true, lockedAt := some 5, fails := 2 }
def z0 : Int := 0
def z1 : Int := 3000
def s3 := ((ln { l0 with st := .working, calAt := 3 }).setReg A.optCtrl 1).setReg A.optCfg 0
def s4 := ln { l0 with st := .recal, fails := 1, toned := true, tonedAt := some 5 }
def s5 := (ln { l0 with st := .retired, fails := 3 }).setReg A.lsel (BitVec.ofNat 64 (3 * 8 + 2))
def s6 := (ln { l0 with st := .working }).setReg A.lsel (BitVec.ofNat 64 (3 * 8 + 2))
def sb := ln { l0 with toned := true, locked := true, tonedAt := some 5 }
def ww : Nat × Nat := (2000005, 13107)
def sf := base4.setLane 3 2 false { l0 with toned := true, tonedAt := some 5 }
def s8 := ((base4.setLane 31 2 false { l0 with st := .working }).setReg A.lsel (BitVec.ofNat 64 (31 * 8 + 2)))
def sd := base4.setLane 31 2 false { l0 with toned := true, tonedAt := some 5 }
def K (x : Cass) (sec : BitVec 8 := 0) : State := { B with opt := { B.opt with cass := [(1, x)], feedSec := [(1, sec), (13, sec)], lane := [(16 * 3 + 4, { l0 with st := .working })] } }
def cs0 : Cass := { Cass.init with present := true, st := .running }
def k0 := K cs0
def k1 := K { cs0 with failTimes := [2999999998, 2999999999] }
def k2 := K { cs0 with failed := 4, tune0 := some 2, tune1 := some 3 }
def k3 := K { cs0 with safe := true, st := .removing }
def k4 := K { Cass.init with present := false }
def k5 := K { cs0 with st := .starting }
def k6 := K cs0 4
def k7 : State := let s := K cs0 4; { s with hub := { s.hub with port := [(4, { B.portAt 3 with st := .up, txLanes := 0xFF, rxLanes := 0xFF })] } }
-- ports
def T (x : Port → Port) (b : Bring := Bring.init) : State := (base4.setPort 8 (x (base4.portAt 8))).setBring 8 b
def p0 := T id
def cf (b : Words4) : CtlFrame := ctlFrameOf 1 5 b
def fw (sub major q p lanes eid rx : Nat) (w1 : Nat := 0) : Words4 :=
  ⟨BitVec.ofNat 64 (sub * 2 ^ 60 + major * 2 ^ 52 + q * 2 ^ 37 + p * 2 ^ 30 + lanes * 2 ^ 16 + eid), BitVec.ofNat 64 w1, BitVec.ofNat 64 (0xFFFF * 2 ^ 48 + rx * 2 ^ 32), 0⟩
def mj : Nat := State.reset.svc.protoMajor
def f0 := fw 0 (mj + 5) 3 5 0xFF 9 5
def h0 := cf f0
def p1 : State := let s := T fun x => { x with st := .lost, lostAt := some 5 }; { s with time := { s.time with counter := 300000000 } }
def p2 := T (fun x => { x with st := .down }) { Bring.init with retryAt := some 5, fails := 3 }
def pp3 := T fun x => { x with st := .up, peerEid := 9, rxLanes := 0xFF, txLanes := 0xFF }
def f4 := fw 4 mj 8 5 0xFF 9 5
def h4 := cf { f4 with w3 := BitVec.ofNat 64 (3 * 2 ^ 56) }
def p4 := T fun x => { x with st := .training }
def f1 := fw 0 mj 8 5 0xFF 9 5
def h1 := cf f1
def f2 := fw 0 mj 8 5 0xFF 7 5
def h2 := cf f2
def h6 := cf { f1 with w0 := f1.w0 ||| BitVec.ofNat 64 (2 ^ 24) }
def p5 := T (fun x => { x with st := .training }) { Bring.init with identAt := some 5 }
def f3 := fw 0 mj 8 5 0xFF 9 6
def h3 := cf f3
def p6 := (T fun x => { x with st := .training }).setReg A.optCfg 0x100
def p7 := T (fun x => { x with st := .barred }) { Bring.init with cause := 3 }
def pp8 := (T (fun x => { x with st := .training }) { Bring.init with ident := some f1, releasedAt := some 5, fails := 9, upSlot := some 3 }).setLane 8 1 true { l0 with st := .working }
def p9 : State := let s := T fun x => { x with st := .training }; { s with topo := { s.topo with items := [(1, [modE 5 5 0 0, modE 9 9 0 0, (1, [BitVec.ofNat 64 (12 * 2 ^ 48 + 12 + 2 ^ 15), 5])])] } }
def f5 := fw 0 mj 8 5 0xFF 12 5 77
def h5 := cf f5
def dg : W64 := 5
def pc := T fun x => { x with st := .held }
def pd : State := { pc with topo := { pc.topo with items := [] } }
def pa : State := let s := p6; { s with opt := { s.opt with pmap := [(8, (31, false)), (9, (8, false))] } }
def pb : State := pa.setPort 9 { pa.portAt 8 with st := .training }
end Optics

namespace Thermal
open Base Packets
def S (x : SelfS) : State := { base4 with self := { x with bounds := [(0xC, 1), (0xD, 3), (0xE, 1), (4, 360), (3, 48), (0xF, 5)] } }
def sens (n : Nat) (f : Nat → Int) : List (Nat × Sensor) := (List.range n).map fun i => (i, { valid := true, temp := f i, peak := f i, hasPeak := true })
def x0 : SelfS := { SelfS.init with sensor := sens 482 fun i => if i < 64 then 300 else 250 }
def s0 := S x0
def sm (l : List (Nat × Option Int)) : Sample := { temps := l, mvolt := 54000, watts := 1234 }
def r0 := sm []
def s2 := S { x0 with sensor := sens 482 fun i => if i = 470 then 461 else if i = 5 then 425 else 250, samples := [3000, 2], powerCeil := 40 }
def s3 := S { x0 with sensor := [], samples := [100], powerCeil := 40, underSince := some 5, ceilRoseAt := some 7, op := [(1, { OpPoint.init with step := 45, steppedAt := some 7, gband := 3 })] }
def s4 := let s := S { x0 with tripped := true, coolSince := some 5, trips := [7], fuseSince := some 7, nvmSince := some 8 }
  { s with dom := { s.dom with core := 0 }, time := { s.time with counter := 4000000 }, svc := { s.svc with stage := .bivouac } }
def s1 := S { x0 with sensor := sens 482 fun i => if i = 5 then 390 else 250, op := [(1, { OpPoint.init with allow := [(41, 5)], roseAt := some 5, ceilTherm := 40, step := 30 })] }
def s5 := let s := S { x0 with late := [(2 * 4096 + 3, 7), (4096, 1)], slow := [(3, 100)] }
  ((s.setStack 1 2 { Stack.init with limit := 2, limitCool := some 5, cool95 := some 2999999999 }).setStack 1 3 { Stack.init with limit := 1, limitCool := some 5, cool95 := some 5 })
def r1 := sm [(5, some 310)]
def t4' : Int := 310
def o1 : Option Int := some 601
def r2 := sm [(300, some 601)]
end Thermal

namespace Sessions
open Base Packets
def sn : Session := { num := 7, auth := 0, slot := 1, key := 0x1234, high := some 10, seen := [9], usedAt := 2999999000, claim := false }
def sn8 : Session := { sn with num := 8, auth := 1, slot := 0, high := none, seen := [], usedAt := 5 }
def B : State := let s := ((base4.setReg (A.ethPcfg 0) (BitVec.ofNat 64 (2^63 + 9000))).setReg (A.ethPcfg 1) (BitVec.ofNat 64 (2^63 + 9000)))
  { s with eth := { s.eth with linkUp := 3 }, sec := { s.sec with sessions := [sn, sn8] }, ep := { s.ep with teardown := [(4, (3, 5))] }, topo := { s.topo with ownEid := 5 } }
def b0 := B
def msg (type sess req : Nat) (body : List W64) (eid : Nat := 0xFFFF) : UMsg :=
  let m : UMsg := { w0 := packFields 0 [(63, 56, 1), (55, 48, type), (31, 0, req)], w1 := packFields 0 [(63, 48, eid), (47, 32, sess), (15, 0, body.length)]
                    w2 := 77, w3 := 0, body := body, tag := 0, src := 5, sport := 6, mac := 9, udpLen := 32 + 8 * body.length + (if sess = 0 then 0 else 16) }
  tagged sn m
def m1 := msg 6 7 11 [5]
def d1 : W64 := 5
def pingM := msg 1 0 1 []
def rd (sess a n : Nat) := msg 2 sess 11 [BitVec.ofNat 64 ((n-1)*2^56 + a)]
def r1 := rd 7 0x0 4
def b1 : State := { B with svc := { B.svc with switching := none }, sec := { B.sec with recovery := true }, dom := { B.dom with core := 0 } }
def r2 := rd 7 (A.coreCtrl 3) 2
def w1 := msg 3 7 11 [BitVec.ofNat 64 (A.hubCtrl), 6, BitVec.ofNat 64 A.secSess, 0]
def bz : State := { B with eth := { B.eth with rx := [(0, (3000000000, 64))] } }
def b6 : State := { B with svc := { B.svc with switching := some 2999999990 } }
def w2 := msg 3 7 11 [BitVec.ofNat 64 (A.coreCtrl 3), 1]
def ev (n : Nat) : Ev := { seq := n, type := 0x40, body := [1,2], sent := 0, sentAt := none }
def b2 : State := { B with eth := { B.eth with events := [ev 4, ev 5, ev 6], kept0 := [{ src := 5, sport := 6, session := 7, reqId := 12, reply := m1, at_ := 2999999999 }, { src := 5, sport := 6, session := 8, reqId := 12, reply := m1, at_ := 5 }] } }
def w3 := msg 3 7 12 [BitVec.ofNat 64 (A.coreCtrl 3), 1]
def w4 := msg 3 0 12 [BitVec.ofNat 64 (A.coreCtrl 3), 1]
def w5 := msg 3 9 11 [BitVec.ofNat 64 (A.coreCtrl 3), 1]
def td (tag k T : Nat) := msg 5 7 11 [BitVec.ofNat 64 (tag * 2^52 + k * 2^48), BitVec.ofNat 64 T]
def t1 := td 1 2 (2^40)
def t2 := td 1 2 3
def t3 := td 4 2 (2^40)
def u1 := msg 0 0 11 []
def q2 := msg 7 0 11 [0,1,2,3,4]
def o1 := msg 7 0 11 ([BitVec.ofNat 64 (2^56 + 2^40)] ++ List.replicate 827 0)
def c1 := msg 7 7 11 [BitVec.ofNat 64 (2 * 2^56 + 7),0,0,0,0]
def c2 := msg 7 7 11 [BitVec.ofNat 64 (2 * 2^56 + 8),0,0,0,0]
end Sessions

namespace Roce
open Base Packets
def E0 : State := let s := (((base4.setReg (A.ethPcfg 0) (BitVec.ofNat 64 (2^63 + 2 ^ 62 + 9000))).setReg (A.ethPcfg 1) (BitVec.ofNat 64 (2^63 + 9000))).setReg (A.evCfg 0) (BitVec.ofNat 64 (2^63))).setReg (A.evCfg 1) (BitVec.ofNat 64 (2^63 + 2 ^ 62))
  { s.setReg (A.ethIp4 0) 0x0A000001 with eth := { s.eth with linkUp := 3 } }
def e0 := E0
def ev (n : Nat) (sent : BitVec 2) (at_ : Option Nat) : Ev := { seq := n, type := 0x40, body := [1,2], sent := sent, sentAt := at_ }
def e2 : State := { E0 with eth := { E0.eth with events := [ev 4 3 (some 5)], lastSent0 := some 2999999000, telOut := [(1, [1,2,3])] } }
def ev4 := ev 4 3 (some 5)
def e3 : State := { E0 with eth := { E0.eth with events := [ev 4 3 (some 2999999990)], linkUp := 1, telOut := [(0, [1,2,3])] } }
def w1 : List W64 := [1,2,3]
-- connections
def e1 : State := { E0 with eth := { E0.eth with events := [ev 4 1 (some 5), ev 5 0 none, ev 6 0 none], lastSent0 := some 2999999000 } }
def n0 := ev 4 1 (some 5)
def rq (psn rkey addr len : Nat) (data : List Byte) : RoceReq := { head := { vlan := none, mac := 0x112233445566, psn := BitVec.ofNat 24 psn, ecn := false, icrc := true }, part := .only, rkey := BitVec.ofNat 32 rkey, addr := addr, len := len, data := data }
def p0 := rq 200 77 0x10010 16 (bs 16)
def G : State := { E0 with copy := [(0, { CopyEng.init with descs := [{ id := 4, core := 3, cnt := none, words := [], part := 2, tag := 1, next := 0, given := 0, got := [], outstanding := 1, status := 0, peer := 0, failAddr := 0, bytes := 0, at_ := 0 }] })] }
def Q (x : Qp) : State := G.setQp 7 x
def conn (port part pm to_ rkey base size : Nat) : List W64 :=
  [BitVec.ofNat 64 (port * 2^61 + part * 2^56 + pm * 2^53 + to_ * 2^48), 100, BitVec.ofNat 64 (rkey * 2^32 + 200), 0, 0, BitVec.ofNat 64 base, BitVec.ofNat 64 size]
def qp0 : Qp := { Qp.init with data := conn 0 2 2 3 77 0x10000 0x10000, st := .ready, sq := 100, rq := 200 }
def q5 := { (Q { qp0 with rate := 1000000000 }) with eth := { (Q { qp0 with rate := 1000000000 }).eth with linkUp := 2 } }
def v0 : W64 := 7
def q0 := Q qp0
def out0 : RoceOut := { psn := 205, die := 0, id := 4, core := 3, read := true, addr := 0x8000, rva := 0x9000, len := 16, part := .only }
def q1 := Q { qp0 with outstanding := [out0], sentAt := some 5, retries := 2 }
def q2 := Q { qp0 with outstanding := [{ out0 with read := false }], sentAt := some 5, retries := 7 }
def oo := { out0 with read := false }
def v1 : W64 := 0xFF00
def q4 := (Q { qp0 with st := .reset, outstanding := [out0] }).setReg A.qpsel 7
def q7 : State := (q0.setLink 0 (lk .down))
def p2 := rq 201 77 0x10010 16 (bs 16)
def p3 := rq 205 77 0x10010 16 (bs 16)
def p6 : RoceReq := { rq 200 77 0x10010 3000 (bs qp0.pmtu) with part := .first }
def p7 : RoceReq := rq 200 77 0x10010 20 (bs 16)
end Roce

namespace Checks
open Base Packets
def s0 := base4
def s1 := { base4 with fuse := { base4.fuse with posEnabled := [(3, 0x1FFF8)] }, time := { base4.time with counter := 23438 }, self := { base4.self with bounds := [(0xB, 10)] } }
def al0 : List (Nat × Bool) := []
def P (x : Pos) (k : Nat := 4) : State := base4.setPos 3 k x
def px : Pos := { base4.fuse.position 3 4 with level := 200 }
def s3 := P { px with asks := [(5, false)] }
def s5 := P { px with run := some (false, 0), fenced := false }
def sk := P { px with run := some (true, 40) }
def F (j : List FuseJob) : State := { base4 with sec := { base4.sec with jobs := j }, self := { base4.self with fuseOk := true, nvmOk := true } }
def f0 := F [.claim 5 6]
def j0 : FuseJob := .claim 5 6
def l0 : List FuseJob := []
def C (x : CairnS → CairnS) : State := let s := F []; { s with cairn := x s.cairn }
def rec (n : Nat) : CRec := { num := n, w0 := 1, w1 := 5, w2 := 7, p2 := 9 }
def g0 := (C fun x => { x with buf := [rec 65536, rec 65537], written := 65536 }).setReg A.esel 421
def k0 := rec 65536
def kl1 : List CRec := [rec 65537]
def bl1 : List (W64 × Nat × Nat) := [(7, 5, 3)]
def w0 (n : Nat) : BitVec 256 := ((C id).writeSlot { num := n, w0 := 1, w1 := BitVec.ofNat 64 n, w2 := 7, p2 := 9 }).slotAt n
def g2 := (C fun x => { x with slot := [(65536, w0 65536), (65538, w0 65538)], written := 65540, clearing := [(70000, 65540, 65536), (7, 5, 3)] }).setReg A.cairnCursor 65538
def v0 : W64 := 70000
def bl0 : List (W64 × Nat × Nat) := []
def g3 := (C fun x => { x with slot := [(65536, w0 65536), (65538, w0 65539)], written := 65540, clearing := [(70000, 65540, 65537)] }).setReg A.cairnCursor 65538
end Checks

namespace Service
open Base Packets
def B : State := { base4 with self := { base4.self with nvmOk := true }, cairn := { base4.cairn with buf := [{ num := 3, w0 := 1, w1 := 5, w2 := 7, p2 := 9 }], next := 4, written := 3 } }
def V (f : SvcS → SvcS) (s : State := B) : State := { s with svc := f s.svc }
def s0 := V fun x => { x with stage := .running }
def r (ok : Bool) (ms : Nat) : SelfTest := { badPos := [], badCores := [], pathOk := ok, ms := ms }
def r0 := r true 7
def off : State := { B with dom := { mgmt := false, hub := false, mem := 0, core := 0 } }
def s1 := V (fun x => { x with mated := true, ramping := true }) off
def s2 := V (fun x => { x with lossAt := some 5, stage := .running })
def s3 := V fun x => { x with stage := .bivouac, commanded := true }
def s4 := V fun x => { x with stage := .bivouac, commanded := true, memOff := true, dieFail := 2 }
def s5 := V fun x => { x with stage := .dies, selfDone := 14 }
def r1 := r false 0x200000
def r2 : SelfTest := { badPos := [(3, 4)], badCores := [], pathOk := true, ms := 9 }
def s7 : State := { s0 with opt := { s0.opt with cass := (List.range 4).map fun k => (k, { Cass.init with present := true, st := .running }), feedSec := (List.range 64).map fun k => (k, 0) } }
def sb : State := let s := V fun x => { x with stage := .running, hubStartAt := none, bivAt := some (true, 128) }
  { s with time := { s.time with counter := 127, slewing := false }, pending := [] }
def vv : W64 := 128
def r3 : SelfTest := { badPos := [], badCores := [3], pathOk := true, ms := 9 }
def sd : State := let s := s5; s.setCore 3 { s.coreAt 3 with st := .reset, pos := (List.range 17).map fun j => (j, { Pos.init with trim := if j < 6 then 3 else if j < 12 then 2 else if j < 16 then 1 else 0, logical := j }) }
def f0 := (V fun x => { x with staged := 2 }).setReg A.fwSel 0x80
def f1 := (V fun x => { x with erasing := true, bank1 := Memory.write [] 8 [1,2,3,4,5,6,7,8,9], staged := 1 })
def f2 : State := ((V fun x => { x with staged := 2, bank1 := Memory.write [] 8 [1,2,3,4,5,6,7,8,9] }).setReg A.fwCt (BitVec.ofNat 64 (2^30))).setReg A.fwSel 0x8
def f3 : State := let s := (V fun x => { x with switchPending := true }).setReg A.fwCt 128; { s with time := { s.time with st := .locked } }
def f4 : State := let s := (V fun x => { x with switchPending := true }).setReg A.fwCt 128; { s with time := { s.time with st := .free } }
def f5 := V fun x => { x with switching := some 5 }
end Service

namespace Registers
open Base Packets
def B : State := { base4 with eth := { base4.eth with linkUp := 3 }, self := { base4.self with nvmOk := true } }
def s0 := B
end Registers

namespace Image
open Base Packets
def chunk (ws : List W64) (img sec off n : Nat) (spread := 0) : List W64 := [BitVec.ofNat 64 (img * 2^32 + sec * 2^16 + spread * 2^15 + 8 * n), BitVec.ofNat 64 (ws.length * 2^32 + 8 * off)] ++ (ws.drop off).take n
def pk (w : List W64) (src : Nat := 9) : Packet := mk 5 src 0 0x24 0 0 (8 * w.length) 0 (bytesOf w)
def rec23 : List W64 := [BitVec.ofNat 64 (0x0020 * 2^48 + 1), 0x10000]
def hdr (type gen base : Nat) (part : Nat) (act : Nat) (words : Nat) (img seid smask : Nat) : List W64 :=
  [BitVec.ofNat 64 (type * 2^56 + part * 2^54 + State.reset.svc.fmtMajor * 2^40 + words), BitVec.ofNat 64 (gen * 2^32 + base), BitVec.ofNat 64 act, BitVec.ofNat 64 (seid * 2^48 + smask * 2^32 + img)]
def secW (type gen : Nat) (rec : List W64) (act : Nat := 0) (part := 0) (base := 0) (ver := 0) (bad := 0) : List W64 :=
  let body := hdr type gen base part act (4 + rec.length + 424 + 2) 7 0 0 ++ rec ++ [BitVec.ofNat 64 (0x0FF0 * 2^48 + 423)] ++ List.replicate 423 0 ++ [BitVec.ofNat 64 (0x0FFF * 2^48 + 1)]
  let body := if ver = 1 then (body.set 0 (setFld (body.getD 0 0) 47 40 77)) else body
  body ++ [BitVec.ofNat 64 (crc32c (bytesOf body) + bad)]
def w1 := secW 1 9 rec23
def q0 := pk (chunk w1 7 2 0 30)
def B : State := let s := (upP (base4) 70).setReg (A.ethPcfg 0) (BitVec.ofNat 64 (2^63 + 9000))
  { s with eth := { s.eth with linkUp := 3 }, sec := { s.sec with sessions := [⟨7, 0, 1, 0x1234, some 10, [9], 2999999000, false⟩] } }
def S (f : TopoS → TopoS) : State := { B with topo := f B.topo }
def s0 := S id
def q6 := pk (chunk w1 7 2 0 30) 8
def um (body : List W64) : UMsg :=
  let m : UMsg := { w0 := packFields 0 [(63, 56, 1), (55, 48, 4), (31, 0, 11)], w1 := packFields 0 [(63, 48, 0xFFFF), (47, 32, 7), (15, 0, body.length)], w2 := 77, w3 := 0, body := body, tag := 0, src := 5, sport := 6, mac := 9, udpLen := 48 + 8 * body.length }
  tagged ⟨7, 0, 1, 0x1234, some 10, [9], 2999999000, false⟩ m
def m0 := um (chunk w1 7 2 0 30)
def m1 := um (chunk w1 7 2 0 0)
def n1 := w1.length - 6
def q1 := pk (chunk w1 7 2 n1 6)
def A0 (ws : List W64) (sec k : Nat) : Asm := { image := 7, sec := sec, words := ws.length, kept := true, data := (ws.take (ws.length - k)).zipIdx.map fun e => (e.2, e.1), lastAt := 5 }
def s1 := S fun x => { x with asm := [A0 w1 2 6] }
def a0' := A0 w1 2 6
def q5 := pk (chunk w1 7 3 n1 6)
def w2 := secW 1 9 rec23 0 0 0 1
def s2 := S fun x => { x with asm := [A0 w2 2 6, { A0 w2 3 6 with lastAt := 2999999999 }], done := [(7, 3, 0)] }
def s5 := S fun x => { x with asm := List.replicate 64 { A0 w1 9 6 with image := 3 } }
def pe (x : Sect) (f : TopoS → TopoS := id) (st : TState := .locked) : State :=
  let s := S fun t => f { t with pend := [(x.type, x)] }
  { s with dom := { s.dom with mgmt := true }, time := { s.time with st := st, counter := 2000 } }
def xq : Sect := { type := 1, partial_ := false, gen := 9, baseGen := 0, actCt := 0, due := 1920, words := 432, image := 7, sec := 2, scopeEid := 0, scopeMask := 0, recs := [(0x0020, false, [[0x10000]])], sigs := [], msg := [], now := false, missed := false }
def xp : Sect := xq
def p0 := pe xp
def p1 := pe xp id .free
def p5 : State := { (pe xp) with self := { (pe xp).self with nvmOk := true }, topo := { (pe xp).topo with storeDirty := true, pend := [(1, xp), (2, { xq with type := 2 })] } }
def xb : Sect := { xq with partial_ := true, baseGen := 77 }
def p3 := pe xb
def y6 : Rej := .base
end Image

namespace Rules
open Base Packets
def B : State :=
  let s := upP base4 3
  let s := { s with topo := { s.topo with items := [(1, [modE 5 5 0 0, modE 9 9 0 0]), (3, [(0x0002, [BitVec.ofNat 64 (0x8000 * 2^48 + 3 * 2^41), 5])])] } }
  s.setPort 3 { s.portAt 3 with rxSeq := 5 }
def s0 := B
def ts (q : Packet) : Packet := qSeal { q with w2 := BitVec.ofNat 64 (131000 * 2 ^ 16) }
def q1 := ts <| mk 5 9 0 0x32 0 0 0 0 []
def f1 := frameOf 1 5 0 q1
def a0' : BitVec 38 := 0x123456789
def d0 := base4
def e0 := s0.setCore 3 (co 64)
def c0 : Cause := .illegal
end Rules

namespace Fetch
open Base Packets
def C (x : Core) : State := { a0 with core := [(3, x)] }
def c0 : Core := { q3 with pc := 0xC0000 }
def s0 := C c0
def c1 : Core := { q3 with pc := 0x10000, store := Memory.write [] 0x10000 [0,0,0,0,0,0,0,0xF0] }
def s1 := C c1
end Fetch

/-! ### Commands outside their form -/

/-- A command that names a unit the module does not have is not well formed; the last unit is. -/
theorem test_wf_ports : (Instr.holdPort 93).wf = false ∧ (Instr.holdPort 92).wf = true ∧ (Instr.idleSend 31 4).wf = false
    ∧ (Instr.idleSend 30 7).wf = true ∧ (Instr.laneFecFault 93 0).wf = false ∧ (Instr.frameInject 92 false).wf = false
    ∧ (Instr.frameInject 100 false).wf = false ∧ (Instr.frameInject 99 true).wf = true ∧ (Instr.dynamicAdmit 17).wf = false
    ∧ (Instr.ident 96 0 (Optics.cf Optics.f0)).wf = false ∧ (Instr.ringLock 96 0 false).wf = false ∧ (Instr.ringLock 32 4 false).wf = false := by
  decide

theorem test_wf_cores : (Instr.halt 2560 Base.r0).wf = false ∧ (Instr.halt 2559 Base.r0).wf = true
    ∧ (Instr.tileAccept 0 16).wf = false ∧ (Instr.tileStart 0 17).wf = false ∧ (Instr.tileStart 2559 16).wf = true
    ∧ (Instr.copyEngineAdmit 1 639).wf = false ∧ (Instr.copyEngineAdmit 1 640).wf = true := by
  decide

theorem test_wf_dies : (Instr.dieFence 4 .clock).wf = false ∧ (Instr.dieFence 3 .clock).wf = true ∧ (Instr.memoryAdmit 0 16).wf = false
    ∧ (Instr.memoryInitComplete 4 0).wf = false ∧ (Instr.refreshCommand 0 0 16).wf = false ∧ (Instr.stackLimitRelease 0 8).wf = false
    ∧ (Instr.bundleDrop 0 false 96).wf = false ∧ (Instr.teardownAtT 16).wf = false
    ∧ (Instr.selftestComplete 1 ⟨[], [639], true, 0⟩).wf = false ∧ (Instr.selftestComplete 1 ⟨[(640, 0)], [1279], true, 0⟩).wf = true := by
  decide

theorem test_wf_edges : (Instr.sourceFail 0 10).wf = false ∧ (Instr.spareVerified 0 2).wf = false ∧ (Instr.cassRemove 4).wf = false
    ∧ (Instr.feedSwitchBack 16 0).wf = false ∧ (Instr.feedSwitchBack 0 8).wf = false ∧ (Instr.ethFrameDiscard 2).wf = false
    ∧ (Instr.cnp 256).wf = false ∧ (Instr.cnp 255).wf = true ∧ (Instr.thermalTrip 463).wf = false ∧ (Instr.thermalTrip 480).wf = false
    ∧ (Instr.ptpMessage 2 ⟨0, 0, 0, .sync true 0 ⟨0, 0, 0⟩⟩).wf = false ∧ (Instr.readClear 4).wf = false ∧ (Instr.readClear 0x4000000).wf = false
    ∧ (Instr.registerWrite .mp 0x3FFFFF8 0).wf = true := by
  decide

/-- A command outside its form faults, and one of the table does not. -/
theorem test_wf_stops : exec (.holdPort 93) State.reset = .fault .noSuchUnit ∧ (∃ t, exec (.holdPort 92) State.reset = .next t) :=
  ⟨rfl, _, rfl⟩

/-! ### Words written out from the encoding tables -/

/-- The worked encoding of R122: CLASS 3, OP 3, GUARD 2, D 3, A 1, B 2, C 3. -/
theorem test_word_vfma : decodeCoreWord 5 (BitVec.ofNat 64 (3 * 2 ^ 60 + 3 * 2 ^ 54 + 2 * 2 ^ 50 + 3 * 2 ^ 45 + 1 * 2 ^ 40 + 2 * 2 ^ 35 + 3 * 2 ^ 30))
    = some (.vfma 5 { Base.r6 with guard := 2, d := 3, a := 1, b := 2, c := 3 }) := by decide +kernel

/-- R128: CLASS 11 encodes no instruction. -/
theorem test_word_reserved_class : decodeCoreWord 0 (BitVec.ofNat 64 (11 * 2 ^ 60)) = none := by decide +kernel

/-! ### The worked examples of the spec -/

/-- R7: the slot of ct 0x1_2A00_0000 is 39,059,456. -/
theorem test_slot : { State.reset with time := { State.reset.time with counter := 0x12A000000 } }.slot = 39059456 := by decide +kernel

/-- R33: offset 3 ticks and delay 19,600 ticks, kept in sixteenths. -/
theorem test_time_exchange :
    (let s := State.reset.setNbr 0 { State.reset.nbrAt 0 with sent := [(7, 0)] }
     let f : Words4 := ⟨4999630171, 4999610368, 4999629971, 7⟩
     let t := { s with time := { s.time with counter := 4999649768 } }.timeFrame 0 f 0
     ((t.nbrAt 0).offset, (t.nbrAt 0).delay)) = (3 * 16, 19600 * 16) := by decide +kernel

/-- R48: binary32 0x40490FDB to BF16, rounded to nearest and towards zero. -/
theorem test_bf16 : (bf16.enc .rne (dec32 0x40490FDB)).1 = 0x4049 ∧ (bf16.enc .rtz (dec32 0x40490FDB)).1 = 0x4049 := by decide +kernel

/-- R62: the MXFP4 block 5.0, −1.3, 0.2. -/
theorem test_pack_mxfp4 : (bfmt 6).map (fun f => ((f.packBlock (fun _ => .rne) ([0x40A00000, 0xBFA66666, 0x3E4CCCCD].map dec32 ++ List.replicate 29 (dec32 0))).scale,
    (f.packBlock (fun _ => .rne) ([0x40A00000, 0xBFA66666, 0x3E4CCCCD].map dec32 ++ List.replicate 29 (dec32 0))).elems.take 3)) = some (0x7F, [6, 0xB, 0]) := by
  decide +kernel

/-- R62: the KBI4.16 block 0.75, −0.1, 0.3. -/
theorem test_pack_kbi4 : (bfmt 0x12).map (fun f => ((f.packBlock (fun _ => .rne) ([0x3F400000, 0xBDCCCCCD, 0x3E99999A].map dec32 ++ List.replicate 13 (dec32 0))).scale,
    (f.packBlock (fun _ => .rne) ([0x3F400000, 0xBDCCCCCD, 0x3E99999A].map dec32 ++ List.replicate 13 (dec32 0))).elems.take 3)) = some (0x7C, [6, 9, 2]) := by
  decide +kernel

/-- R54, R56: the two blocks meet in one array block: 51 × 2^−4, binary32 0x404C_0000. -/
theorem test_column_end :
    (let a := (⟨6, 4, 32, .small 1 1 0x7, 2⟩ : BFmt).blockOf 5 0x7F false ([6, 0xB] ++ List.replicate 14 0)
     let b := (⟨0x12, 4, 16, .kbi, 2⟩ : BFmt).blockOf 4 0x7C true ([6, 9, 2] ++ List.replicate 13 0)
     (a.ints.take 2, b.ints.take 3, (stepElem 0 [b] (ACol.dense a) (0, 0)).1)) = ([8, -3], [6, -1, 2], 0x404C0000) := by decide +kernel

/-- R56: a block sum of 20,000,001 rounds to 20,000,000. -/
theorem test_block_sum_rounds : addBlock (0, 0) 20000001 0 = addBlock (0, Flag.inexact) 20000000 0 := by decide +kernel

/-- The scores of the worked routing of R110. -/
def scores : List (List W32) :=
  [[0x3F666666, 0x3F000000, 0x3DCCCCCD, 0x00000000],
   [0x3F4CCCCD, 0x3F333333, 0x3E4CCCCD, 0x3DCCCCCD],
   [0x3F333333, 0x3DCCCCCD, 0x3F19999A, 0x3E99999A],
   [0x3F733333, 0x3E4CCCCD, 0x3E99999A, 0x3DCCCCCD],
   [0x3DCCCCCD, 0x3F666666, 0x3E99999A, 0x3E4CCCCD],
   [0x3F19999A, 0x3F19999A, 0x00000000, 0x3F000000]]
/-- Its tokens, ranked and weighted by R108 and R109 with NORM RAW. -/
def tokens : List Token := scores.map fun sc => ⟨ranking sc, (weights 0 sc (ranking sc) 2).1, false, 0⟩
/-- Its block: 6 tokens, 4 experts of capacity 3, k = 2, with one of the capacity modes. -/
def routing (mode : Nat) : Assign :=
  { routeBlkOf 0 [] with tokens := 6, experts := 4, k := 2, capMode := mode }.assign (List.replicate 4 ⟨0, false, 0, 3, 0, 0, false⟩) tokens
/-- Expert, slot and SPILLED of the entries of an assignment. -/
def entries (a : Assign) : List (List (Nat × Nat × Bool)) :=
  a.recs.map fun r => r.map fun w => (fld w 55 48, fld w 47 32, bit w 63)

/-- R110 under DROP: tokens 3 and 5 lose their first choice and token 5 its second; fill counts 3, 3, 3, 0. -/
theorem test_route_drop : (routing 0).fill = [3, 3, 3, 0] ∧ (routing 0).drops = 3
    ∧ ((entries (routing 0)).map fun r => r.map fun x => if x.2.1 = 0xFFFF then none else some (x.1, x.2.1))
      = [[some (0, 0), some (1, 1)], [some (0, 1), some (1, 2)], [some (0, 2), some (2, 0)], [none, some (2, 1)],
         [some (1, 0), some (2, 2)], [none, none]] := by decide +kernel

/-- R110 under SPILL: four spills and one drop; fill counts 3, 3, 3, 2. -/
theorem test_route_spill : (routing 1).fill = [3, 3, 3, 2] ∧ (routing 1).drops = 1 ∧ (routing 1).spills = 4
    ∧ ((entries (routing 1)).map fun r => r.map fun x => if x.2.1 = 0xFFFF then none else some x)
      = [[some (0, 0, false), some (1, 2, false)], [some (0, 1, false), some (2, 0, true)], [some (0, 2, false), some (2, 1, false)],
         [some (1, 0, true), some (2, 2, false)], [some (1, 1, false), some (3, 1, true)], [some (3, 0, true), none]] := by
  decide +kernel

/-- R115: the shadow register after 0x8000_0001, not sampled at RATE 8. -/
theorem test_shadow : shadowNext 0x80000001 = 0x00400005 ∧ sampledAt (shadowNext 0x80000001) 8 = false := by decide +kernel

/-- R163: the AdamW element; the parameter in binary32 lies within two units of 0x3EFF_7660 and rounds to BF16 0x3EFF. -/
theorem test_adamw :
    (let r : List W64 := [BitVec.ofNat 64 (2 ^ 56), BitVec.ofNat 64 0x3DCCCCCD, BitVec.ofNat 64 (0x3F666666 * 2 ^ 32 + 0x3F7FBE77), BitVec.ofNat 64 (0x322BCC77 * 2 ^ 32)]
     let p := (adamF r 0x3A83126F 1 0x3F000000 0x3CA3D70A 0 0).1
     (decide (p.toNat ≤ 0x3EFF7662 ∧ 0x3EFF765E ≤ p.toNat), (bf16.enc .rne (dec32 p)).1)) = (true, 0x3EFF) := by decide +kernel

/-- R180: die 1, channel 23, channel-local address 0x2468_AC40. -/
theorem test_place : State.reset.place 0x5234567A40 = { die := 1, chan := 23, addr := 0x2468AC40 } := by decide +kernel

/-- R192: die offsets 0x8100 apart fall on one channel. -/
theorem test_one_channel : ([0, 1, 5, 64, 127].map fun k => (State.reset.place (2 ^ 22 + k * 0x8100)).chan) = List.replicate 5 (State.reset.place (2 ^ 22)).chan := by
  decide +kernel

/-- R246: products in the field, the shards P and Q of 0x11, 0x22, 0x40, and d1 rebuilt. -/
theorem test_gf : gfMul 4 0x40 = 0x1D ∧ gfMul 0x03 0xF4 = 1 ∧ 0x11 ^^^ 0x22 ^^^ 0x40 = 0x73
    ∧ 0x11 ^^^ gfMul 2 0x22 ^^^ gfMul 4 0x40 = 0x48 ∧ gfMul 0xF4 (0x73 ^^^ 0x48) ^^^ gfMul 3 0x40 = 0x22 := by decide +kernel

/-- R343: READ of TIME.STATUS in session 3: word 0 of request and reply, and the first bytes on the wire. -/
theorem test_read_words :
    (let m : UMsg := { w0 := 0x0102000000000051, w1 := 0x0065000300000001, w2 := 0, w3 := 0, body := [0x100008], tag := 0, src := 0, sport := 0
                       mac := 0, udpLen := 56 }
     ([uVersion m, uType m, uReqId m, uEid m, uSession m], uLengthOk m, (uBytes m).take 8)) = ([1, 2, 0x51, 0x65, 3], true, [0x51, 0, 0, 0, 0, 0, 2, 1])
    ∧ (State.reset.message 0 2 0 0x51 3 [0] { w0 := 0, w1 := 0, w2 := 0, w3 := 0, body := [], tag := 0, src := 0, sport := 0, mac := 0, udpLen := 0 }).w0
      = 0x0102800000000051 := by decide +kernel

/-- FIPS 202: SHA3-256 of the empty message. -/
theorem test_sha3_empty :
    sha3 [] = BitVec.ofNat 256 (ofBytes (toBytes 32 0xa7ffc6f8bf1ed76651c14756a061d662f580ff4de43b49fa82d80a4b80f8434a).reverse) := by
  decide +kernel

/-- FIPS 180-4: SHA-512 of "abc". -/
theorem test_sha512_abc : (sha512 [0x61, 0x62, 0x63]).take 8 = [0xdd, 0xaf, 0x35, 0xa1, 0x93, 0x61, 0x7a, 0xba] := by
  decide +kernel

/-- R405: the record of a thermal trip, number 70,000. -/
theorem test_cairn_record :
    (let s := { State.reset with time := { State.reset.time with st := .locked, counter := 0x12A2625A0 }, self := { State.reset.self with nvmOk := true } }
     (s.record { sev := 4, index := 466, code := 0x9003, p0 := 460, p1 := 0xF } 70000).words.take 3)
      = [0x1170440091D29003, 0x000000012A2625A0, 0x0000000F000001CC] ∧ slotKey 70000 - 65536 = 4464 := by decide +kernel

/-- R314, R320: header and records of the worked image's ROUTE section, and of its UPDATE section. -/
theorem test_image_words : (let w : W64 := 0x08400100000001B8
      (fld w 63 56, bit w 55, bit w 54, fld w 47 40, fld w 31 0)) = (8, false, true, 1, 440)
    ∧ entryKey 0x0070 0x8007000000000000 = 2 * 1024 + 7 ∧ entryKey 0x0030 0x1000000000000000 = 8
    ∧ entryOk 0x0030 [0x1000000000000000, 0x00000000800A8009] = true := by decide +kernel

/-- R258, R316: the CRCs of the nine digits have the check values of their parameter sets. -/
theorem test_crcs : (let d : List Byte := [0x31, 0x32, 0x33, 0x34, 0x35, 0x36, 0x37, 0x38, 0x39]
    (crc32c d, crc16 d)) = (0xE3069283, 0x29B1) := by decide +kernel

/-! ### The queue and decoding by the table -/

/-- Commands leave the queue in the order they came (log 1). -/
theorem test_queue : (∃ t, step { State.reset with pending := [.restore, .closeAll] } = .next t ∧ t.pending = [.closeAll]) := ⟨_, rfl, rfl⟩

/-- R114, R358: one tick at 2.0 GHz is a whole cycle; the 81,930th eightieth of a cycle in WAITING ends a unit of 1,024 cycles. -/
theorem test_wait_cycles :
    (let s := { State.reset with core := [(3, { Core.init with st := .waiting })], parts := [(A.coreStalls 3 * 64, 81850)]
                                 self := { State.reset.self with op := [(0, { OpPoint.init with step := 48 })] } }
     (s.idleStep.reg (A.coreStalls 3), s.idleStep.parts)) = (1, [(A.coreStalls 3 * 64, 10)]) := by decide +kernel

/-- R436: PRES opening with a commanded power-down leaves one POWER_LOSS record, with P1 = 0. -/
theorem test_power_down_with_pres :
    (let s := { State.reset with dom := { State.reset.dom with mgmt := true } }
     let p1 := fun (t : State) => t.cairn.buf.map fun r => fld r.w2 63 32
     let t := s.commandPowerDown
     (p1 t, match execInputLoss .presOpen t with
       | .next u => p1 u
       | _ => [7])) = ([1], [0]) := by decide +kernel

/-- States and accesses for each clause about registers: a domain that is down, an address of no register, a plain field, one that another
port writes later in the tick, and one that is read and cleared. -/
theorem witness_RegisterFieldsFollowTheirAccessCodes :
    (let s := { State.reset with dom := { State.reset.dom with hub := true } }
     let t := { s with edge := { s.edge with sw := [(A.optCfg, [(2, 5)])] } }
     let plain := fun (s : State) (a : Nat) (v : W64) =>
       s.live a && (match regAt a with
         | some (d, i, j) => (s.writeHubReg d.base i v).isNone && (s.writeDieReg d.base i j v).isNone && (s.peakIndex d.base).isNone
             && !valueReg d.base && s.plainReg d.base
         | none => false)
     [State.reset.live A.optCfg, (regAt 0x1E00000).isNone, plain s A.thermEvents 6, (s.laterWrites A.thermEvents 0).isEmpty,
       plain t A.optCfg 9, t.laterWrites A.optCfg 1 == [(2, 5)], plain s (A.pcnt 3) 0])
    = [false, true, true, true, true, true, true] := by decide +kernel

/-- A canonical state with a step, and words for each clause about core words. -/
theorem witness_StepKeepsMemoriesCanonical : State.reset.memoriesOk = true ∧ ∃ t, step State.reset = .next t := ⟨by decide +kernel, _, rfl⟩

theorem witness_CoreWordsRoundTrip :
    encodeCoreWord (.halt 7 Base.r0) = some (7, ((encodeCoreWord (.halt 7 Base.r0)).map Prod.snd).getD 0)
    ∧ (11 ≤ (BitVec.extractLsb' 60 4 (0xB000000000000000 : W64)).toNat) := by decide +kernel

/-- The table gives no row bits, so a word spells no command. -/
theorem test_table_word : decodeTableWord 64 5 = none ∧ State.reset.withFetchWord 64 5 = State.reset := ⟨rfl, rfl⟩

/-! ### Witnesses: what each clause of a statement asks for holds somewhere -/

/-- A request with the tag of an open session passes the checks of its header. -/
theorem gate_of_session {s : State} {m : UMsg} {x : Session}
    (h : s.session (uSession m) = some x ∧ uLengthOk m = true ∧ uEid m = 0xFFFF ∧ uVersion m = 1 ∧ uReply m = false)
    (tag : uTag x m = m.tag) : s.gate m = .pass := by
  obtain ⟨a, b, c, d, e⟩ := h
  simp [State.gate, a, b, c, d, e, tag]

/-- The tag that a session gives a message. -/
theorem tagged_fits (x : Session) (m : UMsg) : uTag x (Packets.tagged x m) = (Packets.tagged x m).tag := rfl

/-- A request in an open session is accepted. -/
theorem accepts_of_session {s : State} {p : Nat} {m : UMsg} {x : Session}
    (h : (s.session (uSession m) = some x ∧ uLengthOk m = true ∧ uEid m = 0xFFFF ∧ uVersion m = 1 ∧ uReply m = false)
      ∧ (p < 2 ∧ s.ethOn p = true ∧ s.frameFits p m = true ∧ s.svc.switching = none) ∧ s.keptReply p m = none
      ∧ (s.session (uSession m)).all (fun x => x.admits (uReqId m)) = true ∧ s.waitingOn p < 64 ∧ s.denied m = false ∧ uPlain m = true)
    (tag : uTag x m = m.tag) : s.accepts p m :=
  ⟨h.2.1.1, h.2.1.2.1, h.2.1.2.2.1, h.2.1.2.2.2, gate_of_session h.1 tag, h.2.2⟩

theorem witness_EmptyQueueTicks :
    (Fetch.s0.pending = [] ∧ Fetch.s0.core = [(3, Fetch.c0)] ∧ Fetch.c0.mayIssue = true ∧ Fetch.s0.svc.bivAt = none ∧ storeSize ≤
      Fetch.c0.pc)
    ∧ (Fetch.s1.pending = [] ∧ Fetch.s1.core = [(3, Fetch.c1)] ∧ Fetch.c1.mayIssue = true ∧ Fetch.s1.svc.bivAt = none ∧ Fetch.c1.pc <
      storeSize ∧ decodeCoreWord 3 Fetch.c1.fetchWord = none) :=
  by decide +kernel

theorem witness_ScalarArithmeticAndImmediates :
    (Base.s0.runsR 3 Base.r0 { d := .s, a := .s, b := .s })
    ∧ (Base.s0.runsI 3 Base.i0 .s .s true)
    ∧ (Base.s0.runsI 3 Base.i0 .s .s (Decidable.decide (Base.i0.imm.toNat < 64)))
    ∧ (Base.s0.runsI 3 Base.i3 .s .none true)
    ∧ (Base.s0.runsI 3 Base.i3 .s .none (Decidable.decide (Base.i3.imm.toNat < 2 ^ 24))) :=
  by and_intros <;> decide +kernel

theorem witness_PredicatesAndScalarReads :
    (Base.s0.runsR 3 Base.r0 { d := .p, a := .s, b := .s })
    ∧ (Base.s0.runsR 3 Base.r0 { d := .p, a := .p, b := .p })
    ∧ (Base.s0.runsR 3 Base.r6 { d := .p, a := .s })
    ∧ (Base.s0.runsR 3 Base.r6 { d := .s, a := .p })
    ∧ (Base.s0.runsR 3 Base.r6 { })
    ∧ (Base.s0.runsR 3 Base.r6 { d := .s })
    ∧ (Base.s0.runsR 3 Base.r6 { a := .s }) :=
  by and_intros <;> decide +kernel

theorem witness_BranchesGoToTheirTargets :
    (Base.s0.runsI 3 Base.i0 .s .s true ∧ (BitVec.toNat ((Base.s0.coreAt 3).sreg Base.i0.a.toNat + BitVec.ofInt 64 Base.i0.imm.toInt)
      % 8 = 0 ∧ BitVec.toNat ((Base.s0.coreAt 3).sreg Base.i0.a.toNat + BitVec.ofInt 64 Base.i0.imm.toInt) < 786432))
    ∧ (Base.s0.runsI 3 Base.i4 .none .none true ∧ ((BitVec.ofInt 64 (↑(Base.s0.coreAt 3).pc + 8 * Base.i4.imm.toInt)).toNat % 8 = 0 ∧
      (BitVec.ofInt 64 (↑(Base.s0.coreAt 3).pc + 8 * Base.i4.imm.toInt)).toNat < 786432))
    ∧ (Base.s0.runsI 3 Base.i4 .s .none true ∧ ((BitVec.ofInt 64 (↑(Base.s0.coreAt 3).pc + 8 * Base.i4.imm.toInt)).toNat % 8 = 0 ∧
      (BitVec.ofInt 64 (↑(Base.s0.coreAt 3).pc + 8 * Base.i4.imm.toInt)).toNat < 786432))
    ∧ (Base.s0.runsI 3 Base.i4 .s .none true ∧ (Base.i4.d = 0 ∨ (Base.s0.coreAt 3).sreg Base.i4.d.toNat - 1 = 0))
    ∧ (Base.s0.runsI 3 Base.i7 .none .s true ∧ (BitVec.toNat ((Base.s0.coreAt 3).sreg Base.i7.a.toNat + BitVec.ofInt 64
      Base.i7.imm.toInt) % 8 = 0 ∧ BitVec.toNat ((Base.s0.coreAt 3).sreg Base.i7.a.toNat + BitVec.ofInt 64 Base.i7.imm.toInt) <
      786432))
    ∧ (Base.s0.runsI 3 Base.j0 .s .none true ∧ Base.j0.d ≠ 0 ∧ (Base.s0.coreAt 3).sreg Base.j0.d.toNat - 1 ≠ 0 ∧ ((BitVec.ofInt 64
      (↑(Base.s0.coreAt 3).pc + 8 * Base.j0.imm.toInt)).toNat % 8 = 0 ∧ (BitVec.ofInt 64 (↑(Base.s0.coreAt 3).pc + 8 *
      Base.j0.imm.toInt)).toNat < 786432))
    ∧ (Base.s0.runsI 3 Base.i1 .none .s true ∧ (BitVec.toNat ((Base.s0.coreAt 3).sreg Base.i1.a.toNat + BitVec.ofInt 64
      Base.i1.imm.toInt) % 8 ≠ 0 ∨ 786432 ≤ BitVec.toNat ((Base.s0.coreAt 3).sreg Base.i1.a.toNat + BitVec.ofInt 64
      Base.i1.imm.toInt)))
    ∧ (Base.s2.runsI 3 Base.i4 .none .none true ∧ ((BitVec.ofInt 64 (↑(Base.s2.coreAt 3).pc + 8 * Base.i4.imm.toInt)).toNat % 8 ≠ 0 ∨
      786432 ≤ (BitVec.ofInt 64 (↑(Base.s2.coreAt 3).pc + 8 * Base.i4.imm.toInt)).toNat)) :=
  by and_intros <;> decide +kernel

theorem witness_IssueChecksAddressFieldsAndGuard :
    (3 < 2560 ∧ (Base.s3.coreAt 3).mayIssue = true ∧ 786432 ≤ (Base.s3.coreAt 3).pc)
    ∧ (Base.s0.ready 3 ∧ (Base.x1.c ≠ 0 ∨ Base.x1.fmt ≠ 0 ∨ Base.x1.rm ≠ 0 ∨ Base.x1.x ≠ 0 ∨ Base.x1.idx ≠ 0 ∨ Base.x1.half = true ∨
      Base.x1.lm1 ≠ 0 ∨ Base.x1.res ≠ 0 ∨ Base.x1.gneg = true ∧ Base.x1.guard = 0))
    ∧ (Base.s0.ready 3 ∧ RF.legal Base.r9 { d := .s, a := .s, b := .s } = true ∧ RF.stalls Base.r9 { d := .s, a := .s, b := .s }
      (Base.s0.coreAt 3) = false ∧ bit ((Base.s0.coreAt 3).guardWord Base.r9.gneg Base.r9.guard) 0 = false) :=
  by and_intros <;> decide +kernel

theorem witness_ExceptionsRaiseJobFaults :
    ((Rules.e0.coreAt 3).st = .running ∧ Rules.c0.code ≤ 7 ∧ Rules.e0.coreTag 3 ≠ 0 ∧ bit (Rules.e0.reg A.epJobfault)
      (Rules.e0.corePart 3) = false ∧ Rules.e0.eth.events.length < 4096) :=
  by decide +kernel

theorem witness_LocalLoadsAndStores :
    (Base.s0.runsI 3 Base.i0 .s .s true ∧ (BitVec.toNat ((Base.s0.coreAt 3).sreg Base.i0.a.toNat + BitVec.ofInt 64 Base.i0.imm.toInt)
      % 1 = 0 ∧ BitVec.toNat ((Base.s0.coreAt 3).sreg Base.i0.a.toNat + BitVec.ofInt 64 Base.i0.imm.toInt) + 1 ≤ 786432))
    ∧ (Base.s0.runsI 3 Base.i0 .s .s true ∧ (BitVec.toNat ((Base.s0.coreAt 3).sreg Base.i0.a.toNat + BitVec.ofInt 64 Base.i0.imm.toInt)
      % 2 = 0 ∧ BitVec.toNat ((Base.s0.coreAt 3).sreg Base.i0.a.toNat + BitVec.ofInt 64 Base.i0.imm.toInt) + 2 ≤ 786432))
    ∧ (Base.s0.runsI 3 Base.i0 .s .s true ∧ (BitVec.toNat ((Base.s0.coreAt 3).sreg Base.i0.a.toNat + BitVec.ofInt 64 Base.i0.imm.toInt)
      % 4 = 0 ∧ BitVec.toNat ((Base.s0.coreAt 3).sreg Base.i0.a.toNat + BitVec.ofInt 64 Base.i0.imm.toInt) + 4 ≤ 786432))
    ∧ (Base.s0.runsI 3 Base.i0 .s .s true ∧ (BitVec.toNat ((Base.s0.coreAt 3).sreg Base.i0.a.toNat + BitVec.ofInt 64 Base.i0.imm.toInt)
      % 8 = 0 ∧ BitVec.toNat ((Base.s0.coreAt 3).sreg Base.i0.a.toNat + BitVec.ofInt 64 Base.i0.imm.toInt) + 8 ≤ 786432))
    ∧ (Base.s0.runsI 3 Base.i0 .p .s true ∧ (BitVec.toNat ((Base.s0.coreAt 3).sreg Base.i0.a.toNat + BitVec.ofInt 64 Base.i0.imm.toInt)
      % 8 = 0 ∧ BitVec.toNat ((Base.s0.coreAt 3).sreg Base.i0.a.toNat + BitVec.ofInt 64 Base.i0.imm.toInt) + 8 ≤ 786432))
    ∧ (Base.s0.runsI 3 Base.i1 .s .s true ∧ BitVec.toNat ((Base.s0.coreAt 3).sreg Base.i1.a.toNat + BitVec.ofInt 64 Base.i1.imm.toInt)
      % 2 ≠ 0)
    ∧ (Base.s0.runsI 3 Base.i1 .s .s true ∧ BitVec.toNat ((Base.s0.coreAt 3).sreg Base.i1.a.toNat + BitVec.ofInt 64 Base.i1.imm.toInt)
      % 4 ≠ 0)
    ∧ (Base.s0.runsI 3 Base.i1 .s .s true ∧ BitVec.toNat ((Base.s0.coreAt 3).sreg Base.i1.a.toNat + BitVec.ofInt 64 Base.i1.imm.toInt)
      % 8 ≠ 0)
    ∧ (Base.s0.runsI 3 Base.i1 .s .s true ∧ BitVec.toNat ((Base.s0.coreAt 3).sreg Base.i1.a.toNat + BitVec.ofInt 64 Base.i1.imm.toInt)
      % 1 = 0 ∧ 786432 < BitVec.toNat ((Base.s0.coreAt 3).sreg Base.i1.a.toNat + BitVec.ofInt 64 Base.i1.imm.toInt) + 1)
    ∧ (Base.s0.runsI 3 Base.i6 .s .s true ∧ BitVec.toNat ((Base.s0.coreAt 3).sreg Base.i6.a.toNat + BitVec.ofInt 64 Base.i6.imm.toInt)
      % 2 = 0 ∧ 786432 < BitVec.toNat ((Base.s0.coreAt 3).sreg Base.i6.a.toNat + BitVec.ofInt 64 Base.i6.imm.toInt) + 2)
    ∧ (Base.s0.runsI 3 Base.i6 .s .s true ∧ BitVec.toNat ((Base.s0.coreAt 3).sreg Base.i6.a.toNat + BitVec.ofInt 64 Base.i6.imm.toInt)
      % 4 = 0 ∧ 786432 < BitVec.toNat ((Base.s0.coreAt 3).sreg Base.i6.a.toNat + BitVec.ofInt 64 Base.i6.imm.toInt) + 4)
    ∧ (Base.s0.runsI 3 Base.i6 .s .s true ∧ BitVec.toNat ((Base.s0.coreAt 3).sreg Base.i6.a.toNat + BitVec.ofInt 64 Base.i6.imm.toInt)
      % 8 = 0 ∧ 786432 < BitVec.toNat ((Base.s0.coreAt 3).sreg Base.i6.a.toNat + BitVec.ofInt 64 Base.i6.imm.toInt) + 8) :=
  by and_intros <;> decide +kernel

theorem witness_VectorLoadsAndStores :
    (Base.s0.runsIV 3 Base.j9 ∧ BitVec.toNat ((Base.s0.coreAt 3).sreg Base.j9.a.toNat + BitVec.ofInt 64 Base.j9.imm.toInt) % 64 = 0 ∧
      (∀ i < 64, bit ((Base.s0.coreAt 3).guardWord Base.j9.gneg Base.j9.guard) i = true → (BitVec.toNat ((Base.s0.coreAt 3).sreg
      Base.j9.a.toNat + BitVec.ofInt 64 Base.j9.imm.toInt) + 4 * i) % 2 ^ 64 + 4 ≤ 786432)) :=
  by decide +kernel

theorem witness_VectorIntegersBitsAndMoves :
    (Vectors.f4.fmt = 8 ∧ Base.s0.runsV 3 Vectors.f4 { use2 fmtsFI with rm := true })
    ∧ (Vectors.f6.fmt = 8 ∧ Base.s0.runsV 3 Vectors.f6 { use1 fmtsFI with rm := true })
    ∧ (Base.s0.runsV 3 Vectors.f0 { d := .v, a := .v, b := .v })
    ∧ (Base.s0.runsV 3 Vectors.f0 { d := .v, a := .v, b := .v, c := .p })
    ∧ (Base.s0.runsV 3 Vectors.f0 { d := .s, a := .v, b := .s })
    ∧ (Base.s0.runsV 3 Vectors.f9 { d := .v, a := .v })
    ∧ (Base.s0.runsV 3 Vectors.f9 { d := .v, a := .s }) :=
  by and_intros <;> decide +kernel

theorem witness_VectorFloatingPoint :
    (Vectors.f0.fmt ≠ 8 ∧ Base.s0.runsV 3 Vectors.f0 { use2 fmtsFI with rm := true })
    ∧ (Vectors.f0.fmt ≠ 8 ∧ Base.s0.runsV 3 Vectors.f0 { use3 fmtsF with rm := true })
    ∧ (Vectors.f0.fmt ≠ 8 ∧ Base.s0.runsV 3 Vectors.f0 { use2 fmtsF with rm := true })
    ∧ (Vectors.f9.fmt ≠ 8 ∧ Base.s0.runsV 3 Vectors.f9 { use1 fmtsFI with rm := true })
    ∧ (Vectors.f9.fmt ≠ 8 ∧ Base.s0.runsV 3 Vectors.f9 { use1 fmtsF with rm := true }) :=
  by and_intros <;> decide +kernel

theorem witness_ConversionsRoundAndKeepNaNsCanonical :
    ((dec32 Vectors.w0).isNaN = false)
    ∧ (((dec32 Vectors.w0).isNaN = true ∨ (dec32 Vectors.w1).isNaN = true))
    ∧ (Base.s0.runsV 3 Vectors.f0 { d := .v, a := .v, b := .v, rm := true })
    ∧ (Base.s0.runsV 3 Vectors.f9 { d := .v, a := .v })
    ∧ (Base.s0.runsV 3 Vectors.f9 { d := .v, a := .v, rm := true }) :=
  by and_intros <;> decide +kernel

theorem witness_VectorComparesAndReductions :
    (Base.s0.runsV 3 Vectors.f0 { d := .p, a := .v, b := .v, fmts := [0, 8] })
    ∧ (Base.s0.runsV 3 Vectors.f0 { d := .p, a := .v, b := .v })
    ∧ (Base.s0.runsV 3 Vectors.f6 { d := .s, a := .v, fmts := fmtsFI, rm := true } ∧ Vectors.f6.fmt = 8)
    ∧ (Base.s0.runsV 3 Vectors.f6 { d := .s, a := .v, fmts := fmtsFI }) :=
  by and_intros <;> decide +kernel

theorem witness_PackAndUnpack :
    (bfmt Vectors.b1.fmt.toNat = some Vectors.c2 ∧ BitVec.toNat ((Base.s0.coreAt 3).sreg Vectors.b1.b.toNat) + (if Vectors.b1.half =
      true then 128 else 64) * Vectors.c2.bits / 8 ≤ 786432 ∧ BitVec.toNat ((Base.s0.coreAt 3).sreg Vectors.b1.c.toNat) + (if
      Vectors.b1.half = true then 128 else 64) / Vectors.c2.block ≤ 786432 ∧ Base.s0.runsR 3 Vectors.b1
      { a := .v, b := .s, c := .s, fmts := blockCodes, rm := true, half := true })
    ∧ (bfmt Vectors.u1.fmt.toNat = some Vectors.c2 ∧ BitVec.toNat ((Base.s0.coreAt 3).sreg Vectors.u1.b.toNat) + (if Vectors.u1.half =
      true then 128 else 64) * Vectors.c2.bits / 8 ≤ 786432 ∧ BitVec.toNat ((Base.s0.coreAt 3).sreg Vectors.u1.c.toNat) + (if
      Vectors.u1.half = true then 128 else 64) / Vectors.c2.block ≤ 786432 ∧ Base.s0.runsR 3 Vectors.u1
      { d := .v, b := .s, c := .s, fmts := blockCodes, rm := true, half := true }) :=
  by decide +kernel

theorem witness_TileInstructionsEnterTheIssueQueue :
    (Base.a0.runsC 3 Base.k64 (CF.legal Base.k64 true true false true) ∧ ((Base.a0.coreAt 3).queueOf Base.k64.n.toNat).length < 2 ∧
      Base.a0.tileCause 3 Base.k64.n.toNat (BitVec.toNat ((Base.a0.coreAt 3).sreg Base.k64.a.toNat + BitVec.ofInt 64
      Base.k64.imm.toInt)) (Base.a0.coreAt 3) = none)
    ∧ (Base.a0.runsC 3 Base.k192 (CF.legal Base.k192 true true false true) ∧ (Base.k192.n.toNat < Base.a0.fuse.arrays 3 →
      ((Base.a0.coreAt 3).queueOf Base.k192.n.toNat).length < 2) ∧ Base.a0.tileCause 3 Base.k192.n.toNat (BitVec.toNat
      ((Base.a0.coreAt 3).sreg Base.k192.a.toNat + BitVec.ofInt 64 Base.k192.imm.toInt)) (Base.a0.coreAt 3) = some Cause.illegal)
    ∧ (Base.a0.runsC 3 Base.kw0 (CF.legal Base.kw0 false false false (Base.kw0.n == 0 && Decidable.decide (Base.kw0.imm.toNat < 2 ^
      26)))) :=
  by and_intros <;> decide +kernel

theorem witness_UnitInstructionsEnterTheirUnits :
    (Base.a0.runsV 3 Base.ga0 { d := .v, a := .v, b := .s, c := .s, x := true } ∧ (Base.a0.coreAt 3).gs.length < 4 ∧ BitVec.toNat
      ((Base.a0.coreAt 3).sreg Base.ga0.b.toNat) % 4 = 0)
    ∧ (Base.a0.runsV 3 Base.ga0 { d := .v, a := .v, b := .s, c := .s, fmts := [0, 8], x := true } ∧ (Base.a0.coreAt 3).gs.length < 4 ∧
      BitVec.toNat ((Base.a0.coreAt 3).sreg Base.ga0.b.toNat) % 4 = 0)
    ∧ (Base.a0.runsR 3 Base.ga1 { d := .s, a := .v, b := .s, c := .s, fmts := [0, 1, 8], x := true, lm1 := true } ∧ (Base.a0.coreAt
      3).gs.length < 4 ∧ BitVec.toNat ((Base.a0.coreAt 3).sreg Base.ga1.b.toNat) % 64 = 0 ∧ (∀ k < 64, bit ((Base.a0.coreAt
      3).guardWord Base.ga1.gneg Base.ga1.guard) k = true → (BitVec.toNat ((Base.a0.coreAt 3).sreg Base.ga1.d.toNat) + 64 *
      (Base.ga1.lm1.toNat + 1) * k) % 2 ^ 64 + 64 * (Base.ga1.lm1.toNat + 1) ≤ 786432))
    ∧ (Base.a0.runsR 3 Base.gr0 { d := .s, a := .v, b := .s, c := .s, x := true, lm1 := true } ∧ (Base.a0.coreAt 3).gs.length < 4 ∧
      BitVec.toNat ((Base.a0.coreAt 3).sreg Base.gr0.b.toNat) % 64 = 0 ∧ (∀ k < 64, bit ((Base.a0.coreAt 3).guardWord Base.gr0.gneg
      Base.gr0.guard) k = true → (BitVec.toNat ((Base.a0.coreAt 3).sreg Base.gr0.d.toNat) + 64 * (Base.gr0.lm1.toNat + 1) * k) % 2 ^
      64 + 64 * (Base.gr0.lm1.toNat + 1) ≤ 786432))
    ∧ (Base.a0.runsC 3 Base.k64 (CF.legal Base.k64 true true false (Decidable.decide (Base.k64.n.toNat < 16))) ∧ BitVec.toNat
      ((Base.a0.coreAt 3).sreg Base.k64.a.toNat + BitVec.ofInt 64 Base.k64.imm.toInt) % 64 = 0 ∧ BitVec.toNat ((Base.a0.coreAt 3).sreg
      Base.k64.a.toNat + BitVec.ofInt 64 Base.k64.imm.toInt) + 64 * (Base.k64.n.toNat + 1) ≤ 786432 ∧ Base.a0.coreDescs 3 +
      (Base.k64.n.toNat + 1) ≤ 64 ∧ Base.a0.copyWaits (dieOf 3) = false ∧ Base.a0.roomUsed (dieOf 3) + (Base.k64.n.toNat + 1) ≤ 4096)
    ∧ (Base.a0.runsC 3 Base.kr (CF.legal Base.kr false true false (Base.kr.n == 0)) ∧ (Base.a0.coreAt 3).routeQ = none ∧ routeCause
      (BitVec.toNat ((Base.a0.coreAt 3).sreg Base.kr.a.toNat + BitVec.ofInt 64 Base.kr.imm.toInt)) (Base.a0.coreAt 3) = none) :=
  by and_intros <;> decide +kernel

theorem witness_UpdateCallsAreAccepted :
    (Base.a0.runsC 3 Base.u512 (CF.legal Base.u512 true true false (Base.u512.n == 0)) ∧ (Base.a0.updCause 0 3 (BitVec.toNat
      ((Base.a0.coreAt 3).sreg Base.u512.a.toNat + BitVec.ofInt 64 Base.u512.imm.toInt)) (Base.a0.coreAt 3) = none ∧ (Base.a0.coreAt
      3).upd < 8) ∧ callCount (wordsOf 8 ((Base.a0.coreAt 3).store.bytes (BitVec.toNat ((Base.a0.coreAt 3).sreg Base.u512.a.toNat +
      BitVec.ofInt 64 Base.u512.imm.toInt)) 64)) ≠ 0)
    ∧ (Base.a0.runsC 3 Base.u512 (CF.legal Base.u512 true true false (Base.u512.n == 0)) ∧ Base.a0.updCause (Instr.updrow 3 Base.u512,
      1).2 3 (BitVec.toNat ((Base.a0.coreAt 3).sreg Base.u512.a.toNat + BitVec.ofInt 64 Base.u512.imm.toInt)) (Base.a0.coreAt 3) =
      some Cause.invalidBlock ∧ (Base.a0.coreAt 3).upd < 8)
    ∧ (Updates.b5.runsC 3 Base.u512 (CF.legal Base.u512 true true false (Base.u512.n == 0)) ∧ (8 ≤ (Updates.b5.coreAt 3).upd ∨
      (Instr.upd 3 Base.u512, 0).2 = 3 ∧ Updates.b5.updCause 3 3 (BitVec.toNat ((Updates.b5.coreAt 3).sreg Base.u512.a.toNat +
      BitVec.ofInt 64 Base.u512.imm.toInt)) (Updates.b5.coreAt 3) = none ∧ recFrozen (Updates.b5.groupRec (dieOf 3) (callGroup
      (wordsOf 8 ((Updates.b5.coreAt 3).store.bytes (BitVec.toNat ((Updates.b5.coreAt 3).sreg Base.u512.a.toNat + BitVec.ofInt 64
      Base.u512.imm.toInt)) 64)))) = false ∧ 32 ≤ (Updates.b5.updAt (dieOf 3)).refresh.length ∧ ∀ x ∈ (Updates.b5.updAt (dieOf
      3)).refresh, x.group ≠ callGroup (wordsOf 8 ((Updates.b5.coreAt 3).store.bytes (BitVec.toNat ((Updates.b5.coreAt 3).sreg
      Base.u512.a.toNat + BitVec.ofInt 64 Base.u512.imm.toInt)) 64))))
    ∧ (Base.a0.runsC 3 Base.u576 (CF.legal Base.u576 true true false (Base.u576.n == 0)) ∧ (Base.a0.updCause 1 3 (BitVec.toNat
      ((Base.a0.coreAt 3).sreg Base.u576.a.toNat + BitVec.ofInt 64 Base.u576.imm.toInt)) (Base.a0.coreAt 3) = none ∧ (Base.a0.coreAt
      3).upd < 8) ∧ callCount (wordsOf 8 ((Base.a0.coreAt 3).store.bytes (BitVec.toNat ((Base.a0.coreAt 3).sreg Base.u576.a.toNat +
      BitVec.ofInt 64 Base.u576.imm.toInt)) 64)) ≠ 0)
    ∧ (Base.a0.runsC 3 Base.u640 (CF.legal Base.u640 true true false (Base.u640.n == 0)) ∧ (Base.a0.updCause 2 3 (BitVec.toNat
      ((Base.a0.coreAt 3).sreg Base.u640.a.toNat + BitVec.ofInt 64 Base.u640.imm.toInt)) (Base.a0.coreAt 3) = none ∧ (Base.a0.coreAt
      3).upd < 8))
    ∧ (Base.a0.runsC 3 Base.u640 (CF.legal Base.u640 true true false (Base.u640.n == 0)) ∧ (Base.a0.updCause 0 3 (BitVec.toNat
      ((Base.a0.coreAt 3).sreg Base.u640.a.toNat + BitVec.ofInt 64 Base.u640.imm.toInt)) (Base.a0.coreAt 3) = none ∧ (Base.a0.coreAt
      3).upd < 8) ∧ callCount (wordsOf 8 ((Base.a0.coreAt 3).store.bytes (BitVec.toNat ((Base.a0.coreAt 3).sreg Base.u640.a.toNat +
      BitVec.ofInt 64 Base.u640.imm.toInt)) 64)) = 0)
    ∧ (Base.a0.runsC 3 Base.u640 (CF.legal Base.u640 true true false (Base.u640.n == 0)) ∧ (Base.a0.updCause 3 3 (BitVec.toNat
      ((Base.a0.coreAt 3).sreg Base.u640.a.toNat + BitVec.ofInt 64 Base.u640.imm.toInt)) (Base.a0.coreAt 3) = none ∧ (Base.a0.coreAt
      3).upd < 8) ∧ recFrozen (Base.a0.groupRec (dieOf 3) (callGroup (wordsOf 8 ((Base.a0.coreAt 3).store.bytes (BitVec.toNat
      ((Base.a0.coreAt 3).sreg Base.u640.a.toNat + BitVec.ofInt 64 Base.u640.imm.toInt)) 64)))) = false ∧ (Base.a0.updAt (dieOf
      3)).refresh.length < 32 ∧ (∀ x ∈ (Base.a0.updAt (dieOf 3)).refresh, x.group ≠ callGroup (wordsOf 8 ((Base.a0.coreAt
      3).store.bytes (BitVec.toNat ((Base.a0.coreAt 3).sreg Base.u640.a.toNat + BitVec.ofInt 64 Base.u640.imm.toInt)) 64))))
    ∧ (Updates.b4.runsC 3 Base.u640 (CF.legal Base.u640 true true false (Base.u640.n == 0)) ∧ (Updates.b4.updCause 3 3 (BitVec.toNat
      ((Updates.b4.coreAt 3).sreg Base.u640.a.toNat + BitVec.ofInt 64 Base.u640.imm.toInt)) (Updates.b4.coreAt 3) = none ∧
      (Updates.b4.coreAt 3).upd < 8) ∧ recFrozen (Updates.b4.groupRec (dieOf 3) (callGroup (wordsOf 8 ((Updates.b4.coreAt
      3).store.bytes (BitVec.toNat ((Updates.b4.coreAt 3).sreg Base.u640.a.toNat + BitVec.ofInt 64 Base.u640.imm.toInt)) 64)))) =
      false ∧ Updates.rf3 ∈ (Updates.b4.updAt (dieOf 3)).refresh ∧ Updates.rf3.group = callGroup (wordsOf 8 ((Updates.b4.coreAt
      3).store.bytes (BitVec.toNat ((Updates.b4.coreAt 3).sreg Base.u640.a.toNat + BitVec.ofInt 64 Base.u640.imm.toInt)) 64)))
    ∧ (Base.a0.runsC 3 Base.u768 (CF.legal Base.u768 true true false (Base.u768.n == 0)) ∧ (Base.a0.updCause 1 3 (BitVec.toNat
      ((Base.a0.coreAt 3).sreg Base.u768.a.toNat + BitVec.ofInt 64 Base.u768.imm.toInt)) (Base.a0.coreAt 3) = none ∧ (Base.a0.coreAt
      3).upd < 8) ∧ callCount (wordsOf 8 ((Base.a0.coreAt 3).store.bytes (BitVec.toNat ((Base.a0.coreAt 3).sreg Base.u768.a.toNat +
      BitVec.ofInt 64 Base.u768.imm.toInt)) 64)) = 0)
    ∧ (Base.a0.runsC 3 Base.u896 (CF.legal Base.u896 true true false (Base.u896.n == 0)) ∧ (Base.a0.updCause 3 3 (BitVec.toNat
      ((Base.a0.coreAt 3).sreg Base.u896.a.toNat + BitVec.ofInt 64 Base.u896.imm.toInt)) (Base.a0.coreAt 3) = none ∧ (Base.a0.coreAt
      3).upd < 8) ∧ recFrozen (Base.a0.groupRec (dieOf 3) (callGroup (wordsOf 8 ((Base.a0.coreAt 3).store.bytes (BitVec.toNat
      ((Base.a0.coreAt 3).sreg Base.u896.a.toNat + BitVec.ofInt 64 Base.u896.imm.toInt)) 64)))) = true) :=
  by and_intros <;> decide +kernel

theorem witness_CountersAndWaits :
    (Base.a0.runsC 3 Base.z0 (CF.legal Base.z0 false true false (Base.z0.n == 0)) ∧ BitVec.toNat ((Base.a0.coreAt 3).sreg
      Base.z0.a.toNat + BitVec.ofInt 64 Base.z0.imm.toInt) ≤ BitVec.toNat Base.a0.time.counter)
    ∧ (Base.a0.runsC 3 Base.z0 (CF.legal Base.z0 true true true (Decidable.decide (Base.z0.n.toNat < 8))) ∧ (¬BitVec.toInt
      ((Base.a0.coreAt 3).counter Base.z0.cnt.toNat - BitVec.truncate 32 ((Base.a0.coreAt 3).sreg Base.z0.a.toNat + BitVec.ofInt 64
      Base.z0.imm.toInt)) ≥ 0) ∧ Base.z0.b = 0)
    ∧ (Base.a0.runsC 3 Base.z0 (CF.legal Base.z0 true true false (Base.z0.n == 0)))
    ∧ (Base.a0.runsC 3 Base.z1 (CF.legal Base.z1 false true false (Base.z1.n == 0)) ∧ BitVec.toNat Base.a0.time.counter < BitVec.toNat
      ((Base.a0.coreAt 3).sreg Base.z1.a.toNat + BitVec.ofInt 64 Base.z1.imm.toInt))
    ∧ (Base.a0.runsC 3 Base.z1 (CF.legal Base.z1 true true true (Decidable.decide (Base.z1.n.toNat < 8))) ∧ BitVec.toInt
      ((Base.a0.coreAt 3).counter Base.z1.cnt.toNat - BitVec.truncate 32 ((Base.a0.coreAt 3).sreg Base.z1.a.toNat + BitVec.ofInt 64
      Base.z1.imm.toInt)) ≥ 0)
    ∧ (Base.a0.runsC 3 Base.z4 (CF.legal Base.z4 true true true (Decidable.decide (Base.z4.n.toNat < 8))) ∧ (¬BitVec.toInt
      ((Base.a0.coreAt 3).counter Base.z4.cnt.toNat - BitVec.truncate 32 ((Base.a0.coreAt 3).sreg Base.z4.a.toNat + BitVec.ofInt 64
      Base.z4.imm.toInt)) ≥ 0) ∧ Base.z4.b ≠ 0 ∧ BitVec.toNat ((Base.a0.coreAt 3).sreg Base.z4.b.toNat) ≤ BitVec.toNat
      Base.a0.time.counter)
    ∧ (Base.a0.runsC 3 Base.z6 (CF.legal Base.z6 true true true (Decidable.decide (Base.z6.n.toNat < 8))) ∧ (¬BitVec.toInt
      ((Base.a0.coreAt 3).counter Base.z6.cnt.toNat - BitVec.truncate 32 ((Base.a0.coreAt 3).sreg Base.z6.a.toNat + BitVec.ofInt 64
      Base.z6.imm.toInt)) ≥ 0) ∧ Base.z6.b ≠ 0 ∧ BitVec.toNat Base.a0.time.counter < BitVec.toNat ((Base.a0.coreAt 3).sreg
      Base.z6.b.toNat))
    ∧ (Base.a0.runsR 3 Base.e0 { d := .s, x := true })
    ∧ (Base.a0.runsR 3 Base.e0 { } ∧ (Base.a0.coreAt 3).busy = false)
    ∧ (Base.a6.runsR 3 Base.e0 { } ∧ (Base.a6.coreAt 3).busy = true) :=
  by and_intros <;> decide +kernel

theorem witness_FencesHoldIssue :
    (Base.a0.runsR 3 Base.e0 { })
    ∧ (Base.a0.runsR 3 Base.e0 { a := .s })
    ∧ (3 < 2560 ∧ (Base.a3.coreAt 3).fence = some Base.fr ∧ Base.a3.fenceMet 3 Base.fr = true)
    ∧ (3 < 2560 ∧ (Base.a4.coreAt 3).fence = some Base.fr2 ∧ Base.a4.fenceMet 3 Base.fr2 = false ∧ Base.fr2.at_ + 20000 ≤ Base.a4.clk ∧
      (Base.a4.coreAt 3).st = .running) :=
  by and_intros <;> decide +kernel

theorem witness_RemoteLoadsAndStores :
    (Base.a0.runsR 3 Base.rr0 { d := .s, a := .s } ∧ (Base.a0.coreAt 3).rem.length < 32 ∧ Base.a0.rackCause ((Base.a0.coreAt 3).sreg
      Base.rr0.a.toNat) 4 = none ∧ (Base.a0.homeOf ((Base.a0.coreAt 3).sreg Base.rr0.a.toNat) ≠ dieOf 3 ∧ Base.a0.rcOn (dieOf 3) =
      true → Base.a0.rcRead (dieOf 3) (Base.a0.corePart 3) (Base.a0.homeOf ((Base.a0.coreAt 3).sreg Base.rr0.a.toNat)) (fld
      ((Base.a0.coreAt 3).sreg Base.rr0.a.toNat) 44 0) false = none))
    ∧ (Base.a0.runsR 3 Base.rr0 { d := .s, a := .s } ∧ (Base.a0.coreAt 3).rem.length < 32 ∧ Base.a0.rackCause ((Base.a0.coreAt 3).sreg
      Base.rr0.a.toNat) 8 = none ∧ (Base.a0.homeOf ((Base.a0.coreAt 3).sreg Base.rr0.a.toNat) ≠ dieOf 3 ∧ Base.a0.rcOn (dieOf 3) =
      true → Base.a0.rcRead (dieOf 3) (Base.a0.corePart 3) (Base.a0.homeOf ((Base.a0.coreAt 3).sreg Base.rr0.a.toNat)) (fld
      ((Base.a0.coreAt 3).sreg Base.rr0.a.toNat) 44 0) true = none))
    ∧ (Base.a1.runsR 3 Base.rr0 { d := .s, a := .s } ∧ (Base.a1.coreAt 3).rem.length < 32 ∧ Base.a1.rackCause ((Base.a1.coreAt 3).sreg
      Base.rr0.a.toNat) 4 = none ∧ (Base.a1.homeOf ((Base.a1.coreAt 3).sreg Base.rr0.a.toNat) ≠ dieOf 3 ∧ Base.a1.rcOn (dieOf 3) =
      true) ∧ Base.a1.rcRead (dieOf 3) (Base.a1.corePart 3) (Base.a1.homeOf ((Base.a1.coreAt 3).sreg Base.rr0.a.toNat)) (fld
      ((Base.a1.coreAt 3).sreg Base.rr0.a.toNat) 44 0) false = some 1432778632)
    ∧ (Base.a1.runsR 3 Base.rr0 { d := .s, a := .s } ∧ (Base.a1.coreAt 3).rem.length < 32 ∧ Base.a1.rackCause ((Base.a1.coreAt 3).sreg
      Base.rr0.a.toNat) 8 = none ∧ (Base.a1.homeOf ((Base.a1.coreAt 3).sreg Base.rr0.a.toNat) ≠ dieOf 3 ∧ Base.a1.rcOn (dieOf 3) =
      true) ∧ Base.a1.rcRead (dieOf 3) (Base.a1.corePart 3) (Base.a1.homeOf ((Base.a1.coreAt 3).sreg Base.rr0.a.toNat)) (fld
      ((Base.a1.coreAt 3).sreg Base.rr0.a.toNat) 44 0) true = some 1234605616436508552)
    ∧ (Base.a0.runsR 3 Base.rr2 { d := .s, a := .s } ∧ BitVec.toNat ((Base.a0.coreAt 3).sreg Base.rr2.a.toNat) % 4 ≠ 0)
    ∧ (Base.a0.runsR 3 Base.rr2 { d := .s, a := .s } ∧ BitVec.toNat ((Base.a0.coreAt 3).sreg Base.rr2.a.toNat) % 8 ≠ 0)
    ∧ (Base.a0.runsR 3 Base.rr3 { d := .s, a := .s } ∧ BitVec.toNat ((Base.a0.coreAt 3).sreg Base.rr3.a.toNat) % 4 = 0 ∧ (2 ^ 45 ≤
      BitVec.toNat ((Base.a0.coreAt 3).sreg Base.rr3.a.toNat) ∨ Base.a0.rackEid (fld ((Base.a0.coreAt 3).sreg Base.rr3.a.toNat) 44 40)
      = none))
    ∧ (Base.a0.runsR 3 Base.rr4 { a := .s, b := .s } ∧ (Base.a0.coreAt 3).rstores.length < 64 ∧ Base.a0.rackCause ((Base.a0.coreAt
      3).sreg Base.rr4.a.toNat) 4 = none)
    ∧ (Base.a0.runsR 3 Base.rr4 { a := .s, b := .s } ∧ (Base.a0.coreAt 3).rstores.length < 64 ∧ Base.a0.rackCause ((Base.a0.coreAt
      3).sreg Base.rr4.a.toNat) 8 = none) :=
  by and_intros <;> decide +kernel

theorem witness_AtomicsEnterTheEndpoint :
    ((Base.a0.coreAt 3).rem.length < 32 ∧ Base.a0.runsR 3 Base.rr0 { d := .s, a := .s, b := .s } ∧ Base.a0.rackCause ((Base.a0.coreAt
      3).sreg Base.rr0.a.toNat) 4 = none)
    ∧ ((Base.a0.coreAt 3).rem.length < 32 ∧ Base.a0.runsR 3 Base.rr0 { d := .s, a := .s, b := .s } ∧ Base.a0.rackCause ((Base.a0.coreAt
      3).sreg Base.rr0.a.toNat) 8 = none)
    ∧ ((Base.a0.coreAt 3).rem.length < 32 ∧ Base.a0.runsR 3 Base.rr0 { d := .s, a := .s, b := .s, c := .s } ∧ Base.a0.rackCause
      ((Base.a0.coreAt 3).sreg Base.rr0.a.toNat) 4 = none)
    ∧ ((Base.a0.coreAt 3).rem.length < 32 ∧ Base.a0.runsR 3 Base.rr0 { d := .s, a := .s, b := .s, c := .s } ∧ Base.a0.rackCause
      ((Base.a0.coreAt 3).sreg Base.rr0.a.toNat) 8 = none) :=
  by and_intros <;> decide +kernel

theorem witness_TimeFramesAndStates :
    (0 < 93 ∧ Time.t0.portUp 0 = true ∧ Time.t0.lowLane 0 = some 0 ∧ (Time.t0.nbrAt 0).sentIn ≠ some Time.t0.timePeriod ∧ Tab.get 0
      (Time.t0.portAt 0).laneFree 0 ≤ 25 * Time.t0.clk)
    ∧ (0 < 93 ∧ 0 < fullLanes 0 ∧ Time.t0.takesCtl 0 0 Time.g0 0 ∧ (¬(4 < fld Time.g0.body.w3 35 33 ∨ fld Time.g0.body.w3 19 16 ≠ 0)))
    ∧ (0 < 93 ∧ 0 < fullLanes 0 ∧ Time.t0.takesCtl 0 0 Time.g2 0 ∧ (4 < fld Time.g2.body.w3 35 33 ∨ fld Time.g2.body.w3 19 16 ≠ 0))
    ∧ (0 < 2 ∧ Time.t0.eth.linkUp.getLsbD 0 = true ∧ Time.t0.ownPrio = none)
    ∧ ((Time.t2.ownPrio = none ∧ ∀ q ∈ Time.t2.time.nbr.keys, Time.t2.mayParent q = false) ∧ Time.t2.time.st = .holdover ∧
      Time.t2.time.since + 200000000 ≤ Time.t2.clk)
    ∧ (Time.t3.ownPrio = none ∧ (∀ q ∈ Time.t3.time.nbr.keys, q ≠ 0 → Time.t3.mayParent q = false) ∧ Time.t3.time.st = .acquire ∧
      Time.t3.time.parent = some 0 ∧ Time.t3.time.since + 200000000 ≤ Time.t3.clk)
    ∧ (Time.t4.time.slewing = true ∧ Time.t4.time.slewBack = 0 ∧ (Time.t4.time.st = .locked ∨ Time.t4.time.st = .holdover ∨
      Time.t4.time.st = .acquire ∧ Time.t4.ownPrio = none ∧ ∃ p, Time.t4.time.parent = some p ∧ Time.t4.refusesRoot p = false ∧
      List.filter Time.t4.mayParent Time.t4.time.nbr.keys = [p]))
    ∧ (Time.t6.time.relockedAt = some 5 ∧ Time.t6.time.schedStopped = true ∧ Time.t6.time.st = .locked ∧ 5 + 2000000 ≤ Time.t6.clk ∧
      BitVec.toNat Time.t6.time.counter % (128 * 2 ^ Time.t6.hub.log2P) = 0)
    ∧ (0 < 93 ∧ (Time.t7.nbrAt 0).rejectedUntil = some 7 ∧ 7 ≤ Time.t7.clk)
    ∧ (0 < 2 ∧ Time.t8.eth.linkUp.getLsbD 0 = true ∧ (Time.t8.ownPrio.isSome = true ∧ Time.m0.domain.toNat = fld (Time.t8.reg
      A.timePtpCfg) 7 0 ∧ Time.m0.transport.toNat = fld (Time.t8.reg A.timePtpCfg) 9 8) ∧ Time.m0.body = PtpBody.announce Time.pd0)
    ∧ (0 < 2 ∧ Time.t8.eth.linkUp.getLsbD 0 = true ∧ ((Time.t8.ownPrio.isSome = true ∧ Time.m1.domain.toNat = fld (Time.t8.reg
      A.timePtpCfg) 7 0 ∧ Time.m1.transport.toNat = fld (Time.t8.reg A.timePtpCfg) 9 8) ∧ Option.map (fun x => x.source)
      (Time.t8.ptpSide 0).selected = some Time.m1.source) ∧ Time.m1.body = PtpBody.sync false Time.q3' Time.o0 ∧ (Time.t8.ptpSide
      0).delay = none)
    ∧ (0 < 2 ∧ Time.t8.eth.linkUp.getLsbD 0 = true ∧ ((Time.t8.ownPrio.isSome = true ∧ Time.m2.domain.toNat = fld (Time.t8.reg
      A.timePtpCfg) 7 0 ∧ Time.m2.transport.toNat = fld (Time.t8.reg A.timePtpCfg) 9 8) ∧ Option.map (fun x => x.source)
      (Time.t8.ptpSide 0).selected = some Time.m2.source) ∧ Time.m2.body = PtpBody.delayResp Time.q4 (Time.t8.ptpIdentity 0) Time.o1
      true ∧ (Time.t8.ptpSide 0).req = some (Time.q4.toNat, Time.i0) ∧ 0 = Time.t8.time.ptpPort)
    ∧ (Time.t8.ownPrio.isSome = true ∧ Time.t8.time.ptpState = 2)
    ∧ (0 < 2 ∧ Time.t8.ownPrio.isSome = true ∧ (Time.t8.ptpSide 0).selected = some Time.tx0)
    ∧ (0 < 93 ∧ Time.t10.nbrFresh 0 = false ∧ (Time.t10.ownPrio = none ∧ ∀ q ∈ Time.t10.time.nbr.keys, Time.t10.mayParent q = false) ∧
      Time.t10.time.parent = some 0 ∧ Time.t10.time.st = .locked)
    ∧ (0 < 93 ∧ Time.t11.nbrFresh 0 = false ∧ (Time.t11.ownPrio = none ∧ ∀ q ∈ Time.t11.time.nbr.keys, Time.t11.mayParent q = false) ∧
      Time.t11.time.parent = some 0 ∧ Time.t11.time.st = .acquire) :=
  by and_intros <;> decide +kernel

theorem witness_CoreStatesChange :
    (0 < 2560 ∧ Base.a0.coreDom (dieOf 0) = true ∧ bit Time.x2 1 = true)
    ∧ (3 < 2560 ∧ Base.a0.coreDom (dieOf 3) = true ∧ (Base.a0.coreAt 3).st ≠ .reset ∧ (Base.a0.coreAt 3).st ≠ .fenced)
    ∧ (3 < 2560 ∧ (Time.c0.coreAt 3).st = .armed ∧ BitVec.toNat (Time.c0.reg (A.coreStartCt 3)) ≤ BitVec.toNat Time.c0.time.counter)
    ∧ (3 < 2560 ∧ (Time.c1.coreAt 3).halting = true ∧ (Time.c1.coreAt 3).st = .running ∧ (Time.c1.coreAt 3).busy = false)
    ∧ (3 < 2560 ∧ (Time.c2.coreAt 3).st = .waiting ∧ (Time.c2.coreAt 3).wait = some (Wait.time Time.x0) ∧ BitVec.toNat Time.x0 ≤
      BitVec.toNat Time.c2.time.counter ∧ Time.c2.waitsBefore 3 Time.x0 = false)
    ∧ (3 < 2560 ∧ (Time.c3.coreAt 3).st = .waiting ∧ (Time.c3.coreAt 3).wait = some (Wait.counter 1 Time.v0 Time.dl0 2) ∧ BitVec.toInt
      ((Time.c3.coreAt 3).counter 1 - Time.v0) ≥ 0)
    ∧ (3 < 2560 ∧ (Time.c4.coreAt 3).st = .waiting ∧ (Time.c4.coreAt 3).wait = some (Wait.counter 1 Time.v1 Time.dl1 0) ∧ Time.dl1 =
      some Time.x1 ∧ BitVec.toInt ((Time.c4.coreAt 3).counter 1 - Time.v1) < 0 ∧ BitVec.toNat Time.x1 ≤ BitVec.toNat
      Time.c4.time.counter)
    ∧ (3 < 2560 ∧ Time.c6.coreDom (dieOf 3) = true ∧ (Time.c6.coreAt 3).st = .reset ∧ 0 < Time.c6.fuse.arrays 3 ∧ Time.c6.trimmed 3 =
      true)
    ∧ (3 < 2560 ∧ Time.c7.coreDom (dieOf 3) = true ∧ ((Time.c7.coreAt 3).st = .idle ∨ (Time.c7.coreAt 3).st = .halted ∨ (Time.c7.coreAt
      3).st = .faulted))
    ∧ (3 < 2560 ∧ (Time.ca.coreAt 3).st = .waiting ∧ (Time.ca.coreAt 3).wait = some (Wait.time Time.x0) ∧ BitVec.toNat Time.x0 ≤
      BitVec.toNat Time.ca.time.counter ∧ Time.ca.waitsBefore 3 Time.x0 = true) :=
  by and_intros <;> decide +kernel

theorem witness_CoreControlBitsActInOrder :
    3 < 2560 :=
  by decide +kernel

theorem witness_TileOperationsRun :
    (0 < 2560 ∧ 0 < 17 ∧ Tiles.t0.coreDom (dieOf 0) = true ∧ Tiles.t0.fuse.posOk 0 0 = true ∧ BitVec.toNat Tiles.t0.time.counter %
      200 = 0 ∧ (Tiles.t0.posAt 0 0).levelAt ≠ some Tiles.t0.time.counter)
    ∧ (3 < 2560 ∧ 0 < 17 ∧ 0 < 16 ∧ (Tiles.t0.coreAt 3).queueOf 0 = Tiles.o0 :: Tiles.e0 ∧ Tiles.t0.posOf 3 0 = some 0 ∧
      Tiles.o0.sampled = false ∧ (Tiles.t0.posAt 3 0).held.length < 2 ∧ (Tiles.t0.posAt 3 0).hold = false)
    ∧ (3 < 2560 ∧ 0 < 17 ∧ (Tiles.t0.posAt 3 0).warm = some 5 ∧ 5 ≤ Tiles.t0.clk)
    ∧ (3 < 2560 ∧ 0 < 17 ∧ 0 < 16 ∧ (Tiles.t1.coreAt 3).queueOf 0 = Tiles.o1 :: Tiles.e0 ∧ Tiles.t1.posOf 3 0 = some 0 ∧
      Tiles.o1.sampled = true ∧ Tiles.t1.shadowPos 3 0 = some 1 ∧ (Tiles.t1.posAt 3 0).takesSampled = true ∧ (Tiles.t1.posAt 3
      1).takesSampled = true)
    ∧ (3 < 2560 ∧ 0 < 17 ∧ (Tiles.t3.posAt 3 0).held = Tiles.r0 :: Tiles.l0 ∧ Tiles.r0.started = false ∧ Tiles.r0.shadow = false ∧
      Tiles.r0.mate = none ∧ (Tiles.t3.posAt 3 0).mayStart = true ∧ Tiles.r0.op.blk.k ≠ 0 ∧ 0 < (Tiles.t3.posAt 3 0).level)
    ∧ (3 < 2560 ∧ 0 < 17 ∧ (Tiles.t4.posAt 3 0).held = Tiles.r1 :: Tiles.l0 ∧ Tiles.r1.started = false ∧ Tiles.r1.shadow = false ∧
      Tiles.r1.mate = none ∧ (Tiles.t4.posAt 3 0).mayStart = true ∧ Tiles.r1.op.blk.k = 0)
    ∧ (3 < 2560 ∧ 0 < 17 ∧ (Tiles.t5.posAt 3 0).held = Tiles.r2 :: Tiles.l1 ∧ Tiles.r2.started = true ∧ Tiles.r2.shadow = false ∧
      Tiles.r2.mate = none ∧ 0 < (Tiles.t5.posAt 3 0).level)
    ∧ (3 < 2560 ∧ 0 < 17 ∧ (Tiles.t7.posAt 3 0).wb = Tiles.r2 :: Tiles.l0 ∧ Tiles.r2.shadow = false ∧ Tiles.r2.mate = none ∧
      (Tiles.t7.coreAt 3).st ≠ .reset) :=
  by and_intros <;> decide +kernel

theorem witness_TransfersRoutingsAndCopiesRun :
    (3 < 2560 ∧ (Tiles.s0.coreAt 3).gs = Tiles.g0 :: Tiles.gl ∧ (Tiles.s0.coreAt 3).st ≠ .reset)
    ∧ (3 < 2560 ∧ (Tiles.s5.coreAt 3).route = none ∧ (Tiles.s5.coreAt 3).routeQ = some Tiles.b0 ∧ Tiles.b0.tableFault (Tiles.s5.coreAt
      3).store = none)
    ∧ (3 < 2560 ∧ (Tiles.s6.coreAt 3).route = none ∧ (Tiles.s6.coreAt 3).routeQ = some Tiles.b0 ∧ Tiles.b0.tableFault (Tiles.s6.coreAt
      3).store = some Cause.invalidBlock ∧ (Tiles.s6.coreAt 3).st = .running)
    ∧ (3 < 2560 ∧ (Tiles.s7.coreAt 3).route = some Tiles.rr)
    ∧ (3 < 2560 ∧ List.find? (fun x => x.ids.isEmpty) (Tiles.s8.coreAt 3).routeOut = some Tiles.rr ∧ (Tiles.s8.coreAt 3).st ≠ .reset)
    ∧ (3 < 2560 ∧ Tiles.q0.descAt (dieOf 3) Tiles.d0.id = some Tiles.d0 ∧ Tiles.d0.core = 3 ∧ Tiles.q0.mayStartDesc (dieOf 3) Tiles.d0
      = true ∧ Tiles.d0.got.find Tiles.d0.given = none ∧ Tiles.d0.next < descChunks Tiles.d0.words ∧ descOp Tiles.d0.words < 4 ∧
      srcKind Tiles.d0.words = 0 ∧ dstKind Tiles.d0.words = 0 ∧ descRowBytes Tiles.d0.words % 64 = 0 ∧ chunkDst Tiles.d0.words
      Tiles.d0.next % 64 = 0)
    ∧ (3 < 2560 ∧ Tiles.q3'.descAt (dieOf 3) Tiles.d3.id = some Tiles.d3 ∧ Tiles.d3.core = 3 ∧ Tiles.d3.got.find Tiles.d3.given = none
      ∧ Tiles.d3.finished = true ∧ Tiles.d3.cnt = some 4 ∧ (Tiles.q3'.coreAt 3).st ≠ .reset)
    ∧ (3 < 2560 ∧ (Tiles.s9.coreAt 3).copyWait = some (4, 1024, 2, 7) ∧ (∀ e ∈ Tiles.s9.core, dieOf e.1 = dieOf 3 → e.2.copyWait = none
      ∨ e = (3, Tiles.s9.coreAt 3)) ∧ Tiles.s9.roomUsed (dieOf 3) + 2 ≤ 4096) :=
  by and_intros <;> decide +kernel

theorem witness_UpdateEnginesRunTheirCalls :
    (0 < 4 ∧ List.find? (fun c => c.id == Engines.k0.id) (Engines.s0.updAt 0).calls = some Engines.k0 ∧ Engines.k0.core < 2560 ∧
      Engines.k0.kind < 2 ∧ (Engines.s0.updAt 0).mayStart Engines.k0 = true)
    ∧ (0 < 4 ∧ List.find? (fun c => c.id == Engines.k0.id) (Engines.s0.updAt 0).calls = some Engines.k0 ∧ Engines.k0.core < 2560 ∧
      Engines.k0.kind < 2 ∧ Engines.k0.running = true ∧ Engines.s0.hasCredit 0 Engines.k0.part = true ∧ (Engines.s0.coreAt
      Engines.k0.core).st ≠ .reset)
    ∧ (0 < 4 ∧ Engines.s0.coreDom 0 = true ∧ bit Engines.v0 1 = false ∧ recReserved (List.map (fun i => Engines.s0.reg (A.updGdata 0
      i)) (List.range 8)) = true)
    ∧ (0 < 4 ∧ Engines.s0.coreDom 0 = true ∧ bit Engines.v0 0 = false)
    ∧ (0 < 4 ∧ List.find? (fun c => c.id == Engines.k3.id) (Engines.s3.updAt 0).calls = some Engines.k3 ∧ Engines.k3.core < 2560 ∧
      Engines.k3.kind = 2 ∧ (∀ y ∈ (Engines.s3.updAt 0).before Engines.k3, y.group = Engines.k3.group → y.kind = 1 ∧ y.running = true)
      ∧ Engines.s3.hasCredit 0 Engines.k3.part = true ∧ (Engines.s3.coreAt Engines.k3.core).st ≠ .reset)
    ∧ (0 < 4 ∧ (Engines.s4.updAt 0).refresh = Engines.f0 :: Engines.rl0 ∧ Engines.f0.held = none ∧ Engines.s4.field (A.updCtrl 0) 0 0 =
      0 ∧ (Engines.s4.updAt 0).writing Engines.f0.group Engines.f0.block = false ∧ Engines.s4.hasCredit 0 Engines.f0.part = true)
    ∧ (0 < 4 ∧ (Engines.s5.updAt 0).refresh = Engines.f1 :: Engines.rl0 ∧ Engines.f1.held = some Engines.hl ∧ Engines.s5.field
      (A.updCtrl 0) 0 0 = 0 ∧ Engines.s5.hasCredit 0 Engines.f1.part = true ∧ (Engines.s5.updAt 0).refreshBlocks Engines.f1 ≤
      Engines.f1.block + 1 ∧ Engines.f1.waiters = [(3, 5)] ∧ (Engines.s5.coreAt 3).st ≠ .reset)
    ∧ (0 < 4 ∧ Engines.s6.coreDom 0 = true ∧ bit Engines.v0 1 = false ∧ recReserved (List.map (fun i => Engines.s6.reg (A.updGdata 0
      i)) (List.range 8)) = false)
    ∧ (0 < 4 ∧ (Engines.s8.updAt 0).refresh = Engines.f0 :: Engines.rl0 ∧ Engines.s8.field (A.updCtrl 0) 0 0 = 1)
    ∧ (0 < 4 ∧ (Engines.sa.updAt 0).refresh = Engines.f1 :: Engines.rl0 ∧ Engines.f1.held = some Engines.hl ∧ Engines.sa.field
      (A.updCtrl 0) 0 0 = 0 ∧ Engines.sa.hasCredit 0 Engines.f1.part = true ∧ Engines.f1.block + 1 < (Engines.sa.updAt
      0).refreshBlocks Engines.f1) :=
  by and_intros <;> decide +kernel

theorem witness_MemoryRequestsAreServed :
    (0 < 4 ∧ Engines.m4.part < 16 ∧ Engines.m4.req = 0 ∧ Engines.mm8.linkUp 0 = false)
    ∧ (0 < 4 ∧ Engines.m0.part < 16 ∧ Engines.m0.req < 7 ∧ Engines.mm8.serves 0 Engines.m0.req = true ∧ (Engines.m0.req = 0 →
      Engines.mm8.linkUp 0 = true ∧ Engines.mm8.linkRoom 0 (MemReq.linkBytes Engines.m0) (MemReq.replyBytes Engines.m0) = true) ∧
      MemReq.pieces Engines.m0 = Engines.l1 ∧ Engines.l1 ≠ [] ∧ Engines.l1.length ≤ 4 ∧ (∀ q ∈ Engines.l1, (Engines.mm8.place
      q.off).die = 0) ∧ Engines.mm8.mustWait 0 Engines.m0 = false ∧ (∀ w ∈ (Engines.mm8.memAt 0).waiting, w.2.part ≠ Engines.m0.part))
    ∧ (0 < 4 ∧ Engines.m0.part < 16 ∧ Engines.m0.req < 7 ∧ Engines.mm9.serves 0 Engines.m0.req = true ∧ (Engines.m0.req = 0 →
      Engines.mm9.linkUp 0 = true ∧ Engines.mm9.linkRoom 0 (MemReq.linkBytes Engines.m0) (MemReq.replyBytes Engines.m0) = true) ∧
      MemReq.pieces Engines.m0 = Engines.l1 ∧ Engines.l1 ≠ [] ∧ Engines.l1.length ≤ 4 ∧ (∀ q ∈ Engines.l1, (Engines.mm9.place
      q.off).die = 0) ∧ Engines.mm9.mustWait 0 Engines.m0 = true)
    ∧ (0 < 4 ∧ Engines.mm9.memDom 0 = true ∧ Engines.ch0 < 128 ∧ Engines.mm9.dueBank 0 Engines.ch0 = none ∧ Engines.mm9.throttled 0
      Engines.ch0 = false ∧ Engines.mm9.nextServed 0 Engines.ch0 Engines.b0 = some (false, 0, Engines.m0) ∧ Engines.m0.op = MemOp.read
      ∧ Engines.d0 = [] ∧ Engines.mm9.zrangeOf (fieldOf Engines.m0.off 39 38) (fieldOf Engines.m0.off 37 6 * 64) = none ∧
      Engines.mm9.poisoned (Engines.mm9.place (Engines.m0.off / 64 * 64)) = false)
    ∧ (0 < 4 ∧ 2 < 16 ∧ List.find? (fun w => w.2.part == 2) (Engines.mma.memAt 0).waiting = some (4, Engines.m0) ∧ Engines.mma.mustWait
      0 Engines.m0 = false ∧ Engines.mma.serves 0 Engines.m0.req = true)
    ∧ (0 < 4 ∧ Engines.sg.memDom 0 = true ∧ Engines.ch0 < 128 ∧ Engines.sg.dueBank 0 Engines.ch0 = some 1)
    ∧ (0 < 4 ∧ Engines.si.memDom 0 = true ∧ (Engines.si.boundaryOf 128).isSome = true ∧ (Engines.si.memAt 0).creditAt ≠
      Engines.si.boundaryOf 128)
    ∧ (0 < 4 ∧ Engines.ch0 < 128 ∧ Engines.sp.dueBank 0 Engines.ch0 = none ∧ Engines.sp.throttled 0 Engines.ch0 = true)
    ∧ (0 < 4 ∧ Engines.m4.part < 16 ∧ Engines.m4.req = 0 ∧ Engines.srm.linkUp 0 = true ∧ Engines.srm.linkRoom 0 (MemReq.linkBytes
      Engines.m4) (MemReq.replyBytes Engines.m4) = false) :=
  by and_intros <;> decide +kernel

theorem witness_MemoryIsKeptAndCompressed :
    (0 < 4 ∧ Engines.mm8.memDom 0 = true ∧ Engines.ch0 < 128 ∧ 0 < 16 ∧ Engines.mm8.clk < Engines.mm8.refreshDue 0 Engines.ch0 0)
    ∧ (0 < 4 ∧ 0 < 8 ∧ Engines.mm8.memDom 0 = true)
    ∧ (0 < 4 ∧ Engines.ch0 < 128 ∧ Engines.mm8.scrubDue 0 Engines.ch0 = false)
    ∧ (0 < 4 ∧ 1 < 8 ∧ Engines.mm8.memDom 0 = true ∧ bit (Engines.mm8.reg (A.zrange 0 1)) 63 = false ∧ bit (Engines.mm8.reg (A.zrange 0
      1)) 62 = false)
    ∧ (0 < 4 ∧ 1 < 8 ∧ (Engines.se.stackAt 0 1).cool85 = some 5 ∧ 5 + 20000000 ≤ Engines.se.clk)
    ∧ (0 < 4 ∧ 1 < 8 ∧ (Engines.sf.stackAt 0 1).cool85 = none ∧ (Engines.sf.stackAt 0 1).cool95 = some 5 ∧ 5 + 20000000 ≤
      Engines.sf.clk)
    ∧ (0 < 4 ∧ Engines.sg.memDom 0 = true ∧ Engines.ch0 < 128 ∧ 0 < 16 ∧ Engines.sg.refreshDue 0 Engines.ch0 0 ≤ Engines.sg.clk)
    ∧ (0 < 4 ∧ Engines.ch0 < 128 ∧ Engines.sg.scrubDue 0 Engines.ch0 = true)
    ∧ (0 < 4 ∧ Engines.sj.memDom 0 = true ∧ Engines.sj.mapOwner 0 0 = some 1 ∧ (Engines.sj.memAt 0).zcache.find 0 = none ∧ List.length
      (Engines.sj.memAt 0).zcache < 4096 ∧ Engines.sj.poisoned (placeLocal 0 (0 * 64)) = false ∧ Tab.get [] (Engines.sj.memAt 0).chan
      (placeLocal 0 (0 * 64)).chan = [])
    ∧ (0 < 4 ∧ 1 < 8 ∧ Engines.sj.memDom 0 = true ∧ bit (Engines.sj.reg (A.zrange 0 1)) 63 = true ∧ bit (Engines.sj.reg (A.zrange 0 1))
      62 = false)
    ∧ (0 < 4 ∧ 1 < 8 ∧ Engines.sk.memDom 0 = true ∧ 1 ∈ (Engines.sk.memAt 0).zflush) :=
  by and_intros <;> decide +kernel

theorem witness_DieLinksAndWhatTheyTakeWithThem :
    (0 < 4 ∧ (DieLinks.s0.memDom 0 = true ∧ DieLinks.s0.dom.hub = true) ∧ ((DieLinks.s0.linkAt 0).st = .down ∨ (DieLinks.s0.linkAt
      0).st = .offline ∨ (DieLinks.s0.linkAt 0).st = .fenced ∧ DieLinks.s0.field (A.d2dCtrl 0) 3 3 = 0))
    ∧ (0 < 4 ∧ (DieLinks.s0.linkAt 0).st ≠ .ready)
    ∧ (0 < 4 ∧ (DieLinks.s0.memDom 0 = true ∧ DieLinks.s0.dom.hub = true) ∧ (DieLinks.s0.linkAt 0).st ≠ .up)
    ∧ (0 < 4 ∧ ((DieLinks.s0.linkAt 0).st ≠ .up ∨ true = false))
    ∧ (0 < 4 ∧ (¬(DieLinks.s1.memDom 0 = true ∧ DieLinks.s1.dom.hub = true) ∨ (DieLinks.s1.linkAt 0).st = .training ∨
      (DieLinks.s1.linkAt 0).st = .ready ∨ (DieLinks.s1.linkAt 0).st = .up))
    ∧ (0 < 4 ∧ (DieLinks.s1.linkAt 0).st = .training ∧ (DieLinks.s1.linkAt 0).attempts < 3)
    ∧ (0 < 4 ∧ (DieLinks.s2.linkAt 0).st = .training ∧ 3 ≤ (DieLinks.s2.linkAt 0).attempts)
    ∧ (0 < 4 ∧ (DieLinks.s3.linkAt 0).st = .ready)
    ∧ (0 < 4 ∧ (DieLinks.s4.linkAt 0).st = .ready ∧ (DieLinks.s4.linkAt 0).rejoining = true)
    ∧ (0 < 4 ∧ (DieLinks.s5.linkAt 0).st = .up ∧ 3 < 96 ∧ (¬(if true = true then (DieLinks.s5.linkAt 0).enRx else (DieLinks.s5.linkAt
      0).enTx).getLsbD 3 = true ∨ (DieLinks.s5.linkAt 0).detects true 3 DieLinks.w66b true = false))
    ∧ (0 < 4 ∧ (DieLinks.s5.linkAt 0).st = .up ∧ 3 < 96 ∧ (if true = true then (DieLinks.s5.linkAt 0).enRx else (DieLinks.s5.linkAt
      0).enTx).getLsbD 3 = true ∧ (DieLinks.s5.linkAt 0).detects true 3 DieLinks.w66a true = true ∧ (DieLinks.s5.field (A.d2dCfg 0) 15
      0 = 0 ∨ (List.filter (fun t => Decidable.decide (DieLinks.s5.clk < t + 2000000)) (Tab.get [] (DieLinks.s5.linkAt 0).parity (b2n
      true * 96 + 3))).length + 1 < DieLinks.s5.field (A.d2dCfg 0) 15 0))
    ∧ (0 < 4 ∧ (DieLinks.s5.linkAt 0).st = .up ∧ 3 < 96 ∧ (DieLinks.s5.fencePending 0 FenceCause.clock = false ∧
      DieLinks.s5.fencePending 0 FenceCause.reset = false) ∧ ((DieLinks.s5.linkAt 0).good true).getLsbD 3 = true ∧ 72 ≤ count96
      (((DieLinks.s5.linkAt 0).withBad true 3).good true))
    ∧ (0 < 4 ∧ (DieLinks.s6.linkAt 0).st = .up ∧ 3 < 96 ∧ (true, 3, 15) ∈ (DieLinks.s6.linkAt 0).drops ∧ 15 ≤ BitVec.toNat
      DieLinks.s6.time.counter / 128)
    ∧ (0 < 4 ∧ (DieLinks.s8.linkAt 0).st = .up ∧ 3 < 96 ∧ (if true = true then (DieLinks.s8.linkAt 0).enRx else (DieLinks.s8.linkAt
      0).enTx).getLsbD 3 = true ∧ (DieLinks.s8.linkAt 0).detects true 3 DieLinks.w66a true = true ∧ (DieLinks.s8.field (A.d2dCfg 0) 15
      0 = 0 ∨ (List.filter (fun t => Decidable.decide (DieLinks.s8.clk < t + 2000000)) (Tab.get [] (DieLinks.s8.linkAt 0).parity (b2n
      true * 96 + 3))).length + 1 < DieLinks.s8.field (A.d2dCfg 0) 15 0) ∧ 3 < 2560 ∧ List.find? (fun x => x.id == 7)
      (DieLinks.s8.coreAt 3).rem = some Packets.rem0 ∧ (DieLinks.s8.coreAt 3).st = .running)
    ∧ (0 < 4 ∧ (DieLinks.xq.linkAt 0).st = .up ∧ 3 < 96 ∧ (if false = true then (DieLinks.xq.linkAt 0).enRx else (DieLinks.xq.linkAt
      0).enTx).getLsbD 3 = true ∧ (DieLinks.xq.linkAt 0).detects false 3 DieLinks.w66a true = true ∧ 1 ≤ DieLinks.xq.field (A.d2dCfg
      0) 15 0 ∧ DieLinks.xq.field (A.d2dCfg 0) 15 0 ≤ (List.filter (fun t => Decidable.decide (DieLinks.xq.clk < t + 2000000))
      (Tab.get [] (DieLinks.xq.linkAt 0).parity (b2n false * 96 + 3))).length + 1 ∧ (DieLinks.xq.fencePending 0 FenceCause.clock =
      false ∧ DieLinks.xq.fencePending 0 FenceCause.reset = false) ∧ ((DieLinks.xq.linkAt 0).good false).getLsbD 3 = true ∧ 72 ≤
      count96 (((DieLinks.xq.linkAt 0).withBad false 3).good false))
    ∧ (0 < 4 ∧ (DieLinks.xs.linkAt 0).st = .up ∧ 3 < 96 ∧ (DieLinks.xs.fencePending 0 FenceCause.clock = false ∧
      DieLinks.xs.fencePending 0 FenceCause.reset = false) ∧ ((DieLinks.xs.linkAt 0).good false).getLsbD 3 = true ∧ count96
      (((DieLinks.xs.linkAt 0).withBad false 3).good false) < 72)
    ∧ (0 < 4 ∧ (DieLinks.s5.linkAt 0).st = .up ∧ DieLinks.s5.fencePending 0 FenceCause.clock = false ∧ DieLinks.s5.fencePending 0
      FenceCause.reset = false)
    ∧ (0 < 4 ∧ (DieLinks.s5.linkAt 0).st = .up ∧ DieLinks.s5.memDom 0 = true ∧ DieLinks.s5.dom.hub = true)
    ∧ (0 < 4 ∧ DieLinks.s0.coreDom 0 = true ∧ 2 < 16)
    ∧ (0 < 4 ∧ DieLinks.s0.coreDom 0 = true ∧ bit DieLinks.v0 5 = false ∧ bit DieLinks.v0 4 = false) :=
  by and_intros <;> decide +kernel

theorem witness_TargetsAnswerRequests :
    (Targets.s0.inTurn Targets.w0 ∧ qSrc Targets.w0 ≠ Targets.s0.topo.ownEid ∧ Targets.s0.refusal Targets.w0 = (none, 2) ∧ qInStore
      Targets.w0 = true ∧ isLoad (qType Targets.w0) = true ∧ Targets.s0.ep.records.length < 65536)
    ∧ (Targets.s0.inTurn Targets.w2 ∧ qSrc Targets.w2 ≠ Targets.s0.topo.ownEid ∧ Targets.s0.refusal Targets.w2 = (none, 2) ∧ qInStore
      Targets.w2 = true ∧ isStore (qType Targets.w2) = true)
    ∧ (Targets.s0.inTurn Targets.w4 ∧ qSrc Targets.w4 ≠ Targets.s0.topo.ownEid ∧ Targets.s0.refusal Targets.w4 = (none, 2) ∧ qInStore
      Targets.w4 = true ∧ isAtomic (qType Targets.w4) = true ∧ Targets.s0.ep.records.length < 65536)
    ∧ (Targets.s0.inTurn Targets.w6 ∧ qSrc Targets.w6 ≠ Targets.s0.topo.ownEid ∧ Targets.s0.refusal Targets.w6 = (none, 2) ∧ qInStore
      Targets.w6 = true ∧ qType Targets.w6 = 32)
    ∧ (Targets.s0.inTurn Targets.w7 ∧ qSrc Targets.w7 ≠ Targets.s0.topo.ownEid ∧ Targets.s0.refusal Targets.w7 = (none, 2) ∧ qInStore
      Targets.w7 = true ∧ qType Targets.w7 = 33)
    ∧ (Targets.s0.inTurn Targets.w8 ∧ qSrc Targets.w8 ≠ Targets.s0.topo.ownEid ∧ Targets.s0.refusal Targets.w8 = (none, 2) ∧ qInStore
      Targets.w8 = true ∧ qType Targets.w8 = 34)
    ∧ (Targets.s0.inTurn Targets.w9 ∧ qSrc Targets.w9 ≠ Targets.s0.topo.ownEid ∧ Targets.s0.refusal Targets.w9 = (none, 2) ∧ qInStore
      Targets.w9 = true ∧ qType Targets.w9 = 35)
    ∧ (Targets.s0.inTurn Targets.f0 ∧ qSrc Targets.f0 ≠ Targets.s0.topo.ownEid ∧ Targets.s0.refusal Targets.f0 = (some 1, 0) ∧ 1 ≠ 4 ∧
      isLoad (qType Targets.f0) = true ∧ (hasReply (qType Targets.f0) = true → Targets.s0.ep.records.length < 65536))
    ∧ (Targets.s0.inTurn Targets.f1 ∧ qSrc Targets.f1 ≠ Targets.s0.topo.ownEid ∧ Targets.s0.refusal Targets.f1 = (some 1, 0) ∧ 1 ≠ 4 ∧
      isStore (qType Targets.f1) = true ∧ (hasReply (qType Targets.f1) = true → Targets.s0.ep.records.length < 65536))
    ∧ (Targets.s0.inTurn Targets.f2 ∧ qSrc Targets.f2 ≠ Targets.s0.topo.ownEid ∧ Targets.s0.refusal Targets.f2 = (some 1, 0) ∧ 1 ≠ 4 ∧
      isAtomic (qType Targets.f2) = true ∧ (hasReply (qType Targets.f2) = true → Targets.s0.ep.records.length < 65536))
    ∧ (Targets.s0.inTurn Targets.f3 ∧ qSrc Targets.f3 ≠ Targets.s0.topo.ownEid ∧ Targets.s0.refusal Targets.f3 = (some 1, 0) ∧ 1 ≠ 4 ∧
      (qType Targets.f3 == 32) = true ∧ (hasReply (qType Targets.f3) = true → Targets.s0.ep.records.length < 65536))
    ∧ (Targets.s0.inTurn Targets.f4 ∧ qSrc Targets.f4 ≠ Targets.s0.topo.ownEid ∧ Targets.s0.refusal Targets.f4 = (some 1, 0) ∧ 1 ≠ 4 ∧
      (qType Targets.f4 == 33) = true ∧ (hasReply (qType Targets.f4) = true → Targets.s0.ep.records.length < 65536))
    ∧ (Targets.s0.inTurn Targets.f5 ∧ qSrc Targets.f5 ≠ Targets.s0.topo.ownEid ∧ Targets.s0.refusal Targets.f5 = (some 1, 0) ∧ 1 ≠ 4 ∧
      (qType Targets.f5 == 34) = true ∧ (hasReply (qType Targets.f5) = true → Targets.s0.ep.records.length < 65536))
    ∧ (Targets.s0.inTurn Targets.f6 ∧ qSrc Targets.f6 ≠ Targets.s0.topo.ownEid ∧ Targets.s0.refusal Targets.f6 = (some 1, 0) ∧ 1 ≠ 4 ∧
      (qType Targets.f6 == 35) = true ∧ (hasReply (qType Targets.f6) = true → Targets.s0.ep.records.length < 65536)) :=
  by and_intros <;> decide +kernel

theorem witness_SourcesTakeAnswers :
    (3 < 2560 ∧ Sources.s0.hears Sources.a0 ∧ qType Sources.a0 = 48 ∧ (Sources.s0.srcAt (qSrc Sources.a0)).answers.find (qSeq
      Sources.a0) = some (Owner.access 3 7, Sources.pp0) ∧ List.find? (fun y => y.id == 7) (Sources.s0.coreAt 3).rem = some
      Packets.rem0 ∧ Sources.s0.ct ≤ Packets.rem0.at_ + 20000 ∧ qPmask Sources.a0 % 2 = 0)
    ∧ (3 < 2560 ∧ Sources.s1L.hears Sources.a0 ∧ qType Sources.a0 = 48 ∧ (Sources.s1L.srcAt (qSrc Sources.a0)).answers.find (qSeq
      Sources.a0) = some (Owner.access 3 7, Sources.pp0) ∧ List.find? (fun y => y.id == 7) (Sources.s1L.coreAt 3).rem = some
      Sources.rem2 ∧ Sources.rem2.at_ + 20000 < Sources.s1L.ct)
    ∧ (3 < 2560 ∧ Sources.s0.hears Sources.a1 ∧ qType Sources.a1 = 48 ∧ (Sources.s0.srcAt (qSrc Sources.a1)).answers.find (qSeq
      Sources.a1) = some (Owner.access 3 7, Sources.pp0) ∧ List.find? (fun y => y.id == 7) (Sources.s0.coreAt 3).rem = some
      Packets.rem0 ∧ Sources.s0.ct ≤ Packets.rem0.at_ + 20000 ∧ qPmask Sources.a1 % 2 = 1 ∧ (Sources.s0.coreAt 3).st = .running)
    ∧ (3 < 2560 ∧ Sources.s0.hears Sources.a2 ∧ qType Sources.a2 = 49 ∧ qArg Sources.a2 ≠ 7 ∧ List.find? (fun u => u.seq == qSeq
      Sources.a2 && !u.lost) (Sources.s0.srcAt (qSrc Sources.a2)).unacked = none ∧ (Sources.s0.srcAt (qSrc Sources.a2)).answers.find
      (qSeq Sources.a2) = some (Owner.access 3 7, Sources.pp0) ∧ List.find? (fun y => y.id == 7) (Sources.s0.coreAt 3).rem = some
      Packets.rem0 ∧ (Sources.s0.coreAt 3).st = .running)
    ∧ (3 < 2560 ∧ Sources.s2.hears Sources.a2 ∧ qType Sources.a2 = 49 ∧ qArg Sources.a2 ≠ 7 ∧ List.find? (fun u => u.seq == qSeq
      Sources.a2 && !u.lost) (Sources.s2.srcAt (qSrc Sources.a2)).unacked = some Sources.u0 ∧ Sources.u0.own = Owner.access 3 7 ∧
      List.find? (fun y => y.id == 7) (Sources.s2.coreAt 3).rem = some Packets.rem0 ∧ (Sources.s2.coreAt 3).st = .running)
    ∧ (3 < 2560 ∧ Sources.s3.hears Sources.a2 ∧ qType Sources.a2 = 49 ∧ qArg Sources.a2 ≠ 7 ∧ List.find? (fun u => u.seq == qSeq
      Sources.a2 && !u.lost) (Sources.s3.srcAt (qSrc Sources.a2)).unacked = some Sources.u1 ∧ Sources.u1.own = Owner.store 3 7 ∧
      List.find? (fun y => y.id == 7) (Sources.s3.coreAt 3).rstores = some Sources.rs ∧ (Sources.s3.coreAt 3).st = .running)
    ∧ (3 < 2560 ∧ Sources.s4.hears Sources.a2 ∧ qType Sources.a2 = 49 ∧ qArg Sources.a2 ≠ 7 ∧ List.find? (fun u => u.seq == qSeq
      Sources.a2 && !u.lost) (Sources.s4.srcAt (qSrc Sources.a2)).unacked = some Sources.u2 ∧ Sources.u2.own = Owner.copy 0 7 0 ∧
      Sources.s4.descAt 0 7 = some Sources.cp)
    ∧ (3 < 2560 ∧ Sources.s2.dom.hub = true ∧ Sources.s2.isOwn Sources.a5 = true ∧ qIntact Sources.a5 = true ∧ qValid Sources.a5 = true
      ∧ qAckValid Sources.a5 = true ∧ qType Sources.a5 = 50 ∧ (Sources.s2.srcAt (qSrc Sources.a5)).unacked = [Sources.u0] ∧ qAckSeq
      Sources.a5 = Sources.u0.seq % 2 ^ 16 ∧ Sources.s2.hub.dynWait = [])
    ∧ (3 < 2560 ∧ Sources.s6.hears Sources.a6 ∧ qType Sources.a6 = 51 ∧ (Sources.s6.srcAt (qSrc Sources.a6)).answers.find (qSeq
      Sources.a6) = some (Owner.copy 0 7 Sources.cp.given, Sources.pp1) ∧ Sources.s6.descAt 0 7 = some Sources.cp ∧ Sources.cp.core =
      3 ∧ dstKind Sources.cp.words = 0 ∧ descOp Sources.cp.words = 0 ∧ descZskip Sources.cp.words = false ∧ descRowBytes
      Sources.cp.words % 64 = 0 ∧ chunkDst Sources.cp.words Sources.cp.given % 64 = 0 ∧ qPmask Sources.a6 = 0 ∧ Sources.cp.got.find
      (Sources.cp.given + 1) = none ∧ (List.flatMap Prod.fst (qGranules Sources.a6)).length = chunkLen Sources.cp.words
      Sources.cp.given) :=
  by and_intros <;> decide +kernel

theorem witness_RequestsTimeOut :
    (3 < 2560 ∧ List.find? (fun y => y.id == 7) (Sources.s1L.coreAt 3).rem = some Sources.rem2 ∧ Sources.rem2.at_ + 20000 ≤
      Sources.s1L.ct ∧ (Sources.s1L.coreAt 3).st = .running)
    ∧ (List.find? (fun u => u.seq == 12 && !u.lost) (Sources.s2.srcAt 9).unacked = some Sources.u0 ∧ Sources.u0.lastAt + 8000 ≤
      Sources.s2.clk ∧ (Sources.u0.tries < if hasReply (qType Sources.u0.q) = true then 2 else 4) ∧ (∀ x ∈ Sources.s2.hub.inject,
      isRequest (qType x.2) = true → qDest x.2 = 9 → qSeq x.2 ≠ 12) ∧ (Sources.s2.isOwn Sources.u0.q = true → Sources.s2.inboundRoom
      Sources.u0.q 0 = true) ∧ (qStream Sources.u0.q ≠ 0 ∨ Sources.s2.isOwn Sources.u0.q = true ∨ Sources.s2.affordable Sources.u0.q
      (budgetOf (qTag Sources.u0.q) Sources.u0.part) = true))
    ∧ (List.find? (fun u => u.seq == 12 && !u.lost) (Sources.s4.srcAt 9).unacked = some Sources.u2 ∧ Sources.u2.own = Owner.copy 0 7 0
      ∧ Sources.u2.firstAt + 40000 ≤ Sources.s4.clk ∧ Sources.s4.descAt 0 7 = some Sources.cp)
    ∧ (List.find? (fun u => u.seq == 12 && !u.lost) (Sources.s6.srcAt 9).unacked = none ∧ (Sources.s6.srcAt 9).answers.find 12 = some
      (Owner.copy 0 7 0, Sources.pp1) ∧ Sources.pp1.1 + 40000 ≤ Sources.s6.clk ∧ Sources.s6.descAt 0 7 = some Sources.cp)
    ∧ ((Sources.s8.dstAt 9).waitRec = true ∧ Sources.s8.ep.records.length < 65536 ∧ (Sources.s8.dstAt 9).expected = some 7 ∧
      (Sources.s8.dstAt 9).reorder.find 7 = some Sources.a7 ∧ (Sources.s8.dstAt 9).reorder.find ((7 + 1) % 2 ^ 24) = none ∧ 7 < 2 ^ 24
      ∧ qSrc Sources.a7 = 9 ∧ Sources.s8.refusal Sources.a7 = (none, 2) ∧ isLoad (qType Sources.a7) = true ∧ qInStore Sources.a7 =
      true)
    ∧ ((Sources.s9.dstAt 9).ackDue = some 5 ∧ 5 + 1000 ≤ Sources.s9.clk ∧ 9 < 2 ^ 16 ∧ 9 ≠ Sources.s9.topo.ownEid ∧ (∀ y ∈
      Sources.s9.hub.inject, qType y.2 = 50 → qDest y.2 ≠ 9)) :=
  by and_intros <;> decide +kernel

theorem witness_FramesMoveThroughTheRouter :
    (3 < 93 ∧ 2 < fullLanes 3 ∧ Router.s0.portUp 3 = true ∧ ((Router.s0.portAt 3).rxLanes.getLsbD 2 = true ∧ Router.f0.errs.any cwBad
      = false ∧ fIntact Router.f0 = true ∧ fValid Router.f0 = true) ∧ fType Router.f0 = 1 ∧ fSeq Router.f0 = (Router.s0.portAt
      3).rxSeq ∧ (Router.s0.portAt 3).held = [] ∧ (Router.s0.portAt 3).belay = [] ∧ (qIntact Router.f0.q = true ∧ qValid Router.f0.q =
      true ∧ Router.s0.spoofed 3 Router.f0.q = false ∧ Router.s0.tooOld Router.f0.q = false) ∧ Router.s0.isOwn Router.f0.q = true ∧
      (isReplyClass (qType Router.f0.q) = true ∨ Router.s0.inboundRoom Router.f0.q (Router.s0.olderBytes Router.f0.q) = true))
    ∧ (3 < 93 ∧ 2 < fullLanes 3 ∧ Router.s0.portUp 3 = true ∧ (Router.s0.portAt 3).txLanes.getLsbD 2 = true ∧ Tab.get 0
      (Router.s0.portAt 3).laneFree 2 ≤ 25 * Router.s0.clk)
    ∧ (3 < 93 ∧ 2 < fullLanes 3 ∧ Router.s2.portUp 3 = true ∧ (Router.s2.portAt 3).gapAt = some 7 ∧ Router.s2.freeLane 3 = some 0 ∧ (7
      + 400 ≤ Router.s2.clk ∨ 32 ≤ List.length (Router.s2.portAt 3).held))
    ∧ (3 < 93 ∧ 2 < fullLanes 3 ∧ Router.s3.portUp 3 = true ∧ ((Router.s3.portAt 3).rxLanes.getLsbD 2 = true ∧ Router.f0.errs.any cwBad
      = false ∧ fIntact Router.f0 = true ∧ fValid Router.f0 = true) ∧ fType Router.f0 = 1 ∧ (Router.s3.portAt 3).belay = [] ∧ 0 <
      (fSeq Router.f0 + 2 ^ 16 - (Router.s3.portAt 3).rxSeq) % 2 ^ 16 ∧ (fSeq Router.f0 + 2 ^ 16 - (Router.s3.portAt 3).rxSeq) % 2 ^
      16 < 2 ^ 15 ∧ List.length (Router.s3.portAt 3).held < 32)
    ∧ (3 < 93 ∧ 2 < fullLanes 3 ∧ Router.s3.portUp 3 = true ∧ 93 ≤ 94 ∧ 94 < 100 ∧ List.find? (fun e => e.1 == 94 &&
      !Router.s3.waitsForSlot e.2) Router.s3.hub.inject = some Router.e0 ∧ qIntact (Router.s3.leaving 94 (qDemote Router.e0.2)).2 =
      true ∧ Router.s3.isOwn (Router.s3.leaving 94 (qDemote Router.e0.2)).2 = false ∧ Router.s3.knownEid (qDest (Router.s3.leaving 94
      (qDemote Router.e0.2)).2) = true ∧ Router.s3.transitPending.length < Router.s3.freeOutputs (Router.s3.leaving 94 (qDemote
      Router.e0.2)).2 ∧ Router.s3.allocate (Router.s3.claimedBy (94, (Router.s3.leaving 94 (qDemote Router.e0.2)).2)
      (Router.s3.transitPending ++ List.filter (fun y => y.1 != 94) Router.s3.injectHeads)) (Router.s3.leaving 94 (qDemote
      Router.e0.2)).2 = some Router.v0)
    ∧ (3 < 93 ∧ 2 < fullLanes 3 ∧ Router.s4.portUp 3 = true ∧ 2 < 17 ∧ Router.s4.hub.dynWait = [Router.un] ∧ budgetOf (qTag
      Router.un.q) Router.un.part = 2 ∧ Router.s4.affordable Router.un.q 2 = true ∧ qType Router.un.q ≠ 36 ∧ Router.s4.pairOpen (qDest
      Router.un.q) = true ∧ Router.s4.isOwn Router.un.q = false ∧ qSched Router.un.q = false ∧ Router.s4.firstDim (qDest Router.un.q)
      = some 0)
    ∧ (3 < 93 ∧ 2 < fullLanes 3 ∧ Router.s6.portUp 3 = true ∧ 93 ≤ 96 ∧ 96 < 100 ∧ List.find? (fun e => e.1 == 96 &&
      !Router.s6.waitsForSlot e.2) Router.s6.hub.inject = some Router.e2 ∧ qIntact (Router.s6.leaving 96 (qDemote Router.e2.2)).2 =
      true ∧ Router.s6.isOwn (Router.s6.leaving 96 (qDemote Router.e2.2)).2 = false ∧ Router.s6.knownEid (qDest (Router.s6.leaving 96
      (qDemote Router.e2.2)).2) = false)
    ∧ (3 < 93 ∧ 2 < fullLanes 3 ∧ Router.s7.portUp 3 = true ∧ 93 ≤ 94 ∧ 94 < 100 ∧ List.find? (fun e => e.1 == 94 &&
      !Router.s7.waitsForSlot e.2) Router.s7.hub.inject = some Router.e0 ∧ qIntact (Router.s7.leaving 94 (qDemote Router.e0.2)).2 =
      true ∧ Router.s7.isOwn (Router.s7.leaving 94 (qDemote Router.e0.2)).2 = false ∧ Router.s7.knownEid (qDest (Router.s7.leaving 94
      (qDemote Router.e0.2)).2) = true ∧ Router.s7.freeOutputs (Router.s7.leaving 94 (qDemote Router.e0.2)).2 ≤
      Router.s7.transitPending.length)
    ∧ (3 < 93 ∧ 2 < fullLanes 3 ∧ Router.s0.portUp 3 = true ∧ ((Router.s0.portAt 3).rxLanes.getLsbD 2 = true ∧ Router.f1.errs.any cwBad
      = false ∧ fIntact Router.f1 = true ∧ fValid Router.f1 = true) ∧ fType Router.f1 = 1 ∧ fSeq Router.f1 = (Router.s0.portAt
      3).rxSeq ∧ (Router.s0.portAt 3).held = [] ∧ (Router.s0.portAt 3).belay = [] ∧ (qIntact Router.f1.q = true ∧ qValid Router.f1.q =
      true ∧ Router.s0.spoofed 3 Router.f1.q = false ∧ Router.s0.tooOld Router.f1.q = false) ∧ Router.s0.isOwn Router.f1.q = false ∧
      qSched Router.f1.q = false ∧ Router.s0.allocate (Router.s0.claimedBy (3, Router.f1.q) Router.s0.transitPending) Router.f1.q =
      some Router.v0)
    ∧ (3 < 93 ∧ 2 < fullLanes 3 ∧ Router.s0.portUp 3 = true ∧ (Router.s0.portAt 3).rxLanes.getLsbD 2 = true ∧ (fIntact Router.f3 =
      false ∨ Router.f3.errs.any cwBad = true))
    ∧ (3 < 93 ∧ 2 < fullLanes 3 ∧ Router.s0.portUp 3 = true ∧ ((Router.s0.portAt 3).rxLanes.getLsbD 2 = true ∧ Router.f4.errs.any cwBad
      = false ∧ fIntact Router.f4 = true ∧ fValid Router.f4 = true) ∧ fType Router.f4 = 0)
    ∧ (3 < 93 ∧ 2 < fullLanes 3 ∧ Router.s1.portUp 3 = true ∧ ((Router.s1.portAt 3).rxLanes.getLsbD 2 = true ∧ Router.f5.errs.any cwBad
      = false ∧ fIntact Router.f5 = true ∧ fValid Router.f5 = true) ∧ fType Router.f5 = 3 ∧ (Router.s1.portAt 3).belay = [Router.b0] ∧
      Router.b0.fseq < 2 ^ 16 ∧ (fAck Router.f5 + 1) % 2 ^ 16 = Router.b0.fseq ∧ 0 < 8 ∧ (Router.s1.portAt 3).txLanes.getLsbD 0 = true)
    ∧ (8 < 93 ∧ 2 < fullLanes 8 ∧ Router.s5.portUp 8 = true ∧ (Router.s5.portAt 8).stage = [Router.stg] ∧ Router.stg.slot ≤
      Router.s5.slot ∧ Router.s5.slot ≤ Router.stg.last ∧ Router.s5.schedOk = true ∧ Router.s5.detoured 8 = false ∧ Router.s5.slotFits
      8 Router.stg.q = true) :=
  by and_intros <;> decide +kernel

theorem witness_PortsAndPitches :
    (3 < 93 ∧ Router.s0.portUp 3 = true ∧ Router.s0.silent 3 = true)
    ∧ (Router.s0.dom.hub = true ∧ BitVec.toNat Router.s0.time.counter % (128 * 2 ^ Router.s0.hub.log2P) = 0)
    ∧ (3 < 93 ∧ (Router.t1.portAt 3).st ≠ .up ∧ (Router.t1.portAt 3).lostAt.isSome = true ∧ (Router.t1.portAt 3).detour = false)
    ∧ (3 < 93 ∧ (Router.t2.portAt 3).upAt = some 9 ∧ (Router.t2.portAt 3).st = .up ∧ (Router.t2.portAt 3).detour = true ∧ 9 + 2000000 ≤
      Router.t2.clk ∧ BitVec.toNat Router.t2.time.counter % (128 * 2 ^ Router.t2.hub.log2P) = 0)
    ∧ (Router.t5.dom.hub = true ∧ BitVec.toNat Router.t5.time.counter % (128 * 2 ^ Router.t5.hub.log2P) = 0 ∧ Router.t5.field A.telCfg
      63 63 = 1 ∧ 2 ^ Router.t5.hub.mapEvery ≤ Router.t5.hub.mapPitches) :=
  by and_intros <;> decide +kernel

theorem witness_LanesLeaveAndJoin :
    (Lanes.s0.placed 0 ∧ 0 < fullLanes 0 ∧ Lanes.s0.portUp 0 = true ∧ (Lanes.s0.portAt 0).rxLanes.getLsbD 0 = true ∧ Tab.get 0
      (Lanes.s0.portAt 0).lastGood 0 + 2000 ≤ Lanes.s0.clk)
    ∧ (Lanes.s0.placed 0 ∧ 0 < fullLanes 0 ∧ Lanes.s0.portUp 0 = true ∧ Lanes.s0.takesCtl 0 0 Lanes.kFault 1 ∧ ctlValid
      Lanes.kFault.body = true ∧ ctlLane Lanes.kFault.body < fullLanes 0 ∧ ctlSub Lanes.kFault.body = 1 ∧ ctlCause Lanes.kFault.body =
      1)
    ∧ (Lanes.s0.placed 0 ∧ 0 < fullLanes 0 ∧ Lanes.s0.portUp 0 = true ∧ Lanes.s0.takesCtl 0 0 Lanes.kPlan 1 ∧ ctlValid Lanes.kPlan.body
      = true ∧ ctlLane Lanes.kPlan.body < fullLanes 0 ∧ ctlSub Lanes.kPlan.body = 1 ∧ ctlCause Lanes.kPlan.body ≠ 1 ∧
      Lanes.s0.opt.change = [] ∧ (false = true → ¬(Lanes.s0.laneAt (Lanes.s0.posServing 0) (ctlLane Lanes.kPlan.body) !ctlDir
      Lanes.kPlan.body).st = .retired))
    ∧ (Lanes.s0.placed 0 ∧ 0 < fullLanes 0 ∧ Lanes.s0.portUp 0 = true ∧ Lanes.s0.takesCtl 0 0 Lanes.kAdd 1 ∧ ctlValid Lanes.kAdd.body =
      true ∧ ctlLane Lanes.kAdd.body < fullLanes 0 ∧ ctlSub Lanes.kAdd.body = 2 ∧ Lanes.s0.opt.change = [] ∧ (true = true →
      ¬(Lanes.s0.laneAt (Lanes.s0.posServing 0) (ctlLane Lanes.kAdd.body) !ctlDir Lanes.kAdd.body).st = .retired))
    ∧ (Lanes.s0.placed 0 ∧ 0 < fullLanes 0 ∧ Lanes.s0.portUp 0 = true ∧ Lanes.s0.takesCtl 0 0 Lanes.kBad 1 ∧ (ctlValid Lanes.kBad.body
      = false ∨ fullLanes 0 ≤ ctlLane Lanes.kBad.body))
    ∧ (Lanes.s1.placed 0 ∧ 0 < fullLanes 0 ∧ Lanes.s1.portUp 0 = true ∧ Lanes.s1.takesCtl 0 0 Lanes.kPlan 1 ∧ ctlValid Lanes.kPlan.body
      = true ∧ ctlLane Lanes.kPlan.body < fullLanes 0 ∧ ctlSub Lanes.kPlan.body = 1 ∧ ctlCause Lanes.kPlan.body ≠ 1 ∧
      Lanes.s1.opt.change = [Lanes.c1] ∧ (Lanes.c1.port = 0 ∧ Lanes.c1.dir = !ctlDir Lanes.kPlan.body ∧ Lanes.c1.ours = true ∧
      Lanes.c1.retryAt = none ∧ Lanes.c1.refused = false) ∧ Lanes.s1.topo.ownEid < ctlEid Lanes.kPlan.body)
    ∧ (Lanes.s1.placed 0 ∧ 0 < fullLanes 0 ∧ Lanes.s1.portUp 0 = true ∧ Lanes.s1.takesCtl 0 0 Lanes.kPlanLow 1 ∧ ctlValid
      Lanes.kPlanLow.body = true ∧ ctlLane Lanes.kPlanLow.body < fullLanes 0 ∧ ctlSub Lanes.kPlanLow.body = 1 ∧ ctlCause
      Lanes.kPlanLow.body ≠ 1 ∧ Lanes.s1.opt.change = [Lanes.c1] ∧ (Lanes.c1.port = 0 ∧ Lanes.c1.dir = !ctlDir Lanes.kPlanLow.body ∧
      Lanes.c1.ours = true ∧ Lanes.c1.retryAt = none ∧ Lanes.c1.refused = false) ∧ ctlEid Lanes.kPlanLow.body ≤ Lanes.s1.topo.ownEid ∧
      (false = true → ¬(Lanes.s1.laneAt (Lanes.s1.posServing 0) (ctlLane Lanes.kPlanLow.body) !ctlDir Lanes.kPlanLow.body).st =
      .retired))
    ∧ (Lanes.s1.placed 0 ∧ 0 < fullLanes 0 ∧ Lanes.s1.portUp 0 = true ∧ Lanes.s1.takesCtl 0 0 Lanes.kAnsw 1 ∧ ctlValid Lanes.kAnsw.body
      = true ∧ ctlLane Lanes.kAnsw.body < fullLanes 0 ∧ ctlSub Lanes.kAnsw.body = 3 ∧ Lanes.s1.opt.change = [Lanes.c1] ∧ Lanes.c1.lane
      = ctlLane Lanes.kAnsw.body ∧ (Lanes.c1.port = 0 ∧ Lanes.c1.dir = !ctlDir Lanes.kAnsw.body ∧ Lanes.c1.ours = true ∧
      Lanes.c1.retryAt = none ∧ Lanes.c1.refused = false))
    ∧ (Lanes.s1.placed 0 ∧ 0 < fullLanes 0 ∧ Lanes.s1.portUp 0 = true ∧ Lanes.s1.takesCtl 0 0 Lanes.kAdd 1 ∧ ctlValid Lanes.kAdd.body =
      true ∧ ctlLane Lanes.kAdd.body < fullLanes 0 ∧ ctlSub Lanes.kAdd.body = 2 ∧ Lanes.s1.opt.change = [Lanes.c1] ∧ (Lanes.c1.port =
      0 ∧ Lanes.c1.dir = !ctlDir Lanes.kAdd.body ∧ Lanes.c1.ours = true ∧ Lanes.c1.retryAt = none ∧ Lanes.c1.refused = false) ∧
      Lanes.s1.topo.ownEid < ctlEid Lanes.kAdd.body)
    ∧ (Lanes.s1.placed 0 ∧ 0 < fullLanes 0 ∧ Lanes.s1.portUp 0 = true ∧ Lanes.s1.takesCtl 0 0 Lanes.kAddLow 1 ∧ ctlValid
      Lanes.kAddLow.body = true ∧ ctlLane Lanes.kAddLow.body < fullLanes 0 ∧ ctlSub Lanes.kAddLow.body = 2 ∧ Lanes.s1.opt.change =
      [Lanes.c1] ∧ (Lanes.c1.port = 0 ∧ Lanes.c1.dir = !ctlDir Lanes.kAddLow.body ∧ Lanes.c1.ours = true ∧ Lanes.c1.retryAt = none ∧
      Lanes.c1.refused = false) ∧ ctlEid Lanes.kAddLow.body ≤ Lanes.s1.topo.ownEid ∧ (true = true → ¬(Lanes.s1.laneAt
      (Lanes.s1.posServing 0) (ctlLane Lanes.kAddLow.body) !ctlDir Lanes.kAddLow.body).st = .retired))
    ∧ (Lanes.s9.placed 0 ∧ 0 < fullLanes 0 ∧ Lanes.s9.portUp 0 = true ∧ Lanes.s9.takesCtl 0 0 Lanes.kAddR 1 ∧ ctlValid Lanes.kAddR.body
      = true ∧ ctlLane Lanes.kAddR.body < fullLanes 0 ∧ ctlSub Lanes.kAddR.body = 2 ∧ Lanes.s9.opt.change = [] ∧ true = true ∧
      (Lanes.s9.laneAt (Lanes.s9.posServing 0) (ctlLane Lanes.kAddR.body) !ctlDir Lanes.kAddR.body).st = .retired)
    ∧ (Lanes.s1.placed 0 ∧ 3 < fullLanes 0 ∧ Lanes.s1.portUp 0 = true ∧ Lanes.s1.opt.change = [Lanes.c1] ∧ Lanes.c1.port = 0 ∧
      Lanes.c1.lane = 3 ∧ Lanes.c1.retryAt = none ∧ Lanes.c1.refused = false ∧ Lanes.c1.slot ≤ Lanes.s1.slot ∧ Lanes.c1.ours = true ∧
      Lanes.c1.acked = false)
    ∧ (Lanes.s2.placed 0 ∧ 3 < fullLanes 0 ∧ Lanes.s2.portUp 0 = true ∧ Lanes.s2.opt.change = [Lanes.c2] ∧ Lanes.c2.port = 0 ∧
      Lanes.c2.lane = 3 ∧ Lanes.c2.retryAt = none ∧ Lanes.c2.refused = false ∧ Lanes.c2.slot ≤ Lanes.s2.slot ∧ (Lanes.c2.ours = false
      ∨ Lanes.c2.acked = true))
    ∧ (Lanes.s8.placed 0 ∧ 3 < fullLanes 0 ∧ Lanes.s8.portUp 0 = true ∧ Lanes.s8.opt.change = [Lanes.c8] ∧ Lanes.c8.port = 0 ∧
      Lanes.c8.lane = 3 ∧ ((∃ y, Lanes.c8.retryAt = some y ∧ y ≤ Lanes.s8.clk) ∨ Lanes.c8.refused = true ∧ Lanes.c8.ours = true) ∧
      Lanes.c8.cause < 16)
    ∧ (Lanes.sa.placed 0 ∧ 3 < fullLanes 0 ∧ Lanes.sa.portUp 0 = true ∧ (Lanes.sa.portAt 0).rxLanes.getLsbD 3 = true ∧ 4 ≤ (List.filter
      (fun t => Decidable.decide (Lanes.sa.clk < t + 2000000)) (Tab.get [] (Lanes.sa.portAt 0).fecBad 3)).length) :=
  by and_intros <;> decide +kernel

theorem witness_RingsLockAndRecalibrate :
    (3 < 96 ∧ 2 < posLanes 3 ∧ Optics.s0.topo.ownEid < 2 ^ 16 ∧ Optics.s0.ringHeld 3 2 true = true)
    ∧ (3 < 96 ∧ 2 < posLanes 3 ∧ Optics.s0.topo.ownEid < 2 ^ 16 ∧ Optics.s0.dom.hub = true)
    ∧ (3 < 96 ∧ 2 < posLanes 3 ∧ Optics.s7.topo.ownEid < 2 ^ 16 ∧ Optics.s7.ringHeld 3 2 true = false)
    ∧ (3 < 96 ∧ 2 < posLanes 3 ∧ Optics.s0.topo.ownEid < 2 ^ 16 ∧ (Optics.s0.laneAt 3 2 false).okSince = some 5 ∧ Optics.s0.ringHeld 3
      2 false = true ∧ (Optics.s0.laneAt 3 2 false).locked = false ∧ 5 + 40000 ≤ Optics.s0.clk)
    ∧ (3 < 96 ∧ 2 < posLanes 3 ∧ Optics.s1.topo.ownEid < 2 ^ 16 ∧ (Optics.s1.laneAt 3 2 false).locked = true ∧ (Optics.s1.laneAt 3 2
      false).toned = false ∧ (Optics.s1.laneAt 3 2 false).lockedAt = some 5 ∧ 5 + 80000 ≤ Optics.s1.clk ∧ (toneExpected 3 2 false 2 =
      false ∨ Optics.z0 < 10))
    ∧ (3 < 96 ∧ 2 < posLanes 3 ∧ Optics.s1.topo.ownEid < 2 ^ 16 ∧ (Optics.s1.laneAt 3 2 false).locked = true ∧ (Optics.s1.laneAt 3 2
      false).toned = false ∧ (Optics.s1.laneAt 3 2 false).lockedAt = some 5 ∧ 5 + 80000 ≤ Optics.s1.clk ∧ toneExpected 3 2 false 2 =
      true ∧ 10 ≤ Optics.z1)
    ∧ (3 < 96 ∧ 2 < posLanes 3 ∧ Optics.s3.topo.ownEid < 2 ^ 16 ∧ Optics.s3.portOfPos 3 = some 3 ∧ Optics.s3.svc.switching = none ∧
      Optics.s3.portUp 3 = true ∧ Optics.s3.field A.optCtrl 0 0 = 1 ∧ (Optics.s3.laneAt 3 2 false).st = .working ∧ ((Optics.s3.portAt
      3).lanes false).getLsbD 2 = true ∧ Optics.s3.recalDue 3 (Optics.s3.laneAt 3 2 false) = true ∧ Optics.s3.recalOut 3 false = false
      ∧ Optics.s3.recalsOf (engineOf 3) < 4)
    ∧ (3 < 96 ∧ 2 < posLanes 3 ∧ Optics.s4.topo.ownEid < 2 ^ 16 ∧ (Optics.s4.laneAt 3 2 false).st = .recal ∧ (Optics.s4.laneAt 3 2
      false).toned = true ∧ (Optics.s4.laneAt 3 2 false).tonedAt = some 5 ∧ 5 + 2000000 ≤ Optics.s4.clk)
    ∧ (3 < 96 ∧ 2 < posLanes 3 ∧ Optics.s5.topo.ownEid < 2 ^ 16 ∧ Optics.s5.dom.hub = true ∧ Optics.s5.laneSelected = (3, 2, false) ∧
      (Optics.s5.laneAt 3 2 false).st = .retired)
    ∧ (3 < 96 ∧ 2 < posLanes 3 ∧ Optics.s6.topo.ownEid < 2 ^ 16 ∧ Optics.s6.dom.hub = true ∧ Optics.s6.laneSelected = (3, 2, false) ∧
      (Optics.s6.laneAt 3 2 false).st ≠ .retired ∧ Optics.s6.portOfPos 3 = some 3 ∧ Optics.s6.portUp 3 = true ∧ ((Optics.s6.portAt
      3).lanes false).getLsbD 2 = true)
    ∧ (3 < 96 ∧ 2 < posLanes 3 ∧ Optics.sb.topo.ownEid < 2 ^ 16 ∧ (Optics.sb.laneAt 3 2 false).st = .locking ∧ (Optics.sb.laneAt 3 2
      false).toned = true ∧ Optics.sb.qualWindow 3 (Optics.sb.laneAt 3 2 false) = some Optics.ww ∧ Optics.ww.1 ≤ Optics.sb.clk ∧ 0 = 0
      ∧ 0 ≤ Optics.ww.2 ∧ Optics.sb.portOfPos 3 = some 3 ∧ Optics.sb.portUp 3 = true)
    ∧ (3 < 96 ∧ 2 < posLanes 3 ∧ Optics.sb.topo.ownEid < 2 ^ 16 ∧ (Optics.sb.laneAt 3 2 false).st = .locking ∧ (Optics.sb.laneAt 3 2
      false).toned = true ∧ Optics.sb.qualWindow 3 (Optics.sb.laneAt 3 2 false) = some Optics.ww ∧ Optics.ww.1 ≤ Optics.sb.clk ∧ (1 ≠
      0 ∨ Optics.ww.2 < 0))
    ∧ (3 < 96 ∧ 2 < posLanes 3 ∧ Optics.sf.topo.ownEid < 2 ^ 16 ∧ (Optics.sf.laneAt 3 2 false).st = .locking ∧ (Optics.sf.laneAt 3 2
      false).toned = true ∧ Optics.sf.qualWindow 3 (Optics.sf.laneAt 3 2 false) = some Optics.ww ∧ Optics.ww.1 ≤ Optics.sf.clk ∧ 0 = 0
      ∧ 0 ≤ Optics.ww.2 ∧ Optics.sf.portOfPos 3 = some 3 ∧ Optics.sf.portUp 3 = false)
    ∧ (31 < 96 ∧ 2 < posLanes 31 ∧ Optics.s8.topo.ownEid < 2 ^ 16 ∧ Optics.s8.dom.hub = true ∧ Optics.s8.laneSelected = (31, 2, false)
      ∧ (Optics.s8.laneAt 31 2 false).st ≠ .retired ∧ Optics.s8.portOfPos 31 = none)
    ∧ (31 < 96 ∧ 2 < posLanes 31 ∧ Optics.sd.topo.ownEid < 2 ^ 16 ∧ (Optics.sd.laneAt 31 2 false).st = .locking ∧ (Optics.sd.laneAt 31
      2 false).toned = true ∧ Optics.sd.qualWindow 31 (Optics.sd.laneAt 31 2 false) = some Optics.ww ∧ Optics.ww.1 ≤ Optics.sd.clk ∧ 0
      = 0 ∧ 0 ≤ Optics.ww.2 ∧ Optics.sd.portOfPos 31 = none) :=
  by and_intros <;> decide +kernel

theorem witness_CassettesFeedTheEngines :
    (1 < 4 ∧ 0 < 8 ∧ (Optics.k0.cassAt 1).st = .running ∧ (Optics.k0.cassAt 1).failed.getLsbD 0 = false ∧ (Optics.k0.cassAt
      1).failTimes = [])
    ∧ (1 < 4 ∧ 0 < 2 ∧ (Optics.k0.cassAt 1).st = .running ∧ (Optics.k0.cassAt 1).spareBad.getLsbD 0 = false ∧ (Optics.k0.cassAt
      1).failTimes = [])
    ∧ (1 < 4 ∧ (Optics.k0.cassAt 1).present = true ∧ (true = false ∨ (Optics.k0.cassAt 1).safe = false))
    ∧ (1 < 4 ∧ 0 < 8 ∧ (Optics.k1.cassAt 1).st = .running ∧ (Optics.k1.cassAt 1).failed.getLsbD 0 = false ∧ (Optics.k1.cassAt
      1).failTimes = [2999999998, 2999999999] ∧ Optics.k1.clk < 2999999998 + 2000000 ∧ Optics.k1.clk < 2999999999 + 2000000)
    ∧ (1 < 4 ∧ 0 < 2 ∧ (Optics.k2.cassAt 1).st = .running ∧ Optics.k2.svc.switching = none ∧ (if 0 = 0 then (Optics.k2.cassAt 1).tune0
      else (Optics.k2.cassAt 1).tune1) = some 2 ∧ 2 < 8)
    ∧ (1 < 4 ∧ (Optics.k3.cassAt 1).present = true ∧ (Optics.k3.cassAt 1).safe = true)
    ∧ (1 < 4 ∧ (Optics.k3.cassAt 1).st = .removing)
    ∧ (1 < 4 ∧ (Optics.k4.cassAt 1).present = false)
    ∧ (1 < 4 ∧ (Optics.k5.cassAt 1).st = .starting)
    ∧ (1 < 4 ∧ 1 < 16 ∧ 1 % 4 = 1 ∧ 2 < 8 ∧ (Optics.k6.secAt 1).getLsbD 2 = true ∧ (Optics.k6.cassAt 1).gives 2 = true ∧
      (Optics.k6.cassAt 1).st = .running ∧ ((Optics.k6.lanesOn 1 2).all fun y => !((Optics.k6.portAt y.1).lanes y.2.2).getLsbD y.2.1)
      = true ∧ (∀ y ∈ Optics.k6.lanesOn 1 2, Optics.k6.laneOut y.1 y.2.2 2 = false ∧ ∀ c ∈ Optics.k6.opt.change, ¬(c.port = y.1 ∧
      c.dir = y.2.2)))
    ∧ (1 < 4 ∧ 1 < 16 ∧ 1 % 4 = 1 ∧ 2 < 8 ∧ (Optics.k7.secAt 1).getLsbD 2 = true ∧ (Optics.k7.cassAt 1).gives 2 = true ∧
      (Optics.k7.cassAt 1).st = .running ∧ Optics.k7.lanesOn 1 2 = [(4, 2, false)] ∧ (Optics.k7.portAt 4).txLanes.getLsbD 2 = true ∧
      laneCount (Optics.k7.portAt 4).txLanes = fullLanes 4 ∧ Optics.k7.opt.change = [] ∧ Optics.k7.posServing 4 < 96 ∧
      Optics.k7.topo.ownEid < 2 ^ 16 ∧ 4 < 93 ∧ 2 < 8) :=
  by and_intros <;> decide +kernel

theorem witness_PortsComeUpOrAreBarred :
    (Optics.p0.placed 8 ∧ Optics.p0.dom.hub = true ∧ Optics.p0.farEid 8 ≠ none ∧ (Optics.p0.portAt 8).st ≠ .up ∧ (Optics.p0.portAt
      8).st ≠ .training)
    ∧ (Optics.p0.placed 8 ∧ Optics.p0.dom.hub = true ∧ 31 < 96 ∧ 0 < posLanes 31 ∧ Optics.p0.portOfPos 31 = none ∧ cfIntact Optics.h0 =
      true ∧ cfValid Optics.h0 = true ∧ cfType Optics.h0 = 1 ∧ ctlSub Optics.h0.body = 0 ∧ ctlValid Optics.h0.body = true ∧
      Optics.p0.opt.posBar.find 31 = none ∧ Optics.p0.identCause ((Optics.p0.opt.spareAt.find 31).getD Optics.p0.clk) Optics.h0.body =
      some 2)
    ∧ (Optics.p1.placed 8 ∧ Optics.p1.dom.hub = true ∧ Optics.p1.farEid 8 ≠ none ∧ (Optics.p1.portAt 8).st ≠ .up ∧ (Optics.p1.portAt
      8).st ≠ .training ∧ (Optics.p1.portAt 8).st = .lost ∧ (Optics.p1.portAt 8).lostAt = some 5 ∧ 5 + 200000000 ≤ Optics.p1.ct)
    ∧ (Optics.p2.placed 8 ∧ Optics.p2.dom.hub = true ∧ Optics.p2.farEid 8 ≠ none ∧ (Optics.p2.portAt 8).st ≠ .up ∧ (Optics.p2.portAt
      8).st ≠ .training ∧ (Optics.p2.portAt 8).st = .down ∧ (Optics.p2.bringAt 8).retryAt = some 5 ∧ 5 ≤ Optics.p2.clk)
    ∧ (Optics.pp3.placed 8 ∧ Optics.pp3.dom.hub = true ∧ 0 < posLanes (Optics.pp3.posServing 8) ∧ Optics.pp3.portOfPos
      (Optics.pp3.posServing 8) = some 8 ∧ ctlValid Optics.h4.body = true ∧ ctlSub Optics.h4.body = 4 ∧ Optics.pp3.takesCtl 8 0
      Optics.h4 1)
    ∧ (Optics.p4.placed 8 ∧ Optics.p4.dom.hub = true ∧ 0 < posLanes (Optics.p4.posServing 8) ∧ cfIntact Optics.h0 = true ∧ cfValid
      Optics.h0 = true ∧ cfType Optics.h0 = 1 ∧ Optics.p4.portOfPos (Optics.p4.posServing 8) = some 8 ∧ (Optics.p4.portAt 8).st =
      .training ∧ ctlSub Optics.h0.body = 0 ∧ ctlValid Optics.h0.body = true ∧ (ctlMajor Optics.h0.body + 1 < Optics.p4.svc.protoMajor
      ∨ Optics.p4.svc.protoMajor + 1 < ctlMajor Optics.h0.body))
    ∧ (Optics.p4.placed 8 ∧ Optics.p4.dom.hub = true ∧ 0 < posLanes (Optics.p4.posServing 8) ∧ cfIntact Optics.h1 = true ∧ cfValid
      Optics.h1 = true ∧ cfType Optics.h1 = 1 ∧ Optics.p4.portOfPos (Optics.p4.posServing 8) = some 8 ∧ (Optics.p4.portAt 8).st =
      .training ∧ ctlSub Optics.h1.body = 0 ∧ ctlValid Optics.h1.body = true ∧ ctlMajor Optics.h1.body = Optics.p4.svc.protoMajor ∧
      Optics.p4.digestFor (ctlEid Optics.h1.body) = none ∧ Optics.p4.field A.optCfg 8 8 = 0 ∧ ctlRxPeer Optics.h1.body =
      Optics.p4.topo.ownEid ∧ Optics.p4.farEid 8 = some (ctlEid Optics.h1.body) ∧ Optics.p4.peerPort 8 = some (ctlLogPort
      Optics.h1.body) ∧ ctlLogPort Optics.h1.body ≠ 127)
    ∧ (Optics.p4.placed 8 ∧ Optics.p4.dom.hub = true ∧ 0 < posLanes (Optics.p4.posServing 8) ∧ cfIntact Optics.h2 = true ∧ cfValid
      Optics.h2 = true ∧ cfType Optics.h2 = 1 ∧ Optics.p4.portOfPos (Optics.p4.posServing 8) = some 8 ∧ (Optics.p4.portAt 8).st =
      .training ∧ ctlSub Optics.h2.body = 0 ∧ ctlValid Optics.h2.body = true ∧ ctlMajor Optics.h2.body = Optics.p4.svc.protoMajor ∧
      Optics.p4.digestFor (ctlEid Optics.h2.body) = none ∧ Optics.p4.field A.optCfg 8 8 = 0 ∧ ctlRxPeer Optics.h2.body =
      Optics.p4.topo.ownEid ∧ Optics.p4.farEid 8 ≠ some (ctlEid Optics.h2.body))
    ∧ (Optics.p4.placed 8 ∧ Optics.p4.dom.hub = true ∧ 0 < posLanes (Optics.p4.posServing 8) ∧ cfIntact Optics.h6 = true ∧ cfValid
      Optics.h6 = true ∧ cfType Optics.h6 = 1 ∧ Optics.p4.portOfPos (Optics.p4.posServing 8) = some 8 ∧ (Optics.p4.portAt 8).st =
      .training ∧ ctlSub Optics.h6.body = 0 ∧ ctlValid Optics.h6.body = false)
    ∧ (Optics.p4.placed 8 ∧ Optics.p4.dom.hub = true ∧ 0 < posLanes (Optics.p4.posServing 8) ∧ Optics.p4.portOfPos
      (Optics.p4.posServing 8) = some 8 ∧ ctlValid Optics.h4.body = true ∧ ctlSub Optics.h4.body = 4 ∧ (Optics.p4.portAt 8).st =
      .training ∧ cfIntact Optics.h4 = true ∧ cfValid Optics.h4 = true ∧ cfType Optics.h4 = 1)
    ∧ (Optics.p5.placed 8 ∧ Optics.p5.dom.hub = true ∧ 0 < posLanes (Optics.p5.posServing 8) ∧ cfIntact Optics.h3 = true ∧ cfValid
      Optics.h3 = true ∧ cfType Optics.h3 = 1 ∧ Optics.p5.portOfPos (Optics.p5.posServing 8) = some 8 ∧ (Optics.p5.portAt 8).st =
      .training ∧ ctlSub Optics.h3.body = 0 ∧ ctlValid Optics.h3.body = true ∧ ctlMajor Optics.h3.body = Optics.p5.svc.protoMajor ∧
      Optics.p5.digestFor (ctlEid Optics.h3.body) = none ∧ (Optics.p5.bringAt 8).identAt = some 5 ∧ 5 + 2000000 ≤ Optics.p5.clk ∧
      ctlRxPeer Optics.h3.body ≠ 65535 ∧ ctlRxPeer Optics.h3.body ≠ Optics.p5.topo.ownEid)
    ∧ (Optics.p6.placed 8 ∧ Optics.p6.dom.hub = true ∧ 31 < 96 ∧ 0 < posLanes 31 ∧ Optics.p6.portOfPos 31 = none ∧ cfIntact Optics.h2 =
      true ∧ cfValid Optics.h2 = true ∧ cfType Optics.h2 = 1 ∧ ctlSub Optics.h2.body = 0 ∧ ctlValid Optics.h2.body = true ∧
      Optics.p6.opt.posBar.find 31 = none ∧ Optics.p6.field A.optCfg 8 8 = 1 ∧ Optics.p6.adoptable 31 Optics.h2.body = none ∧
      Optics.p6.identCause ((Optics.p6.opt.spareAt.find 31).getD Optics.p6.clk) Optics.h2.body = none)
    ∧ (Optics.p7.placed 8 ∧ Optics.p7.dom.hub = true ∧ (Optics.p7.portAt 8).st = .barred ∧ Optics.p7.portOfPos (Optics.p7.posServing 8)
      = some 8 ∧ (Optics.p7.bringAt 8).barSentAt = none ∧ (Optics.p7.bringAt 8).cause < 16)
    ∧ (Optics.pp8.placed 8 ∧ Optics.pp8.dom.hub = true ∧ (Optics.pp8.bringAt 8).ident = some Optics.f1 ∧ (Optics.pp8.bringAt
      8).releasedAt = some 5 ∧ (Optics.pp8.bringAt 8).upSlot = some 3 ∧ 3 ≤ Optics.pp8.slot ∧ (Optics.pp8.portAt 8).st = .training ∧
      (5 + if Optics.pp8.coherent 8 = true then 40000000 else 30000000) ≤ Optics.pp8.clk ∧ ctlLanes Optics.f1 &&& BitVec.ofNat 8 (2 ^
      fullLanes 8 - 1) ≠ 0 ∧ Optics.pp8.readyLanes 8 ≠ 0)
    ∧ (Optics.pp8.placed 8 ∧ Optics.pp8.dom.hub = true ∧ (Optics.pp8.portAt 8).st = .training ∧ (Optics.pp8.bringAt 8).releasedAt =
      some 5 ∧ Optics.pp8.attemptOver 8 5 = true)
    ∧ (Optics.p9.placed 8 ∧ Optics.p9.dom.hub = true ∧ 0 < posLanes (Optics.p9.posServing 8) ∧ cfIntact Optics.h5 = true ∧ cfValid
      Optics.h5 = true ∧ cfType Optics.h5 = 1 ∧ Optics.p9.portOfPos (Optics.p9.posServing 8) = some 8 ∧ (Optics.p9.portAt 8).st =
      .training ∧ ctlSub Optics.h5.body = 0 ∧ ctlValid Optics.h5.body = true ∧ ctlMajor Optics.h5.body = Optics.p9.svc.protoMajor ∧
      Optics.p9.digestFor (ctlEid Optics.h5.body) = some Optics.dg ∧ Optics.dg ≠ Optics.h5.body.w1)
    ∧ (Optics.pd.placed 8 ∧ Optics.pd.dom.hub = true ∧ Optics.pd.farEid 8 = none ∧ (Optics.pd.portAt 8).st = .held)
    ∧ (Optics.pb.placed 9 ∧ Optics.pb.dom.hub = true ∧ 0 < posLanes (Optics.pb.posServing 9) ∧ cfIntact Optics.h1 = true ∧ cfValid
      Optics.h1 = true ∧ cfType Optics.h1 = 1 ∧ Optics.pb.portOfPos (Optics.pb.posServing 9) = some 9 ∧ (Optics.pb.portAt 9).st =
      .training ∧ ctlSub Optics.h1.body = 0 ∧ ctlValid Optics.h1.body = true ∧ ctlMajor Optics.h1.body = Optics.pb.svc.protoMajor ∧
      Optics.pb.digestFor (ctlEid Optics.h1.body) = none ∧ Optics.pb.field A.optCfg 8 8 = 1 ∧ ctlRxPeer Optics.h1.body =
      Optics.pb.topo.ownEid ∧ Optics.pb.adoptable (Optics.pb.posServing 9) Optics.h1.body = some 8 ∧ Optics.pb.posServing 8 ≠
      Optics.pb.posServing 9 ∧ Optics.pb.wired 8 Optics.h1.body = some true) :=
  by and_intros <;> decide +kernel

theorem witness_TopoSectionsArrive :
    (70 < 93 ∧ Image.s0.hears Image.q0 ∧ qType Image.q0 = 36 ∧ Image.s0.portUp 70 = true ∧ qSrc Image.q0 = (Image.s0.portAt
      70).peerEid ∧ qTag Image.q0 = 0 ∧ qAddr Image.q0 = 0 ∧ qSeq Image.q0 = 0 ∧ qSync Image.q0 = false ∧ qRetry Image.q0 = false ∧
      qLen Image.q0 = Image.q0.payload.length ∧ Image.q0.payload.length % 8 = 0 ∧ chunkOk (wordsOf (Image.q0.payload.length / 8)
      Image.q0.payload) = true ∧ (Image.s0.sectDone (chunkImage (wordsOf (Image.q0.payload.length / 8) Image.q0.payload)) (chunkSec
      (wordsOf (Image.q0.payload.length / 8) Image.q0.payload)) = false ∧ chunkOffset (wordsOf (Image.q0.payload.length / 8)
      Image.q0.payload) + chunkBytes (wordsOf (Image.q0.payload.length / 8) Image.q0.payload) ≤ 8 * chunkWords (wordsOf
      (Image.q0.payload.length / 8) Image.q0.payload) ∧ (Image.s0.asmOf (chunkImage (wordsOf (Image.q0.payload.length / 8)
      Image.q0.payload)) (chunkSec (wordsOf (Image.q0.payload.length / 8) Image.q0.payload)) = none → Image.s0.tooMuch (chunkImage
      (wordsOf (Image.q0.payload.length / 8) Image.q0.payload)) (chunkWords (wordsOf (Image.q0.payload.length / 8) Image.q0.payload))
      = false) ∧ ∀ (a : Asm), Image.s0.asmOf (chunkImage (wordsOf (Image.q0.payload.length / 8) Image.q0.payload)) (chunkSec (wordsOf
      (Image.q0.payload.length / 8) Image.q0.payload)) = some a → a.words = chunkWords (wordsOf (Image.q0.payload.length / 8)
      Image.q0.payload) ∧ a.kept = true ∧ ∀ i < chunkBytes (wordsOf (Image.q0.payload.length / 8) Image.q0.payload) / 8, a.data.find
      (chunkOffset (wordsOf (Image.q0.payload.length / 8) Image.q0.payload) / 8 + i) = none) ∧ 62 ≤ 70 ∧ List.length (List.foldl (fun
      t e => Tab.put t (chunkOffset (wordsOf (Image.q0.payload.length / 8) Image.q0.payload) / 8 + e.2) e.1) ((Option.map Asm.data
      (Image.s0.asmOf (chunkImage (wordsOf (Image.q0.payload.length / 8) Image.q0.payload)) (chunkSec (wordsOf
      (Image.q0.payload.length / 8) Image.q0.payload)))).getD []) (List.drop 2 (wordsOf (Image.q0.payload.length / 8)
      Image.q0.payload)).zipIdx) ≠ chunkWords (wordsOf (Image.q0.payload.length / 8) Image.q0.payload))
    ∧ (70 < 93 ∧ Image.s0.hears Image.q6 ∧ qType Image.q6 = 36 ∧ qSrc Image.q6 ≠ (Image.s0.portAt 70).peerEid)
    ∧ (Image.s0.accepts 0 Image.m0 ∧ uType Image.m0 = 4 ∧ chunkOk Image.m0.body = true ∧ chunkSpread Image.m0.body = false ∧
      (Image.s0.sectDone (chunkImage Image.m0.body) (chunkSec Image.m0.body) = false ∧ chunkOffset Image.m0.body + chunkBytes
      Image.m0.body ≤ 8 * chunkWords Image.m0.body ∧ (Image.s0.asmOf (chunkImage Image.m0.body) (chunkSec Image.m0.body) = none →
      Image.s0.tooMuch (chunkImage Image.m0.body) (chunkWords Image.m0.body) = false) ∧ ∀ (a : Asm), Image.s0.asmOf (chunkImage
      Image.m0.body) (chunkSec Image.m0.body) = some a → a.words = chunkWords Image.m0.body ∧ a.kept = true ∧ ∀ i < chunkBytes
      Image.m0.body / 8, a.data.find (chunkOffset Image.m0.body / 8 + i) = none) ∧ List.length (List.foldl (fun t e => Tab.put t
      (chunkOffset Image.m0.body / 8 + e.2) e.1) ((Option.map Asm.data (Image.s0.asmOf (chunkImage Image.m0.body) (chunkSec
      Image.m0.body))).getD []) (List.drop 2 Image.m0.body).zipIdx) ≠ chunkWords Image.m0.body)
    ∧ (Image.s0.accepts 0 Image.m1 ∧ uType Image.m1 = 4 ∧ chunkOk Image.m1.body = false)
    ∧ (70 < 93 ∧ Image.s1.hears Image.q1 ∧ qType Image.q1 = 36 ∧ Image.s1.portUp 70 = true ∧ qSrc Image.q1 = (Image.s1.portAt
      70).peerEid ∧ qTag Image.q1 = 0 ∧ qAddr Image.q1 = 0 ∧ qSeq Image.q1 = 0 ∧ qSync Image.q1 = false ∧ qRetry Image.q1 = false ∧
      qLen Image.q1 = Image.q1.payload.length ∧ Image.q1.payload.length % 8 = 0 ∧ chunkOk (wordsOf (Image.q1.payload.length / 8)
      Image.q1.payload) = true ∧ (Image.s1.sectDone (chunkImage (wordsOf (Image.q1.payload.length / 8) Image.q1.payload)) (chunkSec
      (wordsOf (Image.q1.payload.length / 8) Image.q1.payload)) = false ∧ chunkOffset (wordsOf (Image.q1.payload.length / 8)
      Image.q1.payload) + chunkBytes (wordsOf (Image.q1.payload.length / 8) Image.q1.payload) ≤ 8 * chunkWords (wordsOf
      (Image.q1.payload.length / 8) Image.q1.payload) ∧ (Image.s1.asmOf (chunkImage (wordsOf (Image.q1.payload.length / 8)
      Image.q1.payload)) (chunkSec (wordsOf (Image.q1.payload.length / 8) Image.q1.payload)) = none → Image.s1.tooMuch (chunkImage
      (wordsOf (Image.q1.payload.length / 8) Image.q1.payload)) (chunkWords (wordsOf (Image.q1.payload.length / 8) Image.q1.payload))
      = false) ∧ ∀ (a : Asm), Image.s1.asmOf (chunkImage (wordsOf (Image.q1.payload.length / 8) Image.q1.payload)) (chunkSec (wordsOf
      (Image.q1.payload.length / 8) Image.q1.payload)) = some a → a.words = chunkWords (wordsOf (Image.q1.payload.length / 8)
      Image.q1.payload) ∧ a.kept = true ∧ ∀ i < chunkBytes (wordsOf (Image.q1.payload.length / 8) Image.q1.payload) / 8, a.data.find
      (chunkOffset (wordsOf (Image.q1.payload.length / 8) Image.q1.payload) / 8 + i) = none) ∧ 62 ≤ 70 ∧ (∀ e ∈ Image.s1.topo.pend,
      e.2.missed = true ∨ BitVec.toNat Image.s1.time.counter < BitVec.toNat e.2.due) ∧ List.length (List.foldl (fun t e => Tab.put t
      (chunkOffset (wordsOf (Image.q1.payload.length / 8) Image.q1.payload) / 8 + e.2) e.1) ((Option.map Asm.data (Image.s1.asmOf
      (chunkImage (wordsOf (Image.q1.payload.length / 8) Image.q1.payload)) (chunkSec (wordsOf (Image.q1.payload.length / 8)
      Image.q1.payload)))).getD []) (List.drop 2 (wordsOf (Image.q1.payload.length / 8) Image.q1.payload)).zipIdx) = chunkWords
      (wordsOf (Image.q1.payload.length / 8) Image.q1.payload))
    ∧ (Image.s1.asmOf 7 2 = some Image.a0' ∧ Image.a0'.lastAt + 2000000000 ≤ Image.s1.clk ∧ 2 < 2 ^ 16)
    ∧ (70 < 93 ∧ Image.s2.hears Image.q5 ∧ qType Image.q5 = 36 ∧ Image.s2.portUp 70 = true ∧ qSrc Image.q5 = (Image.s2.portAt
      70).peerEid ∧ qTag Image.q5 = 0 ∧ qAddr Image.q5 = 0 ∧ qSeq Image.q5 = 0 ∧ qSync Image.q5 = false ∧ qRetry Image.q5 = false ∧
      qLen Image.q5 = Image.q5.payload.length ∧ Image.q5.payload.length % 8 = 0 ∧ chunkOk (wordsOf (Image.q5.payload.length / 8)
      Image.q5.payload) = true ∧ Image.s2.sectDone (chunkImage (wordsOf (Image.q5.payload.length / 8) Image.q5.payload)) (chunkSec
      (wordsOf (Image.q5.payload.length / 8) Image.q5.payload)) = true)
    ∧ (70 < 93 ∧ Image.s5.hears Image.q0 ∧ qType Image.q0 = 36 ∧ Image.s5.portUp 70 = true ∧ qSrc Image.q0 = (Image.s5.portAt
      70).peerEid ∧ qTag Image.q0 = 0 ∧ qAddr Image.q0 = 0 ∧ qSeq Image.q0 = 0 ∧ qSync Image.q0 = false ∧ qRetry Image.q0 = false ∧
      qLen Image.q0 = Image.q0.payload.length ∧ Image.q0.payload.length % 8 = 0 ∧ chunkOk (wordsOf (Image.q0.payload.length / 8)
      Image.q0.payload) = true ∧ Image.s5.sectDone (chunkImage (wordsOf (Image.q0.payload.length / 8) Image.q0.payload)) (chunkSec
      (wordsOf (Image.q0.payload.length / 8) Image.q0.payload)) = false ∧ chunkOffset (wordsOf (Image.q0.payload.length / 8)
      Image.q0.payload) + chunkBytes (wordsOf (Image.q0.payload.length / 8) Image.q0.payload) ≤ 8 * chunkWords (wordsOf
      (Image.q0.payload.length / 8) Image.q0.payload) ∧ Image.s5.asmOf (chunkImage (wordsOf (Image.q0.payload.length / 8)
      Image.q0.payload)) (chunkSec (wordsOf (Image.q0.payload.length / 8) Image.q0.payload)) = none ∧ Image.s5.tooMuch (chunkImage
      (wordsOf (Image.q0.payload.length / 8) Image.q0.payload)) (chunkWords (wordsOf (Image.q0.payload.length / 8) Image.q0.payload))
      = true ∧ 62 ≤ 70 ∧ chunkBytes (wordsOf (Image.q0.payload.length / 8) Image.q0.payload) / 8 < chunkWords (wordsOf
      (Image.q0.payload.length / 8) Image.q0.payload)) :=
  ⟨by decide +kernel,
   by decide +kernel,
   ⟨accepts_of_session (x := Sessions.sn) (by decide +kernel) (tagged_fits ..), by decide +kernel⟩,
   ⟨accepts_of_session (x := Sessions.sn) (by decide +kernel) (tagged_fits ..), by decide +kernel⟩,
   by decide +kernel,
   by decide +kernel,
   by decide +kernel,
   by decide +kernel⟩

theorem witness_PendingSectionsTakeEffect :
    (Image.p0.topo.pend.find 1 = some Image.xp ∧ Image.xp.type = 1 ∧ Image.p0.dom.mgmt = true ∧ (Image.p0.topo.pend = [(1, Image.xp)]
      ∧ 1 ≤ 1 ∧ 1 ≤ 10 ∧ Image.xp.missed = false ∧ BitVec.toNat Image.xp.due ≤ BitVec.toNat Image.p0.time.counter) ∧
      ((Image.p0.time.st = .locked ∨ Image.p0.time.st = .holdover) ∧ BitVec.toNat Image.p0.time.counter < BitVec.toNat Image.xp.due +
      128 ∨ Image.xp.now = true) ∧ 1 ≠ 10 ∧ Image.p0.baseOk Image.xp = true ∧ Image.p0.contentCause Image.xp = none)
    ∧ (Image.p0.topo.pend.find 1 = some Image.xp ∧ Image.xp.type = 1 ∧ (Image.xp.missed = false ∧ BitVec.toNat Image.xp.due ≤
      BitVec.toNat Image.p0.time.counter ∧ (Image.xp.now = true ∨ (Image.p0.time.st = .locked ∨ Image.p0.time.st = .holdover) ∧
      BitVec.toNat Image.p0.time.counter < BitVec.toNat Image.xp.due + 128)))
    ∧ (Image.p1.topo.pend.find 1 = some Image.xp ∧ Image.xp.type = 1 ∧ Image.p1.dom.mgmt = true ∧ (Image.p1.topo.pend = [(1, Image.xp)]
      ∧ 1 ≤ 1 ∧ 1 ≤ 10 ∧ Image.xp.missed = false ∧ BitVec.toNat Image.xp.due ≤ BitVec.toNat Image.p1.time.counter) ∧
      (¬((Image.p1.time.st = .locked ∨ Image.p1.time.st = .holdover) ∧ BitVec.toNat Image.p1.time.counter < BitVec.toNat Image.xp.due
      + 128)) ∧ Image.xp.now = false)
    ∧ (Image.p1.topo.pend.find 1 = some Image.xp ∧ Image.xp.type = 1 ∧ (¬(Image.xp.missed = false ∧ BitVec.toNat Image.xp.due ≤
      BitVec.toNat Image.p1.time.counter ∧ (Image.xp.now = true ∨ (Image.p1.time.st = .locked ∨ Image.p1.time.st = .holdover) ∧
      BitVec.toNat Image.p1.time.counter < BitVec.toNat Image.xp.due + 128))))
    ∧ (Image.p5.topo.pend.find 1 = some Image.xp ∧ Image.xp.type = 1 ∧ Image.p5.self.nvmOk = true ∧ Image.p5.topo.storeDirty = true)
    ∧ (Image.p3.topo.pend.find 1 = some Image.xb ∧ Image.xb.type = 1 ∧ Image.p3.dom.mgmt = true ∧ (Image.p3.topo.pend = [(1, Image.xb)]
      ∧ 1 ≤ 1 ∧ 1 ≤ 10 ∧ Image.xb.missed = false ∧ BitVec.toNat Image.xb.due ≤ BitVec.toNat Image.p3.time.counter) ∧
      ((Image.p3.time.st = .locked ∨ Image.p3.time.st = .holdover) ∧ BitVec.toNat Image.p3.time.counter < BitVec.toNat Image.xb.due +
      128 ∨ Image.xb.now = true) ∧ Image.xb.gen < 2 ^ 32 ∧ Image.xb.sec < 2 ^ 16 ∧ (Image.p3.baseOk Image.xb = false ∧ Image.y6 =
      Rej.base ∨ Image.p3.baseOk Image.xb = true ∧ Image.p3.contentCause Image.xb = some Image.y6)) :=
  by and_intros <;> decide +kernel

theorem witness_UafadaRequestsAreAnswered_1 :
    (Sessions.b0.accepts 0 Sessions.m1 ∧ uType Sessions.m1 = 6 ∧ Sessions.m1.body.length = 1 ∧ fld (uBody Sessions.m1 0) 63 32 = 0)
    ∧ (4 < 16 ∧ Sessions.b0.ep.teardown.find 4 = some (3, Sessions.d1) ∧ BitVec.toNat Sessions.d1 ≤ BitVec.toNat
      Sessions.b0.time.counter)
    ∧ (Sessions.b0.accepts 0 Sessions.pingM ∧ uType Sessions.pingM = 1 ∧ Sessions.pingM.body = [])
    ∧ (Sessions.b0.accepts 0 Sessions.r1 ∧ uType Sessions.r1 = 2 ∧ Sessions.r1.body.length = 1 ∧ fld (uBody Sessions.r1 0) 55 26 = 0 ∧
      fld (uBody Sessions.r1 0) 63 56 < 64 ∧ fld (uBody Sessions.r1 0) 25 0 % 8 = 0 ∧ fld (uBody Sessions.r1 0) 25 0 + 8 * (fld (uBody
      Sessions.r1 0) 63 56 + 1) ≤ 67108864 ∧ (List.map (fun i => fld (uBody Sessions.r1 0) 25 0 + 8 * i) (List.range (fld (uBody
      Sessions.r1 0) 63 56 + 1))).any (Sessions.b0.counted 0 Sessions.r1).notReady = false)
    ∧ (Sessions.b1.accepts 0 Sessions.r2 ∧ uType Sessions.r2 = 2 ∧ Sessions.r2.body.length = 1 ∧ fld (uBody Sessions.r2 0) 55 26 = 0 ∧
      fld (uBody Sessions.r2 0) 63 56 < 64 ∧ fld (uBody Sessions.r2 0) 25 0 % 8 = 0 ∧ fld (uBody Sessions.r2 0) 25 0 + 8 * (fld (uBody
      Sessions.r2 0) 63 56 + 1) ≤ 67108864 ∧ (List.map (fun i => fld (uBody Sessions.r2 0) 25 0 + 8 * i) (List.range (fld (uBody
      Sessions.r2 0) 63 56 + 1))).any (Sessions.b1.counted 0 Sessions.r2).notReady = true)
    ∧ (Sessions.b0.accepts 0 Sessions.w1 ∧ uType Sessions.w1 = 3 ∧ Sessions.w1.body.length % 2 = 0 ∧ 0 < Sessions.w1.body.length ∧
      Sessions.w1.body.length ≤ 128 ∧ ((uPairs Sessions.w1).all fun e => addrOk e.1) = true ∧ ((uPairs Sessions.w1).any fun e =>
      (Sessions.b0.counted 0 Sessions.w1).notReady e.1) = false)
    ∧ (0 < 2 ∧ Sessions.bz.ethOn 0 = true ∧ Sessions.bz.frameFits 0 Sessions.w1 = true ∧ Sessions.bz.svc.switching = none ∧
      Sessions.bz.gate Sessions.w1 = Gate.pass ∧ Sessions.bz.keptReply 0 Sessions.w1 = none ∧ Option.all (fun x => x.admits (uReqId
      Sessions.w1)) (Sessions.bz.session (uSession Sessions.w1)) = true ∧ 64 ≤ Sessions.bz.waitingOn 0 ∧ uType Sessions.w1 = 3)
    ∧ (0 < 2 ∧ Sessions.b6.ethOn 0 = true ∧ Sessions.b6.frameFits 0 Sessions.w1 = true ∧ Sessions.b6.svc.switching.isSome = true ∧
      Sessions.b6.gate Sessions.w1 = Gate.pass ∧ uType Sessions.w1 = 3) :=
  ⟨⟨accepts_of_session (x := Sessions.sn) (by decide +kernel) (tagged_fits ..), by decide +kernel⟩,
   by decide +kernel,
   by decide +kernel,
   ⟨accepts_of_session (x := Sessions.sn) (by decide +kernel) (tagged_fits ..), by decide +kernel⟩,
   ⟨accepts_of_session (x := Sessions.sn) (by decide +kernel) (tagged_fits ..), by decide +kernel⟩,
   ⟨accepts_of_session (x := Sessions.sn) (by decide +kernel) (tagged_fits ..), by decide +kernel⟩,
   ⟨by decide +kernel, by decide +kernel, by decide +kernel, by decide +kernel, gate_of_session (x := Sessions.sn) (by decide +kernel) (tagged_fits ..), by decide +kernel, by decide +kernel, by decide +kernel, by decide +kernel⟩,
   ⟨by decide +kernel, by decide +kernel, by decide +kernel, by decide +kernel, gate_of_session (x := Sessions.sn) (by decide +kernel) (tagged_fits ..), by decide +kernel⟩⟩

theorem witness_UafadaRequestsAreAnswered_2 :
    (Sessions.b1.accepts 0 Sessions.w2 ∧ uType Sessions.w2 = 3 ∧ Sessions.w2.body.length % 2 = 0 ∧ 0 < Sessions.w2.body.length ∧
      Sessions.w2.body.length ≤ 128 ∧ ((uPairs Sessions.w2).all fun e => addrOk e.1) = true ∧ ((uPairs Sessions.w2).any fun e =>
      (Sessions.b1.counted 0 Sessions.w2).notReady e.1) = true)
    ∧ (0 < 2 ∧ Sessions.b2.ethOn 0 = true ∧ Sessions.b2.frameFits 0 Sessions.w3 = true ∧ Sessions.b2.svc.switching = none ∧
      Sessions.b2.gate Sessions.w3 = Gate.pass ∧ Sessions.b2.keptReply 0 Sessions.w3 = some Sessions.m1 ∧ uType Sessions.w3 = 3)
    ∧ (0 < 2 ∧ Sessions.b0.ethOn 0 = true ∧ Sessions.b0.frameFits 0 Sessions.w4 = true ∧ Sessions.b0.svc.switching = none ∧
      Sessions.b0.gate Sessions.w4 = Gate.pass ∧ Sessions.b0.keptReply 0 Sessions.w4 = none ∧ uSession Sessions.w4 = 0 ∧
      Sessions.b0.session 0 = none ∧ Sessions.b0.sec.recovery = false ∧ Sessions.b0.waitingOn 0 < 64 ∧ uType Sessions.w4 = 3)
    ∧ (0 < 2 ∧ Sessions.b0.ethOn 0 = true ∧ Sessions.b0.frameFits 0 Sessions.w5 = true ∧ Sessions.b0.gate Sessions.w5 = Gate.authFail ∧
      uType Sessions.w5 = 3)
    ∧ (Sessions.b0.accepts 0 Sessions.t1 ∧ uType Sessions.t1 = 5 ∧ Sessions.t1.body.length = 2 ∧ fld (uBody Sessions.t1 0) 47 0 = 0 ∧
      fld (uBody Sessions.t1 0) 63 52 ≠ 0 ∧ Sessions.b0.partTag (fld (uBody Sessions.t1 0) 51 48) = fld (uBody Sessions.t1 0) 63 52 ∧
      BitVec.toNat Sessions.b0.time.counter ≤ BitVec.toNat (uBody Sessions.t1 1))
    ∧ (Sessions.b0.accepts 0 Sessions.t2 ∧ uType Sessions.t2 = 5 ∧ Sessions.t2.body.length = 2 ∧ fld (uBody Sessions.t2 0) 47 0 = 0 ∧
      fld (uBody Sessions.t2 0) 63 52 ≠ 0 ∧ Sessions.b0.partTag (fld (uBody Sessions.t2 0) 51 48) = fld (uBody Sessions.t2 0) 63 52 ∧
      BitVec.toNat (uBody Sessions.t2 1) < BitVec.toNat Sessions.b0.time.counter)
    ∧ (Sessions.b0.accepts 0 Sessions.t3 ∧ uType Sessions.t3 = 5 ∧ Sessions.t3.body.length = 2 ∧ fld (uBody Sessions.t3 0) 47 0 = 0 ∧
      Sessions.b0.partTag (fld (uBody Sessions.t3 0) 51 48) ≠ fld (uBody Sessions.t3 0) 63 52)
    ∧ (0 < 2 ∧ Sessions.b0.ethOn 0 = true ∧ Sessions.b0.gate Sessions.u1 = Gate.pass ∧ (uType Sessions.u1 = 0 ∨ 7 < uType Sessions.u1 ∨
      uType Sessions.u1 = 7 ∧ 2 < uOp Sessions.u1)) :=
  ⟨⟨accepts_of_session (x := Sessions.sn) (by decide +kernel) (tagged_fits ..), by decide +kernel⟩,
   ⟨by decide +kernel, by decide +kernel, by decide +kernel, by decide +kernel, gate_of_session (x := Sessions.sn) (by decide +kernel) (tagged_fits ..), rfl, by decide +kernel⟩,
   by decide +kernel,
   by decide +kernel,
   ⟨accepts_of_session (x := Sessions.sn) (by decide +kernel) (tagged_fits ..), by decide +kernel⟩,
   ⟨accepts_of_session (x := Sessions.sn) (by decide +kernel) (tagged_fits ..), by decide +kernel⟩,
   ⟨accepts_of_session (x := Sessions.sn) (by decide +kernel) (tagged_fits ..), by decide +kernel⟩,
   by decide +kernel⟩

theorem witness_SessionsOpenAndClose :
    (0 < 2)
    ∧ (Sessions.b0.accepts 0 Sessions.q2 ∧ uType Sessions.q2 = 7 ∧ uOp Sessions.q2 = 0 ∧ Sessions.q2.body.length = 5 ∧ fld (uBody
      Sessions.q2 0) 55 0 = 0)
    ∧ (Sessions.b0.accepts 0 Sessions.o1 ∧ uType Sessions.o1 = 7 ∧ uOp Sessions.o1 = 1 ∧ Sessions.b0.sec.recovery = false ∧
      Sessions.o1.body.length = 828 ∧ fld (uBody Sessions.o1 0) 39 0 = 0 ∧ fld (uBody Sessions.o1 405) 47 0 = 0 ∧
      Sessions.b0.sec.sessions.length < 16)
    ∧ (Sessions.b0.accepts 0 Sessions.c1 ∧ uType Sessions.c1 = 7 ∧ uOp Sessions.c1 = 2 ∧ Sessions.c1.body.length = 5 ∧ fld (uBody
      Sessions.c1 0) 55 16 = 0 ∧ uSession Sessions.c1 ≠ 0 ∧ fld (uBody Sessions.c1 0) 15 0 = uSession Sessions.c1)
    ∧ (Sessions.b0.accepts 0 Sessions.c2 ∧ uType Sessions.c2 = 7 ∧ uOp Sessions.c2 = 2 ∧ Sessions.c2.body.length = 5 ∧ fld (uBody
      Sessions.c2 0) 55 16 = 0 ∧ fld (uBody Sessions.c2 0) 15 0 ≠ uSession Sessions.c2) :=
  ⟨by decide +kernel,
   by decide +kernel,
   by decide +kernel,
   ⟨accepts_of_session (x := Sessions.sn) (by decide +kernel) (tagged_fits ..), by decide +kernel⟩,
   ⟨accepts_of_session (x := Sessions.sn) (by decide +kernel) (tagged_fits ..), by decide +kernel⟩⟩

theorem witness_EthernetPortsSendAndAnswer :
    (0 < 2 ∧ Roce.e0.ethOn 0 = true)
    ∧ (0 < 2 ∧ Roce.e0.dom.hub = true)
    ∧ (0 < 2 ∧ Roce.e2.svc.switching = none ∧ Roce.e2.eth.events = [Roce.ev4] ∧ Roce.ev4.sentAt = some 5 ∧ 5 + 200000000 ≤ Roce.e2.clk)
    ∧ (0 < 2 ∧ Roce.e3.dom.mgmt = true ∧ Roce.e3.mayDatagram 0 = true ∧ Roce.e3.dueEvent 0 = none ∧ Roce.e3.eth.telOut = [(0, Roce.w1)]
      ∧ Roce.e3.eventPort 0 = some 0 ∧ 3200 ≤ Roce.e3.field (A.ethPcfg 0) 13 0)
    ∧ (1 < 2 ∧ Roce.e1.dom.mgmt = true ∧ Roce.e1.mayDatagram 1 = true ∧ Roce.e1.dueEvent 1 = some (Roce.n0, 1)) :=
  by and_intros <;> decide +kernel

theorem witness_RoceConnections :
    (7 < 256 ∧ (Roce.q5.roceOn 7 = false ∨ Roce.q5.vlanFits (Roce.q5.qpAt 7).port Roce.p0.head.vlan = true ∧ Roce.p0.head.icrc =
      false))
    ∧ (7 < 256 ∧ Roce.q5.roceOn 7 = false)
    ∧ (7 < 256 ∧ (Roce.q5.qpAt 7).st = .ready ∧ (Roce.q5.qpAt 7).rateAt + 200000 ≤ Roce.q5.clk ∧ (Roce.q5.qpAt 7).rate < 100000000000)
    ∧ (7 < 256 ∧ fld Roce.v0 7 0 = 7)
    ∧ (7 < 256 ∧ (Roce.q0.roceOn 7 = true ∧ Roce.q0.vlanFits (Roce.q0.qpAt 7).port Roce.p0.head.vlan = true ∧ Roce.p0.head.icrc = true
      ∧ Roce.p0.head.ecn = false) ∧ Roce.p0.head.psn.toNat = (Roce.q0.qpAt 7).rq ∧ (Roce.q0.qpAt 7).writing = none ∧ Roce.p0.part =
      RocePart.only ∧ Roce.p0.data.length = Roce.p0.len ∧ Roce.p0.len ≤ (Roce.q0.qpAt 7).pmtu ∧ Roce.q0.roceMay (Roce.q0.qpAt 7)
      Roce.p0 = true)
    ∧ (7 < 256 ∧ (Roce.q0.roceOn 7 = true ∧ Roce.q0.vlanFits (Roce.q0.qpAt 7).port Roce.p0.head.vlan = true ∧ Roce.p0.head.icrc = true
      ∧ Roce.p0.head.ecn = false) ∧ Roce.p0.head.psn.toNat = (Roce.q0.qpAt 7).rq ∧ (Roce.q0.qpAt 7).writing = none ∧ Roce.p0.part =
      RocePart.only ∧ Roce.q0.roceMay (Roce.q0.qpAt 7) Roce.p0 = true ∧ ((Roce.q0.setQp 7
      { (Roce.q0.qpAt 7) with rq := ((Roce.q0.qpAt 7).rq + (Roce.q0.qpAt 7).packets Roce.p0.len) % 2 ^ 24 }).roceBytes (Roce.q0.qpAt
      7) Roce.p0).2.length ≤ (Roce.q0.qpAt 7).pmtu)
    ∧ (7 < 256 ∧ Roce.q0.roceOn 7 = true)
    ∧ (7 < 256 ∧ (Roce.q1.roceOn 7 = true ∧ Roce.q1.vlanFits (Roce.q1.qpAt 7).port Roce.p0.head.vlan = true ∧ Roce.p0.head.icrc = true
      ∧ Roce.p0.head.ecn = false) ∧ (Roce.q1.qpAt 7).outstanding = [Roce.out0] ∧ Roce.out0.psn < 2 ^ 24)
    ∧ (7 < 256 ∧ (Roce.q1.qpAt 7).st = .ready ∧ (Roce.q1.qpAt 7).outstanding = [Roce.out0] ∧ (Roce.q1.qpAt 7).sentAt = some 5 ∧ 5 +
      8192 * 2 ^ fld ((Roce.q1.qpAt 7).word 0) 52 48 ≤ Roce.q1.clk ∧ (Roce.q1.qpAt 7).retries < 7)
    ∧ (7 < 256 ∧ (Roce.q2.qpAt 7).st = .ready ∧ (Roce.q2.qpAt 7).outstanding = [Roce.oo] ∧ (Roce.q2.qpAt 7).sentAt = some 5 ∧ 5 + 8192
      * 2 ^ fld ((Roce.q2.qpAt 7).word 0) 52 48 ≤ Roce.q2.clk ∧ 7 ≤ (Roce.q2.qpAt 7).retries)
    ∧ (7 < 256 ∧ bit Roce.v1 0 = false ∧ Roce.q4.qpSelected = 7 ∧ (Roce.q4.qpAt 7).st = .reset)
    ∧ (7 < 256 ∧ (Roce.q7.roceOn 7 = true ∧ Roce.q7.vlanFits (Roce.q7.qpAt 7).port Roce.p0.head.vlan = true ∧ Roce.p0.head.icrc = true
      ∧ Roce.p0.head.ecn = false) ∧ Roce.p0.head.psn.toNat = (Roce.q7.qpAt 7).rq ∧ (Roce.q7.qpAt 7).writing = none ∧ (Roce.q7.qpAt
      7).writeFits Roce.p0 = true ∧ Roce.q7.roceMay (Roce.q7.qpAt 7) Roce.p0 = false)
    ∧ (7 < 256 ∧ (Roce.q7.roceOn 7 = true ∧ Roce.q7.vlanFits (Roce.q7.qpAt 7).port Roce.p0.head.vlan = true ∧ Roce.p0.head.icrc = true
      ∧ Roce.p0.head.ecn = false) ∧ Roce.p0.head.psn.toNat = (Roce.q7.qpAt 7).rq ∧ (Roce.q7.qpAt 7).writing = none ∧ Roce.p0.part =
      RocePart.only ∧ Roce.q7.roceMay (Roce.q7.qpAt 7) Roce.p0 = false)
    ∧ (7 < 256 ∧ (Roce.q0.roceOn 7 = true ∧ Roce.q0.vlanFits (Roce.q0.qpAt 7).port Roce.p2.head.vlan = true ∧ Roce.p2.head.icrc = true
      ∧ Roce.p2.head.ecn = false) ∧ (Roce.q0.qpAt 7).rq < 2 ^ 24 ∧ 0 < (Roce.p2.head.psn.toNat + 2 ^ 24 - (Roce.q0.qpAt 7).rq) % 2 ^
      24 ∧ (Roce.p2.head.psn.toNat + 2 ^ 24 - (Roce.q0.qpAt 7).rq) % 2 ^ 24 < 2 ^ 23)
    ∧ (7 < 256 ∧ (Roce.q1.roceOn 7 = true ∧ Roce.q1.vlanFits (Roce.q1.qpAt 7).port Roce.p3.head.vlan = true ∧ Roce.p3.head.icrc = true
      ∧ Roce.p3.head.ecn = false) ∧ (Roce.q1.qpAt 7).outstanding = [Roce.out0] ∧ Roce.out0.psn < 2 ^ 24 ∧ Roce.out0.read = true ∧
      Roce.out0.part ≠ RocePart.middle ∧ Roce.p3.head.psn.toNat = Roce.out0.psn ∧ Roce.p3.part = RocePart.only ∧ Roce.p3.data.length =
      Roce.out0.len ∧ Roce.out0.len ≤ (Roce.q1.qpAt 7).pmtu)
    ∧ (7 < 256 ∧ (Roce.q2.roceOn 7 = true ∧ Roce.q2.vlanFits (Roce.q2.qpAt 7).port Roce.p3.head.vlan = true ∧ Roce.p3.head.icrc = true
      ∧ Roce.p3.head.ecn = false) ∧ (Roce.q2.qpAt 7).outstanding = [Roce.oo] ∧ Roce.oo.psn < 2 ^ 24 ∧ Roce.oo.read = false ∧
      Roce.p3.head.psn.toNat = Roce.oo.psn)
    ∧ (7 < 256 ∧ (Roce.q0.roceOn 7 = true ∧ Roce.q0.vlanFits (Roce.q0.qpAt 7).port Roce.p6.head.vlan = true ∧ Roce.p6.head.icrc = true
      ∧ Roce.p6.head.ecn = false) ∧ Roce.p6.head.psn.toNat = (Roce.q0.qpAt 7).rq ∧ (Roce.q0.qpAt 7).writing = none ∧ Roce.p6.part =
      RocePart.first ∧ Roce.p6.data.length = (Roce.q0.qpAt 7).pmtu ∧ (Roce.q0.qpAt 7).pmtu < Roce.p6.len ∧ Roce.q0.roceMay
      (Roce.q0.qpAt 7) Roce.p6 = true)
    ∧ (7 < 256 ∧ (Roce.q0.roceOn 7 = true ∧ Roce.q0.vlanFits (Roce.q0.qpAt 7).port Roce.p7.head.vlan = true ∧ Roce.p7.head.icrc = true
      ∧ Roce.p7.head.ecn = false) ∧ Roce.p7.head.psn.toNat = (Roce.q0.qpAt 7).rq ∧ (Roce.q0.qpAt 7).writeFits Roce.p7 = false) :=
  by and_intros <;> decide +kernel

theorem witness_ReadingsCeilingsAndTrips :
    (0 < 4 ∧ Thermal.s0.dom.mgmt = true ∧ Thermal.r0.temps = [])
    ∧ (0 < 4 ∧ Thermal.s0.coreDom 0 = true ∧ (∀ (z : ℕ), (Thermal.s0.opAt 0).steppedAt = some z → z + 1000 ≤ Thermal.s0.clk))
    ∧ (0 < 4 ∧ (Thermal.s2.peakLimit < Thermal.s2.self.samples.headD 0 ∨ Thermal.s2.self.falling = true) ∧ 0 <
      Thermal.s2.self.powerCeil ∧ (∀ (z : ℕ), Thermal.s2.self.ceilFellAt = some z → z + 1000 ≤ Thermal.s2.clk))
    ∧ (0 < 4 ∧ Thermal.s3.self.samples.headD 0 ≤ Thermal.s3.peakLimit ∧ Thermal.s3.self.falling = false ∧ Thermal.s3.self.underSince =
      some 5 ∧ 5 + 2000000 ≤ Thermal.s3.clk ∧ Thermal.s3.self.powerCeil < 48 ∧ (∀ (z : ℕ), Thermal.s3.self.ceilRoseAt = some z → z +
      200000 ≤ Thermal.s3.clk))
    ∧ (0 < 4 ∧ Thermal.s4.since Thermal.s4.self.fuseSince 200000000 = true)
    ∧ (0 < 4 ∧ Thermal.s4.since Thermal.s4.self.nvmSince 200000000 = true)
    ∧ (1 < 4 ∧ (Thermal.s1.opAt 1).allowedSince ((Thermal.s1.opAt 1).ceilTherm + 1) = some 5 ∧ 5 + 2000000 ≤ Thermal.s1.clk ∧ (∀ (z :
      ℕ), (Thermal.s1.opAt 1).roseAt = some z → z + 200000 ≤ Thermal.s1.clk))
    ∧ (1 < 4 ∧ 2 < 8 ∧ (Thermal.s5.stackAt 1 2).limit = 2 ∧ Thermal.s5.since (Thermal.s5.stackAt 1 2).limitCool 2000000 = true)
    ∧ (1 < 4 ∧ 3 < 8 ∧ (Thermal.s5.stackAt 1 3).limit = 1 ∧ Thermal.s5.since (Thermal.s5.stackAt 1 3).cool95 2000000 = true)
    ∧ (0 < 4 ∧ Thermal.s0.dom.mgmt = true ∧ 5 < 482 ∧ Thermal.r1.temps = [(5, some Thermal.t4')] ∧ -160 ≤ Thermal.t4' ∧ Thermal.t4' ≤
      600)
    ∧ (0 < 4 ∧ Thermal.s0.dom.mgmt = true ∧ 300 < 482 ∧ Thermal.r2.temps = [(300, Thermal.o1)] ∧ (∀ (v : ℤ), Thermal.o1 = some v → v <
      -160 ∨ 600 < v))
    ∧ (Thermal.s0.restartOk = false)
    ∧ (464 ≤ 470 ∧ 470 < 480 ∧ (Thermal.s2.sensorAt 470).valid = true ∧ 460 ≤ (Thermal.s2.sensorAt 470).temp ∧ Thermal.s2.self.tripped
      = false)
    ∧ (Thermal.s4.restartOk = true ∧ Thermal.s4.bound 12 = 1 ∧ Thermal.s4.trips24 < Thermal.s4.bound 13)
    ∧ (Thermal.s4.dom.mgmt = true ∧ BitVec.toNat Thermal.s4.time.counter % (Thermal.s4.bound 14 * 2000000) = 0 ∧
      Thermal.s4.self.periodAt ≠ some Thermal.s4.time.counter) :=
  by and_intros <;> decide +kernel

theorem witness_ProbesCheckPositions :
    (3 < 2560 ∧ 3 < 17 ∧ Checks.s0.dom.mgmt = true)
    ∧ (3 < 2560 ∧ 3 < 17 ∧ Checks.s1.coreDom (dieOf 3) = true ∧ (Checks.s1.enabledPos 3).head? = some 3 ∧ (BitVec.toNat
      Checks.s1.time.counter % (Checks.s1.bound 11 * 2000000) + Checks.s1.bound 11 * 2000000 - 3 * (Checks.s1.bound 11 * 2000000) /
      2560) % (Checks.s1.bound 11 * 2000000) < 3)
    ∧ (3 < 2560 ∧ 4 < 17 ∧ (Checks.s3.posAt 3 4).asks = (5, false) :: Checks.al0 ∧ 5 + 2000000 ≤ Checks.s3.clk)
    ∧ (3 < 2560 ∧ 4 < 17 ∧ (Checks.s3.posAt 3 4).asks = (5, false) :: Checks.al0 ∧ Checks.s3.coreDom (dieOf 3) = true ∧
      (Checks.s3.posAt 3 4).held = [] ∧ (Checks.s3.posAt 3 4).run = none)
    ∧ (3 < 2560 ∧ 4 < 17 ∧ (Checks.s5.posAt 3 4).run = some (false, 0))
    ∧ (3 < 2560 ∧ 4 < 17 ∧ (Checks.sk.posAt 3 4).run = some (true, 39 + 1)) :=
  by and_intros <;> decide +kernel

theorem witness_FusesAndTheCairnLog :
    (Checks.f0.sec.jobs = Checks.j0 :: Checks.l0 ∧ Checks.f0.dom.mgmt = true ∧ Checks.f0.self.fuseOk = true)
    ∧ (Checks.g0.cairn.buf = Checks.k0 :: Checks.kl1 ∧ Checks.g0.dom.mgmt = true ∧ Checks.g0.self.nvmOk = true)
    ∧ (Checks.g2.cairn.clearing = (Checks.v0, 65540, 65536) :: Checks.bl1 ∧ Checks.g2.dom.mgmt = true ∧ Checks.g2.self.nvmOk = true ∧
      Checks.g2.nextToClear Checks.v0 65540 65536 = some 65536)
    ∧ (Checks.g3.cairn.clearing = (Checks.v0, 65540, 65537) :: Checks.bl0 ∧ Checks.g3.dom.mgmt = true ∧ Checks.g3.self.nvmOk = true ∧
      Checks.g3.nextToClear Checks.v0 65540 65537 = none) :=
  by and_intros <;> decide +kernel

theorem witness_PowerComesAndGoes :
    ((Service.s0.dom.hub = true ∨ Service.s0.svc.presOpen = true ∨ Service.s0.svc.mated = false ∨ ¬(Service.s0.svc.ramping = true ∨
      Service.s0.svc.restored = true ∨ Service.s0.svc.powerGood = true ∧ Service.s0.svc.powerDown = false) ∨
      Service.s0.svc.lossAt.isSome = true))
    ∧ (Service.s0.dom.mgmt = true ∧ Service.s0.svc.lossAt = none)
    ∧ ((Service.s0.dom.mgmt = false ∨ Service.s0.svc.lossAt = none))
    ∧ ((Service.s0.svc.lossAt = none ∨ Service.s0.dom.mgmt = false ∨ Service.s0.svc.lossAt = some 5 ∧ Service.s0.clk < 5 + 80000000))
    ∧ (Service.s0.dom.hub = true ∧ Service.s0.svc.stage ≠ .bivouac ∧ Service.s0.svc.bivAt = none)
    ∧ ((Service.s0.svc.stage ≠ .bivouac ∨ Service.s0.svc.commanded = false ∨ Service.s0.self.tripped = true))
    ∧ (0 < 4 ∧ (Service.s0.removeRefused 0 = true ∨ (Service.s0.cassAt 0).present = false))
    ∧ (0 < 4 ∧ (∀ e ∈ Service.r0.badPos, dieOf e.1 = 0) ∧ (∀ n ∈ Service.r0.badCores, dieOf n = 0) ∧ (Service.s0.coreDom 0 = false ∨
      Service.s0.svc.stage ≠ .dies))
    ∧ (Service.s1.dom.hub = false ∧ Service.s1.svc.presOpen = false ∧ Service.s1.svc.mated = true ∧ (Service.s1.svc.ramping = true ∨
      Service.s1.svc.restored = true ∨ Service.s1.svc.powerGood = true ∧ Service.s1.svc.powerDown = false) ∧ Service.s1.svc.lossAt =
      none)
    ∧ ((Service.s1.dom.mgmt = false ∨ Service.s1.svc.lossAt.isSome = true))
    ∧ (Service.s1.dom.mgmt = false)
    ∧ ((Service.s1.dom.hub = false ∨ Service.s1.svc.stage = .bivouac ∨ Service.s1.svc.bivAt.isSome = true))
    ∧ (Service.s2.dom.mgmt = true ∧ Service.s2.svc.lossAt.isSome = true)
    ∧ (Service.s2.svc.lossAt = some 5 ∧ Service.s2.dom.mgmt = true ∧ 5 + 80000000 ≤ Service.s2.clk)
    ∧ (Service.s3.svc.stage = .bivouac ∧ Service.s3.svc.commanded = true ∧ Service.s3.self.tripped = false ∧ Service.s3.svc.memOff =
      false)
    ∧ (Service.s4.svc.stage = .bivouac ∧ Service.s4.svc.commanded = true ∧ Service.s4.self.tripped = false ∧ Service.s4.svc.memOff =
      true)
    ∧ (0 < 4 ∧ (∀ e ∈ Service.r0.badPos, dieOf e.1 = 0) ∧ (∀ n ∈ Service.r0.badCores, dieOf n = 0) ∧ Service.s5.coreDom 0 = true ∧
      Service.s5.svc.stage = .dies ∧ Service.r0.badPos = [] ∧ Service.r0.badCores = [] ∧ Service.r0.pathOk = true ∧ (List.filter (fun
      e => dieOf e.1 == 0 && Decidable.decide (e.2.st = .fenced)) Service.s5.core).length ≤ 64)
    ∧ (0 < 4 ∧ (∀ e ∈ Service.r1.badPos, dieOf e.1 = 0) ∧ (∀ n ∈ Service.r1.badCores, dieOf n = 0) ∧ Service.s5.coreDom 0 = true ∧
      Service.s5.svc.stage = .dies ∧ Service.r1.pathOk = false)
    ∧ (0 < 4 ∧ (∀ e ∈ Service.r2.badPos, dieOf e.1 = 0) ∧ (∀ n ∈ Service.r2.badCores, dieOf n = 0) ∧ Service.s5.coreDom 0 = true ∧
      Service.s5.svc.stage = .dies ∧ (Service.r2.badPos ≠ [] ∨ Service.r2.badCores ≠ []))
    ∧ (0 < 4 ∧ Service.s7.removeRefused 0 = false ∧ (Service.s7.cassAt 0).present = true)
    ∧ (Service.sb.pending = [] ∧ Service.sb.dom.hub = true ∧ Service.sb.svc.stage ≠ .bivouac ∧ Service.sb.svc.hubStartAt = none ∧
      Service.sb.time.slewing = false ∧ Service.sb.time.rate = 0 ∧ Service.sb.time.frac = 0 ∧ Service.sb.svc.bivAt = some (true,
      Service.vv) ∧ BitVec.toNat Service.vv ≤ BitVec.toNat Service.sb.time.counter + 1 ∧ BitVec.toNat Service.sb.time.counter + 1 < 2
      ^ 64)
    ∧ (0 < 4 ∧ (∀ e ∈ Service.r3.badPos, dieOf e.1 = 0) ∧ (∀ n ∈ Service.r3.badCores, dieOf n = 0) ∧ Service.sd.coreDom 0 = true ∧
      Service.sd.svc.stage = .dies ∧ Service.r3.badPos = [] ∧ Service.r3.badCores = [3] ∧ Service.r3.pathOk = true ∧ (List.filter (fun
      e => dieOf e.1 == 0 && Decidable.decide (e.2.st = .fenced)) Service.sd.core).length < 64 ∧ 3 < 2560 ∧ 0 < Service.sd.fuse.arrays
      3 ∧ (Service.sd.coreAt 3).st = .reset ∧ Service.sd.trimmed 3 = true) :=
  by and_intros <;> decide +kernel

theorem witness_FirmwareIsStagedAndSwitched :
    (Service.f0.svc.switchPending = false ∧ Service.f0.svc.erasing = false)
    ∧ ((Service.f0.svc.staged ≠ 2 ∨ BitVec.toNat (Service.f0.reg A.fwCt) % 128 ≠ 0 ∨ BitVec.toNat (Service.f0.reg A.fwCt) <
      BitVec.toNat Service.f0.time.counter + 4000000))
    ∧ (Service.f1.svc.erasing = true)
    ∧ (Service.f2.svc.staged = 2 ∧ BitVec.toNat (Service.f2.reg A.fwCt) % 128 = 0 ∧ BitVec.toNat Service.f2.time.counter + 4000000 ≤
      BitVec.toNat (Service.f2.reg A.fwCt) ∧ (∀ e ∈ Service.f2.topo.pend, BitVec.toNat e.2.due < BitVec.toNat (Service.f2.reg A.fwCt)
      ∨ BitVec.toNat (Service.f2.reg A.fwCt) + 1000000000 ≤ BitVec.toNat e.2.due))
    ∧ (Service.f3.svc.switchPending = true ∧ BitVec.toNat (Service.f3.reg A.fwCt) ≤ BitVec.toNat Service.f3.time.counter ∧
      Service.f3.topo.pend = [] ∧ (Service.f3.time.st = .locked ∨ Service.f3.time.st = .holdover))
    ∧ (Service.f4.svc.switchPending = true ∧ BitVec.toNat (Service.f4.reg A.fwCt) ≤ BitVec.toNat Service.f4.time.counter ∧
      Service.f4.topo.pend = [] ∧ Service.f4.time.st ≠ .locked ∧ Service.f4.time.st ≠ .holdover)
    ∧ (Service.f5.svc.switching.isSome = true) :=
  by and_intros <;> decide +kernel

theorem witness_CommandRegistersGiveTheirCommands :
    (Registers.s0.dom.hub = true ∧ Registers.s0.dom.mgmt = true ∧ 0 < 93 ∧ Registers.s0.writesTo A.hubCtrl = [])
    ∧ (Registers.s0.dom.hub = true ∧ Registers.s0.dom.mgmt = true ∧ Registers.s0.writesTo A.lcmd = [])
    ∧ (Registers.s0.dom.hub = true ∧ Registers.s0.dom.mgmt = true ∧ 0 < 16 ∧ Registers.s0.writesTo A.topoCmd = [])
    ∧ (Registers.s0.dom.hub = true ∧ Registers.s0.dom.mgmt = true ∧ 0 < 256 ∧ Registers.s0.writesTo A.qpsel = [])
    ∧ (Registers.s0.dom.hub = true ∧ Registers.s0.dom.mgmt = true ∧ Registers.s0.writesTo A.qpcmd = [])
    ∧ (Registers.s0.dom.hub = true ∧ Registers.s0.dom.mgmt = true ∧ Registers.s0.writesTo A.thermCtrl = [])
    ∧ (Registers.s0.dom.hub = true ∧ Registers.s0.dom.mgmt = true ∧ 0 < 2560 ∧ Registers.s0.writesTo A.selfCtrl = [])
    ∧ (Registers.s0.dom.hub = true ∧ Registers.s0.dom.mgmt = true ∧ Registers.s0.writesTo A.secSess = [])
    ∧ (Registers.s0.dom.hub = true ∧ Registers.s0.dom.mgmt = true ∧ 0 < 4 ∧ Registers.s0.writesTo A.svcCtrl = [])
    ∧ (Registers.s0.dom.hub = true ∧ Registers.s0.dom.mgmt = true ∧ 0 < 2 ^ 64 ∧ Registers.s0.writesTo A.fwData = [])
    ∧ (Registers.s0.dom.hub = true ∧ Registers.s0.dom.mgmt = true ∧ Registers.s0.writesTo A.fwCmd = []) :=
  by and_intros <;> decide +kernel

theorem witness_SpoofedFramesAreDiscarded :
    (3 < 93 ∧ 0 < fullLanes 3 ∧ Rules.s0.portUp 3 = true ∧ (Rules.s0.portAt 3).rxLanes.getLsbD 0 = true ∧ Rules.f1.errs.any cwBad =
      false ∧ fIntact Rules.f1 = true ∧ fValid Rules.f1 = true ∧ fType Rules.f1 = 1 ∧ fSeq Rules.f1 = (Rules.s0.portAt 3).rxSeq ∧
      (Rules.s0.portAt 3).held = [] ∧ (Rules.s0.portAt 3).belay = [] ∧ qIntact Rules.f1.q = true ∧ qValid Rules.f1.q = true ∧
      Rules.s0.externalAt 3 = some 32768 ∧ qSrc Rules.f1.q ≠ 32768) :=
  by decide +kernel

theorem witness_DieLocalOffsetsSpreadOverChannels :
    (0 < 4 ∧ bit (Rules.d0.reg (A.memMap 0)) (BitVec.extractLsb' 34 4 Rules.a0').toNat = false) :=
  by decide +kernel

end Sys2Proof.Tests
end

section
/-! PROOF. Writes of CORE.CTRL in the order of R450: what each of the three commands of CORE.CTRL is as a write of the register, what
a write does by its bits, and that a repeated release and a RUN after a FENCE change nothing. -/
namespace Sys2Proof.Machine
open Sys2Proof

/-- A second write under the same key replaces the first, whether or not the table is in its canonical form. -/
@[simp] theorem Tab.put_put_self {α : Type} (t : Tab α) (i : Nat) (x y : α) : Tab.put (Tab.put t i x) i y = Tab.put t i y := by
  induction t with
  | nil => simp [Tab.put]
  | cons e t ih =>
    obtain ⟨k, v⟩ := e
    by_cases hk : k = i
    · simp [Tab.put, hk]
    · by_cases hi : i < k
      · simp [Tab.put, hk, hi]
      · simp [Tab.put, hk, hi, ih]

@[simp] theorem State.setReg_setReg_self (s : State) (a : Nat) (v w : W64) : (s.setReg a v).setReg a w = s.setReg a w := by
  simp [State.setReg]

theorem State.setReg_setCore (s : State) (a n : Nat) (v : W64) (c : Core) :
    (s.setCore n c).setReg a v = (s.setReg a v).setCore n c := rfl

/-! ### The commands of CORE.CTRL are writes of it -/

theorem exec_coreResetHold {n : Nat} (hn : n < 2560) (v : W64) (s : State) :
    exec (.coreResetHold n v) s = .next (s.writeCtrl n v) := by
  change onUnit (n < numCores) _ = _
  rw [decide_eq_true (show n < numCores from hn), onUnit_true]

theorem exec_coreFence {n : Nat} (hn : n < 2560) (v : W64) (s : State) :
    exec (.coreFence n v) s = .next (s.writeCtrl n (v ||| 4)) := by
  change onUnit (n < numCores) _ = _
  rw [decide_eq_true (show n < numCores from hn), onUnit_true]

theorem exec_coreRun {n : Nat} (hn : n < 2560) (v : W64) (s : State) :
    exec (.coreRun n v) s = .next (s.writeCtrl n (v ||| 1)) := by
  change onUnit (n < numCores) _ = _
  rw [decide_eq_true (show n < numCores from hn), onUnit_true]

/-! ### What a write does by its bits -/

section
variable {s : State} {n : Nat} {v : W64}

/-- A register of a domain without power takes no write (R21, log 31). -/
theorem State.writeCtrl_down (h : s.coreDom (dieOf n) = false) : s.writeCtrl n v = s := by
  simp [State.writeCtrl, h]

/-- RESET_HOLD 1 acts alone. -/
theorem State.writeCtrl_hold (h : s.coreDom (dieOf n) = true) (h1 : bit v 1 = true) : s.writeCtrl n v = s.enterReset n := by
  simp [State.writeCtrl, h, h1]

/-- RESET_HOLD 0 acts first, then FENCE, then RUN. -/
theorem State.writeCtrl_release (h : s.coreDom (dieOf n) = true) (h1 : bit v 1 = false) :
    s.writeCtrl n v
      = (let r := s.releaseReset n
         let f := if bit v 2 then r.fenceCore n else r
         if bit v 0 then f.arm n else f) := by
  simp [State.writeCtrl, h, h1]

end

/-! ### Entering RESET, leaving it, and being fenced -/

theorem State.st_enterReset (s : State) (n : Nat) : ((s.enterReset n).coreAt n).st = .reset := by
  unfold State.enterReset
  by_cases h : (s.coreAt n).st = .reset <;> simp [h]

theorem State.coreDom_releaseReset (s : State) (n d : Nat) : (s.releaseReset n).coreDom d = s.coreDom d := by
  unfold State.releaseReset
  dsimp only
  split <;> rfl

/-- A core that a write released, or that stayed as it was, is not released again: the bit is 0 already, and a core in RESET
afterwards is one that R97 does not release. -/
theorem State.releaseReset_releaseReset (s : State) (n : Nat) : (s.releaseReset n).releaseReset n = s.releaseReset n := by
  let r := s.setReg (A.coreCtrl n) (s.reg (A.coreCtrl n) &&& ~~~ 2)
  have hbit : r.setReg (A.coreCtrl n) (r.reg (A.coreCtrl n) &&& ~~~ 2) = r := by
    simp only [r, State.reg_setReg_self, State.setReg_setReg_self, BitVec.and_assoc, BitVec.and_self]
  by_cases h : (r.coreAt n).st = .reset ∧ 0 < r.fuse.arrays n ∧ r.trimmed n
  · have hr : s.releaseReset n = r.setCore n { r.coreAt n with st := .idle } := if_pos h
    rw [hr, State.releaseReset, State.reg_setCore, State.setReg_setCore, hbit]
    exact if_neg fun g => by simp at g
  · have hr : s.releaseReset n = r := if_neg h
    rw [hr, State.releaseReset, hbit]
    exact if_neg h

/-- After FENCE 1 the core is FENCED, or it is still in RESET. -/
theorem State.st_fenceCore (s : State) (n : Nat) :
    ((s.fenceCore n).coreAt n).st = .reset ∨ ((s.fenceCore n).coreAt n).st = .fenced := by
  by_cases h : (s.coreAt n).st = .reset ∨ (s.coreAt n).st = .fenced
  · have hs : s.fenceCore n = s := if_pos h
    rwa [hs]
  · right
    rw [State.fenceCore, if_neg h]
    dsimp only
    rw [State.coreAt, State.jobFault_core]
    exact congrArg Core.st (State.coreAt_setCore_self _ n _)

/-- RUN finds a core in RESET or FENCED and is ignored (R97). -/
theorem State.arm_of_reset_or_fenced {s : State} {n : Nat} (h : (s.coreAt n).st = .reset ∨ (s.coreAt n).st = .fenced) :
    s.arm n = s := by
  obtain h | h := h <;> simp [State.arm, h]

theorem State.arm_fenceCore (s : State) (n : Nat) : (s.fenceCore n).arm n = s.fenceCore n :=
  State.arm_of_reset_or_fenced (s.st_fenceCore n)

/-! ### What makes no difference to a write -/

section
variable {n : Nat} {v : W64}

/-- Only the bits RUN, RESET_HOLD and FENCE count. -/
theorem State.writeCtrl_congr (s : State) {w : W64} (h0 : bit v 0 = bit w 0) (h1 : bit v 1 = bit w 1) (h2 : bit v 2 = bit w 2) :
    s.writeCtrl n v = s.writeCtrl n w := by
  simp only [State.writeCtrl, h0, h1, h2]

/-- With RESET_HOLD 1 the other bits make no difference. -/
theorem State.writeCtrl_of_hold (s : State) (h1 : bit v 1 = true) : s.writeCtrl n v = s.writeCtrl n 2 := by
  cases h : s.coreDom (dieOf n) with
  | false => simp only [State.writeCtrl_down h]
  | true => rw [State.writeCtrl_hold h h1, State.writeCtrl_hold h rfl]

/-- With RESET_HOLD 0 and FENCE 1, RUN makes no difference. -/
theorem State.writeCtrl_of_fence (s : State) (h1 : bit v 1 = false) (h2 : bit v 2 = true) :
    s.writeCtrl n v = s.writeCtrl n 4 := by
  cases h : s.coreDom (dieOf n) with
  | false => simp only [State.writeCtrl_down h]
  | true =>
    have h4 : s.writeCtrl n 4 = (s.releaseReset n).fenceCore n := State.writeCtrl_release h rfl
    rw [h4, State.writeCtrl_release h h1]
    simp only [h2, if_true, State.arm_fenceCore, ite_self]

/-- A write of RESET_HOLD 0 may come before it as a write of its own. -/
theorem State.writeCtrl_zero_writeCtrl (s : State) (h1 : bit v 1 = false) : (s.writeCtrl n 0).writeCtrl n v = s.writeCtrl n v := by
  cases h : s.coreDom (dieOf n) with
  | false => simp only [State.writeCtrl_down h]
  | true =>
    have hz : s.writeCtrl n 0 = s.releaseReset n := State.writeCtrl_release h rfl
    have hd : (s.releaseReset n).coreDom (dieOf n) = true := by rw [State.coreDom_releaseReset, h]
    rw [hz, State.writeCtrl_release hd h1, State.releaseReset_releaseReset, State.writeCtrl_release h h1]

end

/-- Settles O30: each case of R450 is an equation between writes of CORE.CTRL; FENCE and RUN find the core that RESET_HOLD 0
leaves, which a second RESET_HOLD 0 does not change. -/
theorem coreControlBitsActInOrder : Obligations.CoreControlBitsActInOrder := by
  intro n v s hn
  refine ⟨s.writeCtrl n 0, exec_coreResetHold hn 0 s, fun h1 => ⟨?_, fun hd => ?_⟩, fun h1 h2 => ?_, fun h1 h2 h0 => ?_,
    fun h1 h2 h0 => ?_⟩
  · rw [exec_coreResetHold hn, exec_coreResetHold hn, s.writeCtrl_of_hold h1]
  · refine completes_of (exec_coreResetHold hn v s) ?_
    rw [State.writeCtrl_hold hd h1]
    exact s.st_enterReset n
  · rw [exec_coreResetHold hn, exec_coreFence hn, s.writeCtrl_zero_writeCtrl rfl, s.writeCtrl_of_fence h1 h2,
      s.writeCtrl_of_fence (v := 0 ||| 4) rfl rfl]
  · rw [exec_coreResetHold hn, exec_coreRun hn, s.writeCtrl_zero_writeCtrl rfl, s.writeCtrl_congr (w := 0 ||| 1) h0 h1 h2]
  · rw [exec_coreResetHold hn, s.writeCtrl_congr (w := 0) h0 h1 h2]

end Sys2Proof.Machine
end

section
/-! PROOF. Die-local placement (R180): a field of a word's number is the word's field, a module offset is the die and the die offset, and
the hash and the channel-local address in words. -/
namespace Sys2Proof.Machine
open Sys2Proof

/-- Field [hi:lo] of a word's number is the field of the word. -/
theorem fieldOf_toNat {n : Nat} (x : BitVec n) (hi lo : Nat) :
    fieldOf x.toNat hi lo = (x.extractLsb' lo (hi + 1 - lo)).toNat := by
  rw [fieldOf, BitVec.extractLsb'_toNat, Nat.shiftRight_eq_div_pow]

/-- Two words in a row are the upper one, moved up by the width of the lower one, plus the lower one. -/
theorem toNat_append_eq_add {m n : Nat} (x : BitVec m) (y : BitVec n) : (x ++ y).toNat = x.toNat * 2 ^ n + y.toNat := by
  rw [BitVec.toNat_append, ← Nat.shiftLeft_add_eq_or_of_lt y.isLt, Nat.shiftLeft_eq]

section
variable {d a : Nat}

/-- Bits [39:38] of a module offset name the die (R178). -/
theorem fieldOf_offset_die (hd : d < 4) (ha : a < 2 ^ 38) : fieldOf (d * 2 ^ 38 + a) 39 38 = d := by
  simp only [fieldOf]
  omega

/-- Bits [37:0] of a module offset are the die offset (R178). -/
theorem fieldOf_offset_dieOffset (ha : a < 2 ^ 38) : fieldOf (d * 2 ^ 38 + a) 37 0 = a := by
  simp only [fieldOf]
  omega

/-- An offset of a segment that is not interleaved is placed in its own die (R179). -/
theorem State.place_of_dieLocal {s : State} (hd : d < 4) (ha : a < 2 ^ 38) (hs : s.interleaved d (fieldOf a 37 34) = false) :
    s.place (d * 2 ^ 38 + a) = placeLocal d a := by
  simp only [State.place, fieldOf_offset_die hd ha, fieldOf_offset_dieOffset ha, hs, Bool.false_eq_true, if_false]

end

/-- The die hash as an exclusive or of words. -/
theorem dieHash_toNat (a : BitVec 38) :
    dieHash a.toNat
      = (a.extractLsb' 8 7 ^^^ a.extractLsb' 15 7 ^^^ a.extractLsb' 22 7 ^^^ a.extractLsb' 29 7
          ^^^ (a.extractLsb' 36 2).zeroExtend 7).toNat := by
  have hz : ((a.extractLsb' 36 2).zeroExtend 7).toNat = (a.extractLsb' 36 2).toNat :=
    BitVec.toNat_setWidth_of_le (by decide)
  simp only [dieHash, fieldOf_toNat, BitVec.toNat_xor, hz]

/-- The die-local placement of a die offset given as a word. -/
theorem placeLocal_toNat (d : Nat) (a : BitVec 38) :
    placeLocal d a.toNat = ⟨d, dieHash a.toNat, (a.extractLsb' 15 23 ++ a.extractLsb' 0 8).toNat⟩ := by
  simp only [placeLocal, fieldOf_toNat, toNat_append_eq_add]

/-- Settles O60: the offset splits into the die and the die offset, and the fields that R180 takes of the die offset are those of
the word. -/
theorem dieLocalOffsetsSpreadOverChannels : Obligations.DieLocalOffsetsSpreadOverChannels := by
  intro s d a hd hs
  have hlocal : s.interleaved d (fieldOf a.toNat 37 34) = false := by rwa [fieldOf_toNat]
  rw [State.place_of_dieLocal hd a.isLt hlocal, placeLocal_toNat, dieHash_toNat]

end Sys2Proof.Machine
end

section
/-! PROOF. A DATA frame whose last codeword ends with a later frame and is uncorrectable (`Frame.tail`, log 110) fails at the link
(R292), before the source of its packet is looked at (R402). -/
namespace Sys2Proof.Machine
open Sys2Proof

section
variable {s : State} {p l : Nat} {f : Frame}

/-- A frame with which no codeword ends counts none (log 110). -/
theorem State.countCodewords_nil (s : State) (p l : Nat) : s.countCodewords p l [] = s := by
  simp [State.countCodewords, State.countPosWords]

/-- A frame that touches an uncorrectable codeword is discarded as a CRC failure (R292). -/
theorem State.receiveFrame_of_not_clean (type : Nat) (hup : s.portUp p = true) (hlane : (s.portAt p).rxLanes.getLsbD l = true)
    (hf : frameClean f = false) :
    s.receiveFrame p l f type = (none, (s.countCodewords p l f.errs).bump (A.pcnt p) 31 16 1) := by
  simp [State.receiveFrame, hup, hlane, hf]

/-- Of a DATA frame whose last codeword is uncorrectable the port counts the CRC failure, and nothing else changes. -/
theorem exec_dataFrame_of_tail (hp : p < 93) (hl : l < fullLanes p) (hup : s.portUp p = true)
    (hlane : (s.portAt p).rxLanes.getLsbD l = true) (herrs : f.errs = []) (htail : f.tail = true) :
    exec (.dataFrame p l f) s = .next (s.bump (A.pcnt p) 31 16 1) := by
  have hclean : frameClean f = false := by simp [frameClean, htail]
  change onUnit (decide (p < numPorts ∧ l < fullLanes p)) _ = _
  rw [decide_eq_true (show p < numPorts ∧ l < fullLanes p from ⟨hp, hl⟩), onUnit_true,
    State.receiveFrame_of_not_clean 1 hup hlane hclean, herrs, State.countCodewords_nil]

end

/-! ### The counterexample -/

/-- A module with port 3 trained on all its lanes, behind which the image names the external endpoint 0x8000. -/
def externalPortState : State :=
  { State.reset with
    topo := { State.reset.topo with items := [(3, [(0x0002, [BitVec.ofNat 64 (0x8000 * 2 ^ 48 + 3 * 2 ^ 41)])])] }
    hub := { State.reset.hub with port := [(3, { Port.init with st := .up, rxLanes := 0xFF })] } }

/-- The next frame in order on that port: its packet carries the source 9, and its last codeword is uncorrectable. -/
def spoofedTailFrame : Frame := { frameOf 1 0 0 (qSeal (qMake 5 9 0 0x32 0 0 0 0 [])) with tail := true }

theorem fIntact_spoofedTailFrame : fIntact spoofedTailFrame = true := by decide +kernel
theorem fValid_spoofedTailFrame : fValid spoofedTailFrame = true := by decide
theorem qIntact_spoofedTailFrame : qIntact spoofedTailFrame.q = true := by decide +kernel
theorem qValid_spoofedTailFrame : qValid spoofedTailFrame.q = true := by decide
theorem externalAt_externalPortState : externalPortState.externalAt 3 = some 0x8000 := by decide
theorem secCounts_externalPortState : externalPortState.reg A.secCounts = 0 := by decide

/-- Refutes O59: its hypotheses hold of the errors in `errs` only, so they let through a frame whose codeword that ends later is
uncorrectable (`tail`). R292 discards that frame at the link: SPOOFED stays 0. -/
theorem not_spoofedFramesAreDiscarded : ¬ Obligations.SpoofedFramesAreDiscarded := by
  unfold Obligations.SpoofedFramesAreDiscarded
  intro h
  obtain ⟨t, hexec, -, -, -, -, hcount, -⟩ :=
    h 3 0 0x8000 spoofedTailFrame externalPortState (by decide) (by decide) (by decide) (by decide) rfl fIntact_spoofedTailFrame
      fValid_spoofedTailFrame (by decide) (by decide) rfl rfl qIntact_spoofedTailFrame qValid_spoofedTailFrame
      externalAt_externalPortState (by decide)
  rw [exec_dataFrame_of_tail (by decide) (by decide) (by decide) (by decide) rfl rfl] at hexec
  obtain rfl := Host.Outcome.next.inj hexec
  have hkept : (externalPortState.bump (A.pcnt 3) 31 16 1).reg A.secCounts = 0 := by
    rw [State.reg_bump, if_neg (by decide), secCounts_externalPortState]
  rw [hkept, secCounts_externalPortState] at hcount
  exact absurd hcount (by decide)

end Sys2Proof.Machine
end

section
/-! PROOF. The parts of the canonical form of the memories, and the rules of the shared operations of a state for it. -/
namespace Sys2Proof.Machine
open Sys2Proof

variable {s t : State}

theorem State.memoriesOk_iff : s.memoriesOk = true ↔
    s.mem.bytes.wf = true ∧ (∀ e ∈ s.core, Memory.wf e.2.store = true) ∧ s.svc.bank0.wf = true ∧ s.svc.bank1.wf = true := by
  simp [State.memoriesOk, and_assoc]

@[simp] theorem State.wf_memBytes (h : s.memoriesOk = true) : s.mem.bytes.wf = true := (State.memoriesOk_iff.mp h).1
@[simp] theorem State.wf_bank0 (h : s.memoriesOk = true) : s.svc.bank0.wf = true := (State.memoriesOk_iff.mp h).2.2.1
@[simp] theorem State.wf_bank1 (h : s.memoriesOk = true) : s.svc.bank1.wf = true := (State.memoriesOk_iff.mp h).2.2.2

/-- Every core store of a table of cores has its canonical form. -/
def storesOk (t : Tab Core) : Bool := t.all fun e => Memory.wf e.2.store

@[simp] theorem State.storesOk_core (h : s.memoriesOk = true) : storesOk s.core = true := by
  simpa [storesOk] using (State.memoriesOk_iff.mp h).2.1

theorem storesOk_get {t : Tab Core} (h : storesOk t = true) (n : Nat) : (Tab.get Core.init t n).store.wf = true := by
  induction t with
  | nil => rfl
  | cons e t ih =>
    obtain ⟨k, c⟩ := e
    simp only [storesOk, List.all_cons, Bool.and_eq_true] at h
    by_cases hk : k = n
    · simpa [Tab.get, Tab.find, hk] using h.1
    · simpa [Tab.get, Tab.find, hk] using ih h.2

@[simp] theorem State.wf_coreAt_store (h : s.memoriesOk = true) (n : Nat) : (s.coreAt n).store.wf = true :=
  storesOk_get (State.storesOk_core h) n

@[simp] theorem storesOk_put {t : Tab Core} {n : Nat} {c : Core} (h : storesOk t = true) (hc : c.store.wf = true) :
    storesOk (Tab.put t n c) = true := by
  simp only [storesOk, List.all_eq_true] at h ⊢
  intro e he
  rcases Tab.mem_put he with rfl | he
  · exact hc
  · exact h e he

/-- What the canonical form says of a state written out field by field. -/
@[simp] theorem State.memoriesOk_mk (p : List Instr) (ck fr : Nat) (o : List Out) (r : Tab W64) (pt : Tab Nat) (eg : Edge) (fu : Fuse)
    (d : Dom) (ti : TimeS) (c : Tab Core) (m : MemS) (u : Tab UpdDie) (l : Tab Link) (rc : Tab RcDie) (ep : Endpoint)
    (cp : Tab CopyEng) (hb : HubS) (op : OptS) (tp : TopoS) (et : EthS) (se : SelfS) (sc : SecS) (ca : CairnS) (sv : SvcS) :
    State.memoriesOk ⟨p, ck, fr, o, r, pt, eg, fu, d, ti, c, m, u, l, rc, ep, cp, hb, op, tp, et, se, sc, ca, sv⟩
      = (m.bytes.wf && storesOk c && sv.bank0.wf && sv.bank1.wf) := rfl

/-- The four parts of the canonical form, put together again. -/
@[simp] theorem State.memoriesOk_parts (s : State) :
    (s.mem.bytes.wf && storesOk s.core && s.svc.bank0.wf && s.svc.bank1.wf) = s.memoriesOk := rfl

@[simp] theorem State.memoriesOk_ite (p : Prop) [Decidable p] :
    (if p then s else t).memoriesOk = if p then s.memoriesOk else t.memoriesOk := apply_ite State.memoriesOk p s t

theorem State.memoriesOk_foldl {α : Type} {f : State → α → State} {l : List α} (h : s.memoriesOk = true)
    (hf : ∀ t x, t.memoriesOk = true → (f t x).memoriesOk = true) : (l.foldl f s).memoriesOk = true := by
  induction l generalizing s with
  | nil => exact h
  | cons x l ih => exact ih (hf s x h)

@[simp] theorem State.memoriesOk_foldl_eq {α : Type} {f : State → α → State} (l : List α)
    (hf : ∀ t x, (f t x).memoriesOk = t.memoriesOk) : (l.foldl f s).memoriesOk = s.memoriesOk := by
  induction l generalizing s with
  | nil => rfl
  | cons x l ih => exact (ih (s := f s x)).trans (hf s x)

theorem storesOk_put_eq {t : Tab Core} {n : Nat} {c : Core} (hc : c.store = (Tab.get Core.init t n).store) :
    storesOk (Tab.put t n c) = storesOk t := by
  cases h : storesOk t with
  | true => exact storesOk_put h (hc ▸ storesOk_get h n)
  | false => 
    have hall : ¬ storesOk t = true := by simp [h]
    by_contra hp
    refine hall ?_
    simp only [Bool.not_eq_false] at hp
    clear h hall
    induction t with
    | nil => rfl
    | cons e t ih =>
      obtain ⟨k, d⟩ := e
      simp only [Tab.put] at hp
      split at hp
      · next hk =>
        simp only [storesOk, List.all_cons, Bool.and_eq_true] at hp ⊢
        simp only [Tab.get, Tab.find, hk, if_true, Option.getD_some] at hc
        exact ⟨hc ▸ hp.1, hp.2⟩
      · split at hp
        · simp only [storesOk, List.all_cons, Bool.and_eq_true] at hp ⊢
          exact hp.2
        · next hk _ =>
          simp only [storesOk, List.all_cons, Bool.and_eq_true] at hp ⊢
          exact ⟨hp.1, ih (by simpa [Tab.get, Tab.find, hk] using hc) hp.2⟩

/-- A core written back with its store as it was. -/
@[simp] theorem State.memoriesOk_setCore_eq {n : Nat} {c : Core} (hc : c.store = (s.coreAt n).store) :
    (s.setCore n c).memoriesOk = s.memoriesOk := by
  simp only [State.memoriesOk, State.setCore]
  exact congrArg (fun b => s.mem.bytes.wf && b && s.svc.bank0.wf && s.svc.bank1.wf) (storesOk_put_eq hc)

@[simp] theorem State.memoriesOk_done_eq {n : Nat} {c : Core} (hc : c.store = (s.coreAt n).store) :
    (s.done n c).memoriesOk = s.memoriesOk := State.memoriesOk_setCore_eq hc

@[simp] theorem State.memoriesOk_setCore (h : s.memoriesOk = true) (n : Nat) {c : Core} (hc : c.store.wf = true) :
    (s.setCore n c).memoriesOk = true := by
  simp [State.setCore, h, hc]

@[simp] theorem State.memoriesOk_done (h : s.memoriesOk = true) (n : Nat) {c : Core} (hc : c.store.wf = true) :
    (s.done n c).memoriesOk = true := by
  simp [State.done, h, hc]

@[simp] theorem State.memoriesOk_setReg (s : State) (a : Nat) (v : W64) : (s.setReg a v).memoriesOk = s.memoriesOk := rfl
@[simp] theorem State.memoriesOk_event (s : State) (a : Nat) (f : W64 → W64) : (s.event a f).memoriesOk = s.memoriesOk := rfl
@[simp] theorem State.memoriesOk_acceptRec (s : State) (n : Note) : (s.acceptRec n).memoriesOk = s.memoriesOk := rfl

@[simp] theorem State.memoriesOk_enterRec (s : State) (n : Note) : (s.enterRec n).memoriesOk = s.memoriesOk := by
  simp [State.enterRec, State.memoriesOk_acceptRec]
@[simp] theorem State.memoriesOk_setBit (s : State) (a i : Nat) : (s.setBit a i).memoriesOk = s.memoriesOk := rfl
@[simp] theorem State.memoriesOk_bump (s : State) (a hi lo k : Nat) : (s.bump a hi lo k).memoriesOk = s.memoriesOk := rfl
@[simp] theorem State.memoriesOk_acceptOverflow (s : State) : s.acceptOverflow.memoriesOk = s.memoriesOk := by
  unfold State.acceptOverflow
  split
  · rfl
  · exact State.memoriesOk_acceptRec s { sev := 3, index := 0, code := 0x0004, p0 := s.cairn.dropped }

@[simp] theorem State.memoriesOk_cairnAccept (s : State) (n : Note) : (s.cairnAccept n).1.memoriesOk = s.memoriesOk := by
  unfold State.cairnAccept
  dsimp only
  split_ifs <;> simp

@[simp] theorem State.memoriesOk_pushEvent (s : State) (type : Nat) (body : List W64) :
    (s.pushEvent type body).memoriesOk = s.memoriesOk := by
  by_cases full : 4096 ≤ s.eth.events.length <;> simp [State.pushEvent, full]

@[simp] theorem State.memoriesOk_note (s : State) (n : Note) : (s.note n).memoriesOk = s.memoriesOk :=
  State.memoriesOk_cairnAccept s n

@[simp] theorem State.memoriesOk_report (s : State) (n : Note) : (s.report n).memoriesOk = s.memoriesOk := by
  have ht := State.memoriesOk_cairnAccept s n
  unfold State.report
  split <;> next heq => simp_all

@[simp] theorem State.memoriesOk_jobFault (s : State) (index cause part tag peer addr p2 : Nat) :
    (s.jobFault index cause part tag peer addr p2).memoriesOk = s.memoriesOk := by
  simp [State.jobFault]

@[simp] theorem Core.store_toFaulted (c : Core) : c.toFaulted.store = c.store := rfl

@[simp] theorem State.memoriesOk_takeException (s : State) (n : Nat) (cause : Cause) (pc : Nat) :
    (s.takeException n cause pc).memoriesOk = s.memoriesOk := by
  simp -implicitDefEqProofs [State.takeException]

/-! ### Issue -/

@[simp] theorem State.memoriesOk_issue (h : s.memoriesOk = true) (n : Nat) (legal : Bool) (stall : Core → Bool) {run : Core → State}
    (hr : ∀ c, c.store.wf = true → (run c).memoriesOk = true) : (s.issue n legal stall run).memoriesOk = true := by
  simp [State.issue, h, hr]

@[simp] theorem State.memoriesOk_guarded (h : s.memoriesOk = true) (n : Nat) (gneg : Bool) (guard : BitVec 3) {c : Core}
    {run : Core → State} (hc : c.store.wf = true) (hr : (run c).memoriesOk = true) :
    (s.guarded n gneg guard c run).memoriesOk = true := by
  simp [State.guarded, h, hc, hr]

@[simp] theorem State.memoriesOk_lanewise (h : s.memoriesOk = true) (n : Nat) (gneg : Bool) (guard : BitVec 3) {c : Core}
    {run : W64 → Core → State} (hc : c.store.wf = true) (hr : ∀ g, (run g c).memoriesOk = true) :
    (s.lanewise n gneg guard c run).memoriesOk = true := by
  simp [State.lanewise, h, hc, hr]

@[simp] theorem State.memoriesOk_runR (h : s.memoriesOk = true) (n : Nat) (f : RF) (u : RUse) {run : Core → State}
    (hr : ∀ c, c.store.wf = true → (run c).memoriesOk = true) : (s.runR n f u run).memoriesOk = true := by
  refine State.memoriesOk_issue h n _ _ fun c hc => ?_
  simp [h, hr, hc]

@[simp] theorem State.memoriesOk_runV (h : s.memoriesOk = true) (n : Nat) (f : RF) (u : RUse) {run : W64 → Core → State}
    (hr : ∀ g c, c.store.wf = true → (run g c).memoriesOk = true) : (s.runV n f u run).memoriesOk = true := by
  refine State.memoriesOk_issue h n _ _ fun c hc => ?_
  simp [h, hr, hc]

@[simp] theorem State.memoriesOk_runI (h : s.memoriesOk = true) (n : Nat) (f : IF) (d a : Use) (imm : Bool) {run : Core → State}
    (hr : ∀ c, c.store.wf = true → (run c).memoriesOk = true) : (s.runI n f d a imm run).memoriesOk = true := by
  refine State.memoriesOk_issue h n _ _ fun c hc => ?_
  simp [h, hr, hc]

@[simp] theorem State.memoriesOk_runC (h : s.memoriesOk = true) (n : Nat) (f : CF) (legal : Bool) {run : Core → State}
    (hr : ∀ c, c.store.wf = true → (run c).memoriesOk = true) : (s.runC n f legal run).memoriesOk = true := by
  refine State.memoriesOk_issue h n _ _ fun c hc => ?_
  simp [h, hr, hc]

@[simp] theorem State.memoriesOk_runIV (h : s.memoriesOk = true) (n : Nat) (f : IF) {run : W64 → Core → State}
    (hr : ∀ g c, c.store.wf = true → (run g c).memoriesOk = true) : (s.runIV n f run).memoriesOk = true := by
  refine State.memoriesOk_issue h n _ _ fun c hc => ?_
  simp [h, hr, hc]

@[simp] theorem State.memoriesOk_access (h : s.memoriesOk = true) (n a w : Nat) (ht : t.memoriesOk = true) :
    (s.access n a w t).memoriesOk = true := by
  simp [State.access, h, ht]

@[simp] theorem State.memoriesOk_vecAccess (h : s.memoriesOk = true) (n base : Nat) (g : W64) (ht : t.memoriesOk = true) :
    (s.vecAccess n base g t).memoriesOk = true := by
  simp [State.vecAccess, h, ht]

/-! ### Stores of a core -/

@[simp] theorem Core.wf_storeN {c : Core} (h : c.store.wf = true) (a w v : Nat) : (c.storeN a w v).store.wf = true :=
  Memory.wf_write _ _ a h

@[simp] theorem Core.wf_storeLanes {c : Core} (h : c.store.wf = true) (base : Nat) (g : W64) (v : Vec) :
    (c.storeLanes base g v).store.wf = true := by
  unfold Core.storeLanes
  generalize List.range 64 = l
  induction l generalizing c with
  | nil => exact h
  | cons i l ih =>
    refine ih ?_
    dsimp only
    split
    · exact Core.wf_storeN h _ _ _
    · exact h

end Sys2Proof.Machine
end

section
/-! PROOF. One rule per operation of a state: what it leaves of the canonical form of the memories. -/
namespace Sys2Proof.Machine
open Sys2Proof

variable {s t : State}

@[simp] theorem State.memoriesOk_putField (s : State) (a : Nat) (hi : Nat) (lo : Nat) (v : Nat) :
    (State.putField s a hi lo v).memoriesOk = s.memoriesOk := rfl

@[simp] theorem State.memoriesOk_logWrite (s : State) (a : Nat) (w : Nat) (v : W64) :
    (State.logWrite s a w v).memoriesOk = s.memoriesOk := rfl

@[simp] theorem State.memoriesOk_bySection (s : State) (key : Nat) :
    (State.bySection s key).memoriesOk = s.memoriesOk := rfl

@[simp] theorem State.memoriesOk_orReg (s : State) (a : Nat) (m : W64) :
    (State.orReg s a m).memoriesOk = s.memoriesOk := rfl

@[simp] theorem State.memoriesOk_drew (s : State) (n : Nat) :
    (State.drew s n).memoriesOk = s.memoriesOk := rfl

@[simp] theorem State.memoriesOk_bumpKi (s : State) (a : Nat) (hi : Nat) (lo : Nat) (k : Nat) :
    (State.bumpKi s a hi lo k).memoriesOk = s.memoriesOk := rfl

@[simp] theorem State.memoriesOk_emit (s : State) (o : Out) :
    (State.emit s o).memoriesOk = s.memoriesOk := rfl

@[simp] theorem State.memoriesOk_useFree (s : State) :
    (State.useFree s).memoriesOk = s.memoriesOk := rfl

@[simp] theorem State.memoriesOk_setLink (s : State) (d : Nat) (x : Link) :
    (State.setLink s d x).memoriesOk = s.memoriesOk := rfl

@[simp] theorem State.memoriesOk_setPort (s : State) (p : Nat) (x : Port) :
    (State.setPort s p x).memoriesOk = s.memoriesOk := rfl

theorem State.memoriesOk_of_eq {α : Type} {p : State × α} {x : α} (hp : p.1.memoriesOk = true) (e : p = (t, x)) : t.memoriesOk = true := by
  subst e
  exact hp

theorem State.memoriesOk_foldl_fst {α β : Type} {f : State × β → α → State × β} {l : List α} {p : State × β} (h : p.1.memoriesOk = true)
    (hf : ∀ q x, q.1.memoriesOk = true → (f q x).1.memoriesOk = true) : (l.foldl f p).1.memoriesOk = true := by
  induction l generalizing p with
  | nil => exact h
  | cons x l ih => exact ih (hf p x h)

theorem Memory.wf_foldl {α : Type} {f : Memory → α → Memory} {l : List α} {m : Memory} (h : m.wf = true)
    (hf : ∀ m x, m.wf = true → (f m x).wf = true) : Memory.wf (l.foldl f m) = true := by
  induction l generalizing m with
  | nil => exact h
  | cons x l ih => exact ih (hf m x h)

theorem Memory.wf_outside {m : Memory} (h : m.wf = true) (lo hi : Nat) : Memory.wf (Tab.outside m lo hi) = true :=
  Memory.wf_filter m _ h

theorem storesOk_map {f : Nat × Core → Nat × Core} {t : Tab Core} (h : storesOk t = true)
    (hf : ∀ e, e.2.store.wf = true → (f e).2.store.wf = true) : storesOk (t.map f) = true := by
  simp only [storesOk, List.all_eq_true, List.mem_map] at h ⊢
  rintro _ ⟨e, he, rfl⟩
  exact hf e (h e he)

theorem State.memoriesOk_of_parts (hm : t.mem.bytes.wf = true) (hc : storesOk t.core = true) (h0 : t.svc.bank0.wf = true)
    (h1 : t.svc.bank1.wf = true) : t.memoriesOk = true := by
  rw [← State.memoriesOk_parts, hm, hc, h0, h1]; rfl

/-- A change to the cores alone. -/
theorem State.memoriesOk_of_core (h : s.memoriesOk = true) (hm : t.mem.bytes = s.mem.bytes) (hv : t.svc = s.svc)
    (hc : storesOk t.core = true) : t.memoriesOk = true :=
  State.memoriesOk_of_parts (hm ▸ State.wf_memBytes h) hc (hv ▸ State.wf_bank0 h) (hv ▸ State.wf_bank1 h)

theorem State.memoriesOk_ite_of {p : Prop} [Decidable p] (hs : s.memoriesOk = true) (ht : t.memoriesOk = true) :
    (if p then s else t).memoriesOk = true := by
  split
  · exact hs
  · exact ht

/-- A change to module memory alone. -/
theorem State.memoriesOk_of_mem (h : s.memoriesOk = true) (hc : t.core = s.core) (hv : t.svc = s.svc)
    (hm : t.mem.bytes.wf = true) : t.memoriesOk = true :=
  State.memoriesOk_of_parts hm (hc ▸ State.storesOk_core h) (hv ▸ State.wf_bank0 h) (hv ▸ State.wf_bank1 h)

@[simp] theorem Core.store_count (c : Core) (i : Nat) : (c.count i).store = c.store := rfl

@[simp] theorem State.memoriesOk_countCore (s : State) (n i : Nat) : (s.countCore n i).memoriesOk = s.memoriesOk := by
  unfold State.countCore
  split
  · rfl
  · exact State.memoriesOk_setCore_eq rfl

@[simp] theorem State.memoriesOk_setFlags (s : State) (n : Nat) (m : W64) :
    (State.setFlags s n m).memoriesOk = s.memoriesOk := rfl

@[simp] theorem State.memoriesOk_setSensor (s : State) (i : Nat) (x : Sensor) :
    (State.setSensor s i x).memoriesOk = s.memoriesOk := rfl

@[simp] theorem State.memoriesOk_setOp (s : State) (d : Nat) (x : OpPoint) :
    (State.setOp s d x).memoriesOk = s.memoriesOk := rfl

@[simp] theorem State.memoriesOk_accrueSlow (s : State) :
    (State.accrueSlow s).memoriesOk = s.memoriesOk := rfl

@[simp] theorem State.memoriesOk_setPos (s : State) (n : Nat) (j : Nat) (x : Pos) :
    (State.setPos s n j x).memoriesOk = s.memoriesOk := by
  simp [State.setPos]

@[simp] theorem State.memoriesOk_capture (s : State) (x : Cond) (n : Nat) (pos : Nat) (kind : Nat) (fmt : Nat) :
    (State.capture s x n pos kind fmt).memoriesOk = s.memoriesOk := by
  simp [State.capture]

@[simp] theorem State.memoriesOk_wrongResult (s : State) (x : Cond) (code : Nat) (n : Nat) (pos : Nat) (kind : Nat) (fmt : Nat) (seq : Nat) :
    (State.wrongResult s x code n pos kind fmt seq).memoriesOk = s.memoriesOk := by
  simp [State.wrongResult]

@[simp] theorem State.memoriesOk_closeMismatches (s : State) :
    (State.closeMismatches s).memoriesOk = s.memoriesOk := by
  simp [State.closeMismatches]

@[simp] theorem State.memoriesOk_followUpDone (s : State) (n : Nat) (j : Nat) (followUp : Bool) (failed : Bool) :
    (State.followUpDone s n j followUp failed).memoriesOk = s.memoriesOk := by
  simp [State.followUpDone]

@[simp] theorem State.memoriesOk_endMismatches (s : State) (d : Nat) :
    (State.endMismatches s d).memoriesOk = s.memoriesOk := by
  simp [State.endMismatches]

@[simp] theorem State.memoriesOk_writeSlot (s : State) (r : CRec) :
    (State.writeSlot s r).memoriesOk = s.memoriesOk := rfl

@[simp] theorem State.memoriesOk_writeAll (s : State) :
    (State.writeAll s).memoriesOk = s.memoriesOk := by
  simp -implicitDefEqProofs [State.writeAll]

@[simp] theorem State.memoriesOk_powerLoss (s : State) (commanded : Bool) :
    (State.powerLoss s commanded).memoriesOk = s.memoriesOk := by
  simp [State.powerLoss]

@[simp] theorem State.memoriesOk_recoverLog (s : State) :
    (State.recoverLog s).memoriesOk = s.memoriesOk := rfl

@[simp] theorem State.memoriesOk_acceptStart (s : State) :
    (State.acceptStart s).memoriesOk = s.memoriesOk := by
  simp [State.acceptStart]

@[simp] theorem State.memoriesOk_startLog (s : State) :
    (State.startLog s).memoriesOk = s.memoriesOk := by
  simp [State.startLog]

@[simp] theorem State.memoriesOk_readWin3 (s : State) :
    (State.readWin3 s).1.memoriesOk = s.memoriesOk := by
  simp [State.readWin3]

@[simp] theorem State.memoriesOk_fetchFault (s : State) (n : Nat) :
    (State.fetchFault s n).memoriesOk = s.memoriesOk := by
  simp [State.fetchFault]

@[simp] theorem State.memoriesOk_setRc (s : State) (d : Nat) (l : List RcLine) :
    (State.setRc s d l).memoriesOk = s.memoriesOk := rfl

@[simp] theorem State.memoriesOk_rcUse (s : State) (d : Nat) (l : RcLine) :
    (State.rcUse s d l).memoriesOk = s.memoriesOk := rfl

@[simp] theorem State.memoriesOk_rcHit (s : State) (d : Nat) (part : Nat) (home : Nat) (addr : Nat) :
    (State.rcHit s d part home addr).memoriesOk = s.memoriesOk := by
  unfold State.rcHit
  split <;> simp

@[simp] theorem State.memoriesOk_rcFill (s : State) (d : Nat) (part : Nat) (home : Nat) (addr : Nat) (wide : Bool) (v : Nat) :
    (State.rcFill s d part home addr wide v).memoriesOk = s.memoriesOk := by
  simp [State.rcFill]

@[simp] theorem State.memoriesOk_rcSpoil (h : s.memoriesOk = true) (d : Nat) (part gran home : Option Nat) :
    (s.rcSpoil d part gran home).memoriesOk = true := by
  refine State.memoriesOk_of_core h rfl rfl (storesOk_map (State.storesOk_core h) fun e he => ?_)
  dsimp only
  split <;> exact he

@[simp] theorem State.memoriesOk_rcStore (h : s.memoriesOk = true) (d : Nat) (part : Nat) (home : Nat) (addr : Nat) (wide : Bool) (v : Nat) :
    (State.rcStore s d part home addr wide v).memoriesOk = true := by
  simp -implicitDefEqProofs [State.rcStore, h]

@[simp] theorem State.memoriesOk_rcDropGran (h : s.memoriesOk = true) (d : Nat) (part : Nat) (gran : Nat) (home : Option Nat) :
    (State.rcDropGran s d part gran home).memoriesOk = true := by
  simp -implicitDefEqProofs [State.rcDropGran, h]

@[simp] theorem State.memoriesOk_rcDropPart (h : s.memoriesOk = true) (d : Nat) (part : Nat) :
    (State.rcDropPart s d part).memoriesOk = true := by
  simp -implicitDefEqProofs [State.rcDropPart, h]

@[simp] theorem State.memoriesOk_rcDropHome (h : s.memoriesOk = true) (d : Nat) (home : Nat) :
    (State.rcDropHome s d home).memoriesOk = true := by
  simp -implicitDefEqProofs [State.rcDropHome, h]

@[simp] theorem State.memoriesOk_rcDropAll (h : s.memoriesOk = true) (d : Nat) :
    (State.rcDropAll s d).memoriesOk = true := by
  simp -implicitDefEqProofs [State.rcDropAll, h]

@[simp] theorem State.memoriesOk_writeRcCtrl (h : s.memoriesOk = true) (d : Nat) (v : W64) :
    (State.writeRcCtrl s d v).memoriesOk = true := by
  simp -implicitDefEqProofs [State.writeRcCtrl, h]

@[simp] theorem State.memoriesOk_ldInstr (h : s.memoriesOk = true) (n : Nat) (f : IF) (w : Nat) (ext : Nat → W64) :
    (s.ldInstr n f w ext).memoriesOk = true :=
  State.memoriesOk_runI h _ _ _ _ _ fun c hc => State.memoriesOk_access h _ _ _ (State.memoriesOk_done h _ (by simpa using hc))

@[simp] theorem State.memoriesOk_stInstr (h : s.memoriesOk = true) (n : Nat) (f : IF) (w : Nat) :
    (s.stInstr n f w).memoriesOk = true :=
  State.memoriesOk_runI h _ _ _ _ _ fun _ hc =>
    State.memoriesOk_access h _ _ _ (State.memoriesOk_done h _ (Core.wf_storeN hc _ _ _))

@[simp] theorem State.memoriesOk_setMem (s : State) (d : Nat) (x : MemDie) :
    (State.setMem s d x).memoriesOk = s.memoriesOk := rfl

@[simp] theorem State.memoriesOk_setStack (s : State) (d : Nat) (i : Nat) (x : Stack) :
    (State.setStack s d i x).memoriesOk = s.memoriesOk := rfl

@[simp] theorem State.memoriesOk_chargeIf (s : State) (paid : Bool) (d : Nat) (k : Nat) (req : Nat) (g : Nat) (lc : Bool) :
    (State.chargeIf s paid d k req g lc).memoriesOk = s.memoriesOk := by
  simp [State.chargeIf]

@[simp] theorem State.memoriesOk_charge (s : State) (d : Nat) (k : Nat) (req : Nat) (g : Nat) (lc : Bool) :
    (State.charge s d k req g lc).memoriesOk = s.memoriesOk := by
  simp [State.charge]

@[simp] theorem State.memoriesOk_eccCapture (s : State) (p : Place) (unc : Bool) (symbol : Nat) (part : Nat) :
    (State.eccCapture s p unc symbol part).memoriesOk = s.memoriesOk := by
  simp [State.eccCapture]

@[simp] theorem State.memoriesOk_setPoison (s : State) (p : Place) (b : Bool) :
    (State.setPoison s p b).memoriesOk = s.memoriesOk := rfl

@[simp] theorem State.memoriesOk_storeGranule (h : s.memoriesOk = true) (p : Place) (bs : List Byte) :
    (s.storeGranule p bs).memoriesOk = true :=
  State.memoriesOk_of_mem h rfl rfl (Memory.wf_write _ _ _ (State.wf_memBytes h))

@[simp] theorem State.memoriesOk_countCorrected (s : State) (p : Place) :
    (State.countCorrected s p).memoriesOk = s.memoriesOk := by
  simp [State.countCorrected]

@[simp] theorem State.memoriesOk_uncorrectable (s : State) (p : Place) (part : Nat) (req : Nat) :
    (State.uncorrectable s p part req).memoriesOk = s.memoriesOk := by
  simp [State.uncorrectable]

@[simp] theorem State.memoriesOk_applyDamage (h : s.memoriesOk = true) (p : Place) (left : List (Nat × Byte)) :
    (State.applyDamage s p left).memoriesOk = true := by
  simp -implicitDefEqProofs [State.applyDamage, h]

@[simp] theorem State.memoriesOk_readCode (h : s.memoriesOk = true) (p : Place) (part : Nat) (req : Nat) (dam : Damage) :
    (State.readCode s p part req dam).1.memoriesOk = true := by
  unfold State.readCode
  dsimp only
  split <;> simp -implicitDefEqProofs [h]

@[simp] theorem State.memoriesOk_serveGranules (s : State) (d : Nat) (c : Nat) (g : Nat) :
    (State.serveGranules s d c g).memoriesOk = s.memoriesOk := rfl

@[simp] theorem State.memoriesOk_writeMapLine (h : s.memoriesOk = true) (d : Nat) (line : Nat) (bits : BitVec 512) :
    (State.writeMapLine s d line bits).memoriesOk = true := by
  simp -implicitDefEqProofs [State.writeMapLine, h]

@[simp] theorem State.memoriesOk_zcachePut (h : s.memoriesOk = true) (d : Nat) (line : Nat) (k : Nat) (bits : BitVec 512) (dirty : Bool) :
    (State.zcachePut s d line k bits dirty).memoriesOk = true := by
  unfold State.zcachePut
  dsimp only
  split <;> simp -implicitDefEqProofs [h]

@[simp] theorem State.memoriesOk_zfill (h : s.memoriesOk = true) (d : Nat) (k : Nat) (line : Nat) (dam : Damage) :
    (State.zfill s d k line dam).1.memoriesOk = true := by
  unfold State.zfill
  dsimp only
  split <;> simp -implicitDefEqProofs [h]

@[simp] theorem State.memoriesOk_zline (h : s.memoriesOk = true) (d : Nat) (k : Nat) (line : Nat) :
    (State.zline s d k line).1.memoriesOk = true := by
  unfold State.zline
  dsimp only
  repeat' split
  all_goals simp -implicitDefEqProofs [h]

@[simp] theorem State.memoriesOk_zset (h : s.memoriesOk = true) (d : Nat) (k : Nat) (line : Nat) (i : Nat) (bits : BitVec 512) (v : Bool) :
    (State.zset s d k line i bits v).memoriesOk = true := by
  simp -implicitDefEqProofs [State.zset, h]

@[simp] theorem State.memoriesOk_rewriteMap (s : State) (o : Nat) :
    (State.rewriteMap s o).memoriesOk = s.memoriesOk := by
  simp [State.rewriteMap]

@[simp] theorem State.memoriesOk_granuleOp (h : s.memoriesOk = true) (o part req : Nat) (dam : Damage)
    (change : Option (List Byte → List Byte)) : (s.granuleOp o part req dam change).1.memoriesOk = true := by
  unfold State.granuleOp
  dsimp only
  split
  · cases change with
    | none => simp [h]
    | some f => dsimp only; split <;> simp [h]
  · split
    · next heq => exact State.memoriesOk_of_eq (State.memoriesOk_zline h _ _ _) heq
    · next heq =>
      have ht := State.memoriesOk_of_eq (State.memoriesOk_zline h _ _ _) heq
      cases change with
      | none => dsimp only; split <;> simp [ht]
      | some f => dsimp only; repeat' split
                  all_goals simp [ht]

@[simp] theorem State.memoriesOk_writeGranule (h : s.memoriesOk = true) (o : Nat) (bs : List Byte) (bad : Bool) :
    (s.writeGranule o bs bad).memoriesOk = true := by
  unfold State.writeGranule
  dsimp only
  split
  · simp [h]
  · split
    · next heq => exact State.memoriesOk_of_eq (State.memoriesOk_zline h _ _ _) heq
    · next heq =>
      have ht := State.memoriesOk_of_eq (State.memoriesOk_zline h _ _ _) heq
      split <;> simp [ht]

@[simp] theorem State.memoriesOk_perform (h : s.memoriesOk = true) (r : MemReq) (dam : Damage) :
    (State.perform s r dam).1.memoriesOk = true := by
  unfold State.perform
  dsimp only
  repeat' split
  all_goals simp -implicitDefEqProofs [h]

@[simp] theorem State.memoriesOk_answerMem (s : State) (d : Nat) (r : MemReq) (bad : Bool) (bs : List Byte) :
    (State.answerMem s d r bad bs).memoriesOk = s.memoriesOk := rfl

@[simp] theorem State.memoriesOk_lcTake (s : State) (d : Nat) (c : Nat) (g : Nat) (ahead : Bool) :
    (State.lcTake s d c g ahead).memoriesOk = s.memoriesOk := by
  simp [State.lcTake]

@[simp] theorem State.memoriesOk_useChannel (s : State) (r : MemReq) (g : Nat) :
    (State.useChannel s r g).memoriesOk = s.memoriesOk := by
  simp [State.useChannel]

@[simp] theorem State.memoriesOk_serve (h : s.memoriesOk = true) (d : Nat) (r : MemReq) (dam : Damage) :
    (State.serve s d r dam).memoriesOk = true := by
  simp -implicitDefEqProofs [State.serve, h]

@[simp] theorem State.memoriesOk_settle (h : s.memoriesOk = true) (p : Place) : (s.settle p).memoriesOk = true :=
  State.memoriesOk_foldl (by simp [h]) fun _ _ ht => State.memoriesOk_serve ht _ _ _

@[simp] theorem State.memoriesOk_takePiece (s : State) (paid : Nat → Bool) (q : MemReq) (g : Nat) :
    (State.takePiece s paid q g).memoriesOk = s.memoriesOk := by
  simp [State.takePiece]

@[simp] theorem State.memoriesOk_requestPiece (h : s.memoriesOk = true) (paid : Nat → Bool) (q : MemReq) :
    (State.requestPiece s paid q).1.memoriesOk = true := by
  unfold State.requestPiece
  split <;> simp -implicitDefEqProofs [h]

@[simp] theorem State.memoriesOk_poisonPiece (h : s.memoriesOk = true) (paid : Nat → Bool) (q : MemReq) :
    (State.poisonPiece s paid q).memoriesOk = true := by
  simp -implicitDefEqProofs [State.poisonPiece, h]

@[simp] theorem State.memoriesOk_request (h : s.memoriesOk = true) (r : MemReq) : (s.request r).1.memoriesOk = true :=
  State.memoriesOk_foldl_fst h fun _ _ hq => State.memoriesOk_foldl_fst hq fun _ _ hp => State.memoriesOk_requestPiece hp _ _

@[simp] theorem State.memoriesOk_readMem (h : s.memoriesOk = true) (req : Nat) (part : Nat) (o : Nat) (n : Nat) (lc : Bool) :
    (State.readMem s req part o n lc).1.memoriesOk = true := by
  simp -implicitDefEqProofs [State.readMem, h]

@[simp] theorem State.memoriesOk_writeMem (h : s.memoriesOk = true) (req : Nat) (part : Nat) (o : Nat) (bs : List Byte) :
    (State.writeMem s req part o bs).1.memoriesOk = true := by
  simp -implicitDefEqProofs [State.writeMem, h]

@[simp] theorem State.memoriesOk_admitReq (s : State) (d : Nat) (r : MemReq) :
    (State.admitReq s d r).memoriesOk = s.memoriesOk := by
  simp [State.admitReq]

@[simp] theorem State.memoriesOk_arrive (s : State) (d : Nat) (r : MemReq) (g : List MemReq) :
    (State.arrive s d r g).memoriesOk = s.memoriesOk := by
  simp [State.arrive]

@[simp] theorem State.memoriesOk_answerOffline (s : State) (d : Nat) (r : MemReq) :
    (State.answerOffline s d r).memoriesOk = s.memoriesOk := by
  simp [State.answerOffline]

@[simp] theorem State.memoriesOk_refreshBank (s : State) (d : Nat) (c : Nat) (b : Nat) :
    (State.refreshBank s d c b).memoriesOk = s.memoriesOk := rfl

@[simp] theorem State.memoriesOk_creditTick (s : State) (d : Nat) (k : Nat) :
    (State.creditTick s d k).memoriesOk = s.memoriesOk := rfl

@[simp] theorem State.memoriesOk_initStack (h : s.memoriesOk = true) (d i : Nat) : (s.initStack d i).memoriesOk = true :=
  State.memoriesOk_of_mem h rfl rfl (Memory.wf_outside (State.wf_memBytes h) _ _)

@[simp] theorem State.memoriesOk_enableZrange (s : State) (d : Nat) (k : Nat) (v : W64) :
    (State.enableZrange s d k v).memoriesOk = s.memoriesOk := by
  simp [State.enableZrange]

@[simp] theorem State.memoriesOk_disableZrange (s : State) (d : Nat) (k : Nat) (v : W64) :
    (State.disableZrange s d k v).memoriesOk = s.memoriesOk := by
  simp [State.disableZrange]

@[simp] theorem State.memoriesOk_askProbe (s : State) (n : Nat) (j : Nat) (followUp : Bool) :
    (State.askProbe s n j followUp).memoriesOk = s.memoriesOk := by
  simp [State.askProbe]

@[simp] theorem State.memoriesOk_probeNext (s : State) (n : Nat) (from_ : Nat) :
    (State.probeNext s n from_).memoriesOk = s.memoriesOk := by
  unfold State.probeNext
  split <;> simp

@[simp] theorem State.memoriesOk_probeCut (s : State) (n : Nat) (j : Nat) (followUp : Bool) :
    (State.probeCut s n j followUp).memoriesOk = s.memoriesOk := by
  simp [State.probeCut]

theorem Memory.wf_mergeLines {m : Memory} (h : m.wf = true) (new : Memory) (pick : Nat → Bool) : (mergeLines m new pick).wf = true :=
  Memory.wf_foldl h fun m a hm => by
    split
    · exact Memory.wf_setByte m a _ hm
    · exact hm

theorem State.wf_stopped (s : State) {c : Core} (h : c.store.wf = true) : (s.stopped c).wf = true := by
  have hgs : (c.gs.zipIdx.foldl (fun m (g, i) => mergeLines m (g.run m 0).store (s.linePick i)) c.store).wf = true :=
    Memory.wf_foldl h fun m x hm => Memory.wf_mergeLines hm _ _
  unfold State.stopped
  dsimp only
  split
  · exact Memory.wf_mergeLines hgs _ _
  · exact hgs

@[simp] theorem State.memoriesOk_abandonWork (h : s.memoriesOk = true) (n : Nat) : (s.abandonWork n).memoriesOk = true := by
  refine State.memoriesOk_foldl ?_ fun t x ht => by simp [ht]
  exact State.memoriesOk_setCore h n (State.wf_stopped s (State.wf_coreAt_store h n))

@[simp] theorem State.memoriesOk_enterReset (h : s.memoriesOk = true) (n : Nat) :
    (State.enterReset s n).memoriesOk = true := by
  simp -implicitDefEqProofs [State.enterReset, h]

@[simp] theorem State.memoriesOk_releaseReset (s : State) (n : Nat) :
    (State.releaseReset s n).memoriesOk = s.memoriesOk := by
  simp -implicitDefEqProofs [State.releaseReset]

@[simp] theorem State.memoriesOk_fenceCore (h : s.memoriesOk = true) (n : Nat) :
    (State.fenceCore s n).memoriesOk = true := by
  simp -implicitDefEqProofs [State.fenceCore, h]

@[simp] theorem State.memoriesOk_arm (s : State) (n : Nat) :
    (State.arm s n).memoriesOk = s.memoriesOk := by
  simp [State.arm]

@[simp] theorem State.memoriesOk_writeCtrl (h : s.memoriesOk = true) (n : Nat) (v : W64) :
    (State.writeCtrl s n v).memoriesOk = true := by
  simp -implicitDefEqProofs [State.writeCtrl, h]

@[simp] theorem State.memoriesOk_jumpTo (s : State) (v : W64) :
    (State.jumpTo s v).memoriesOk = s.memoriesOk := rfl

@[simp] theorem State.memoriesOk_loadCounter (s : State) (v : W64) :
    (State.loadCounter s v).memoriesOk = s.memoriesOk := rfl

@[simp] theorem State.memoriesOk_tick (s : State) :
    (State.tick s).memoriesOk = s.memoriesOk := by
  simp [State.tick]

@[simp] theorem State.memoriesOk_steerBy (s : State) (off : ℤ) :
    (State.steerBy s off).memoriesOk = s.memoriesOk := rfl

@[simp] theorem State.memoriesOk_setNbr (s : State) (p : Nat) (x : Nbr) :
    (State.setNbr s p x).memoriesOk = s.memoriesOk := rfl

@[simp] theorem State.memoriesOk_enterTime (s : State) (new : TState) :
    (State.enterTime s new).memoriesOk = s.memoriesOk := by
  simp [State.enterTime]

@[simp] theorem State.memoriesOk_follow (s : State) (p : Option Nat) :
    (State.follow s p).memoriesOk = s.memoriesOk := by
  simp [State.follow]

@[simp] theorem State.memoriesOk_steerPtp (s : State) :
    (State.steerPtp s).memoriesOk = s.memoriesOk := rfl

@[simp] theorem State.memoriesOk_bePrimary (s : State) (prio : Nat) :
    (State.bePrimary s prio).memoriesOk = s.memoriesOk := by
  simp [State.bePrimary]

@[simp] theorem State.memoriesOk_correctBy (s : State) (ticks : ℤ) :
    (State.correctBy s ticks).memoriesOk = s.memoriesOk := by
  simp [State.correctBy]

@[simp] theorem State.memoriesOk_rejectParent (s : State) (p : Nat) (far : Bool) :
    (State.rejectParent s p far).memoriesOk = s.memoriesOk := by
  simp [State.rejectParent]

@[simp] theorem State.memoriesOk_conflict (s : State) (p : Nat) :
    (State.conflict s p).memoriesOk = s.memoriesOk := by
  simp [State.conflict]

@[simp] theorem State.memoriesOk_withParent (s : State) (p : Nat) (linkLost : Bool) :
    (State.withParent s p linkLost).memoriesOk = s.memoriesOk := by
  unfold State.withParent
  dsimp only
  split <;> simp

@[simp] theorem State.memoriesOk_withoutParent (s : State) (linkLost : Bool) :
    (State.withoutParent s linkLost).memoriesOk = s.memoriesOk := by
  unfold State.withoutParent
  split <;> simp

@[simp] theorem State.memoriesOk_asPrimary (s : State) (prio : Nat) :
    (State.asPrimary s prio).memoriesOk = s.memoriesOk := by
  unfold State.asPrimary
  split <;> simp

@[simp] theorem State.memoriesOk_evalTime1 (s : State) :
    (State.evalTime1 s).memoriesOk = s.memoriesOk := by
  unfold State.evalTime1
  dsimp only
  repeat' split
  all_goals simp

@[simp] theorem State.memoriesOk_evalTime (s : State) :
    (State.evalTime s).memoriesOk = s.memoriesOk := by
  simp [State.evalTime]

@[simp] theorem State.memoriesOk_hear (s : State) (p : Nat) (f : Words4) (fine : BitVec 4) (st : TState) :
    (State.hear s p f fine st).memoriesOk = s.memoriesOk := rfl

@[simp] theorem State.memoriesOk_parentExchange (s : State) (p : Nat) (off : ℤ) (delay : ℤ) :
    (State.parentExchange s p off delay).memoriesOk = s.memoriesOk := by
  unfold State.parentExchange
  dsimp only
  repeat' split
  all_goals simp

@[simp] theorem State.memoriesOk_takeExchange (s : State) (p : Nat) (off : ℤ) (delay : ℤ) :
    (State.takeExchange s p off delay).memoriesOk = s.memoriesOk := by
  simp [State.takeExchange]

@[simp] theorem State.memoriesOk_timeFrame (s : State) (p : Nat) (f : Words4) (fine : BitVec 4) :
    (State.timeFrame s p f fine).memoriesOk = s.memoriesOk := by
  unfold State.timeFrame
  split <;> simp

@[simp] theorem State.memoriesOk_setPtpSide (s : State) (e : Nat) (x : PtpSide) :
    (State.setPtpSide s e x).memoriesOk = s.memoriesOk := rfl

@[simp] theorem State.memoriesOk_ptpTurn (s : State) :
    (State.ptpTurn s).memoriesOk = s.memoriesOk := rfl

@[simp] theorem State.memoriesOk_onOscillator (s : State) :
    (State.onOscillator s).memoriesOk = s.memoriesOk := rfl

@[simp] theorem State.memoriesOk_ptpMeasured (s : State) (e : Nat) (offset : ℤ) (lock : Option Bool) :
    (State.ptpMeasured s e offset lock).memoriesOk = s.memoriesOk := by
  simp [State.ptpMeasured]

@[simp] theorem State.memoriesOk_ptpSynced (s : State) (e : Nat) (t1 : ℤ) (t2 : ℤ) :
    (State.ptpSynced s e t1 t2).memoriesOk = s.memoriesOk := by
  unfold State.ptpSynced
  dsimp only
  split <;> simp

@[simp] theorem State.memoriesOk_ptpTake (s : State) (e : Nat) (m : PtpMsg) :
    (State.ptpTake s e m).memoriesOk = s.memoriesOk := by
  unfold State.ptpTake
  dsimp only
  repeat' split
  all_goals simp

@[simp] theorem State.memoriesOk_ptpForget (s : State) (e : Nat) (gone : PtpTx → Bool) :
    (State.ptpForget s e gone).memoriesOk = s.memoriesOk := rfl

@[simp] theorem State.memoriesOk_setFaults (s : State) (n : Nat) (j : Nat) (x : Nat × Nat) :
    (State.setFaults s n j x).memoriesOk = s.memoriesOk := rfl

@[simp] theorem State.memoriesOk_raiseGuardBand (s : State) (d : Nat) :
    (State.raiseGuardBand s d).memoriesOk = s.memoriesOk := by
  simp [State.raiseGuardBand]

@[simp] theorem State.memoriesOk_fenceArray (h : s.memoriesOk = true) (n j : Nat) (whole : Bool) :
    (s.fenceArray n j whole).memoriesOk = true := by
  have hf : (if whole then s.fenceCore n else s).memoriesOk = true := by split <;> simp [h]
  unfold State.fenceArray
  generalize (if whole then s.fenceCore n else s) = t at hf
  dsimp only
  split <;> simp [hf]

@[simp] theorem State.memoriesOk_addFault (h : s.memoriesOk = true) (n : Nat) (j : Nat) :
    (State.addFault s n j).memoriesOk = true := by
  simp -implicitDefEqProofs [State.addFault, h]

@[simp] theorem State.memoriesOk_mismatch (s : State) (n : Nat) (named : Nat) (shadow : Nat) (fmt : Nat) (seq : Nat) :
    (State.mismatch s n named shadow fmt seq).memoriesOk = s.memoriesOk := by
  simp [State.mismatch]

@[simp] theorem State.memoriesOk_posCycle (h : s.memoriesOk = true) (n : Nat) (j : Nat) :
    (State.posCycle s n j).memoriesOk = true := by
  simp -implicitDefEqProofs [State.posCycle, h]

@[simp] theorem State.memoriesOk_arrayCycles (h : s.memoriesOk = true) : s.arrayCycles.memoriesOk = true :=
  State.memoriesOk_foldl h fun t e ht => by
    split
    · exact State.memoriesOk_foldl ht fun u x hu => State.memoriesOk_posCycle hu _ _
    · exact ht

@[simp] theorem State.memoriesOk_confirm (h : s.memoriesOk = true) (n j : Nat) : (s.confirm n j).memoriesOk = true :=
  State.memoriesOk_foldl (by simp [h]) fun _ _ ht => State.memoriesOk_addFault (by simp [ht]) _ _

@[simp] theorem State.memoriesOk_probeDone (h : s.memoriesOk = true) (n : Nat) (j : Nat) (ok : Bool) (followUp : Bool) :
    (State.probeDone s n j ok followUp).memoriesOk = true := by
  simp -implicitDefEqProofs [State.probeDone, h]

@[simp] theorem State.memoriesOk_clearFaults (s : State) (n : Nat) :
    (State.clearFaults s n).memoriesOk = s.memoriesOk := by
  simp [State.clearFaults]

@[simp] theorem State.memoriesOk_probeCore (s : State) (n : Nat) :
    (State.probeCore s n).memoriesOk = s.memoriesOk := by
  simp [State.probeCore]

@[simp] theorem State.memoriesOk_warm (s : State) (n : Nat) (a : Nat) (ticks : Nat) :
    (State.warm s n a ticks).memoriesOk = s.memoriesOk := by
  unfold State.warm
  split <;> simp

@[simp] theorem State.memoriesOk_acceptTile (s : State) (n : Nat) (a : Nat) (j : Nat) (o : TileOp) (rest : List TileOp) :
    (State.acceptTile s n a j o rest).memoriesOk = s.memoriesOk := by
  unfold State.acceptTile
  dsimp only
  repeat' split
  all_goals simp

@[simp] theorem State.memoriesOk_stepPos (s : State) (n : Nat) (j : Nat) (b : TileBlk) (rows : List (List ABlk)) (cols : List ACol) (o : StepOut) :
    (State.stepPos s n j b rows cols o).memoriesOk = s.memoriesOk := by
  simp [State.stepPos]

@[simp] theorem State.memoriesOk_tileStep (s : State) (n : Nat) (j : Nat) (r : TileRun) (sums : List W32) :
    (State.tileStep s n j r sums).memoriesOk = s.memoriesOk := by
  unfold State.tileStep
  dsimp only
  repeat' split
  all_goals simp

@[simp] theorem State.memoriesOk_startTile (s : State) (n : Nat) (j : Nat) (r : TileRun) :
    (State.startTile s n j r).memoriesOk = s.memoriesOk := by
  simp [State.startTile]

@[simp] theorem State.memoriesOk_comparator (s : State) (n : Nat) (named : Nat) (shadow : Nat) (r : TileRun) (out : List W32) (sh : List W32) :
    (State.comparator s n named shadow r out sh).memoriesOk = s.memoriesOk := by
  unfold State.comparator
  split <;> simp

theorem TileBlk.wf_writeOut (b : TileBlk) {st : Memory} (h : st.wf = true) (out : List W32) : (b.writeOut st out).wf = true :=
  Memory.wf_foldl h fun m _ hm => Memory.wf_write _ m _ hm

@[simp] theorem State.memoriesOk_writeBack (h : s.memoriesOk = true) (n j : Nat) (r : TileRun) (flips shadowFlips : List (Nat × BitVec 32)) :
    (s.writeBack n j r flips shadowFlips).memoriesOk = true := by
  unfold State.writeBack
  dsimp only
  rw [State.memoriesOk_countCore]
  have hs : (s.setPos n j { s.posAt n j with wb := (s.posAt n j).wb.tail }).memoriesOk = true := by simp [h]
  generalize s.setPos n j { s.posAt n j with wb := (s.posAt n j).wb.tail } = u at hs
  have hw := State.memoriesOk_setCore (c := { u.coreAt n with store := r.op.blk.writeOut (u.coreAt n).store (r.output flips) }) hs n
    (TileBlk.wf_writeOut _ (State.wf_coreAt_store hs n) _)
  cases r.mate <;> dsimp only <;> split <;> simp [hw]

@[simp] theorem State.memoriesOk_setUpd (s : State) (d : Nat) (x : UpdDie) :
    (State.setUpd s d x).memoriesOk = s.memoriesOk := rfl

@[simp] theorem State.memoriesOk_putGroup (s : State) (d : Nat) (g : Nat) (r : List W64) :
    (State.putGroup s d g r).memoriesOk = s.memoriesOk := rfl

@[simp] theorem State.memoriesOk_callDone (h : s.memoriesOk = true) (d : Nat) (n : Nat) (cnt : Nat) (g : Nat) (lastStep : Option Nat) :
    (State.callDone s d n cnt g lastStep).memoriesOk = true := by
  unfold State.callDone
  split <;> simp -implicitDefEqProofs [h]

@[simp] theorem State.memoriesOk_skipCall (s : State) (d : Nat) (g : Nat) :
    (State.skipCall s d g).memoriesOk = s.memoriesOk := rfl

@[simp] theorem State.memoriesOk_callLeft (s : State) (n : Nat) :
    (State.callLeft s n).memoriesOk = s.memoriesOk := by
  simp [State.callLeft]

@[simp] theorem State.memoriesOk_readSpan (h : s.memoriesOk = true) (part o n : Nat) : (s.readSpan part o n).1.memoriesOk = true :=
  State.memoriesOk_foldl_fst h fun _ _ hq => State.memoriesOk_requestPiece hq _ _

@[simp] theorem State.memoriesOk_writeSpan (h : s.memoriesOk = true) (torn : Bool) (part o : Nat) (bs : List Byte) (skip : List Nat) :
    (s.writeSpan torn part o bs skip).memoriesOk = true :=
  State.memoriesOk_foldl h fun t q ht => by
    have hu : (if torn then t.useFree else t).memoriesOk = true := by split <;> simp [ht]
    dsimp only
    split
    · exact hu
    · exact State.memoriesOk_requestPiece hu _ _

@[simp] theorem State.memoriesOk_acceptCall (h : s.memoriesOk = true) (kind : Nat) (n : Nat) (cnt : Nat) (w : List W64) :
    (State.acceptCall s kind n cnt w).memoriesOk = true := by
  unfold State.acceptCall
  dsimp only
  split <;> simp -implicitDefEqProofs [h]

@[simp] theorem State.memoriesOk_acceptRefresh (s : State) (n : Nat) (cnt : Nat) (g : Nat) :
    (State.acceptRefresh s n cnt g).memoriesOk = s.memoriesOk := by
  simp [State.acceptRefresh]

@[simp] theorem State.memoriesOk_present (h : s.memoriesOk = true) (kind : Nat) (n : Nat) (cnt : Nat) (w : List W64) :
    (State.present s kind n cnt w).memoriesOk = true := by
  simp -implicitDefEqProofs [State.present, h]

@[simp] theorem State.memoriesOk_updIssue (h : s.memoriesOk = true) (kind n : Nat) (f : CF) : (s.updIssue kind n f).memoriesOk = true := by
  refine State.memoriesOk_runC h _ _ _ fun c hc => ?_
  split
  · split <;> simp [h]
  · dsimp only
    split
    · exact h
    · exact State.memoriesOk_present (State.memoriesOk_done h _ hc) _ _ _ _

@[simp] theorem State.memoriesOk_sawNonfinite (s : State) (torn : Bool) (d : Nat) (n : Nat) (k : Nat) :
    (State.sawNonfinite s torn d n k).memoriesOk = s.memoriesOk := by
  simp [State.sawNonfinite]

@[simp] theorem State.memoriesOk_updMemError (s : State) (d : Nat) (part : Nat) (failed : Bool) :
    (State.updMemError s d part failed).memoriesOk = s.memoriesOk := by
  simp [State.updMemError]

@[simp] theorem State.memoriesOk_updateSpan (h : s.memoriesOk = true) (torn : Bool) (c : UCall) (e pOff gOff sOff n : Nat) :
    (s.updateSpan torn c e pOff gOff sOff n).1.memoriesOk = true :=
  State.memoriesOk_writeSpan (State.memoriesOk_writeSpan (State.memoriesOk_readSpan (State.memoriesOk_readSpan
    (State.memoriesOk_readSpan h _ _ _) _ _ _) _ _ _) _ _ _ _ _) _ _ _ _ _

@[simp] theorem State.memoriesOk_zeroGradAt (h : s.memoriesOk = true) (torn : Bool) (c : UCall) (i : Nat) (n : Nat) :
    (State.zeroGradAt s torn c i n).memoriesOk = true := by
  simp -implicitDefEqProofs [State.zeroGradAt, h]

@[simp] theorem State.memoriesOk_zeroGrad (h : s.memoriesOk = true) (torn : Bool) (c : UCall) (n : Nat) :
    (State.zeroGrad s torn c n).memoriesOk = true := by
  simp -implicitDefEqProofs [State.zeroGrad, h]

@[simp] theorem State.memoriesOk_runDense (h : s.memoriesOk = true) (torn : Bool) (d : Nat) (c : UCall) :
    (State.runDense s torn d c).memoriesOk = true := by
  simp -implicitDefEqProofs [State.runDense, h]

@[simp] theorem State.memoriesOk_runRow (h : s.memoriesOk = true) (torn : Bool) (d : Nat) (c : UCall) (i : Nat) :
    (State.runRow s torn d c i).memoriesOk = true := by
  simp -implicitDefEqProofs [State.runRow, h]

@[simp] theorem State.memoriesOk_runRows (h : s.memoriesOk = true) (torn : Bool) (d : Nat) (c : UCall) (n : Nat) :
    (s.runRows torn d c n).memoriesOk = true := by
  simp only [State.runRows, State.memoriesOk_updMemError]
  exact State.memoriesOk_foldl h fun _ _ ht => State.memoriesOk_runRow ht _ _ _ _

@[simp] theorem State.memoriesOk_runFactored (h : s.memoriesOk = true) (torn : Bool) (d : Nat) (c : UCall) :
    (s.runFactored torn d c).memoriesOk = true := by
  have hr : ∀ {u : State} (o n : Nat), u.memoriesOk = true → (u.readSpan c.part o n).1.memoriesOk = true :=
    fun _ _ hu => State.memoriesOk_readSpan hu _ _ _
  have hw : ∀ {u : State} (o : Nat) (bs : List Byte), u.memoriesOk = true → (u.writeSpan torn c.part o bs []).memoriesOk = true :=
    fun _ _ hu => State.memoriesOk_writeSpan hu _ _ _ _ _
  unfold State.runFactored
  dsimp only
  repeat' split
  · exact (State.memoriesOk_updMemError _ _ _ _).trans
      (State.memoriesOk_zeroGrad (hr _ _ (hr _ _ (hr _ _ (hr _ _ (hr _ _ (hr _ _ h)))))) _ _ _)
  · exact (State.memoriesOk_sawNonfinite _ _ _ _ _).trans
      (State.memoriesOk_zeroGrad (hr _ _ (hr _ _ (hr _ _ (hr _ _ (hr _ _ (hr _ _ h)))))) _ _ _)
  · exact State.memoriesOk_zeroGrad (hw _ _ (hw _ _ (hw _ _ (hw _ _
      (hr _ _ (hr _ _ (hr _ _ (hr _ _ (hr _ _ (hr _ _ h)))))))))) _ _ _

@[simp] theorem State.memoriesOk_readMat (h : s.memoriesOk = true) (part : Nat) (o : Nat) (b : Nat) :
    (State.readMat s part o b).1.memoriesOk = true := by
  simp -implicitDefEqProofs [State.readMat, h]

@[simp] theorem State.memoriesOk_writeMat (h : s.memoriesOk = true) (torn : Bool) (part : Nat) (o : Nat) (a : Mat) :
    (State.writeMat s torn part o a).memoriesOk = true := by
  simp -implicitDefEqProofs [State.writeMat, h]

@[simp] theorem State.memoriesOk_readRows (h : s.memoriesOk = true) (part size : Nat) (off : Nat → Nat) (cols : Nat)
    (rows : List (Nat × Nat × Nat)) : (s.readRows part size off cols rows).1.memoriesOk = true :=
  State.memoriesOk_foldl_fst h fun _ _ hq => State.memoriesOk_readSpan hq _ _ _

@[simp] theorem State.memoriesOk_writeRows (h : s.memoriesOk = true) (torn : Bool) (part size : Nat) (off : Nat → Nat) (cols : Nat)
    (rows : List ((Nat × Nat × Nat) × List Nat)) : (s.writeRows torn part size off cols rows).memoriesOk = true :=
  State.memoriesOk_foldl h fun _ _ ht => State.memoriesOk_writeSpan ht _ _ _ _ _

@[simp] theorem State.memoriesOk_readMatIf (h : s.memoriesOk = true) (use : Bool) (part : Nat) (o : Nat) (b : Nat) :
    (State.readMatIf s use part o b).1.memoriesOk = true := by
  unfold State.readMatIf
  split <;> simp -implicitDefEqProofs [h]

@[simp] theorem State.memoriesOk_runBlock (h : s.memoriesOk = true) (torn : Bool) (d : Nat) (c : UCall) (a b : Nat) :
    (s.runBlock torn d c a b).memoriesOk = true := by
  have hr : ∀ {u : State} {size cols : Nat} {off : Nat → Nat} {rows : List (Nat × Nat × Nat)}, u.memoriesOk = true →
      (u.readRows c.part size off cols rows).1.memoriesOk = true := fun hu => State.memoriesOk_readRows hu _ _ _ _ _
  have hm : ∀ {u : State} {use : Bool} {o n : Nat}, u.memoriesOk = true → (u.readMatIf use c.part o n).1.memoriesOk = true :=
    fun hu => State.memoriesOk_readMatIf hu _ _ _ _
  have hw : ∀ {u : State} {size cols : Nat} {off : Nat → Nat} {rows : List ((Nat × Nat × Nat) × List Nat)}, u.memoriesOk = true →
      (u.writeRows torn c.part size off cols rows).memoriesOk = true := fun hu => State.memoriesOk_writeRows hu _ _ _ _ _ _
  have hx : ∀ {u : State} {use : Bool} {o : Nat} {x : Mat}, u.memoriesOk = true →
      (if use then u.writeMat torn c.part o x else u).memoriesOk = true := fun hu =>
    State.memoriesOk_ite_of (State.memoriesOk_writeMat hu _ _ _ _) hu
  unfold State.runBlock
  dsimp only
  split
  · exact (State.memoriesOk_updMemError _ _ _ _).trans
      (hm (hm (hm (hm (State.memoriesOk_readSpan (hr (hr (hr h))) _ _ _)))))
  · split
    · exact (State.memoriesOk_sawNonfinite _ _ _ _ _).trans
        (hm (hm (hm (hm (State.memoriesOk_readSpan (hr (hr (hr h))) _ _ _)))))
    · exact hx (hx (hw (hw (hm (hm (hm (hm (State.memoriesOk_readSpan (hr (hr (hr h))) _ _ _))))))))

@[simp] theorem State.memoriesOk_runCall (h : s.memoriesOk = true) (torn : Option Nat) (d : Nat) (c : UCall) :
    (s.runCall torn d c).memoriesOk = true := by
  unfold State.runCall
  dsimp only
  split
  · exact (State.memoriesOk_updMemError _ _ _ _).trans (State.memoriesOk_zeroGrad (State.memoriesOk_readSpan h _ _ _) _ _ _)
  · split
    · simp [h]
    · split
      · simp [h]
      · exact State.memoriesOk_zeroGrad (State.memoriesOk_foldl h fun _ _ ht => State.memoriesOk_runBlock ht _ _ _ _ _) _ _ _
      · simp [h]

@[simp] theorem State.memoriesOk_endCall (h : s.memoriesOk = true) (d : Nat) (c : UCall) :
    (State.endCall s d c).memoriesOk = true := by
  simp -implicitDefEqProofs [State.endCall, h]

@[simp] theorem State.memoriesOk_readFactors (h : s.memoriesOk = true) (d : Nat) (x : URefresh) (rest : List URefresh) :
    (State.readFactors s d x rest).memoriesOk = true := by
  simp -implicitDefEqProofs [State.readFactors, h]

@[simp] theorem State.memoriesOk_writeHeader (h : s.memoriesOk = true) (torn : Bool) (part : Nat) (at_ : Nat) (h' : Nat) :
    (State.writeHeader s torn part at_ h').memoriesOk = true := by
  simp -implicitDefEqProofs [State.writeHeader, h]

@[simp] theorem State.memoriesOk_blockFresh (s : State) (d : Nat) (g : Nat) (idx : Nat) :
    (State.blockFresh s d g idx).memoriesOk = s.memoriesOk := rfl

@[simp] theorem State.memoriesOk_refreshFail (h : s.memoriesOk = true) (torn : Bool) (d : Nat) (g : Nat) (part : Nat) (at_ : Nat) (h' : Nat) :
    (State.refreshFail s torn d g part at_ h').memoriesOk = true := by
  simp -implicitDefEqProofs [State.refreshFail, h]

@[simp] theorem State.memoriesOk_refreshBlock (h : s.memoriesOk = true) (torn : Bool) (d : Nat) (x : URefresh) (f : Mat × Mat × Bool) :
    (s.refreshBlock torn d x f).memoriesOk = true := by
  have hw : ∀ {u : State} {use : Bool} {o : Nat} {a : Mat}, u.memoriesOk = true →
      (if use then u.writeMat torn x.part o a else u).memoriesOk = true := fun hu => by split <;> simp [hu]
  have hr : ∀ {o n : Nat}, (s.readSpan x.part o n).1.memoriesOk = true := State.memoriesOk_readSpan h _ _ _
  unfold State.refreshBlock
  dsimp only
  split
  · simp [hr]
  · split
    · have hh : ∀ {u : State} {o k : Nat}, u.memoriesOk = true → (u.writeHeader torn x.part o k).memoriesOk = true :=
        fun hu => State.memoriesOk_writeHeader hu _ _ _ _
      split
      · exact hh (hw (hw hr))
      · simp only [State.memoriesOk_bump, State.memoriesOk_blockFresh]
        exact hh (hw (hw hr))
    · simp [hr]

@[simp] theorem State.memoriesOk_refreshDone (s : State) (d : Nat) (x : URefresh) (rest : List URefresh) :
    (s.refreshDone d x rest).memoriesOk = s.memoriesOk := by
  simp [State.refreshDone]

@[simp] theorem State.memoriesOk_swapBlock (h : s.memoriesOk = true) (d : Nat) (part : Nat) (at_ : Nat) (step : Nat) :
    (State.swapBlock s d part at_ step).memoriesOk = true := by
  simp -implicitDefEqProofs [State.swapBlock, h]

@[simp] theorem State.memoriesOk_swapBlocks (h : s.memoriesOk = true) (d : Nat) (c : UCall) : (s.swapBlocks d c).memoriesOk = true := by
  unfold State.swapBlocks
  split
  · exact State.memoriesOk_foldl h fun _ _ ht => State.memoriesOk_swapBlock ht _ _ _ _
  · exact h

@[simp] theorem State.memoriesOk_stopCall (h : s.memoriesOk = true) (d : Nat) (c : UCall) :
    (State.stopCall s d c).memoriesOk = true := by
  simp -implicitDefEqProofs [State.stopCall, h]

@[simp] theorem State.memoriesOk_stopRefresh (h : s.memoriesOk = true) (d : Nat) (x : URefresh) :
    (State.stopRefresh s d x).memoriesOk = true := by
  unfold State.stopRefresh
  split <;> simp -implicitDefEqProofs [h]

@[simp] theorem State.memoriesOk_updTeardown (h : s.memoriesOk = true) (d part : Nat) : (s.updTeardown d part).memoriesOk = true := by
  simp only [State.updTeardown, State.memoriesOk_setUpd]
  exact State.memoriesOk_foldl (State.memoriesOk_foldl h fun _ _ ht => State.memoriesOk_stopCall ht _ _) fun _ _ ht =>
    State.memoriesOk_stopRefresh ht _ _

@[simp] theorem State.memoriesOk_loadGroup (s : State) (d : Nat) (v : W64) :
    (State.loadGroup s d v).memoriesOk = s.memoriesOk := by
  simp -implicitDefEqProofs [State.loadGroup]

@[simp] theorem State.memoriesOk_commitGroup (s : State) (d : Nat) (g : Nat) (r : List W64) :
    (State.commitGroup s d g r).memoriesOk = s.memoriesOk := by
  simp [State.commitGroup]

@[simp] theorem State.memoriesOk_writeGcmd (s : State) (d : Nat) (v : W64) :
    (State.writeGcmd s d v).memoriesOk = s.memoriesOk := by
  simp [State.writeGcmd]

@[simp] theorem State.memoriesOk_loadUpd (s : State) (d : Nat) :
    (State.loadUpd s d).memoriesOk = s.memoriesOk := rfl

@[simp] theorem State.memoriesOk_resetRegs (s : State) (lo : Nat) (hi : Nat) :
    (State.resetRegs s lo hi).memoriesOk = s.memoriesOk := rfl

@[simp] theorem State.memoriesOk_dropUncrossed (s : State) (d : Nat) :
    (State.dropUncrossed s d).memoriesOk = s.memoriesOk := rfl

@[simp] theorem State.memoriesOk_voidDirect (s : State) (d : Nat) :
    (State.voidDirect s d).memoriesOk = s.memoriesOk := by
  simp [State.voidDirect]

@[simp] theorem State.memoriesOk_coreDown (h : s.memoriesOk = true) (d : Nat) : (s.coreDown d).memoriesOk = true := by
  unfold State.coreDown
  have ht : (((s.dropUncrossed d).voidDirect d).endMismatches d).accrueSlow.memoriesOk = true := by simp [h]
  generalize (((s.dropUncrossed d).voidDirect d).endMismatches d).accrueSlow = t at ht
  simp only [State.memoriesOk_resetRegs, State.memoriesOk_setUpd]
  refine State.memoriesOk_of_core ht rfl rfl (storesOk_map (State.storesOk_core ht) fun e he => ?_)
  split
  · rfl
  · exact he

@[simp] theorem State.memoriesOk_coreUp (s : State) (d : Nat) :
    (State.coreUp s d).memoriesOk = s.memoriesOk := rfl

@[simp] theorem State.memoriesOk_loseMemory (h : s.memoriesOk = true) (d : Nat) : (s.loseMemory d).memoriesOk = true :=
  State.memoriesOk_of_mem h rfl rfl (Memory.wf_outside (State.wf_memBytes h) _ _)

@[simp] theorem State.memoriesOk_memDown (h : s.memoriesOk = true) (d : Nat) :
    (State.memDown s d).memoriesOk = true := by
  simp -implicitDefEqProofs [State.memDown, h]

@[simp] theorem State.memoriesOk_loadRegulators (s : State) (d : Nat) :
    (State.loadRegulators s d).memoriesOk = s.memoriesOk := by
  simp [State.loadRegulators]

@[simp] theorem State.memoriesOk_memUp (s : State) (d : Nat) :
    (State.memUp s d).memoriesOk = s.memoriesOk := by
  simp [State.memUp]

@[simp] theorem State.memoriesOk_faultParts (s : State) (index : Nat) (cause : Nat) (p : Nat → Bool) :
    (State.faultParts s index cause p).memoriesOk = s.memoriesOk := by
  simp [State.faultParts]

@[simp] theorem State.memoriesOk_resetMemory (h : s.memoriesOk = true) (d : Nat) :
    (State.resetMemory s d).memoriesOk = true := by
  simp -implicitDefEqProofs [State.resetMemory, h]

@[simp] theorem State.memoriesOk_testsDone (s : State) :
    (State.testsDone s).memoriesOk = s.memoriesOk := by
  simp [State.testsDone]

@[simp] theorem State.memoriesOk_fenceDie (h : s.memoriesOk = true) (d own : Nat) : (s.fenceDie d own).memoriesOk = true := by
  simp only [State.fenceDie, State.memoriesOk_testsDone]
  refine State.memoriesOk_foldl ?_ fun t j ht => by split <;> simp [ht]
  have hf : ∀ {u : State} {l : List MemReq}, u.memoriesOk = true → (l.foldl (fun s r => s.answerOffline d r) u).memoriesOk = true :=
    fun hu => State.memoriesOk_foldl hu fun _ _ ht => by simp [ht]
  split
  · refine State.memoriesOk_resetMemory ((State.memoriesOk_faultParts _ _ _ _).trans (hf ?_)) d
    rw [State.memoriesOk_report]
    split <;> simp [h]
  · refine State.memoriesOk_loseMemory (State.memoriesOk_coreDown ((State.memoriesOk_faultParts _ _ _ _).trans (hf ?_)) d) d
    rw [State.memoriesOk_report]
    split <;> simp [h]

@[simp] theorem State.memoriesOk_linkEnterUp (h : s.memoriesOk = true) (d : Nat) :
    (State.linkEnterUp s d).memoriesOk = true := by
  simp -implicitDefEqProofs [State.linkEnterUp, h]

@[simp] theorem State.memoriesOk_amendFence (s : State) (d : Nat) (cause : Nat) :
    (State.amendFence s d cause).memoriesOk = s.memoriesOk := rfl

@[simp] theorem State.memoriesOk_commandFence (h : s.memoriesOk = true) (d : Nat) :
    (State.commandFence s d).memoriesOk = true := by
  unfold State.commandFence
  dsimp only
  repeat' split
  all_goals simp -implicitDefEqProofs [h]

@[simp] theorem State.memoriesOk_intoBivouac (s : State) :
    (State.intoBivouac s).memoriesOk = s.memoriesOk := by
  simp [State.intoBivouac]

@[simp] theorem State.memoriesOk_diesUp (s : State) :
    (State.diesUp s).memoriesOk = s.memoriesOk := by
  simp [State.diesUp]

@[simp] theorem State.memoriesOk_stageOn (s : State) :
    (State.stageOn s).memoriesOk = s.memoriesOk := by
  simp [State.stageOn]

@[simp] theorem State.memoriesOk_startTraining (s : State) (d : Nat) :
    (State.startTraining s d).memoriesOk = s.memoriesOk := rfl

@[simp] theorem State.memoriesOk_commandRetrain (h : s.memoriesOk = true) (d : Nat) :
    (State.commandRetrain s d).memoriesOk = true := by
  simp -implicitDefEqProofs [State.commandRetrain, h]

@[simp] theorem State.memoriesOk_commandHold (h : s.memoriesOk = true) (d : Nat) (on : Bool) :
    (State.commandHold s d on).memoriesOk = true := by
  simp -implicitDefEqProofs [State.commandHold, h]

@[simp] theorem State.memoriesOk_formAgreed (s : State) (d : Nat) (dieFound : BitVec 96) (hubFound : BitVec 96) (ws : List WireFault) :
    (State.formAgreed s d dieFound hubFound ws).memoriesOk = s.memoriesOk := by
  simp [State.formAgreed]

@[simp] theorem State.memoriesOk_agree (h : s.memoriesOk = true) (d : Nat) (dieGood : BitVec 96) (hubGood : BitVec 96) (ws : List WireFault) :
    (State.agree s d dieGood hubGood ws).memoriesOk = true := by
  simp -implicitDefEqProofs [State.agree, h]

@[simp] theorem State.memoriesOk_commandRejoin (s : State) (d : Nat) :
    (State.commandRejoin s d).memoriesOk = s.memoriesOk := by
  simp [State.commandRejoin]

@[simp] theorem State.memoriesOk_poisonSpan (h : s.memoriesOk = true) (off n : Nat) : (s.poisonSpan off n).memoriesOk = true :=
  State.memoriesOk_foldl h fun _ _ ht => State.memoriesOk_writeGranule (State.memoriesOk_settle ht _) _ _ _

@[simp] theorem State.memoriesOk_remotePoison (s : State) (n : Nat) (r : Remote) :
    (State.remotePoison s n r).memoriesOk = s.memoriesOk := by
  simp [State.remotePoison]

@[simp] theorem State.memoriesOk_poisonChunk (s : State) (d : Nat) (id : Nat) (chunk : Nat) :
    (State.poisonChunk s d id chunk).memoriesOk = s.memoriesOk := rfl

@[simp] theorem State.memoriesOk_poisonPacket (s : State) (q : Packet) :
    (State.poisonPacket s q).memoriesOk = s.memoriesOk := rfl

@[simp] theorem State.memoriesOk_poisonMsg (h : s.memoriesOk = true) (d : Nat) (m : LinkMsg) :
    (State.poisonMsg s d m).memoriesOk = true := by
  unfold State.poisonMsg
  dsimp only
  repeat' split
  all_goals simp -implicitDefEqProofs [h]

@[simp] theorem State.memoriesOk_dropFenced (s : State) (d : Nat) (dir : Bool) (b : Nat) :
    (State.dropFenced s d dir b).memoriesOk = s.memoriesOk := by
  simp [State.dropFenced]

@[simp] theorem State.memoriesOk_dropBundle (h : s.memoriesOk = true) (d : Nat) (dir : Bool) (b : Nat) :
    (State.dropBundle s d dir b).memoriesOk = true := by
  simp -implicitDefEqProofs [State.dropBundle, h]

@[simp] theorem State.memoriesOk_useLane (s : State) (p : Nat) (l : Nat) (flits : Nat) :
    (State.useLane s p l flits).memoriesOk = s.memoriesOk := rfl

@[simp] theorem State.memoriesOk_countDyn (s : State) (p : Nat) (n : Nat) :
    (State.countDyn s p n).memoriesOk = s.memoriesOk := rfl

@[simp] theorem State.memoriesOk_sendControl (s : State) (p : Nat) (q : Nat) (l : Nat) (ctype : Nat) (b : Words4) :
    (State.sendControl s p q l ctype b).memoriesOk = s.memoriesOk := by
  simp [State.sendControl]

@[simp] theorem State.memoriesOk_accrue (s : State) (p : Nat) :
    (State.accrue s p).memoriesOk = s.memoriesOk := rfl

@[simp] theorem State.memoriesOk_setLanes (s : State) (p : Nat) (tx : BitVec 8) (rx : BitVec 8) :
    (State.setLanes s p tx rx).memoriesOk = s.memoriesOk := rfl

@[simp] theorem State.memoriesOk_countDemoted (s : State) (p : Nat) :
    (State.countDemoted s p).memoriesOk = s.memoriesOk := rfl

@[simp] theorem State.memoriesOk_countBusy (s : State) (claimed : List Nat) (q : Packet) :
    (State.countBusy s claimed q).memoriesOk = s.memoriesOk := by
  simp [State.countBusy]

@[simp] theorem State.memoriesOk_sendData (s : State) (v : Leave) (q : Packet) (transit : Bool) :
    (State.sendData s v q transit).memoriesOk = s.memoriesOk := by
  unfold State.sendData
  split <;> simp

@[simp] theorem State.memoriesOk_countDrop (s : State) (from_ : Option Nat) :
    (State.countDrop s from_).memoriesOk = s.memoriesOk := by
  unfold State.countDrop
  split <;> simp

@[simp] theorem State.memoriesOk_noRoute (s : State) (from_ : Option Nat) :
    (State.noRoute s from_).memoriesOk = s.memoriesOk := by
  simp [State.noRoute]

@[simp] theorem State.memoriesOk_lifetime (s : State) (from_ : Option Nat) :
    (State.lifetime s from_).memoriesOk = s.memoriesOk := by
  simp [State.lifetime]

@[simp] theorem State.memoriesOk_chargeBudget (s : State) (q : Packet) (k : Nat) :
    (State.chargeBudget s q k).memoriesOk = s.memoriesOk := by
  unfold State.chargeBudget
  split <;> simp

@[simp] theorem State.memoriesOk_setSrc (s : State) (e : Nat) (x : SrcPair) :
    (State.setSrc s e x).memoriesOk = s.memoriesOk := rfl

@[simp] theorem State.memoriesOk_setDst (s : State) (e : Nat) (x : DstPair) :
    (State.setDst s e x).memoriesOk = s.memoriesOk := rfl

@[simp] theorem State.memoriesOk_sentNow (s : State) (q : Packet) :
    (State.sentNow s q).memoriesOk = s.memoriesOk := by
  simp [State.sentNow]

@[simp] theorem State.memoriesOk_leaving (s : State) (index : Nat) (q : Packet) :
    (State.leaving s index q).1.memoriesOk = s.memoriesOk := by
  unfold State.leaving
  dsimp only
  repeat' split
  all_goals simp

@[simp] theorem State.memoriesOk_forward (s : State) (index : Nat) (q : Packet) :
    (State.forward s index q).memoriesOk = s.memoriesOk := by
  simp [State.forward]

@[simp] theorem State.memoriesOk_answer (s : State) (q : Packet) :
    (State.answer s q).memoriesOk = s.memoriesOk := by
  simp [State.answer]

@[simp] theorem State.memoriesOk_launch (s : State) (u : Unacked) (demote : Bool) :
    (State.launch s u demote).1.memoriesOk = s.memoriesOk := rfl

@[simp] theorem State.memoriesOk_pumpOne (x : State × Pump) (u : Unacked) : (State.pumpOne x u).1.memoriesOk = x.1.memoriesOk := by
  obtain ⟨s, p⟩ := x
  unfold State.pumpOne
  dsimp only
  repeat' split
  all_goals simp

theorem State.memoriesOk_pumpAll (l : List Unacked) (x : State × Pump) : (l.foldl State.pumpOne x).1.memoriesOk = x.1.memoriesOk := by
  induction l generalizing x with
  | nil => rfl
  | cons u l ih => exact (ih _).trans (State.memoriesOk_pumpOne x u)

@[simp] theorem State.memoriesOk_pump (s : State) : s.pump.memoriesOk = s.memoriesOk :=
  State.memoriesOk_pumpAll s.hub.dynWait ({ s with hub := { s.hub with dynWait := [] } }, ⟨[], []⟩)

@[simp] theorem State.memoriesOk_enqueue (s : State) (q : Packet) (part core : Nat) (own : Owner) :
    (s.enqueue q part core own).memoriesOk = s.memoriesOk :=
  State.memoriesOk_pump _

@[simp] theorem State.memoriesOk_setCopy (s : State) (d : Nat) (x : CopyEng) :
    (State.setCopy s d x).memoriesOk = s.memoriesOk := rfl

@[simp] theorem State.memoriesOk_onDesc (s : State) (d : Nat) (id : Nat) (f : Desc → Desc) :
    (State.onDesc s d id f).memoriesOk = s.memoriesOk := rfl

@[simp] theorem State.memoriesOk_dropStore (s : State) (n : Nat) (id : Nat) :
    (State.dropStore s n id).memoriesOk = s.memoriesOk := by
  simp [State.dropStore]

@[simp] theorem State.memoriesOk_refuseAccess (s : State) (n : Nat) (cause : Nat) (r : Remote) :
    (State.refuseAccess s n cause r).memoriesOk = s.memoriesOk := by
  simp [State.refuseAccess]

@[simp] theorem State.memoriesOk_refuseStore (s : State) (n : Nat) (r : RStore) :
    (State.refuseStore s n r).memoriesOk = s.memoriesOk := by
  simp [State.refuseStore]

@[simp] theorem State.memoriesOk_refuseOwner (s : State) (own : Owner) (cause : Nat) (peer : Nat) (addr : Nat) :
    (State.refuseOwner s own cause peer addr).memoriesOk = s.memoriesOk := by
  unfold State.refuseOwner
  dsimp only
  repeat' split
  all_goals simp

@[simp] theorem State.memoriesOk_ackOwner (s : State) (u : Unacked) :
    (State.ackOwner s u).memoriesOk = s.memoriesOk := by
  unfold State.ackOwner
  split <;> simp

@[simp] theorem State.memoriesOk_ackIn (h : s.memoriesOk = true) (q : Packet) :
    (State.ackIn s q).memoriesOk = true := by
  unfold State.ackIn
  dsimp only
  split <;> simp -implicitDefEqProofs [h]

@[simp] theorem State.memoriesOk_readTarget (h : s.memoriesOk = true) (q : Packet) (k : Nat) : (s.readTarget q k).1.memoriesOk = true := by
  unfold State.readTarget
  dsimp only
  split
  · split <;> exact h
  · exact State.memoriesOk_foldl_fst h fun _ _ hp => State.memoriesOk_requestPiece hp _ _

@[simp] theorem State.memoriesOk_copyGranule (h : s.memoriesOk = true) (paid : Nat → Bool) (q : Packet) (k : Nat) (o : Nat) (g : List Byte × Bool × Bool) :
    (State.copyGranule s paid q k o g).memoriesOk = true := by
  unfold State.copyGranule
  dsimp only
  repeat' split
  all_goals simp -implicitDefEqProofs [h]

theorem wf_storeEffect (q : Packet) {st : Memory} (h : st.wf = true) (a : Nat) (g : List Byte × Bool × Bool) : (storeEffect q st a g).wf = true := by
  unfold storeEffect
  dsimp only
  split
  · exact Memory.wf_write _ _ _ h
  · split
    · exact h
    · exact Memory.wf_write _ _ _ h

@[simp] theorem State.memoriesOk_copyTarget (h : s.memoriesOk = true) (q : Packet) (k : Nat) : (s.copyTarget q k).memoriesOk = true := by
  unfold State.copyTarget
  dsimp only
  split
  · exact State.memoriesOk_setCore h _ (Memory.wf_foldl (State.wf_coreAt_store h _) fun _ _ hm => wf_storeEffect q hm _ _)
  · exact State.memoriesOk_foldl h fun _ _ ht => State.memoriesOk_copyGranule ht _ _ _ _ _

@[simp] theorem State.memoriesOk_atomicTarget (h : s.memoriesOk = true) (q : Packet) (k : Nat) : (s.atomicTarget q k).1.memoriesOk = true := by
  unfold State.atomicTarget
  dsimp only
  split
  · simp [h]
  · split
    · exact State.memoriesOk_setCore h _ (Memory.wf_write _ _ _ (State.wf_coreAt_store h _))
    · simp [h]

@[simp] theorem State.memoriesOk_storeTarget (h : s.memoriesOk = true) (q : Packet) (k : Nat) : (s.storeTarget q k).memoriesOk = true := by
  unfold State.storeTarget
  split
  · exact State.memoriesOk_setCore h _ (Memory.wf_write _ _ _ (State.wf_coreAt_store h _))
  · split <;> simp [h]

@[simp] theorem State.memoriesOk_refuse (s : State) (q : Packet) (cause : Nat) :
    (State.refuse s q cause).memoriesOk = s.memoriesOk := by
  simp [State.refuse]

@[simp] theorem State.memoriesOk_replyTo (s : State) (q : Packet) (bs : List Byte) (poison : Bool) :
    (State.replyTo s q bs poison).memoriesOk = s.memoriesOk := by
  simp [State.replyTo]

@[simp] theorem State.memoriesOk_readDataTo (s : State) (q : Packet) (gs : List (List Byte × Bool)) :
    (State.readDataTo s q gs).memoriesOk = s.memoriesOk := by
  simp [State.readDataTo]

@[simp] theorem State.memoriesOk_oweAck (s : State) (e : Nat) :
    (State.oweAck s e).memoriesOk = s.memoriesOk := by
  simp [State.oweAck]

@[simp] theorem State.memoriesOk_signal (h : s.memoriesOk = true) (q : Packet) (bad : Bool) :
    (State.signal s q bad).memoriesOk = true := by
  simp -implicitDefEqProofs [State.signal, h]

@[simp] theorem State.memoriesOk_performReq (h : s.memoriesOk = true) (q : Packet) :
    (State.performReq s q).memoriesOk = true := by
  unfold State.performReq
  dsimp only
  repeat' split
  all_goals simp -implicitDefEqProofs [h]

@[simp] theorem State.memoriesOk_drain (n e : Nat) (h : s.memoriesOk = true) : (State.drain n e s).memoriesOk = true := by
  induction n generalizing s with
  | zero => exact h
  | succ n ih =>
    unfold State.drain
    dsimp only
    split
    · exact h
    · split
      · exact h
      · split
        · simp [h]
        · split
          · exact h
          · exact ih (State.memoriesOk_performReq (by simp [h]) _)

@[simp] theorem State.memoriesOk_duplicate (s : State) (q : Packet) :
    (State.duplicate s q).memoriesOk = s.memoriesOk := by
  unfold State.duplicate
  dsimp only
  repeat' split
  all_goals simp

@[simp] theorem State.memoriesOk_takeRequest (h : s.memoriesOk = true) (q : Packet) : (s.takeRequest q).memoriesOk = true := by
  unfold State.takeRequest
  dsimp only
  split
  · simp [h]
  · split
    · simp [h]
    · split <;> simp [h]

@[simp] theorem State.memoriesOk_reach (h : s.memoriesOk = true) (q : Packet) (ok : Nat → Bool) {act : State → State}
    (ha : ∀ t, t.memoriesOk = true → (act t).memoriesOk = true) : (s.reach q ok act).memoriesOk = true := by
  unfold State.reach
  dsimp only
  split
  · exact h
  · split
    · simp [h]
    · split
      · simp [h]
      · exact State.memoriesOk_ackIn (ha _ (by simpa using h)) _

@[simp] theorem State.memoriesOk_lateReply (s : State) :
    (State.lateReply s).memoriesOk = s.memoriesOk := rfl

@[simp] theorem State.memoriesOk_takeAnswer (s : State) (q : Packet) :
    (State.takeAnswer s q).memoriesOk = s.memoriesOk := rfl

@[simp] theorem State.memoriesOk_takeValue (s : State) (n : Nat) (r : Remote) (v : Nat) :
    (State.takeValue s n r v).memoriesOk = s.memoriesOk := by
  simp [State.takeValue]

@[simp] theorem State.memoriesOk_takeReply (s : State) (q : Packet) :
    (State.takeReply s q).memoriesOk = s.memoriesOk := by
  unfold State.takeReply
  dsimp only
  repeat' split
  all_goals simp

@[simp] theorem State.memoriesOk_resync (h : s.memoriesOk = true) (e : Nat) :
    (State.resync s e).memoriesOk = true := by
  simp -implicitDefEqProofs [State.resync, h]

@[simp] theorem State.memoriesOk_takeRefusal (h : s.memoriesOk = true) (q : Packet) :
    (State.takeRefusal s q).memoriesOk = true := by
  unfold State.takeRefusal
  dsimp only
  repeat' split
  all_goals simp -implicitDefEqProofs [h]

@[simp] theorem State.memoriesOk_takeData (s : State) (q : Packet) :
    (State.takeData s q).memoriesOk = s.memoriesOk := by
  unfold State.takeData
  split <;> simp

@[simp] theorem State.memoriesOk_unsend (s : State) (p : Owner → Bool) :
    (State.unsend s p).memoriesOk = s.memoriesOk := rfl

@[simp] theorem State.memoriesOk_retransmit (s : State) (e0 : Nat) (u : Unacked) :
    (State.retransmit s e0 u).memoriesOk = s.memoriesOk := by
  simp [State.retransmit]

@[simp] theorem State.memoriesOk_copyTimedOut (h : s.memoriesOk = true) (eid : Nat) (seq : Nat) (d : Nat) (id : Nat) (chunk : Nat) (addr : Nat) :
    (State.copyTimedOut s eid seq d id chunk addr).memoriesOk = true := by
  simp -implicitDefEqProofs [State.copyTimedOut, h]

@[simp] theorem State.memoriesOk_resumeCredit (h : s.memoriesOk = true) : s.resumeCredit.memoriesOk = true :=
  State.memoriesOk_foldl h fun t e ht => by split <;> simp [ht]

@[simp] theorem State.memoriesOk_setQp (s : State) (n : Nat) (x : Qp) :
    (State.setQp s n x).memoriesOk = s.memoriesOk := rfl

@[simp] theorem State.memoriesOk_emitRoce (s : State) (x : Qp) (o : Out) :
    (State.emitRoce s x o).memoriesOk = s.memoriesOk := by
  simp [State.emitRoce]

@[simp] theorem State.memoriesOk_failConn (s : State) (n : Nat) :
    (State.failConn s n).memoriesOk = s.memoriesOk := rfl

@[simp] theorem State.memoriesOk_connError (s : State) (n : Nat) (cause : Nat) :
    (State.connError s n cause).memoriesOk = s.memoriesOk := by
  simp [State.connError]

@[simp] theorem State.memoriesOk_sendRoce (s : State) (n : Nat) (x : Qp) (r : RoceOut) :
    (State.sendRoce s n x r).memoriesOk = s.memoriesOk := by
  simp [State.sendRoce]

@[simp] theorem State.memoriesOk_sendRow (s : State) (n : Nat) (r : RoceOut) :
    (State.sendRow s n r).1.memoriesOk = s.memoriesOk := by
  simp [State.sendRow]

@[simp] theorem State.memoriesOk_roceDone (s : State) (r : RoceOut) (bytes : Nat) (whole : Bool) :
    (State.roceDone s r bytes whole).memoriesOk = s.memoriesOk := rfl

@[simp] theorem State.memoriesOk_ackBefore (s : State) (n : Nat) (psn : Nat) :
    (State.ackBefore s n psn).memoriesOk = s.memoriesOk := by
  simp -implicitDefEqProofs [State.ackBefore]

@[simp] theorem State.memoriesOk_resend (s : State) (n : Nat) :
    (State.resend s n).memoriesOk = s.memoriesOk := by
  simp [State.resend]

@[simp] theorem State.memoriesOk_ecnMark (s : State) (n : Nat) (h' : RoceHead) :
    (State.ecnMark s n h').memoriesOk = s.memoriesOk := by
  simp [State.ecnMark]

@[simp] theorem State.memoriesOk_onConn (h : s.memoriesOk = true) (n : Nat) (hd : RoceHead) {act : State → State}
    (ha : ∀ t, t.memoriesOk = true → (act t).memoriesOk = true) : (s.onConn n hd act).memoriesOk = true := by
  unfold State.onConn
  dsimp only
  split
  · exact h
  · split
    · simp [h]
    · split
      · exact h
      · exact ha _ (by simp [h])

@[simp] theorem State.memoriesOk_readResponse (h : s.memoriesOk = true) (n : Nat) (r : RoceReq) : (s.readResponse n r).memoriesOk = true := by
  unfold State.readResponse
  dsimp only
  split
  · split
    · exact h
    · simp only [State.memoriesOk_roceDone, State.memoriesOk_setQp, State.memoriesOk_ackBefore]
      exact State.memoriesOk_setCore h _ (Memory.wf_write _ _ _ (State.wf_coreAt_store h _))
  · exact h

@[simp] theorem State.memoriesOk_roceAck (s : State) (n : Nat) (h' : RoceHead) (psn : Nat) (code : Nat) :
    (State.roceAck s n h' psn code).memoriesOk = s.memoriesOk := by
  simp [State.roceAck]

@[simp] theorem State.memoriesOk_respond (h : s.memoriesOk = true) (n : Nat) (r : RoceReq) {perform : State → Qp → State}
    {again : State → State} (hp : ∀ t x, t.memoriesOk = true → (perform t x).memoriesOk = true)
    (ha : ∀ t, t.memoriesOk = true → (again t).memoriesOk = true) : (s.respond n r perform again).memoriesOk = true := by
  refine State.memoriesOk_onConn h _ _ fun t ht => ?_
  dsimp only
  split
  · exact hp _ _ ht
  · split
    · simp [ht]
    · exact ha _ ht

@[simp] theorem State.memoriesOk_accessNak (s : State) (n : Nat) (h' : RoceHead) :
    (State.accessNak s n h').memoriesOk = s.memoriesOk := by
  simp [State.accessNak]

@[simp] theorem State.memoriesOk_invalidNak (s : State) (n : Nat) (h' : RoceHead) :
    (State.invalidNak s n h').memoriesOk = s.memoriesOk := by
  simp [State.invalidNak]

@[simp] theorem State.memoriesOk_performWrite (h : s.memoriesOk = true) (n : Nat) (r : RoceReq) (x : Qp) :
    (State.performWrite s n r x).memoriesOk = true := by
  simp -implicitDefEqProofs [State.performWrite, h]

@[simp] theorem State.memoriesOk_roceBytes (h : s.memoriesOk = true) (x : Qp) (r : RoceReq) : (s.roceBytes x r).1.memoriesOk = true :=
  State.memoriesOk_foldl_fst h fun p q hp => by
    have hr := State.memoriesOk_request hp q
    dsimp only
    split
    · exact hr
    · exact hr

@[simp] theorem State.memoriesOk_sendResponses (s : State) (n : Nat) (x : Qp) (h' : RoceHead) (bs : List Byte) :
    (State.sendResponses s n x h' bs).memoriesOk = s.memoriesOk := by
  simp [State.sendResponses]

@[simp] theorem State.memoriesOk_giveRead (h : s.memoriesOk = true) (n : Nat) (r : RoceReq) :
    (State.giveRead s n r).memoriesOk = true := by
  simp -implicitDefEqProofs [State.giveRead, h]

@[simp] theorem State.memoriesOk_selectQp (s : State) (v : W64) :
    (State.selectQp s v).memoriesOk = s.memoriesOk := by
  simp -implicitDefEqProofs [State.selectQp]

@[simp] theorem State.memoriesOk_resetQp (s : State) :
    (State.resetQp s).memoriesOk = s.memoriesOk := rfl

@[simp] theorem State.memoriesOk_commitQp (s : State) :
    (State.commitQp s).memoriesOk = s.memoriesOk := by
  simp [State.commitQp]

@[simp] theorem State.memoriesOk_writeQpcmd (s : State) (v : W64) :
    (State.writeQpcmd s v).memoriesOk = s.memoriesOk := by
  simp [State.writeQpcmd]

@[simp] theorem State.memoriesOk_enterGs (h : s.memoriesOk = true) (n : Nat) (g : GsOp) {c : Core} (hc : c.store.wf = true) :
    (s.enterGs n g c).memoriesOk = true := by
  simp [State.enterGs, h, hc]

@[simp] theorem State.memoriesOk_gsReg (h : s.memoriesOk = true) (n : Nat) (f : RF) (op : BitVec 6) (fmts : List (BitVec 6)) :
    (s.gsReg n f op fmts).memoriesOk = true :=
  State.memoriesOk_runV h _ _ _ fun _ _ hc => State.memoriesOk_enterGs h _ _ hc

@[simp] theorem State.memoriesOk_gsRow (h : s.memoriesOk = true) (n : Nat) (f : RF) (op : BitVec 6) (fmts : List (BitVec 6)) :
    (s.gsRow n f op fmts).memoriesOk = true :=
  State.memoriesOk_runR h _ _ _ fun _ hc => State.memoriesOk_enterGs h _ _ hc

@[simp] theorem State.memoriesOk_lateEvent (s : State) (n : Nat) :
    (State.lateEvent s n).memoriesOk = s.memoriesOk := rfl

@[simp] theorem State.memoriesOk_endWait (h : s.memoriesOk = true) (n : Nat) {c : Core} (hc : c.store.wf = true) (p : Nat) (met : Bool) :
    (s.endWait n c p met).memoriesOk = true := by
  have hs : ∀ v, (s.setCore n (c.setP p v)).memoriesOk = true := fun v => State.memoriesOk_setCore h n (by simpa using hc)
  cases met <;> simp [State.endWait, hs]

@[simp] theorem State.memoriesOk_swAdvance (s : State) (n : Nat) :
    (State.swAdvance s n).memoriesOk = s.memoriesOk := rfl

@[simp] theorem State.memoriesOk_swRead (s : State) (n : Nat) :
    (State.swRead s n).1.memoriesOk = s.memoriesOk := rfl

@[simp] theorem State.memoriesOk_swWrite (h : s.memoriesOk = true) (n : Nat) (v : W64) : (s.swWrite n v).memoriesOk = true := by
  simp only [State.swWrite, State.memoriesOk_swAdvance]
  exact State.memoriesOk_setCore h n (Core.wf_storeN (State.wf_coreAt_store h n) _ _ _)

@[simp] theorem State.memoriesOk_enterDescs (s : State) (core : Nat) (cnt : Option Nat) (l : List (List W64)) :
    (State.enterDescs s core cnt l).memoriesOk = s.memoriesOk := rfl

@[simp] theorem State.memoriesOk_dropWritten (h : s.memoriesOk = true) (d part eid addr len : Nat) :
    (s.dropWritten d part eid addr len).memoriesOk = true := by
  unfold State.dropWritten
  split
  · split
    · exact State.memoriesOk_foldl h fun _ _ ht => State.memoriesOk_rcDropGran ht _ _ _ _
    · exact h
  · exact h

@[simp] theorem State.memoriesOk_sendChunk (h : s.memoriesOk = true) (d : Nat) (x : Desc) (i : Nat) (q : Packet) :
    (State.sendChunk s d x i q).memoriesOk = true := by
  simp -implicitDefEqProofs [State.sendChunk, h]

@[simp] theorem State.memoriesOk_deliver (h : s.memoriesOk = true) (d : Nat) (x : Desc) (i : Nat) (bs : List Byte) (poison : Nat) :
    (s.deliver d x i bs poison).memoriesOk = true := by
  unfold State.deliver
  dsimp only
  have hp : ∀ (f : Desc → Desc), (if poison = 0 then s else s.onDesc d x.id f).memoriesOk = true := fun f => by split <;> simp [h]
  split
  · simp only [hp, State.memoriesOk_sendChunk, State.memoriesOk_dropWritten]
  · rw [State.memoriesOk_onDesc]
    exact State.memoriesOk_setCore (hp _) _ (Memory.wf_foldl (State.wf_coreAt_store (hp _) _) fun _ _ hm => wf_storeEffect _ hm _ _)

@[simp] theorem State.memoriesOk_passOn (k d id : Nat) (h : s.memoriesOk = true) : (State.passOn k d id s).memoriesOk = true := by
  induction k generalizing s with
  | zero => exact h
  | succ k ih =>
    unfold State.passOn
    dsimp only
    split
    · exact h
    · split
      · exact h
      · refine ih ?_
        split <;> simp [h]

@[simp] theorem State.memoriesOk_rdmaRow (s : State) (d : Nat) (x : Desc) :
    (State.rdmaRow s d x).memoriesOk = s.memoriesOk := by
  simp [State.rdmaRow]

@[simp] theorem State.memoriesOk_descStep (h : s.memoriesOk = true) (d id : Nat) : (s.descStep d id).memoriesOk = true := by
  have ht := State.memoriesOk_passOn 1024 d id h
  unfold State.descStep
  generalize State.passOn 1024 d id s = t at ht
  dsimp only
  repeat' split
  all_goals simp [ht]

@[simp] theorem State.memoriesOk_writeRecord (h : s.memoriesOk = true) (x : Desc) : (s.writeRecord x).memoriesOk = true := by
  unfold State.writeRecord
  dsimp only
  split
  · exact State.memoriesOk_setCore h _ (Memory.wf_write _ _ _ (State.wf_coreAt_store h _))
  · exact h

@[simp] theorem State.memoriesOk_completeDesc (h : s.memoriesOk = true) (d : Nat) (x : Desc) :
    (State.completeDesc s d x).memoriesOk = true := by
  unfold State.completeDesc
  dsimp only
  split <;> simp -implicitDefEqProofs [h]

@[simp] theorem State.memoriesOk_tearDie (h : s.memoriesOk = true) (k : Nat) (d : Nat) :
    (State.tearDie s k d).memoriesOk = true := by
  simp -implicitDefEqProofs [State.tearDie, h]

@[simp] theorem State.memoriesOk_tearTag (s : State) (tag : Nat) :
    (State.tearTag s tag).memoriesOk = s.memoriesOk := rfl

@[simp] theorem State.memoriesOk_tearUnsent (s : State) (k : Nat) :
    (State.tearUnsent s k).memoriesOk = s.memoriesOk := rfl

@[simp] theorem State.memoriesOk_tearDown (h : s.memoriesOk = true) (k tag : Nat) (t : W64) (late : Bool) :
    (s.tearDown k tag t late).memoriesOk = true := by
  simp only [State.tearDown, State.memoriesOk_pump, State.memoriesOk_mk, State.memoriesOk_parts, State.memoriesOk_setReg,
    State.memoriesOk_tearTag]
  refine State.memoriesOk_foldl ?_ fun _ _ ht => State.memoriesOk_tearDie ht _ _
  rw [State.memoriesOk_tearUnsent]
  exact State.memoriesOk_foldl (by simp [h]) fun _ _ ht => State.memoriesOk_enterReset ht _

@[simp] theorem State.memoriesOk_inject (s : State) (i : Nat) (e : Contender) (q : Packet) (beside : optParam (List Contender) []) :
    (State.inject s i e q beside).memoriesOk = s.memoriesOk := by
  unfold State.inject
  dsimp only
  split <;> simp

@[simp] theorem State.memoriesOk_injectOlder (h : s.memoriesOk = true) (from_ : Nat) (q : Packet) :
    (s.injectOlder from_ q).memoriesOk = true :=
  State.memoriesOk_foldl h fun t y ht => by
    split
    · split <;> simp [ht]
    · exact ht

@[simp] theorem State.memoriesOk_place1 (h : s.memoriesOk = true) (q : Packet) (from_ : Nat) :
    (State.place1 s q from_).memoriesOk = true := by
  unfold State.place1
  dsimp only
  split <;> simp -implicitDefEqProofs [h]

@[simp] theorem State.memoriesOk_traverse (s : State) (q : Packet) (from_ : Option Nat) :
    (State.traverse s q from_).memoriesOk = s.memoriesOk := by
  unfold State.traverse
  split <;> simp

@[simp] theorem State.memoriesOk_eject (s : State) (q : Packet) (from_ : Option Nat) :
    (State.eject s q from_).memoriesOk = s.memoriesOk := by
  simp [State.eject]

@[simp] theorem State.memoriesOk_stageFrame (h : s.memoriesOk = true) (q : Packet) (from_ : Nat) :
    (State.stageFrame s q from_).memoriesOk = true := by
  unfold State.stageFrame
  dsimp only
  repeat' split
  all_goals simp -implicitDefEqProofs [h]

@[simp] theorem State.memoriesOk_arrivePacket (h : s.memoriesOk = true) (p : Nat) (q : Packet) :
    (State.arrivePacket s p q).memoriesOk = true := by
  simp -implicitDefEqProofs [State.arrivePacket, h]

@[simp] theorem State.memoriesOk_laneGood (s : State) (p : Nat) (l : Nat) :
    (State.laneGood s p l).memoriesOk = s.memoriesOk := rfl

@[simp] theorem State.memoriesOk_freeBelay (s : State) (p : Nat) (ack : Nat) :
    (State.freeBelay s p ack).memoriesOk = s.memoriesOk := by
  unfold State.freeBelay
  dsimp only
  split <;> simp

@[simp] theorem State.memoriesOk_countPosWords (s : State) (q : Nat) (errs : List Nat) :
    (State.countPosWords s q errs).memoriesOk = s.memoriesOk := by
  simp [State.countPosWords]

@[simp] theorem State.memoriesOk_countCodewords (s : State) (p : Nat) (l : Nat) (errs : List Nat) :
    (State.countCodewords s p l errs).memoriesOk = s.memoriesOk := by
  simp [State.countCodewords]

@[simp] theorem State.memoriesOk_sendTimeFrame (s : State) (p : Nat) (l : Nat) :
    (State.sendTimeFrame s p l).memoriesOk = s.memoriesOk := by
  simp [State.sendTimeFrame]

@[simp] theorem State.memoriesOk_inOrder (n p : Nat) (h : s.memoriesOk = true) : (State.inOrder n p s).memoriesOk = true := by
  induction n generalizing s with
  | zero => exact h
  | succ n ih =>
    unfold State.inOrder
    dsimp only
    split
    · exact h
    · exact ih (State.memoriesOk_arrivePacket (by simp [h]) _ _)

@[simp] theorem State.memoriesOk_takeData1 (h : s.memoriesOk = true) (p : Nat) (f : Frame) : (s.takeData1 p f).memoriesOk = true := by
  unfold State.takeData1
  dsimp only
  split
  · simp [h]
  · split <;> simp [h]

@[simp] theorem State.memoriesOk_losingBelay (s : State) (p : Nat) (bad : List Nat) :
    (State.losingBelay s p bad).memoriesOk = s.memoriesOk := rfl

@[simp] theorem State.memoriesOk_resendBelay (s : State) (p : Nat) : (s.resendBelay p).memoriesOk = s.memoriesOk :=
  State.memoriesOk_foldl_eq _ fun t b => by
    dsimp only
    split <;> simp

@[simp] theorem State.memoriesOk_loseInjected (s : State) (e : Contender) :
    (State.loseInjected s e).memoriesOk = s.memoriesOk := rfl

@[simp] theorem State.memoriesOk_demoteStaged (h : s.memoriesOk = true) (p : Nat) (lost : Bool) : (s.demoteStaged p lost).memoriesOk = true :=
  State.memoriesOk_foldl (by simp [h]) fun t e ht => by
    dsimp only
    split <;> simp [ht]

@[simp] theorem State.memoriesOk_sendInSlot (s : State) (p : Nat) (q : Packet) (transit : Bool) :
    (State.sendInSlot s p q transit).memoriesOk = s.memoriesOk := by
  simp [State.sendInSlot]

@[simp] theorem State.memoriesOk_declareLost (h : s.memoriesOk = true) (p : Nat) : (s.declareLost p).memoriesOk = true := by
  unfold State.declareLost
  rw [State.memoriesOk_evalTime]
  exact State.memoriesOk_foldl (by simp [h]) fun _ _ ht => State.memoriesOk_place1 (by simp [ht]) _ _

@[simp] theorem State.memoriesOk_applyDetour (h : s.memoriesOk = true) (p : Nat) :
    (State.applyDetour s p).memoriesOk = true := by
  simp -implicitDefEqProofs [State.applyDetour, h]

@[simp] theorem State.memoriesOk_detoursDue (h : s.memoriesOk = true) : s.detoursDue.memoriesOk = true :=
  State.memoriesOk_foldl h fun t e ht => by split <;> simp [ht]

@[simp] theorem State.memoriesOk_resetBudgets (s : State) :
    (State.resetBudgets s).memoriesOk = s.memoriesOk := by
  simp [State.resetBudgets]

@[simp] theorem State.memoriesOk_switchBank (s : State) :
    (State.switchBank s).memoriesOk = s.memoriesOk := by
  unfold State.switchBank
  split <;> simp

@[simp] theorem State.memoriesOk_freshTel (s : State) (p : Nat) :
    (State.freshTel s p).memoriesOk = s.memoriesOk := rfl

@[simp] theorem State.memoriesOk_startMap (s : State) :
    (State.startMap s).memoriesOk = s.memoriesOk := by
  simp -implicitDefEqProofs [State.startMap]

@[simp] theorem State.memoriesOk_exportMap (s : State) (ws : List W64) :
    (State.exportMap s ws).memoriesOk = s.memoriesOk := by
  simp [State.exportMap]

@[simp] theorem State.memoriesOk_keepMap (s : State) (ws : List W64) :
    (State.keepMap s ws).memoriesOk = s.memoriesOk := by
  simp [State.keepMap]

@[simp] theorem State.memoriesOk_readTel (s : State) :
    (State.readTel s).1.memoriesOk = s.memoriesOk := by
  unfold State.readTel
  dsimp only
  split <;> simp

@[simp] theorem State.memoriesOk_setLane (s : State) (q : Nat) (l : Nat) (dir : Bool) (x : Lane) :
    (State.setLane s q l dir x).memoriesOk = s.memoriesOk := rfl

@[simp] theorem State.memoriesOk_setWorking (s : State) (p : Nat) (l : Nat) (dir : Bool) (on : Bool) :
    (State.setWorking s p l dir on).memoriesOk = s.memoriesOk := by
  simp [State.setWorking]

@[simp] theorem State.memoriesOk_setEngineTemp (s : State) (e : Nat) (t : ℤ) :
    (State.setEngineTemp s e t).memoriesOk = s.memoriesOk := by
  simp [State.setEngineTemp]

@[simp] theorem State.memoriesOk_startLock (s : State) (q : Nat) (l : Nat) (dir : Bool) (x : Lane) :
    (State.startLock s q l dir x).memoriesOk = s.memoriesOk := rfl

@[simp] theorem State.memoriesOk_startRecovery (s : State) (q : Nat) (l : Nat) (dir : Bool) :
    (State.startRecovery s q l dir).memoriesOk = s.memoriesOk := by
  simp [State.startRecovery]

@[simp] theorem State.memoriesOk_retireLane (s : State) (q : Nat) (l : Nat) (dir : Bool) (cause : Nat) :
    (State.retireLane s q l dir cause).memoriesOk = s.memoriesOk := by
  simp [State.retireLane]

@[simp] theorem State.memoriesOk_countFail (s : State) (q : Nat) (l : Nat) (dir : Bool) :
    (State.countFail s q l dir).memoriesOk = s.memoriesOk := by
  simp [State.countFail]

@[simp] theorem State.memoriesOk_sendCtlOn (s : State) (q : Nat) (p : Nat) (on : Nat) (sub : Nat) (lane : Nat) (dir : Bool) (cause : Nat) (slot : Nat) :
    (State.sendCtlOn s q p on sub lane dir cause slot).memoriesOk = s.memoriesOk := by
  simp [State.sendCtlOn]

@[simp] theorem State.memoriesOk_sendCtl (s : State) (p : Nat) (sub : Nat) (lane : Nat) (dir : Bool) (cause : Nat) (slot : Nat) :
    (State.sendCtl s p sub lane dir cause slot).memoriesOk = s.memoriesOk := by
  unfold State.sendCtl
  split <;> simp

@[simp] theorem State.memoriesOk_identOn (s : State) (q : Nat) (p : Nat) :
    (State.identOn s q p).memoriesOk = s.memoriesOk := by
  simp [State.identOn]

@[simp] theorem State.memoriesOk_sendIdents (s : State) :
    (State.sendIdents s).memoriesOk = s.memoriesOk := by
  simp [State.sendIdents]

@[simp] theorem State.memoriesOk_laneBlocks (s : State) :
    (State.laneBlocks s).memoriesOk = s.memoriesOk := by
  simp -implicitDefEqProofs [State.laneBlocks]

@[simp] theorem State.memoriesOk_idle (s : State) :
    (State.idle s).memoriesOk = s.memoriesOk := by
  simp [State.idle]

@[simp] theorem State.memoriesOk_dropChanges (s : State) (f : LaneChange → Bool) :
    (State.dropChanges s f).memoriesOk = s.memoriesOk := rfl

@[simp] theorem State.memoriesOk_addChange (s : State) (c : LaneChange) :
    (State.addChange s c).memoriesOk = s.memoriesOk := rfl

@[simp] theorem State.memoriesOk_planChangeAt (s : State) (n : Nat) (p : Nat) (l : Nat) (dir : Bool) (add : Bool) (cause : Nat) :
    (State.planChangeAt s n p l dir add cause).memoriesOk = s.memoriesOk := by
  simp [State.planChangeAt]

@[simp] theorem State.memoriesOk_planChange (s : State) (p : Nat) (l : Nat) (dir : Bool) (add : Bool) (cause : Nat) :
    (State.planChange s p l dir add cause).memoriesOk = s.memoriesOk := by
  simp [State.planChange]

@[simp] theorem State.memoriesOk_rejoining (s : State) (q : Nat) (l : Nat) (dir : Bool) (x : Lane) :
    (State.rejoining s q l dir x).memoriesOk = s.memoriesOk := rfl

@[simp] theorem State.memoriesOk_abortRecal (s : State) (p : Nat) (dir : Bool) :
    (State.abortRecal s p dir).memoriesOk = s.memoriesOk := by
  simp [State.abortRecal]

@[simp] theorem State.memoriesOk_faultDrop (s : State) (p : Nat) (l : Nat) :
    (State.faultDrop s p l).memoriesOk = s.memoriesOk := by
  simp [State.faultDrop]

@[simp] theorem State.memoriesOk_laneFailed (s : State) (q : Nat) (l : Nat) (dir : Bool) :
    (State.laneFailed s q l dir).memoriesOk = s.memoriesOk := by
  unfold State.laneFailed
  split <;> simp

@[simp] theorem State.memoriesOk_attemptFailed (s : State) (q : Nat) (l : Nat) (dir : Bool) :
    (State.attemptFailed s q l dir).memoriesOk = s.memoriesOk := by
  simp [State.attemptFailed]

@[simp] theorem State.memoriesOk_takeChange (s : State) (p : Nat) (f : Words4) (add : Bool) :
    (State.takeChange s p f add).memoriesOk = s.memoriesOk := by
  simp [State.takeChange]

@[simp] theorem State.memoriesOk_takeAck (s : State) (p : Nat) (f : Words4) :
    (State.takeAck s p f).memoriesOk = s.memoriesOk := by
  simp [State.takeAck]

@[simp] theorem State.memoriesOk_applyChange (s : State) (c : LaneChange) :
    (State.applyChange s c).memoriesOk = s.memoriesOk := by
  simp [State.applyChange]

@[simp] theorem State.memoriesOk_recalAll (s : State) :
    (State.recalAll s).memoriesOk = s.memoriesOk := rfl

@[simp] theorem State.memoriesOk_retireSelected (s : State) :
    (State.retireSelected s).memoriesOk = s.memoriesOk := by
  unfold State.retireSelected
  dsimp only
  repeat' split
  all_goals simp

@[simp] theorem State.memoriesOk_restoreSelected (s : State) :
    (State.restoreSelected s).memoriesOk = s.memoriesOk := by
  simp [State.restoreSelected]

@[simp] theorem State.memoriesOk_setCass (s : State) (c : Nat) (x : Cass) :
    (State.setCass s c x).memoriesOk = s.memoriesOk := rfl

@[simp] theorem State.memoriesOk_relight (s : State) (was : Tab (BitVec 8)) :
    (State.relight s was).memoriesOk = s.memoriesOk := by
  simp [State.relight]

@[simp] theorem State.memoriesOk_refreshDark (s : State) :
    (State.refreshDark s).memoriesOk = s.memoriesOk := by
  simp [State.refreshDark]

@[simp] theorem State.memoriesOk_relockWave (s : State) (e : Nat) (k : Nat) (back : Bool) :
    (State.relockWave s e k back).memoriesOk = s.memoriesOk := by
  simp [State.relockWave]

@[simp] theorem State.memoriesOk_toSecondary (s : State) (e : Nat) (k : Nat) :
    (State.toSecondary s e k).memoriesOk = s.memoriesOk := by
  simp [State.toSecondary]

@[simp] theorem State.memoriesOk_failCass (s : State) (c : Nat) (removed : Bool) :
    (State.failCass s c removed).memoriesOk = s.memoriesOk := by
  simp [State.failCass]

@[simp] theorem State.memoriesOk_toPrimary (s : State) (e : Nat) (k : Nat) :
    (State.toPrimary s e k).memoriesOk = s.memoriesOk := by
  simp [State.toPrimary]

@[simp] theorem State.memoriesOk_setBring (s : State) (p : Nat) (x : Bring) :
    (State.setBring s p x).memoriesOk = s.memoriesOk := rfl

@[simp] theorem State.memoriesOk_lockRing (s : State) (q : Nat) (l : Nat) (dir : Bool) :
    (State.lockRing s q l dir).memoriesOk = s.memoriesOk := rfl

@[simp] theorem State.memoriesOk_lockPos (s : State) (q : Nat) :
    (State.lockPos s q).memoriesOk = s.memoriesOk := by
  simp -implicitDefEqProofs [State.lockPos]

@[simp] theorem State.memoriesOk_lockRings (s : State) (p : Nat) :
    (State.lockRings s p).memoriesOk = s.memoriesOk := by
  simp [State.lockRings]

@[simp] theorem State.memoriesOk_releasePort (s : State) (p : Nat) (fresh : Bool) :
    (State.releasePort s p fresh).memoriesOk = s.memoriesOk := by
  simp [State.releasePort]

@[simp] theorem State.memoriesOk_holdPort (h : s.memoriesOk = true) (p : Nat) :
    (State.holdPort s p).memoriesOk = true := by
  simp -implicitDefEqProofs [State.holdPort, h]

@[simp] theorem State.memoriesOk_comeUp (s : State) (p : Nat) (f : Words4) :
    (State.comeUp s p f).memoriesOk = s.memoriesOk := by
  simp [State.comeUp]

@[simp] theorem State.memoriesOk_reportBar (s : State) (q : Nat) (cause : Nat) (eid : Nat) (major : Nat) :
    (State.reportBar s q cause eid major).memoriesOk = s.memoriesOk := by
  simp [State.reportBar]

@[simp] theorem State.memoriesOk_barPort (h : s.memoriesOk = true) (p : Nat) (cause : Nat) (eid : Nat) (major : Nat) :
    (State.barPort s p cause eid major).memoriesOk = true := by
  simp -implicitDefEqProofs [State.barPort, h]

@[simp] theorem State.memoriesOk_barPos (s : State) (q : Nat) (cause : Nat) (eid : Nat) (major : Nat) :
    (State.barPos s q cause eid major).memoriesOk = s.memoriesOk := by
  simp [State.barPos]

@[simp] theorem State.memoriesOk_passIdent (s : State) (p : Nat) (f : Words4) :
    (State.passIdent s p f).memoriesOk = s.memoriesOk := rfl

@[simp] theorem State.memoriesOk_adopt (s : State) (n : Nat) (q : Nat) (f : Words4) :
    (State.adopt s n q f).memoriesOk = s.memoriesOk := by
  simp [State.adopt]

@[simp] theorem State.memoriesOk_checkWiring (h : s.memoriesOk = true) (q p : Nat) (f : Words4) : (s.checkWiring q p f).memoriesOk = true := by
  unfold State.checkWiring
  repeat' split
  all_goals simp [h]

@[simp] theorem State.memoriesOk_takeIdent (h : s.memoriesOk = true) (q : Nat) (p : Nat) (f : Words4) :
    (State.takeIdent s q p f).memoriesOk = true := by
  unfold State.takeIdent
  dsimp only
  split <;> simp -implicitDefEqProofs [h]

@[simp] theorem State.memoriesOk_spareIdent (s : State) (q : Nat) (f : Words4) :
    (State.spareIdent s q f).memoriesOk = s.memoriesOk := by
  unfold State.spareIdent
  dsimp only
  repeat' split
  all_goals simp

@[simp] theorem State.memoriesOk_sendBars (s : State) (q : Nat) (p : Nat) (cause : Nat) :
    (State.sendBars s q p cause).memoriesOk = s.memoriesOk := by
  simp [State.sendBars]

@[simp] theorem State.memoriesOk_withSection (s : State) (x : Sect) :
    (State.withSection s x).memoriesOk = s.memoriesOk := by
  simp [State.withSection]

@[simp] theorem State.memoriesOk_projected (s : State) (type : Nat) (due : W64) :
    (State.projected s type due).memoriesOk = s.memoriesOk := by
  simp [State.projected]

@[simp] theorem State.memoriesOk_rejectSection (s : State) (why : Rej) (type : Nat) (gen : Nat) (image : Nat) (sec : Nat) :
    (State.rejectSection s why type gen image sec).memoriesOk = s.memoriesOk := by
  simp [State.rejectSection]

@[simp] theorem State.memoriesOk_loadBank (s cfg : State) : (s.loadBank cfg).memoriesOk = s.memoriesOk := rfl

@[simp] theorem State.memoriesOk_acceptSection (s : State) (x : Sect) : (s.acceptSection x).memoriesOk = s.memoriesOk := by
  unfold State.acceptSection
  dsimp only
  split <;> rfl

@[simp] theorem State.memoriesOk_setTo (s : State) (a : Nat) (v : W64) :
    (State.setTo s a v).memoriesOk = s.memoriesOk := by
  simp [State.setTo]

@[simp] theorem State.memoriesOk_sectionSets (s : State) (a : Nat) (v : W64) :
    (State.sectionSets s a v).memoriesOk = s.memoriesOk := by
  simp [State.sectionSets]

@[simp] theorem State.memoriesOk_retrain (h : s.memoriesOk = true) (p : Nat) :
    (State.retrain s p).memoriesOk = true := by
  simp -implicitDefEqProofs [State.retrain, h]

@[simp] theorem State.memoriesOk_retrainAll (h : s.memoriesOk = true) (f : Nat → Bool) : (s.retrainAll f).memoriesOk = true :=
  State.memoriesOk_foldl h fun _ _ ht => State.memoriesOk_retrain ht _

@[simp] theorem State.memoriesOk_freePositions (s : State) :
    (State.freePositions s).memoriesOk = s.memoriesOk := rfl

@[simp] theorem State.memoriesOk_restartSpaces (h : s.memoriesOk = true) :
    (State.restartSpaces s).memoriesOk = true := by
  simp -implicitDefEqProofs [State.restartSpaces, h]

@[simp] theorem State.memoriesOk_applyEndpoint (h : s.memoriesOk = true) (old : State) : (s.applyEndpoint old).memoriesOk = true := by
  unfold State.applyEndpoint
  dsimp only
  split <;> simp [h]

@[simp] theorem State.memoriesOk_remapSegments (s : State) (new : W64) :
    (State.remapSegments s new).memoriesOk = s.memoriesOk := rfl

@[simp] theorem State.memoriesOk_applyPartition (h : s.memoriesOk = true) (old : State) (x : Sect) :
    (s.applyPartition old x).memoriesOk = true := by
  simp only [State.applyPartition, State.memoriesOk_mk, State.memoriesOk_parts]
  rw [State.memoriesOk_foldl_eq _ fun _ _ => State.memoriesOk_setTo _ _ _, State.memoriesOk_remapSegments]
  refine State.memoriesOk_foldl (State.memoriesOk_foldl h fun _ _ ht => ?_) fun _ _ ht => ?_
  · exact (State.memoriesOk_setBit _ _ _).trans (State.memoriesOk_tearDown ht _ _ _ _)
  · exact (State.memoriesOk_setReg _ _ _).trans (State.memoriesOk_enterReset ht _)

@[simp] theorem State.memoriesOk_takePtpCfg (s : State) (v : W64) :
    (State.takePtpCfg s v).memoriesOk = s.memoriesOk := by
  simp [State.takePtpCfg]

@[simp] theorem State.memoriesOk_applyTime (s : State) :
    (State.applyTime s).memoriesOk = s.memoriesOk := by
  simp [State.applyTime]

@[simp] theorem State.memoriesOk_applyOptical (h : s.memoriesOk = true) (x : Sect) :
    (State.applyOptical s x).memoriesOk = true := by
  simp -implicitDefEqProofs [State.applyOptical, h]

@[simp] theorem State.memoriesOk_applyRoute (s : State) :
    (State.applyRoute s).memoriesOk = s.memoriesOk := by
  simp [State.applyRoute]

@[simp] theorem State.memoriesOk_applySchedule (s : State) (x : Sect) : (s.applySchedule x).memoriesOk = s.memoriesOk := by
  unfold State.applySchedule
  dsimp only
  split
  · rfl
  · simp

@[simp] theorem State.memoriesOk_applyRegulator (s : State) (x : Sect) :
    (State.applyRegulator s x).memoriesOk = s.memoriesOk := by
  simp -implicitDefEqProofs [State.applyRegulator]

@[simp] theorem State.memoriesOk_applyUpdateDie (s : State) (x : Sect) (d : Nat) :
    (State.applyUpdateDie s x d).memoriesOk = s.memoriesOk := by
  simp -implicitDefEqProofs [State.applyUpdateDie]

@[simp] theorem State.memoriesOk_applyUpdate (s : State) (x : Sect) :
    (State.applyUpdate s x).memoriesOk = s.memoriesOk := by
  simp [State.applyUpdate]

@[simp] theorem State.memoriesOk_applyPolicy (s : State) :
    (State.applyPolicy s).memoriesOk = s.memoriesOk := by
  simp [State.applyPolicy]

@[simp] theorem State.memoriesOk_markRevoked (s : State) (a : Nat) (slot : Nat) :
    (State.markRevoked s a slot).memoriesOk = s.memoriesOk := rfl

@[simp] theorem State.memoriesOk_claim (s : State) (x : Sect) :
    (State.claim s x).memoriesOk = s.memoriesOk := by
  simp [State.claim]

@[simp] theorem State.memoriesOk_installKeys (s : State) (x : Sect) :
    (State.installKeys s x).memoriesOk = s.memoriesOk := rfl

@[simp] theorem State.memoriesOk_applyActions (s : State) (x : Sect) :
    (State.applyActions s x).memoriesOk = s.memoriesOk := by
  simp [State.applyActions]

@[simp] theorem State.memoriesOk_ringClear (s : State) (x : Sect) :
    (State.ringClear s x).memoriesOk = s.memoriesOk := by
  simp -implicitDefEqProofs [State.ringClear]

@[simp] theorem State.memoriesOk_closeStale (s : State) (before : Tab (List W64)) :
    (State.closeStale s before).memoriesOk = s.memoriesOk := rfl

@[simp] theorem State.memoriesOk_reverifyAsm (s before : State) : (s.reverifyAsm before).memoriesOk = s.memoriesOk :=
  State.memoriesOk_foldl_eq _ fun _ _ => by simp

@[simp] theorem State.memoriesOk_reverify (s before : State) : (s.reverify before).memoriesOk = s.memoriesOk :=
  (State.memoriesOk_foldl_eq _ fun _ _ => by split <;> simp).trans (State.memoriesOk_reverifyAsm s before)

@[simp] theorem State.memoriesOk_applySecurity (s : State) (x : Sect) : (s.applySecurity x).memoriesOk = s.memoriesOk := by
  unfold State.applySecurity
  dsimp only
  split <;> simp

@[simp] theorem State.memoriesOk_applyEffects (h : s.memoriesOk = true) (old : State) (x : Sect) : (s.applyEffects old x).memoriesOk = true := by
  unfold State.applyEffects
  repeat' split
  all_goals simp [h]

@[simp] theorem State.memoriesOk_measure (s : State) (type : Nat) (d : List Byte) :
    (State.measure s type d).memoriesOk = s.memoriesOk := by
  simp [State.measure]

@[simp] theorem State.memoriesOk_enact (h : s.memoriesOk = true) (x : Sect) : (s.enact x).memoriesOk = true := by
  unfold State.enact
  simp [h]

@[simp] theorem State.memoriesOk_activate (h : s.memoriesOk = true) (timeOk : Bool) (x : Sect) :
    (State.activate s timeOk x).memoriesOk = true := by
  unfold State.activate
  dsimp only
  repeat' split
  all_goals simp -implicitDefEqProofs [h]

@[simp] theorem State.memoriesOk_activateDue (h : s.memoriesOk = true) : s.activateDue.memoriesOk = true :=
  State.memoriesOk_foldl h fun t x ht => by split <;> simp [ht]

@[simp] theorem State.memoriesOk_cancelPending (s : State) (t : Nat) :
    (State.cancelPending s t).memoriesOk = s.memoriesOk := by
  simp [State.cancelPending]

@[simp] theorem State.memoriesOk_activateNow (s : State) (t : Nat) :
    (State.activateNow s t).memoriesOk = s.memoriesOk := by
  unfold State.activateNow
  split <;> simp

@[simp] theorem State.memoriesOk_restoreKeys (s : State) :
    (State.restoreKeys s).memoriesOk = s.memoriesOk := rfl

@[simp] theorem State.memoriesOk_restoreType (s : State) {u : State} (h : u.memoriesOk = true) (t : Nat) (x : Sect) :
    (s.restoreType u t x).memoriesOk = true := by
  refine (State.memoriesOk_foldl_eq _ fun _ _ => State.memoriesOk_measure _ _ _).trans ?_
  have hu : (if t = 10 then u else u.applyEffects s x).memoriesOk = true := by split <;> simp [h]
  generalize (if t = 10 then u else u.applyEffects s x) = v at hu
  dsimp only
  split
  · exact hu
  · exact hu

@[simp] theorem State.memoriesOk_restoreImage (h : s.memoriesOk = true) : s.restoreImage.memoriesOk = true :=
  State.memoriesOk_foldl h fun v t hv => by
    split
    · exact hv
    · exact State.memoriesOk_ite_of (State.memoriesOk_restoreType v (State.memoriesOk_ite_of (by simp [hv]) (by simp [hv])) _ _) hv

@[simp] theorem State.memoriesOk_notePeak (s : State) (k : Nat) (old : Option ℤ) (v : ℤ) :
    (State.notePeak s k old v).memoriesOk = s.memoriesOk := rfl

@[simp] theorem State.memoriesOk_takeReading (s : State) (i : Nat) (v : Option ℤ) :
    (State.takeReading s i v).memoriesOk = s.memoriesOk := by
  unfold State.takeReading
  dsimp only
  repeat' split
  all_goals simp

@[simp] theorem State.memoriesOk_noteInvalid (s : State) :
    (State.noteInvalid s).memoriesOk = s.memoriesOk := by
  simp [State.noteInvalid]

@[simp] theorem State.memoriesOk_sampleDie (s : State) (d : Nat) :
    (State.sampleDie s d).memoriesOk = s.memoriesOk := by
  simp [State.sampleDie]

@[simp] theorem State.memoriesOk_sampleStack (s : State) (d : Nat) (i : Nat) :
    (State.sampleStack s d i).memoriesOk = s.memoriesOk := by
  simp [State.sampleStack]

@[simp] theorem State.memoriesOk_dropCores (h : s.memoriesOk = true) : s.dropCores.memoriesOk = true := by
  simp only [State.dropCores, State.memoriesOk_intoBivouac]
  refine State.memoriesOk_foldl (State.memoriesOk_foldl h fun t k ht => ?_) fun _ _ ht => State.memoriesOk_coreDown ht _
  split <;> simp [ht]

@[simp] theorem State.memoriesOk_sampleHub (h : s.memoriesOk = true) (wasHot : Bool) :
    (State.sampleHub s wasHot).memoriesOk = true := by
  simp -implicitDefEqProofs [State.sampleHub, h]

@[simp] theorem State.memoriesOk_leaveBivouac (s : State) :
    (State.leaveBivouac s).memoriesOk = s.memoriesOk := by
  simp [State.leaveBivouac]

@[simp] theorem State.memoriesOk_restart (s : State) :
    (State.restart s).memoriesOk = s.memoriesOk := by
  simp -implicitDefEqProofs [State.restart]

@[simp] theorem State.memoriesOk_commandRestart (s : State) :
    (State.commandRestart s).memoriesOk = s.memoriesOk := by
  simp [State.commandRestart]

@[simp] theorem State.memoriesOk_sampleWindows (s : State) :
    (State.sampleWindows s).memoriesOk = s.memoriesOk := by
  simp [State.sampleWindows]

@[simp] theorem State.memoriesOk_samplePower (s : State) (mv : Nat) (w : Nat) :
    (State.samplePower s mv w).memoriesOk = s.memoriesOk := by
  unfold State.samplePower
  dsimp only
  repeat' split
  all_goals simp

@[simp] theorem State.memoriesOk_sampleEngine (s : State) (e : Nat) :
    (State.sampleEngine s e).memoriesOk = s.memoriesOk := by
  simp [State.sampleEngine]

@[simp] theorem State.memoriesOk_sampleCool (s : State) :
    (State.sampleCool s).memoriesOk = s.memoriesOk := rfl

@[simp] theorem State.memoriesOk_endPeriod (s : State) (at_ : W64) (k : Nat) :
    (State.endPeriod s at_ k).memoriesOk = s.memoriesOk := by
  simp [State.endPeriod]

@[simp] theorem State.memoriesOk_burn (s : State) (j : FuseJob) :
    (State.burn s j).memoriesOk = s.memoriesOk := by
  unfold State.burn
  split <;> simp

@[simp] theorem State.memoriesOk_romPasses (s : State) (m : Container) :
    (State.romPasses s m).memoriesOk = s.memoriesOk := rfl

@[simp] theorem State.memoriesOk_runManifest (s : State) (b : Nat) (m : Container) :
    (State.runManifest s b m).memoriesOk = s.memoriesOk := rfl

@[simp] theorem State.memoriesOk_tryBank (s : State) (b : Nat) : (s.tryBank b).1.memoriesOk = s.memoriesOk := by
  unfold State.tryBank
  repeat' split
  all_goals simp

@[simp] theorem State.memoriesOk_enterRecovery (s : State) :
    (State.enterRecovery s).memoriesOk = s.memoriesOk := rfl

@[simp] theorem State.memoriesOk_boot (s : State) : s.boot.1.memoriesOk = s.memoriesOk := by
  have h0 := State.memoriesOk_tryBank s s.svc.bootBank
  unfold State.boot
  split
  · next heq => rwa [heq] at h0
  · next t heq =>
    rw [heq] at h0
    have h1 := State.memoriesOk_tryBank (t.setBit A.secEvents 5) (1 - t.svc.bootBank)
    split
    · next heq => rw [heq] at h1; exact h1.trans h0
    · next heq => rw [heq] at h1; exact (State.memoriesOk_enterRecovery _).trans (h1.trans h0)

@[simp] theorem State.memoriesOk_noteBoot (s : State) (fallback : Bool) :
    (State.noteBoot s fallback).memoriesOk = s.memoriesOk := by
  simp [State.noteBoot]

@[simp] theorem State.memoriesOk_hubDown (s : State) :
    (State.hubDown s).memoriesOk = s.memoriesOk := by
  simp [State.hubDown]

@[simp] theorem State.memoriesOk_hubUp (s : State) (fresh : Bool) :
    (State.hubUp s fresh).memoriesOk = s.memoriesOk := by
  simp [State.hubUp]

@[simp] theorem State.memoriesOk_releasePorts (s : State) :
    (State.releasePorts s).memoriesOk = s.memoriesOk := by
  unfold State.releasePorts
  split <;> simp

@[simp] theorem State.memoriesOk_countWait (s : State) (n : Nat) :
    (State.countWait s n).memoriesOk = s.memoriesOk := rfl

@[simp] theorem State.memoriesOk_countWaits (s : State) :
    (State.countWaits s).memoriesOk = s.memoriesOk := by
  simp [State.countWaits]

@[simp] theorem State.memoriesOk_fetchFaults (s : State) :
    (State.fetchFaults s).memoriesOk = s.memoriesOk := by
  simp [State.fetchFaults]

@[simp] theorem State.memoriesOk_fenceFirst (h : s.memoriesOk = true) (d : Nat) (cause : Nat) :
    (State.fenceFirst s d cause).memoriesOk = true := by
  simp -implicitDefEqProofs [State.fenceFirst, h]

@[simp] theorem State.memoriesOk_enterBivouac (h : s.memoriesOk = true) (memOff : Bool) : (s.enterBivouac memOff).memoriesOk = true := by
  unfold State.enterBivouac
  split
  · exact h
  · have h1 : (if memOff then (List.range 4).foldl (fun s d => s.fenceFirst d 4) s else s).memoriesOk = true := by
      split
      · exact State.memoriesOk_foldl h fun _ _ ht => State.memoriesOk_fenceFirst ht _ _
      · exact h
    have h2 := State.memoriesOk_dropCores h1
    have h3 : (if memOff then (List.range 4).foldl (fun s d => if s.memDom d then s.memDown d else s)
        (if memOff then (List.range 4).foldl (fun s d => s.fenceFirst d 4) s else s).dropCores
        else (if memOff then (List.range 4).foldl (fun s d => s.fenceFirst d 4) s else s).dropCores).memoriesOk = true := by
      split
      · exact State.memoriesOk_foldl (by simpa [*] using h2) fun _ _ ht => by split <;> simp [ht]
      · simpa [*] using h2
    exact h3

@[simp] theorem State.memoriesOk_bivouacDue (h : s.memoriesOk = true) :
    (State.bivouacDue s).memoriesOk = true := by
  unfold State.bivouacDue
  split <;> simp -implicitDefEqProofs [h]

@[simp] theorem State.memoriesOk_idleStep (h : s.memoriesOk = true) : s.idleStep.memoriesOk = true :=
  State.memoriesOk_bivouacDue (State.memoriesOk_detoursDue ((State.memoriesOk_releasePorts _).trans (State.memoriesOk_arrayCycles (by simp [h]))))

@[simp] theorem State.memoriesOk_railsDown (h : s.memoriesOk = true) : s.railsDown.memoriesOk = true := by
  simp only [State.railsDown, State.memoriesOk_hubDown]
  refine State.memoriesOk_foldl h fun t d ht => State.memoriesOk_memDown ?_ _
  split <;> simp [ht]

@[simp] theorem State.memoriesOk_bare (h : s.memoriesOk = true) : s.bare.memoriesOk = true :=
  State.memoriesOk_of_parts rfl rfl (show s.svc.bank0.wf = true from State.wf_bank0 h) (show s.svc.bank1.wf = true from State.wf_bank1 h)

@[simp] theorem State.memoriesOk_managementUp (h : s.memoriesOk = true) :
    (State.managementUp s).memoriesOk = true := by
  simp -implicitDefEqProofs [State.managementUp, h]

@[simp] theorem State.memoriesOk_uncommand (s : State) :
    (State.uncommand s).memoriesOk = s.memoriesOk := rfl

@[simp] theorem State.memoriesOk_commandPowerDown (h : s.memoriesOk = true) :
    (State.commandPowerDown s).memoriesOk = true := by
  simp -implicitDefEqProofs [State.commandPowerDown, h]

@[simp] theorem State.memoriesOk_fenceTested (h : s.memoriesOk = true) (n : Nat) :
    (State.fenceTested s n).memoriesOk = true := by
  simp -implicitDefEqProofs [State.fenceTested, h]

@[simp] theorem State.memoriesOk_fencePosition (h : s.memoriesOk = true) (n : Nat) (j : Nat) :
    (State.fencePosition s n j).memoriesOk = true := by
  simp -implicitDefEqProofs [State.fencePosition, h]

@[simp] theorem State.memoriesOk_zeroTested (h : s.memoriesOk = true) (d : Nat) : (s.zeroTested d).memoriesOk = true :=
  State.memoriesOk_of_mem h rfl rfl (Memory.wf_filter _ _ (State.wf_memBytes h))

@[simp] theorem State.memoriesOk_commandBivouac (s : State) (memOff : Bool) :
    (State.commandBivouac s memOff).memoriesOk = s.memoriesOk := by
  simp [State.commandBivouac]

@[simp] theorem State.memoriesOk_commandResume (s : State) :
    (State.commandResume s).memoriesOk = s.memoriesOk := by
  simp [State.commandResume]

@[simp] theorem State.memoriesOk_commandRemove (s : State) (c : Nat) :
    (State.commandRemove s c).memoriesOk = s.memoriesOk := by
  simp [State.commandRemove]

@[simp] theorem State.memoriesOk_setStaging (h : s.memoriesOk = true) {m : Memory} (hm : m.wf = true) : (s.setStaging m).memoriesOk = true := by
  have hb := State.wf_memBytes h
  have hc := State.storesOk_core h
  unfold State.setStaging
  split
  · exact State.memoriesOk_of_parts hb hc hm (show s.svc.bank1.wf = true from State.wf_bank1 h)
  · exact State.memoriesOk_of_parts hb hc (show s.svc.bank0.wf = true from State.wf_bank0 h) hm

theorem State.wf_bankBytes (h : s.memoriesOk = true) (b : Nat) : (s.bankBytes b).wf = true := by
  unfold State.bankBytes
  split
  · exact State.wf_bank0 h
  · exact State.wf_bank1 h

@[simp] theorem State.memoriesOk_fwData (h : s.memoriesOk = true) (v : W64) : (s.fwData v).memoriesOk = true := by
  have hw : ∀ a bs, (s.setStaging ((s.bankBytes s.stagingBank).write a bs)).memoriesOk = true := fun a bs =>
    State.memoriesOk_setStaging h (Memory.wf_write _ _ _ (State.wf_bankBytes h _))
  simp [State.fwData, h, hw]

@[simp] theorem State.memoriesOk_fwCancel (s : State) :
    (State.fwCancel s).memoriesOk = s.memoriesOk := rfl

@[simp] theorem State.memoriesOk_fwErase (s : State) :
    (State.fwErase s).memoriesOk = s.memoriesOk := by
  simp [State.fwErase]

@[simp] theorem State.memoriesOk_fwVerify (s : State) :
    (State.fwVerify s).memoriesOk = s.memoriesOk := by
  unfold State.fwVerify
  split <;> simp

@[simp] theorem State.memoriesOk_fwSwitch (s : State) :
    (State.fwSwitch s).memoriesOk = s.memoriesOk := by
  simp [State.fwSwitch]

@[simp] theorem State.memoriesOk_heldFences (h : s.memoriesOk = true) : s.heldFences.memoriesOk = true :=
  State.memoriesOk_foldl h fun t e ht => by
    dsimp only
    split <;> simp [ht]

@[simp] theorem State.memoriesOk_nextEndorsement (s : State) :
    (State.nextEndorsement s).memoriesOk = s.memoriesOk := rfl

@[simp] theorem State.memoriesOk_setPeak (s : State) (k : Nat) (v : Option ℤ) :
    (State.setPeak s k v).memoriesOk = s.memoriesOk := by
  simp [State.setPeak]

@[simp] theorem State.memoriesOk_beforeEvents (s : State) (d : RegDesc) (a : Nat) :
    (State.beforeEvents s d a).memoriesOk = s.memoriesOk := by
  unfold State.beforeEvents
  dsimp only
  repeat' split
  all_goals simp

@[simp] theorem State.memoriesOk_clearOnRead (s : State) (d : RegDesc) (a : Nat) :
    (State.clearOnRead s d a).memoriesOk = s.memoriesOk := by
  unfold State.clearOnRead
  dsimp only
  repeat' split
  all_goals simp

@[simp] theorem State.memoriesOk_readFec (s : State) (p : Nat) :
    (State.readFec s p).1.memoriesOk = s.memoriesOk := by
  unfold State.readFec
  split <;> simp

@[simp] theorem State.memoriesOk_readReg (s : State) (a : Nat) : (s.readReg a).1.memoriesOk = s.memoriesOk := by
  unfold State.readReg
  repeat' split
  all_goals simp

@[simp] theorem State.memoriesOk_writeStored (s : State) (d : RegDesc) (a : Nat) (v : W64) :
    (State.writeStored s d a v).memoriesOk = s.memoriesOk := rfl

@[simp] theorem State.memoriesOk_writeAcfg (s : State) (n : Nat) (j : Nat) (v : W64) :
    (State.writeAcfg s n j v).memoriesOk = s.memoriesOk := by
  simp [State.writeAcfg]

@[simp] theorem State.memoriesOk_writeKnot (s : State) (d : Nat) (v : W64) :
    (State.writeKnot s d v).memoriesOk = s.memoriesOk := by
  simp [State.writeKnot]

@[simp] theorem State.memoriesOk_writeBundles (s : State) (d : Nat) (f : Link → Link) :
    (State.writeBundles s d f).memoriesOk = s.memoriesOk := by
  simp [State.writeBundles]

@[simp] theorem State.memoriesOk_writeD2dCtrl (h : s.memoriesOk = true) (d : Nat) (v : W64) : (s.writeD2dCtrl d v).memoriesOk = true := by
  have h0 := State.memoriesOk_commandHold h d (bit v 0)
  generalize hs0 : s.commandHold d (bit v 0) = s0 at h0
  have h1 : (if bit v 1 then s0.commandRetrain d else s0).memoriesOk = true := by split <;> simp [h0]
  generalize hs1 : (if bit v 1 then s0.commandRetrain d else s0) = s1 at h1
  have h2 : (if bit v 2 then s1.commandRejoin d else s1).memoriesOk = true := by split <;> simp [h1]
  simp only [State.writeD2dCtrl, hs0, hs1]
  split
  · exact State.memoriesOk_commandFence h2 d
  · exact h2

@[simp] theorem State.memoriesOk_writeHubCtrl (h : s.memoriesOk = true) (v : W64) :
    (State.writeHubCtrl s v).memoriesOk = true := by
  simp -implicitDefEqProofs [State.writeHubCtrl, h]

@[simp] theorem State.memoriesOk_writeLcmd (s : State) (v : W64) :
    (State.writeLcmd s v).memoriesOk = s.memoriesOk := by
  simp [State.writeLcmd]

@[simp] theorem State.memoriesOk_writeTopoCmd (s : State) (v : W64) :
    (State.writeTopoCmd s v).memoriesOk = s.memoriesOk := by
  simp [State.writeTopoCmd]

@[simp] theorem State.memoriesOk_writeGband (s : State) (d : Nat) (v : W64) :
    (State.writeGband s d v).memoriesOk = s.memoriesOk := by
  simp [State.writeGband]

@[simp] theorem State.memoriesOk_writeSelfCtrl (s : State) (v : W64) :
    (State.writeSelfCtrl s v).memoriesOk = s.memoriesOk := by
  simp [State.writeSelfCtrl]

@[simp] theorem State.memoriesOk_closeSessions (s : State) :
    (State.closeSessions s).memoriesOk = s.memoriesOk := rfl

@[simp] theorem State.memoriesOk_writeSvcCtrl (h : s.memoriesOk = true) (v : W64) :
    (State.writeSvcCtrl s v).memoriesOk = true := by
  simp -implicitDefEqProofs [State.writeSvcCtrl, h]

@[simp] theorem State.memoriesOk_writeFwCmd (s : State) (v : W64) :
    (State.writeFwCmd s v).memoriesOk = s.memoriesOk := by
  simp [State.writeFwCmd]

@[simp] theorem State.memoriesOk_writeZrange (s : State) (d : Nat) (k : Nat) (v : W64) :
    (State.writeZrange s d k v).memoriesOk = s.memoriesOk := by
  simp [State.writeZrange]

@[simp] theorem State.memoriesOk_writeZmap (s : State) (d : Nat) (k : Nat) (v : W64) :
    (State.writeZmap s d k v).memoriesOk = s.memoriesOk := by
  simp [State.writeZmap]

/-- A write that takes effect under the first condition that holds of a chain of them. -/
theorem State.memoriesOk_of_chain {p : Prop} [Decidable p] {o : Option State} (hs : s.memoriesOk = true)
    (ho : ∀ t, o = some t → t.memoriesOk = true) : ∀ t, (if p then some s else o) = some t → t.memoriesOk = true := by
  intro t ht
  split at ht
  · exact Option.some.inj ht ▸ hs
  · exact ho t ht

theorem State.memoriesOk_writeDieReg (h : s.memoriesOk = true) (base i j : Nat) (v : W64) :
    ∀ t, s.writeDieReg base i j v = some t → t.memoriesOk = true := by
  unfold State.writeDieReg
  iterate 14 refine State.memoriesOk_of_chain (by simp [h]) ?_
  simp

theorem State.memoriesOk_writeHubReg (h : s.memoriesOk = true) (base i : Nat) (v : W64) :
    ∀ t, s.writeHubReg base i v = some t → t.memoriesOk = true := by
  unfold State.writeHubReg
  iterate 12 refine State.memoriesOk_of_chain (by simp [h]) ?_
  simp

@[simp] theorem State.memoriesOk_storeReg (h : s.memoriesOk = true) (a : Nat) (v : W64) : (s.storeReg a v).memoriesOk = true := by
  unfold State.storeReg
  split
  · split
    · split
      · split
        · next ht => exact State.memoriesOk_writeHubReg h _ _ _ _ ht
        · dsimp only; split <;> simp [h]
      · split
        · next ht => exact State.memoriesOk_writeDieReg h _ _ _ _ _ ht
        · simp [h]
    · exact h
  · exact h

@[simp] theorem State.memoriesOk_writeAgain (h : s.memoriesOk = true) (d : RegDesc) (a : Nat) (v : W64) :
    (State.writeAgain s d a v).memoriesOk = true := by
  simp -implicitDefEqProofs [State.writeAgain, h]

@[simp] theorem State.memoriesOk_writeReg (h : s.memoriesOk = true) (w a : Nat) (v : W64) : (s.writeReg w a v).memoriesOk = true := by
  unfold State.writeReg
  dsimp only
  split
  · split
    · simp [h]
    · refine State.memoriesOk_foldl (State.memoriesOk_storeReg ?_ a v) fun _ _ ht => State.memoriesOk_writeAgain ht _ _ _
      split <;> simp [h]
  · simp [h]

@[simp] theorem State.memoriesOk_checkSection (h : s.memoriesOk = true) (image : Nat) (sec : Nat) (ws : List W64) :
    (State.checkSection s image sec ws).memoriesOk = true := by
  unfold State.checkSection
  dsimp only
  repeat' split
  all_goals simp -implicitDefEqProofs [h]

@[simp] theorem State.memoriesOk_dropChunk (s : State) :
    (State.dropChunk s).memoriesOk = s.memoriesOk := rfl

@[simp] theorem State.memoriesOk_spreadChunk (h : s.memoriesOk = true) (d : Nat) (w : List W64) : (s.spreadChunk d w).memoriesOk = true :=
  State.memoriesOk_foldl h fun t p ht => by simp [ht]

@[simp] theorem State.memoriesOk_addChunk (h : s.memoriesOk = true) (a : Asm) (w : List W64) :
    (State.addChunk s a w).memoriesOk = true := by
  simp -implicitDefEqProofs [State.addChunk, h]

@[simp] theorem State.memoriesOk_takeChunk (h : s.memoriesOk = true) (from_ : Nat) (w : List W64) :
    (State.takeChunk s from_ w).memoriesOk = true := by
  unfold State.takeChunk
  dsimp only
  repeat' split
  all_goals simp -implicitDefEqProofs [h]

@[simp] theorem State.memoriesOk_discard (s : State) (p : Nat) :
    (State.discard s p).memoriesOk = s.memoriesOk := rfl

@[simp] theorem State.memoriesOk_authFail (s : State) (p : Nat) :
    (State.authFail s p).memoriesOk = s.memoriesOk := rfl

@[simp] theorem State.memoriesOk_setKept (s : State) (p : Nat) (l : List KeptReply) :
    (State.setKept s p l).memoriesOk = s.memoriesOk := by
  simp [State.setKept]

@[simp] theorem State.memoriesOk_keep (s : State) (p : Nat) (m : UMsg) (r : UMsg) :
    (State.keep s p m r).memoriesOk = s.memoriesOk := by
  simp [State.keep]

@[simp] theorem State.memoriesOk_onSession (s : State) (num : Nat) (f : Session → Session) :
    (State.onSession s num f).memoriesOk = s.memoriesOk := rfl

@[simp] theorem State.memoriesOk_replyBusy (s : State) (p : Nat) (m : UMsg) (sess : Nat) :
    (State.replyBusy s p m sess).memoriesOk = s.memoriesOk := rfl

@[simp] theorem State.memoriesOk_conclude (s : State) (p : Nat) (m : UMsg) {a : Answer} (h : a.s.memoriesOk = true) :
    (s.conclude p m a).memoriesOk = true := by
  unfold State.conclude
  dsimp only
  split
  · exact h
  · split
    · simp [h]
    · rw [State.memoriesOk_emit]
      repeat' split
      all_goals simp [h]

@[simp] theorem State.memoriesOk_taken (s : State) (p : Nat) (m : UMsg) :
    (State.taken s p m).memoriesOk = s.memoriesOk := rfl

/-- What a request's performing leaves has the canonical form where the state before had it. -/
def Keeps (perform : State → Answer) : Prop := ∀ t, t.memoriesOk = true → (perform t).s.memoriesOk = true

@[simp] theorem State.memoriesOk_request1 (h : s.memoriesOk = true) (p : Nat) (m : UMsg) {perform : State → Answer}
    (hp : Keeps perform) : (s.request1 p m perform).memoriesOk = true := by
  have ht : (s.taken p m).memoriesOk = true := by simp [h]
  unfold State.request1
  dsimp only
  repeat' split
  all_goals try simp [h]
  · exact State.memoriesOk_conclude _ p m ht
  · exact State.memoriesOk_conclude _ p m ht
  · exact State.memoriesOk_conclude _ p m (hp _ ht)

@[simp] theorem State.memoriesOk_ofType (h : s.memoriesOk = true) (type p : Nat) (m : UMsg) {perform : State → Answer}
    (hp : Keeps perform) : (s.ofType type p m perform).memoriesOk = true := by
  unfold State.ofType
  split
  · exact State.memoriesOk_request1 h p m hp
  · exact h

@[simp] theorem State.memoriesOk_readAll (h : s.memoriesOk = true) (l : List Nat) : (s.readAll l).1.memoriesOk = true :=
  State.memoriesOk_foldl_fst h fun _ _ hq => (State.memoriesOk_readReg _ _).trans hq

@[simp] theorem State.memoriesOk_ofOp (h : s.memoriesOk = true) (op p : Nat) (m : UMsg) {perform : State → Answer}
    (hp : Keeps perform) : (s.ofOp op p m perform).memoriesOk = true :=
  State.memoriesOk_ite_of (State.memoriesOk_ofType h 7 p m hp) h

@[simp] theorem State.memoriesOk_stampSent (s : State) (p : Nat) :
    (State.stampSent s p).memoriesOk = s.memoriesOk := by
  simp [State.stampSent]

@[simp] theorem State.memoriesOk_emitDatagram (s : State) (p : Nat) (k : Nat) (type : Nat) (seq : Nat) (body : List W64) :
    (State.emitDatagram s p k type seq body).memoriesOk = s.memoriesOk := rfl

@[simp] theorem State.memoriesOk_sendEvent (s : State) (p : Nat) (e : Ev) (k : Nat) :
    (State.sendEvent s p e k).memoriesOk = s.memoriesOk := by
  simp [State.sendEvent]

@[simp] theorem State.memoriesOk_sendTelemetry (s : State) (p : Nat) :
    (State.sendTelemetry s p).memoriesOk = s.memoriesOk := by
  unfold State.sendTelemetry
  split <;> simp

@[simp] theorem State.memoriesOk_writeLanes (h : s.memoriesOk = true) (n : Nat) (f : RF) (g : W64) {c : Core} (hc : c.store.wf = true)
    (r : Nat → LaneRes) : (s.writeLanes n f g c r).memoriesOk = true :=
  State.memoriesOk_done (by simp [h]) n (by simpa using hc)

@[simp] theorem State.memoriesOk_vecOp (h : s.memoriesOk = true) (n : Nat) (f : RF) (u : RUse) (opF : FFmt → Rm → Nat → Nat → Nat → FRes)
    (opI : W32 → W32 → W32) : (s.vecOp n f u opF opI).memoriesOk = true :=
  State.memoriesOk_runV h _ _ _ fun _ _ hc => State.memoriesOk_writeLanes h _ _ _ hc _

@[simp] theorem State.memoriesOk_vecBits (h : s.memoriesOk = true) (n : Nat) (f : RF) (u : RUse) (op : Core → Nat → W32) :
    (State.vecBits s n f u op).memoriesOk = true := by
  simp -implicitDefEqProofs +contextual [State.vecBits, h]

@[simp] theorem State.memoriesOk_reduceTo (h : s.memoriesOk = true) (n : Nat) (f : RF) (rm : Bool) (rest : Core → W32) (opF : Core → Nat → FV → FV → FRes) (opI : W32 → W32 → W32) :
    (State.reduceTo s n f rm rest opF opI).memoriesOk = true := by
  simp -implicitDefEqProofs +contextual [State.reduceTo, h]

@[simp] theorem State.memoriesOk_vecCompare (h : s.memoriesOk = true) (n : Nat) (f : RF) (fmts : List (BitVec 6)) (cmpF : FV → FV → Bool) (cmpI : W32 → W32 → Bool) :
    (State.vecCompare s n f fmts cmpF cmpI).memoriesOk = true := by
  simp -implicitDefEqProofs +contextual [State.vecCompare, h]

@[simp] theorem State.memoriesOk_convert (h : s.memoriesOk = true) (n : Nat) (f : RF) (u : RUse) (op : Core → Nat → LaneRes) :
    (s.convert n f u op).memoriesOk = true :=
  State.memoriesOk_runV h _ _ _ fun _ _ hc => State.memoriesOk_writeLanes h _ _ _ hc _

@[simp] theorem Core.wf_packed {c : Core} (hc : c.store.wf = true) (b : BFmt) (ea sa : Nat) (bs : List BlockOut) :
    (c.packed b ea sa bs).store.wf = true := Memory.wf_write _ _ _ (Core.wf_storeN hc _ _ _)

@[simp] theorem State.memoriesOk_packRun (h : s.memoriesOk = true) (n : Nat) (f : RF) (b : BFmt) {c : Core} (hc : c.store.wf = true) :
    (s.packRun n f b c).memoriesOk = true := by
  unfold State.packRun
  dsimp only
  split
  · exact State.memoriesOk_done (by simp [h]) n (Core.wf_packed hc _ _ _ _)
  · simp [h]

@[simp] theorem State.memoriesOk_unpackRun (h : s.memoriesOk = true) (n : Nat) (f : RF) (b : BFmt) {c : Core} (hc : c.store.wf = true) :
    (s.unpackRun n f b c).memoriesOk = true := by
  unfold State.unpackRun
  dsimp only
  split
  · exact State.memoriesOk_done (by simp [h]) n hc
  · simp [h]

@[simp] theorem State.memoriesOk_issueAccess (h : s.memoriesOk = true) (n : Nat) {c : Core} (hc : c.store.wf = true) (type d : Nat) (a : W64)
    (payload : List Byte) : (s.issueAccess n c type d a payload).memoriesOk = true := by
  simp only [State.issueAccess, State.memoriesOk_enqueue]
  exact State.memoriesOk_setCore h n hc

@[simp] theorem State.memoriesOk_rldInstr (h : s.memoriesOk = true) (n : Nat) (f : RF) (type : Nat) : (s.rldInstr n f type).memoriesOk = true := by
  refine State.memoriesOk_runR h _ _ _ fun c hc => ?_
  dsimp only
  split
  · simp [h]
  · split
    · exact h
    · split
      · exact State.memoriesOk_done (by simp [h]) n (by simpa using hc)
      · refine State.memoriesOk_issueAccess ?_ n hc _ _ _ _
        split <;> simp [h]

@[simp] theorem State.memoriesOk_rstInstr (h : s.memoriesOk = true) (n : Nat) (f : RF) (type : Nat) : (s.rstInstr n f type).memoriesOk = true := by
  refine State.memoriesOk_runR h _ _ _ fun c hc => ?_
  dsimp only
  split
  · simp [h]
  · split
    · exact h
    · rw [State.memoriesOk_enqueue]
      apply State.memoriesOk_rcStore
      exact State.memoriesOk_setCore h n hc

@[simp] theorem State.memoriesOk_atomicInstr (h : s.memoriesOk = true) (n : Nat) (f : RF) (type : Nat) :
    (s.atomicInstr n f type).memoriesOk = true := by
  unfold State.atomicInstr
  refine State.memoriesOk_runR h _ _ _ fun c hc => ?_
  dsimp only
  split
  · simp [h]
  · split
    · exact h
    · apply State.memoriesOk_issueAccess
      · exact State.memoriesOk_rcDropGran h _ _ _ _
      · exact hc

@[simp] theorem State.memoriesOk_startFence (h : s.memoriesOk = true) (n : Nat) {c : Core} (hc : c.store.wf = true) (acks : Bool)
    (eid : Option Nat) (loads : Bool) : (s.startFence n c acks eid loads).memoriesOk = true :=
  State.memoriesOk_setCore h n hc

@[simp] theorem State.memoriesOk_alu (h : s.memoriesOk = true) (n : Nat) (f : RF) (op : W64 → W64 → W64) :
    (State.alu s n f op).memoriesOk = true := by
  simp -implicitDefEqProofs +contextual [State.alu, h]

@[simp] theorem State.memoriesOk_aluImm (h : s.memoriesOk = true) (n : Nat) (f : IF) (imm : Bool) (op : W64 → W64) :
    (State.aluImm s n f imm op).memoriesOk = true := by
  simp -implicitDefEqProofs +contextual [State.aluImm, h]

@[simp] theorem State.memoriesOk_compare (h : s.memoriesOk = true) (n : Nat) (f : RF) (cmp : W64 → W64 → Bool) :
    (State.compare s n f cmp).memoriesOk = true := by
  simp -implicitDefEqProofs +contextual [State.compare, h]

@[simp] theorem State.memoriesOk_predOp (h : s.memoriesOk = true) (n : Nat) (f : RF) (op : W64 → W64 → W64) :
    (State.predOp s n f op).memoriesOk = true := by
  simp -implicitDefEqProofs +contextual [State.predOp, h]

@[simp] theorem State.memoriesOk_branchTo (h : s.memoriesOk = true) (n : Nat) {c : Core} (hc : c.store.wf = true) (t : W64) :
    (s.branchTo n c t).memoriesOk = true := by
  simp [State.branchTo, h, hc]

@[simp] theorem State.memoriesOk_withFetchWord (s : State) (nbits : Nat) (w : Nat) :
    (State.withFetchWord s nbits w).memoriesOk = s.memoriesOk := rfl

end Sys2Proof.Machine
end

section
/-! PROOF. The canonical form of the memories and the commands that need more than one rule. -/
namespace Sys2Proof.Machine
open Sys2Proof

variable {s t : State}

/-! ### What a frame's or a request's taking leaves -/

/-- A frame's taking leaves the canonical form, whether or not its body is acted on. -/
def TakenOk (r : Option State × State) : Prop := (∀ t, r.1 = some t → t.memoriesOk = true) ∧ r.2.memoriesOk = true

theorem TakenOk.left {r : Option State × State} (h : TakenOk r) : ∀ t, r.1 = some t → t.memoriesOk = true := h.1
theorem TakenOk.right {r : Option State × State} (h : TakenOk r) : r.2.memoriesOk = true := h.2

theorem TakenOk.of_some {r : Option State × State} {u : State} (h : TakenOk r) (e : r = (some t, u)) : t.memoriesOk = true := by
  subst e
  exact h.1 t rfl

theorem TakenOk.of_none {r : Option State × State} (h : TakenOk r) (e : r = (none, t)) : t.memoriesOk = true := by
  subst e
  exact h.2

theorem takenOk_none (h : t.memoriesOk = true) : TakenOk (none, t) := ⟨fun _ e => (nomatch e), h⟩
theorem takenOk_some (h : s.memoriesOk = true) (ht : t.memoriesOk = true) : TakenOk (some s, t) :=
  ⟨fun _ e => Option.some.inj e ▸ h, ht⟩

theorem State.takenOk_receiveFrame (h : s.memoriesOk = true) (p l : Nat) (f : Frame) (type : Nat) : TakenOk (s.receiveFrame p l f type) := by
  unfold State.receiveFrame
  dsimp only
  repeat' split
  · exact takenOk_none h
  · exact takenOk_none (by simp [h])
  · exact takenOk_none (by simp [h])
  · exact takenOk_none (by simp [h])
  · exact takenOk_some (by simp [h]) (by simp [h])

theorem State.takenOk_receiveCtl (h : s.memoriesOk = true) (p l : Nat) (f : CtlFrame) (ctype : Nat) : TakenOk (s.receiveCtl p l f ctype) := by
  unfold State.receiveCtl
  dsimp only
  repeat' split
  · exact takenOk_none h
  · exact takenOk_none (by simp [h])
  · exact takenOk_none (by simp [h])
  · exact takenOk_none (by simp [h])
  · exact takenOk_some (by simp [h]) (by simp [h])

theorem takenOk_ctlBody (h : t.memoriesOk = true) (f : CtlFrame) (sub : Nat) :
    TakenOk (if !ctlValid f.body then (none, t.bump A.drops 15 0 1) else if ctlSub f.body ≠ sub then (none, t) else (some t, t)) := by
  split
  · exact takenOk_none (by simp [h])
  · split
    · exact takenOk_none h
    · exact takenOk_some h h

theorem State.takenOk_receiveCtlAt (h : s.memoriesOk = true) (q l : Nat) (f : CtlFrame) (sub : Nat) : TakenOk (s.receiveCtlAt q l f sub) := by
  unfold State.receiveCtlAt
  dsimp only
  split
  on_goal 1 =>
    rename_i u v heq
    refine takenOk_ctlBody (TakenOk.left (r := (some u, v)) ?_ _ rfl) f sub
    rw [← heq]
  on_goal 2 =>
    rename_i u heq
    refine takenOk_none (TakenOk.right (r := (none, u)) ?_)
    rw [← heq]
  all_goals
    split
    · exact State.takenOk_receiveCtl h _ l f 1
    · split
      · exact takenOk_none h
      · split
        · refine takenOk_none ?_
          split <;> simp [h]
        · split
          · exact takenOk_none (by simp [h])
          · split
            · exact takenOk_none (by simp [h])
            · exact takenOk_some (by simp [h]) (by simp [h])

/-! ### What a request's performing leaves -/

theorem keeps_doPing (m : UMsg) : Keeps fun s => s.doPing m := fun t ht => by
  dsimp only [State.doPing]
  split <;> exact ht

theorem keeps_doRead (m : UMsg) : Keeps fun s => s.doRead m := fun t ht => by
  dsimp only [State.doRead]
  split
  · exact ht
  · split
    · exact ht
    · exact State.memoriesOk_readAll ht _

theorem keeps_doWrite (p : Nat) (m : UMsg) : Keeps fun s => s.doWrite p m := fun t ht => by
  dsimp only [State.doWrite]
  split
  · exact ht
  · split
    · exact ht
    · exact State.memoriesOk_foldl ht fun _ _ hu => State.memoriesOk_writeReg hu _ _ _

theorem keeps_doImage (p : Nat) (m : UMsg) : Keeps fun s => s.doImage p m := fun t ht => by
  dsimp only [State.doImage]
  split
  · dsimp only
    split <;> simp [ht]
  · exact ht

theorem keeps_doTeardown (m : UMsg) : Keeps fun s => s.doTeardown m := fun t ht => by
  dsimp only [State.doTeardown]
  split
  · exact ht
  · split
    · exact ht
    · split
      · exact State.memoriesOk_tearDown ht _ _ _ _
      · exact ht

theorem keeps_doEventAck (m : UMsg) : Keeps fun s => s.doEventAck m := fun t ht => by
  dsimp only [State.doEventAck]
  split <;> exact ht

theorem keeps_doQuote (m : UMsg) : Keeps fun s => s.doQuote m := fun t ht => by
  dsimp only [State.doQuote]
  split
  · exact ht
  · simp [ht]

theorem Answer.memoriesOk_ite {p : Prop} [Decidable p] {a b : Answer} (ha : a.s.memoriesOk = true) (hb : b.s.memoriesOk = true) :
    (if p then a else b).s.memoriesOk = true := by
  split
  · exact ha
  · exact hb

theorem State.memoriesOk_openFails (h : s.memoriesOk = true) : s.openFails.s.memoriesOk = true :=
  (State.memoriesOk_bump _ _ _ _ _).trans h

theorem State.memoriesOk_openWith (h : s.memoriesOk = true) (m : UMsg) (x : Exchange) : (s.openWith m x).s.memoriesOk = true := by
  simp only [State.openWith, State.memoriesOk_drew, State.memoriesOk_bump]
  exact h

theorem keeps_doOpen (m : UMsg) : Keeps fun s => s.doOpen m := fun t ht => by
  unfold State.doOpen
  refine Answer.memoriesOk_ite ht (Answer.memoriesOk_ite (State.memoriesOk_openFails ht)
    (Answer.memoriesOk_ite (State.memoriesOk_openFails (by simp [ht])) ?_))
  split
  · exact State.memoriesOk_openFails ht
  · refine Answer.memoriesOk_ite (State.memoriesOk_openWith ht m _) ?_
    split
    · refine State.memoriesOk_openWith ?_ m _
      exact ht
    · exact ht

theorem keeps_doClose (m : UMsg) : Keeps fun s => s.doClose m := fun t ht => by
  dsimp only [State.doClose]
  split
  · exact ht
  · split <;> exact ht

/-! ### Commands -/

/-- A command's outcome, where it is a next state, has every memory in its canonical form. -/
def KeepsOk (o : Host.Outcome State Fault Refusal) : Prop := ∀ t, o = .next t → t.memoriesOk = true

theorem keepsOk_next (h : t.memoriesOk = true) : KeepsOk (.next t) := fun _ hu => Host.Outcome.next.inj hu ▸ h

theorem keepsOk_onUnit {b : Bool} (h : t.memoriesOk = true) : KeepsOk (onUnit b t) := by
  cases b
  · exact fun _ hu => nomatch hu
  · exact keepsOk_next h

theorem keepsOk_execTimeFrameSend (h : s.memoriesOk = true) (p : Nat) :
    KeepsOk (execTimeFrameSend p s) := by
  refine keepsOk_onUnit ?_
  split <;> simp [h]

theorem keepsOk_execAcquireTimeout (h : s.memoriesOk = true)  :
    KeepsOk (execAcquireTimeout  s) := by
  refine keepsOk_next ?_
  repeat' split
  all_goals simp [h]

theorem keepsOk_execParentRejectExpiry (h : s.memoriesOk = true) (p : Nat) :
    KeepsOk (execParentRejectExpiry p s) := by
  refine keepsOk_onUnit ?_
  split <;> simp [h]

theorem keepsOk_execScheduledTrafficResume (h : s.memoriesOk = true)  :
    KeepsOk (execScheduledTrafficResume  s) := by
  refine keepsOk_next ?_
  split <;> simp [h]

theorem keepsOk_execNop (h : s.memoriesOk = true) (n : Nat) (f : RF) :
    KeepsOk (execNop n f s) := by
  refine keepsOk_onUnit ?_
  simp -implicitDefEqProofs +contextual [h]

theorem keepsOk_execLi (h : s.memoriesOk = true) (n : Nat) (f : IF) :
    KeepsOk (execLi n f s) := by
  refine keepsOk_onUnit ?_
  simp -implicitDefEqProofs +contextual [h]

theorem keepsOk_execLih (h : s.memoriesOk = true) (n : Nat) (f : IF) :
    KeepsOk (execLih n f s) := by
  refine keepsOk_onUnit ?_
  simp -implicitDefEqProofs +contextual [h]

theorem keepsOk_execPcnt (h : s.memoriesOk = true) (n : Nat) (f : RF) :
    KeepsOk (execPcnt n f s) := by
  refine keepsOk_onUnit ?_
  simp -implicitDefEqProofs +contextual [h]

theorem keepsOk_execPfrom (h : s.memoriesOk = true) (n : Nat) (f : RF) :
    KeepsOk (execPfrom n f s) := by
  refine keepsOk_onUnit ?_
  simp -implicitDefEqProofs +contextual [h]

theorem keepsOk_execPto (h : s.memoriesOk = true) (n : Nat) (f : RF) :
    KeepsOk (execPto n f s) := by
  refine keepsOk_onUnit ?_
  simp -implicitDefEqProofs +contextual [h]

theorem keepsOk_execRdct (h : s.memoriesOk = true) (n : Nat) (f : RF) :
    KeepsOk (execRdct n f s) := by
  refine keepsOk_onUnit ?_
  simp -implicitDefEqProofs +contextual [h]

theorem keepsOk_execRdflags (h : s.memoriesOk = true) (n : Nat) (f : RF) :
    KeepsOk (execRdflags n f s) := by
  refine keepsOk_onUnit ?_
  simp -implicitDefEqProofs +contextual [h]

theorem keepsOk_execClrflags (h : s.memoriesOk = true) (n : Nat) (f : RF) :
    KeepsOk (execClrflags n f s) := by
  refine keepsOk_onUnit ?_
  simp -implicitDefEqProofs +contextual [h]

theorem keepsOk_execRdid (h : s.memoriesOk = true) (n : Nat) (f : RF) :
    KeepsOk (execRdid n f s) := by
  refine keepsOk_onUnit ?_
  simp -implicitDefEqProofs +contextual [h]

theorem keepsOk_execBranchB (h : s.memoriesOk = true) (n : Nat) (f : IF) :
    KeepsOk (execBranchB n f s) := by
  refine keepsOk_onUnit ?_
  simp -implicitDefEqProofs +contextual [h]

theorem keepsOk_execBl (h : s.memoriesOk = true) (n : Nat) (f : IF) :
    KeepsOk (execBl n f s) := by
  refine keepsOk_onUnit ?_
  simp -implicitDefEqProofs +contextual [h]

theorem keepsOk_execBr (h : s.memoriesOk = true) (n : Nat) (f : IF) :
    KeepsOk (execBr n f s) := by
  refine keepsOk_onUnit ?_
  simp -implicitDefEqProofs +contextual [h]

theorem keepsOk_execBlr (h : s.memoriesOk = true) (n : Nat) (f : IF) :
    KeepsOk (execBlr n f s) := by
  refine keepsOk_onUnit ?_
  simp -implicitDefEqProofs +contextual [h]

theorem keepsOk_execLoop (h : s.memoriesOk = true) (n : Nat) (f : IF) :
    KeepsOk (execLoop n f s) := by
  refine keepsOk_onUnit ?_
  simp -implicitDefEqProofs +contextual [h]

theorem keepsOk_execVextr (h : s.memoriesOk = true) (n : Nat) (f : RF) :
    KeepsOk (execVextr n f s) := by
  refine keepsOk_onUnit ?_
  simp -implicitDefEqProofs +contextual [h]

theorem keepsOk_execPack (h : s.memoriesOk = true) (n : Nat) (f : RF) :
    KeepsOk (execPack n f s) := by
  refine keepsOk_onUnit ?_
  simp -implicitDefEqProofs +contextual [h]

theorem keepsOk_execUnpack (h : s.memoriesOk = true) (n : Nat) (f : RF) :
    KeepsOk (execUnpack n f s) := by
  refine keepsOk_onUnit ?_
  simp -implicitDefEqProofs +contextual [h]

theorem keepsOk_execTwarm (h : s.memoriesOk = true) (n : Nat) (f : CF) :
    KeepsOk (execTwarm n f s) := by
  refine keepsOk_onUnit ?_
  simp -implicitDefEqProofs +contextual [h]

theorem keepsOk_execCopy (h : s.memoriesOk = true) (n : Nat) (f : CF) :
    KeepsOk (execCopy n f s) := by
  refine keepsOk_onUnit ?_
  simp -implicitDefEqProofs +contextual [h]

theorem keepsOk_execSetcnt (h : s.memoriesOk = true) (n : Nat) (f : CF) :
    KeepsOk (execSetcnt n f s) := by
  refine keepsOk_onUnit ?_
  simp -implicitDefEqProofs +contextual [h]

theorem keepsOk_execRdcnt (h : s.memoriesOk = true) (n : Nat) (f : RF) :
    KeepsOk (execRdcnt n f s) := by
  refine keepsOk_onUnit ?_
  simp -implicitDefEqProofs +contextual [h]

theorem keepsOk_execRel (h : s.memoriesOk = true) (n : Nat) (f : RF) :
    KeepsOk (execRel n f s) := by
  refine keepsOk_onUnit ?_
  simp -implicitDefEqProofs +contextual [h]

theorem keepsOk_execHalt (h : s.memoriesOk = true) (n : Nat) (f : RF) :
    KeepsOk (execHalt n f s) := by
  refine keepsOk_onUnit ?_
  simp -implicitDefEqProofs +contextual [h]

theorem keepsOk_execTileAccept (h : s.memoriesOk = true) (n a : Nat) :
    KeepsOk (execTileAccept n a s) := by
  refine keepsOk_onUnit ?_
  split <;> simp [h]

theorem keepsOk_execTileStart (h : s.memoriesOk = true) (n j : Nat) :
    KeepsOk (execTileStart n j s) := by
  refine keepsOk_onUnit ?_
  split <;> simp [h]

theorem keepsOk_execStationarySwap (h : s.memoriesOk = true) (n j : Nat) :
    KeepsOk (execStationarySwap n j s) := by
  refine keepsOk_onUnit ?_
  split <;> simp [h]

theorem keepsOk_execTileWritebackEnd (h : s.memoriesOk = true) (n j : Nat) (flips shadowFlips : List (Nat × BitVec 32)) :
    KeepsOk (execTileWritebackEnd n j flips shadowFlips s) := by
  refine keepsOk_onUnit ?_
  split <;> simp [h]

theorem keepsOk_execTwarmEnd (h : s.memoriesOk = true) (n j : Nat) :
    KeepsOk (execTwarmEnd n j s) := by
  refine keepsOk_onUnit ?_
  split <;> simp [h]

theorem keepsOk_execRouteStart (h : s.memoriesOk = true) (n : Nat) :
    KeepsOk (execRouteStart n s) := by
  refine keepsOk_onUnit ?_
  dsimp only
  repeat' split
  all_goals simp [h]

theorem keepsOk_execRouteComplete (h : s.memoriesOk = true) (n : Nat) :
    KeepsOk (execRouteComplete n s) := by
  refine keepsOk_onUnit ?_
  dsimp only
  split <;> simp [h]

theorem keepsOk_execSwdataAccess (h : s.memoriesOk = true) (n : Nat) (wr : Option W64) :
    KeepsOk (execSwdataAccess n wr s) := by
  refine keepsOk_onUnit ?_
  repeat' split
  all_goals simp [h]

theorem keepsOk_execUpdateCallStart (h : s.memoriesOk = true) (d id : Nat) :
    KeepsOk (execUpdateCallStart d id s) := by
  refine keepsOk_onUnit ?_
  dsimp only
  split <;> simp [h]

theorem keepsOk_execUpdateCallComplete (h : s.memoriesOk = true) (d id : Nat) :
    KeepsOk (execUpdateCallComplete d id s) := by
  refine keepsOk_onUnit ?_
  split <;> simp [h]

theorem keepsOk_execRootRefreshStart (h : s.memoriesOk = true) (d g : Nat) :
    KeepsOk (execRootRefreshStart d g s) := by
  refine keepsOk_onUnit ?_
  dsimp only
  split <;> simp [h]

theorem keepsOk_execRootRefreshComplete (h : s.memoriesOk = true) (d g : Nat) :
    KeepsOk (execRootRefreshComplete d g s) := by
  refine keepsOk_onUnit ?_
  dsimp only
  repeat' split
  all_goals simp [h]

theorem keepsOk_execStependSwap (h : s.memoriesOk = true) (d id : Nat) :
    KeepsOk (execStependSwap d id s) := by
  refine keepsOk_onUnit ?_
  dsimp only
  split <;> simp [h]

theorem keepsOk_execMemoryAdmit (h : s.memoriesOk = true) (d k : Nat) :
    KeepsOk (execMemoryAdmit d k s) := by
  refine keepsOk_onUnit ?_
  dsimp only
  split <;> simp [h]

theorem keepsOk_execChannelServe (h : s.memoriesOk = true) (d c : Nat) (busy : BitVec 16) (dam : Damage) :
    KeepsOk (execChannelServe d c busy dam s) := by
  refine keepsOk_onUnit ?_
  repeat' split
  all_goals simp [h]

theorem keepsOk_execRegulatorCreditTick (h : s.memoriesOk = true) (d : Nat) :
    KeepsOk (execRegulatorCreditTick d s) := by
  refine keepsOk_onUnit ?_
  simp -implicitDefEqProofs [h]

theorem keepsOk_execZeroMapFill (h : s.memoriesOk = true) (d a : Nat) (dam : Damage) :
    KeepsOk (execZeroMapFill d a dam s) := by
  refine keepsOk_onUnit ?_
  split <;> simp [h]

theorem keepsOk_execDieFence (h : s.memoriesOk = true) (d : Nat) (c : FenceCause) :
    KeepsOk (execDieFence d c s) := by
  refine keepsOk_onUnit ?_
  repeat' split
  all_goals simp [h]

theorem keepsOk_execLoad (h : s.memoriesOk = true) (q : Packet) :
    KeepsOk (execLoad q s) := by
  refine keepsOk_next ?_
  simp -implicitDefEqProofs +contextual [h]

theorem keepsOk_execStore (h : s.memoriesOk = true) (q : Packet) :
    KeepsOk (execStore q s) := by
  refine keepsOk_next ?_
  simp -implicitDefEqProofs +contextual [h]

theorem keepsOk_execAtomic (h : s.memoriesOk = true) (q : Packet) :
    KeepsOk (execAtomic q s) := by
  refine keepsOk_next ?_
  simp -implicitDefEqProofs +contextual [h]

theorem keepsOk_execWrite (h : s.memoriesOk = true) (q : Packet) :
    KeepsOk (execWrite q s) := by
  refine keepsOk_next ?_
  simp -implicitDefEqProofs +contextual [h]

theorem keepsOk_execReduce (h : s.memoriesOk = true) (q : Packet) :
    KeepsOk (execReduce q s) := by
  refine keepsOk_next ?_
  simp -implicitDefEqProofs +contextual [h]

theorem keepsOk_execGfxor (h : s.memoriesOk = true) (q : Packet) :
    KeepsOk (execGfxor q s) := by
  refine keepsOk_next ?_
  simp -implicitDefEqProofs +contextual [h]

theorem keepsOk_execReadReq (h : s.memoriesOk = true) (q : Packet) :
    KeepsOk (execReadReq q s) := by
  refine keepsOk_next ?_
  simp -implicitDefEqProofs +contextual [h]

theorem keepsOk_execTopoChunk (h : s.memoriesOk = true) (p : Nat) (q : Packet) :
    KeepsOk (execTopoChunk p q s) := by
  refine keepsOk_onUnit ?_
  simp -implicitDefEqProofs +contextual [h]

theorem keepsOk_execRefusal (h : s.memoriesOk = true) (q : Packet) :
    KeepsOk (execRefusal q s) := by
  refine keepsOk_next ?_
  simp -implicitDefEqProofs +contextual [h]

theorem keepsOk_execRemoteAccessTimeout (h : s.memoriesOk = true) (n id : Nat) :
    KeepsOk (execRemoteAccessTimeout n id s) := by
  refine keepsOk_onUnit ?_
  split <;> simp [h]

theorem keepsOk_execRetransmitTimeout (h : s.memoriesOk = true) (eid seq : Nat) :
    KeepsOk (execRetransmitTimeout eid seq s) := by
  refine keepsOk_next ?_
  split <;> simp [h]

theorem keepsOk_execCopyTimeout (h : s.memoriesOk = true) (eid seq : Nat) :
    KeepsOk (execCopyTimeout eid seq s) := by
  refine keepsOk_next ?_
  dsimp only
  repeat' split
  all_goals simp [h]

theorem keepsOk_execAckTimer (h : s.memoriesOk = true) (eid : Nat) :
    KeepsOk (execAckTimer eid s) := by
  refine keepsOk_next ?_
  split <;> simp [h]

theorem keepsOk_execFenceComplete (h : s.memoriesOk = true) (n : Nat) :
    KeepsOk (execFenceComplete n s) := by
  refine keepsOk_onUnit ?_
  split <;> simp [h]

theorem keepsOk_execFenceTimeout (h : s.memoriesOk = true) (n : Nat) :
    KeepsOk (execFenceTimeout n s) := by
  refine keepsOk_onUnit ?_
  split <;> simp [h]

theorem keepsOk_execCopyEngineAdmit (h : s.memoriesOk = true) (d n : Nat) :
    KeepsOk (execCopyEngineAdmit d n s) := by
  refine keepsOk_onUnit ?_
  dsimp only
  split <;> simp [h]

theorem keepsOk_execCopyPacketSend (h : s.memoriesOk = true) (d id : Nat) :
    KeepsOk (execCopyPacketSend d id s) := by
  refine keepsOk_onUnit ?_
  split <;> simp [h]

theorem keepsOk_execCopyDescriptorComplete (h : s.memoriesOk = true) (d id : Nat) :
    KeepsOk (execCopyDescriptorComplete d id s) := by
  refine keepsOk_onUnit ?_
  dsimp only
  split <;> simp [h]

theorem keepsOk_execTeardownAtT (h : s.memoriesOk = true) (k : Nat) :
    KeepsOk (execTeardownAtT k s) := by
  refine keepsOk_onUnit ?_
  split <;> simp [h]

theorem keepsOk_execFrameInject (h : s.memoriesOk = true) (i : Nat) (bad : Bool) :
    KeepsOk (execFrameInject i bad s) := by
  refine keepsOk_onUnit ?_
  dsimp only
  repeat' split
  all_goals simp [h]

theorem keepsOk_execScheduledFrameSend (h : s.memoriesOk = true) (p : Nat) (bad : Bool) :
    KeepsOk (execScheduledFrameSend p bad s) := by
  refine keepsOk_onUnit ?_
  dsimp only
  repeat' split
  all_goals simp [h]

theorem keepsOk_execReorderGapTimeout (h : s.memoriesOk = true) (p : Nat) :
    KeepsOk (execReorderGapTimeout p s) := by
  refine keepsOk_onUnit ?_
  dsimp only
  split <;> simp [h]

theorem keepsOk_execDetourRelease (h : s.memoriesOk = true) (p : Nat) :
    KeepsOk (execDetourRelease p s) := by
  refine keepsOk_onUnit ?_
  dsimp only
  split <;> simp [h]

theorem keepsOk_execBarRepeat (h : s.memoriesOk = true) (q : Nat) :
    KeepsOk (execBarRepeat q s) := by
  refine keepsOk_onUnit ?_
  repeat' split
  all_goals simp [h]

theorem keepsOk_execLaneChangeSwitch (h : s.memoriesOk = true) (p : Nat) (dir : Bool) (l : Nat) :
    KeepsOk (execLaneChangeSwitch p dir l s) := by
  refine keepsOk_onUnit ?_
  split <;> simp [h]

theorem keepsOk_execLaneChangeRetry (h : s.memoriesOk = true) (p : Nat) (dir : Bool) (l : Nat) :
    KeepsOk (execLaneChangeRetry p dir l s) := by
  refine keepsOk_onUnit ?_
  split <;> simp [h]

theorem keepsOk_execRingLock (h : s.memoriesOk = true) (q l : Nat) (dir : Bool) :
    KeepsOk (execRingLock q l dir s) := by
  refine keepsOk_onUnit ?_
  dsimp only
  split <;> simp [h]

theorem keepsOk_execLaneQualified (h : s.memoriesOk = true) (q l : Nat) (dir : Bool) (corrected bad : Nat) :
    KeepsOk (execLaneQualified q l dir corrected bad s) := by
  refine keepsOk_onUnit ?_
  dsimp only
  repeat' split
  all_goals simp [h]

theorem keepsOk_execRecalStart (h : s.memoriesOk = true) (q l : Nat) (dir : Bool) :
    KeepsOk (execRecalStart q l dir s) := by
  refine keepsOk_onUnit ?_
  split <;> simp [h]

theorem keepsOk_execRecalComplete (h : s.memoriesOk = true) (q l : Nat) (dir ok : Bool) (offset : Int) :
    KeepsOk (execRecalComplete q l dir ok offset s) := by
  refine keepsOk_onUnit ?_
  dsimp only
  repeat' split
  all_goals simp [h]

theorem keepsOk_execSourceFail (h : s.memoriesOk = true) (c i : Nat) :
    KeepsOk (execSourceFail c i s) := by
  refine keepsOk_onUnit ?_
  dsimp only
  repeat' split
  all_goals simp [h]

theorem keepsOk_execSpareVerified (h : s.memoriesOk = true) (c i : Nat) :
    KeepsOk (execSpareVerified c i s) := by
  refine keepsOk_onUnit ?_
  dsimp only
  split <;> simp [h]

theorem keepsOk_execPortUp (h : s.memoriesOk = true) (p : Nat) :
    KeepsOk (execPortUp p s) := by
  refine keepsOk_onUnit ?_
  dsimp only
  split <;> simp [h]

theorem keepsOk_execSectionIncomplete (h : s.memoriesOk = true) (image sec : Nat) :
    KeepsOk (execSectionIncomplete image sec s) := by
  refine keepsOk_next ?_
  split <;> simp [h]

theorem keepsOk_execEventDatagramSend (h : s.memoriesOk = true) (p : Nat) :
    KeepsOk (execEventDatagramSend p s) := by
  refine keepsOk_onUnit ?_
  repeat' split
  all_goals simp [h]

theorem keepsOk_execRdmaWrite (h : s.memoriesOk = true) (n : Nat) (r : RoceReq) :
    KeepsOk (execRdmaWrite n r s) := by
  refine keepsOk_onUnit ?_
  simp -implicitDefEqProofs +contextual [h]

theorem keepsOk_execRdmaReadRequest (h : s.memoriesOk = true) (n : Nat) (r : RoceReq) :
    KeepsOk (execRdmaReadRequest n r s) := by
  refine keepsOk_onUnit ?_
  simp -implicitDefEqProofs +contextual [h]

theorem keepsOk_execRdmaReadResponse (h : s.memoriesOk = true) (n : Nat) (r : RoceReq) :
    KeepsOk (execRdmaReadResponse n r s) := by
  refine keepsOk_onUnit ?_
  simp -implicitDefEqProofs +contextual [h]

theorem keepsOk_execRdmaLocalTimeout (h : s.memoriesOk = true) (n : Nat) :
    KeepsOk (execRdmaLocalTimeout n s) := by
  refine keepsOk_onUnit ?_
  dsimp only
  split <;> simp [h]

theorem keepsOk_execProbeStart (h : s.memoriesOk = true) (n j : Nat) :
    KeepsOk (execProbeStart n j s) := by
  refine keepsOk_onUnit ?_
  dsimp only
  split <;> simp [h]

theorem keepsOk_execProbeComplete (h : s.memoriesOk = true) (n j : Nat) (crc : BitVec 32) :
    KeepsOk (execProbeComplete n j crc s) := by
  refine keepsOk_onUnit ?_
  split <;> simp [h]

theorem keepsOk_execStragglerPeriodEnd (h : s.memoriesOk = true)  :
    KeepsOk (execStragglerPeriodEnd  s) := by
  refine keepsOk_next ?_
  split <;> simp -implicitDefEqProofs [h]

theorem keepsOk_execFuseWrite (h : s.memoriesOk = true)  :
    KeepsOk (execFuseWrite  s) := by
  refine keepsOk_next ?_
  split <;> simp [h]

theorem keepsOk_execCairnRecordWrite (h : s.memoriesOk = true)  :
    KeepsOk (execCairnRecordWrite  s) := by
  refine keepsOk_next ?_
  split <;> simp [h]

theorem keepsOk_execRingClearSlot (h : s.memoriesOk = true)  :
    KeepsOk (execRingClearSlot  s) := by
  refine keepsOk_next ?_
  repeat' split
  all_goals simp [h]

theorem keepsOk_execManagementDomainDown (h : s.memoriesOk = true)  :
    KeepsOk (execManagementDomainDown  s) := by
  refine keepsOk_next ?_
  split <;> simp [h]

theorem keepsOk_execHubReset (h : s.memoriesOk = true)  :
    KeepsOk (execHubReset  s) := by
  refine keepsOk_next ?_
  simp -implicitDefEqProofs [h]

theorem keepsOk_execFwEraseComplete (h : s.memoriesOk = true)  :
    KeepsOk (execFwEraseComplete  s) := by
  refine keepsOk_next ?_
  simp -implicitDefEqProofs [h]

theorem keepsOk_execUafadaUndefinedType (h : s.memoriesOk = true) (p : Nat) (m : UMsg) :
    KeepsOk (execUafadaUndefinedType p m s) := by
  refine keepsOk_onUnit ?_
  repeat' split
  all_goals simp [h]

theorem keepsOk_execTimeFrameReceive (h : s.memoriesOk = true) (p l : Nat) (f : CtlFrame) (fine : BitVec 4) :
    KeepsOk (execTimeFrameReceive p l f fine s) := by
  have hr := State.takenOk_receiveCtl h p l f 0
  refine keepsOk_onUnit ?_
  split
  · next heq => simpa using hr.of_some heq
  · next heq => exact hr.of_none heq

theorem keepsOk_execDataFrame (h : s.memoriesOk = true) (p l : Nat) (f : Frame) : KeepsOk (execDataFrame p l f s) := by
  have hr := State.takenOk_receiveFrame h p l f 1
  refine keepsOk_onUnit ?_
  split
  · next heq => exact State.memoriesOk_takeData1 (hr.of_some heq) p f
  · next heq => exact hr.of_none heq

theorem keepsOk_execIdle (h : s.memoriesOk = true) (p l : Nat) (f : Frame) : KeepsOk (execIdle p l f s) := by
  have hr := State.takenOk_receiveFrame h p l f 0
  refine keepsOk_onUnit ?_
  split
  · next heq => exact hr.of_some heq
  · next heq => exact hr.of_none heq

theorem keepsOk_execNak (h : s.memoriesOk = true) (p l : Nat) (f : Frame) (bad : List Nat) : KeepsOk (execNak p l f bad s) := by
  have hr := State.takenOk_receiveFrame h p l f 3
  refine keepsOk_onUnit ?_
  split
  · next heq => simpa using hr.of_some heq
  · next heq => exact hr.of_none heq

theorem keepsOk_execIdent (h : s.memoriesOk = true) (q l : Nat) (f : CtlFrame) : KeepsOk (execIdent q l f s) := by
  have hr := State.takenOk_receiveCtlAt h q l f 0
  refine keepsOk_onUnit ?_
  split
  · next heq =>
    have ht := hr.of_some heq
    split
    · split <;> simp [ht]
    · simp [ht]
  · next heq => exact hr.of_none heq

theorem keepsOk_execBar (h : s.memoriesOk = true) (q l : Nat) (f : CtlFrame) : KeepsOk (execBar q l f s) := by
  have hr := State.takenOk_receiveCtlAt h q l f 4
  refine keepsOk_onUnit ?_
  split
  · next heq =>
    have ht := hr.of_some heq
    split
    · split <;> simp [ht]
    · exact ht
  · next heq => exact hr.of_none heq

theorem keepsOk_onControl (h : s.memoriesOk = true) (p l : Nat) (f : CtlFrame) {g : State → Words4 → State}
    (hg : ∀ t b, t.memoriesOk = true → (g t b).memoriesOk = true) : KeepsOk (s.onControl p l f g) := by
  have hr := State.takenOk_receiveCtl h p l f 1
  refine keepsOk_onUnit ?_
  split
  · next heq => exact hg _ _ (hr.of_some heq)
  · next heq => exact hr.of_none heq

theorem keepsOk_execReadData (h : s.memoriesOk = true) (q : Packet) : KeepsOk (execReadData q s) :=
  keepsOk_next (State.memoriesOk_reach h _ _ fun t ht => by split <;> simp [ht])

theorem keepsOk_execAcknowledge (h : s.memoriesOk = true) (n : Nat) (hd : RoceHead) (code : AckCode) :
    KeepsOk (execAcknowledge n hd code s) :=
  keepsOk_onUnit (State.memoriesOk_onConn h _ _ fun t ht => by split <;> simp [ht])

theorem keepsOk_execVld (h : s.memoriesOk = true) (n : Nat) (f : IF) : KeepsOk (execVld n f s) :=
  keepsOk_onUnit (State.memoriesOk_runIV h _ _ fun _ _ hc => State.memoriesOk_vecAccess h _ _ _ (State.memoriesOk_done h _ hc))

theorem keepsOk_execVst (h : s.memoriesOk = true) (n : Nat) (f : IF) : KeepsOk (execVst n f s) :=
  keepsOk_onUnit (State.memoriesOk_runIV h _ _ fun _ _ hc =>
    State.memoriesOk_vecAccess h _ _ _ (State.memoriesOk_done h _ (Core.wf_storeLanes hc _ _ _)))

theorem keepsOk_execPld (h : s.memoriesOk = true) (n : Nat) (f : IF) : KeepsOk (execPld n f s) :=
  keepsOk_onUnit (State.memoriesOk_runI h _ _ _ _ _ fun _ hc =>
    State.memoriesOk_access h _ _ _ (State.memoriesOk_done h _ (by simpa using hc)))

theorem keepsOk_execPst (h : s.memoriesOk = true) (n : Nat) (f : IF) : KeepsOk (execPst n f s) :=
  keepsOk_onUnit (State.memoriesOk_runI h _ _ _ _ _ fun _ hc =>
    State.memoriesOk_access h _ _ _ (State.memoriesOk_done h _ (Core.wf_storeN hc _ _ _)))

theorem Core.store_enqueueTile (c : Core) (a cnt rate : Nat) (b : TileBlk) : (c.enqueueTile a cnt rate b).store = c.store := by
  unfold Core.enqueueTile
  split <;> rfl

theorem keepsOk_execTile (h : s.memoriesOk = true) (n : Nat) (f : CF) : KeepsOk (execTile n f s) := by
  refine keepsOk_onUnit (State.memoriesOk_issue h _ _ _ fun c hc => ?_)
  split
  · split
    · simp [h]
    · exact State.memoriesOk_setCore h _ hc
  · split
    · exact h
    · split
      · simp [h]
      · exact State.memoriesOk_done h _ (by rwa [Core.store_enqueueTile])

theorem keepsOk_execRoute (h : s.memoriesOk = true) (n : Nat) (f : CF) : KeepsOk (execRoute n f s) := by
  refine keepsOk_onUnit (State.memoriesOk_runC h _ _ _ fun c hc => ?_)
  split
  · exact h
  · split
    · simp [h]
    · exact State.memoriesOk_done h _ hc

theorem keepsOk_execWaitt (h : s.memoriesOk = true) (n : Nat) (f : CF) : KeepsOk (execWaitt n f s) := by
  refine keepsOk_onUnit (State.memoriesOk_runC h _ _ _ fun c hc => ?_)
  split
  · exact State.memoriesOk_done h _ hc
  · exact State.memoriesOk_setCore h _ hc

theorem keepsOk_execWaitc (h : s.memoriesOk = true) (n : Nat) (f : CF) : KeepsOk (execWaitc n f s) := by
  refine keepsOk_onUnit (State.memoriesOk_runC h _ _ _ fun c hc => ?_)
  have he : ∀ met, (s.endWait n c.nextPc f.n.toNat met).memoriesOk = true := fun met =>
    State.memoriesOk_endWait (c := c.nextPc) h n hc _ met
  have hw : ∀ w, (s.setCore n (c.await w)).memoriesOk = true := fun w => State.memoriesOk_setCore (c := c.await w) h n hc
  simp [he, hw]

theorem keepsOk_execFence (h : s.memoriesOk = true) (n : Nat) (f : RF) : KeepsOk (execFence n f s) :=
  keepsOk_onUnit (State.memoriesOk_runR h _ _ _ fun _ hc => State.memoriesOk_rcDropPart (State.memoriesOk_startFence h _ hc _ _ _) _ _)

theorem keepsOk_execFenceEid (h : s.memoriesOk = true) (n : Nat) (f : RF) : KeepsOk (execFenceEid n f s) :=
  keepsOk_onUnit (State.memoriesOk_runR h _ _ _ fun _ hc => State.memoriesOk_rcDropPart (State.memoriesOk_startFence h _ hc _ _ _) _ _)

theorem keepsOk_execAcq (h : s.memoriesOk = true) (n : Nat) (f : RF) : KeepsOk (execAcq n f s) :=
  keepsOk_onUnit (State.memoriesOk_runR h _ _ _ fun _ hc => State.memoriesOk_rcDropPart (State.memoriesOk_startFence h _ hc _ _ _) _ _)

theorem keepsOk_execWaitTimeResume (h : s.memoriesOk = true) (n : Nat) : KeepsOk (execWaitTimeResume n s) := by
  refine keepsOk_onUnit ?_
  split
  · exact State.memoriesOk_ite_of (State.memoriesOk_setCore h _ (State.wf_coreAt_store h n)) h
  · exact h

theorem keepsOk_execCounterWaitResume (h : s.memoriesOk = true) (n : Nat) : KeepsOk (execCounterWaitResume n s) := by
  refine keepsOk_onUnit ?_
  have he : ∀ p met, (s.endWait n (s.coreAt n).resumed p met).memoriesOk = true := fun p met =>
    State.memoriesOk_endWait (c := (s.coreAt n).resumed) h n (State.wf_coreAt_store h n) p met
  dsimp only
  split
  · exact State.memoriesOk_ite_of (he _ _) (State.memoriesOk_ite_of (he _ _) h)
  · exact h

theorem GsOp.wf_lane1 (g : GsOp) {o : GsOut} (h : o.store.wf = true) (i : Nat) : (g.lane1 o i).store.wf = true := by
  unfold GsOp.lane1
  split <;> first | exact h | exact Memory.wf_write _ _ _ h

theorem GsOp.wf_run (g : GsOp) {m : Memory} (h : m.wf = true) (vec : Vec) : (g.run m vec).store.wf = true := by
  unfold GsOp.run
  generalize List.range 64 = l
  have hi : (GsOut.mk m vec 0).store.wf = true := h
  generalize GsOut.mk m vec 0 = o at hi
  induction l generalizing o with
  | nil => exact hi
  | cons i l ih =>
    refine ih _ ?_
    dsimp only
    split
    · exact g.wf_lane1 hi i
    · exact hi

theorem Core.wf_finishGs {c : Core} (h : c.store.wf = true) (g : GsOp) (rest : List GsOp) : (c.finishGs g rest).store.wf = true := by
  have hr := g.wf_run h (c.vreg g.dest)
  unfold Core.finishGs
  dsimp only
  split
  · exact hr
  · exact hr

theorem keepsOk_execGatherScatterComplete (h : s.memoriesOk = true) (n : Nat) : KeepsOk (execGatherScatterComplete n s) := by
  refine keepsOk_onUnit ?_
  dsimp only
  split
  · simp only [State.memoriesOk_countCore, State.memoriesOk_setFlags]
    exact State.memoriesOk_setCore h n (Core.wf_finishGs (State.wf_coreAt_store h n) _ _)
  · exact h

theorem RouteBlk.wf_run (b : RouteBlk) {m : Memory} (h : m.wf = true) : (b.run m).store.wf = true :=
  Memory.wf_foldl (Memory.wf_write _ _ _ (Memory.wf_foldl h fun _ _ hm => Memory.wf_write _ _ _ hm)) fun m x hm => by
    dsimp only
    split
    · exact Memory.wf_write _ _ _ hm
    · exact hm

theorem keepsOk_execRouteLeave (h : s.memoriesOk = true) (n : Nat) : KeepsOk (execRouteLeave n s) := by
  refine keepsOk_onUnit ?_
  dsimp only
  split
  · simp only [State.memoriesOk_bump, State.memoriesOk_enterDescs, State.memoriesOk_setFlags]
    exact State.memoriesOk_setCore h n (RouteBlk.wf_run _ (State.wf_coreAt_store h n))
  · exact h

theorem keepsOk_execZrangeFlushComplete (h : s.memoriesOk = true) (d k : Nat) : KeepsOk (execZrangeFlushComplete d k s) := by
  refine keepsOk_onUnit (State.memoriesOk_ite_of ?_ h)
  rw [State.memoriesOk_setReg, State.memoriesOk_setMem]
  refine State.memoriesOk_foldl ?_ fun t e ht => by split <;> simp [ht]
  exact State.memoriesOk_of_mem h rfl rfl (Memory.wf_filter _ _ (State.wf_memBytes h))

theorem keepsOk_execParityError (h : s.memoriesOk = true) (d : Nat) (dir : Bool) (b : Nat) (wrong : BitVec 66) (edge : Bool)
    (hits : List LinkMsg) : KeepsOk (execParityError d dir b wrong edge hits s) := by
  have hm : ∀ {u : State}, u.memoriesOk = true →
      ((hits.foldr insertMsg []).foldl (fun s m => s.poisonMsg d m) u).memoriesOk = true := fun hu =>
    State.memoriesOk_foldl hu fun _ _ ht => State.memoriesOk_poisonMsg ht _ _
  refine keepsOk_onUnit (State.memoriesOk_ite_of h (State.memoriesOk_ite_of (State.memoriesOk_dropBundle ?_ _ _ _) ?_))
  · exact hm (by simp [h])
  · exact hm (by simp [h])

theorem keepsOk_execLinkRejoinComplete (h : s.memoriesOk = true) (d : Nat) : KeepsOk (execLinkRejoinComplete d s) := by
  have hl : (((List.range 8).foldl (fun s i => s.initStack d i) s).linkEnterUp d).memoriesOk = true :=
    State.memoriesOk_linkEnterUp (State.memoriesOk_foldl h fun _ _ ht => State.memoriesOk_initStack ht _ _) d
  refine keepsOk_onUnit (State.memoriesOk_ite_of ?_ h)
  rw [State.memoriesOk_stageOn]
  exact State.memoriesOk_ite_of hl (by simp [hl])

theorem keepsOk_execOpenSession (h : s.memoriesOk = true) (p : Nat) (m : UMsg) : KeepsOk (execOpenSession p m s) :=
  keepsOk_onUnit (State.memoriesOk_ofOp h 1 p m fun t ht => Answer.memoriesOk_ite (by simp [ht]) (keeps_doOpen m t ht))

theorem keepsOk_execSelftestComplete (h : s.memoriesOk = true) (d : Nat) (r : SelfTest) : KeepsOk (execSelftestComplete d r s) := by
  have hp : (r.badPos.foldl (fun s e => if s.fuse.posOk e.1 e.2 then s.fencePosition e.1 e.2 else s) (s.zeroTested d)).memoriesOk = true :=
    State.memoriesOk_foldl (State.memoriesOk_zeroTested h d) fun _ _ ht =>
      State.memoriesOk_ite_of (State.memoriesOk_fencePosition ht _ _) ht
  have hc := State.memoriesOk_foldl (l := r.badCores) (f := fun (s : State) n => s.fenceTested n) hp fun _ _ ht =>
    State.memoriesOk_fenceTested ht _
  have hd := State.memoriesOk_commandHold hc d true
  refine keepsOk_onUnit (State.memoriesOk_ite_of ?_ h)
  simp only [State.memoriesOk_testsDone, State.memoriesOk_mk, State.memoriesOk_parts, State.memoriesOk_ite, State.memoriesOk_setBit,
    hd, hc, ite_self]

end Sys2Proof.Machine
end

section
/-! PROOF. Every command keeps the canonical form of the memories, and with it every step (O5). -/
namespace Sys2Proof.Machine
open Sys2Proof

variable {s : State}

theorem keepsOk_execPing (h : s.memoriesOk = true) (p : Nat) (m : UMsg) : KeepsOk (execPing p m s) :=
  keepsOk_onUnit (State.memoriesOk_ofType h _ p m (keeps_doPing m))

theorem keepsOk_execUafadaRead (h : s.memoriesOk = true) (p : Nat) (m : UMsg) : KeepsOk (execUafadaRead p m s) :=
  keepsOk_onUnit (State.memoriesOk_ofType h _ p m (keeps_doRead m))

theorem keepsOk_execUafadaWrite (h : s.memoriesOk = true) (p : Nat) (m : UMsg) : KeepsOk (execUafadaWrite p m s) :=
  keepsOk_onUnit (State.memoriesOk_ofType h _ p m (keeps_doWrite p m))

theorem keepsOk_execImage (h : s.memoriesOk = true) (p : Nat) (m : UMsg) : KeepsOk (execImage p m s) :=
  keepsOk_onUnit (State.memoriesOk_ofType h _ p m (keeps_doImage p m))

theorem keepsOk_execTeardown (h : s.memoriesOk = true) (p : Nat) (m : UMsg) : KeepsOk (execTeardown p m s) :=
  keepsOk_onUnit (State.memoriesOk_ofType h _ p m (keeps_doTeardown m))

theorem keepsOk_execEventAck (h : s.memoriesOk = true) (p : Nat) (m : UMsg) : KeepsOk (execEventAck p m s) :=
  keepsOk_onUnit (State.memoriesOk_ofType h _ p m (keeps_doEventAck m))

theorem keepsOk_execQuote (h : s.memoriesOk = true) (p : Nat) (m : UMsg) : KeepsOk (execQuote p m s) :=
  keepsOk_onUnit (State.memoriesOk_ofOp h _ p m (keeps_doQuote m))

theorem keepsOk_execCloseSession (h : s.memoriesOk = true) (p : Nat) (m : UMsg) : KeepsOk (execCloseSession p m s) :=
  keepsOk_onUnit (State.memoriesOk_ofOp h _ p m (keeps_doClose m))

theorem keepsOk_execLaneDrop (h : s.memoriesOk = true) (p l : Nat) (f : CtlFrame) : KeepsOk (execLaneDrop p l f s) :=
  keepsOk_onControl h p l f fun t b ht => by simp [ht]

theorem keepsOk_execLaneAdd (h : s.memoriesOk = true) (p l : Nat) (f : CtlFrame) : KeepsOk (execLaneAdd p l f s) :=
  keepsOk_onControl h p l f fun t b ht => by simp [ht]

theorem keepsOk_execLaneAck (h : s.memoriesOk = true) (p l : Nat) (f : CtlFrame) : KeepsOk (execLaneAck p l f s) :=
  keepsOk_onControl h p l f fun t b ht => by simp [ht]

/-- Every command leaves the memories in their canonical form: the plain commands by the lemma of their one state operation, the others
by their own lemma. -/
theorem keepsOk_exec (i : Instr) (h : s.memoriesOk = true) : KeepsOk (exec i s) := by
  cases i with
  | parentFramesStale | ptpMessage | add | sub | mul | andS | orS | xorS | shl | shr | sra | minS | maxS | minu | maxu | addi
  | andi | ori | shli | shri | srai | cmpeq | cmpne | cmplt | cmpltu | cmple | cmpleu | pand | por | pxor | pandn | ldB | ldBu
  | ldH | ldHu | ldW | ldWu | ldD | stB | stH | stW | stD | rldW | rldD | rstW | rstD | raddI32 | raddI64 | raddF32 | raddBf16x2
  | rswapW | rswapD | rcasW | rcasD | rminI32 | rminI64 | rmaxI32 | rmaxI64 | randW | randD | rorW | rorD | rxorW | rxorD | vadd
  | vsub | vmul | vfma | vfnma | vmin | vmax | vabs | vneg | vdiv | vsqrt | vrsqrt | vexp | vlog | vrsum | vrmax | vcmpeq
  | vcmplt | vcmple | vcmpun | vsel | vmov | vbcast | vand | vor | vxor | vshl | vshr | viota | cvtBf | cvtFblo | cvtFbhi | cvtIf
  | cvtFi | rint | gather | scatter | scatadd | rgather | rscatter | rscatadd | upd | updrow | rootreq | stepend | coreStart
  | coreHalted | levelUpdate | coreResetHold | coreFence | coreRun | updGsel | updCommit | updClrStat | memoryRequest
  | refreshCommand | refreshIntervalRelax | scrubRead | memoryInitComplete | zrangeEnable | zrangeDisable | linkTrainStart
  | trainAttemptFail | linkTrainComplete | bundleDrop | bundleRestripe | d2dFence | d2dRejoin | d2dRetrain | d2dHold | invAll
  | invPart | rcEnable | dynamicAdmit | idleSend | laneSilence | portLost | detourApply | belayReinject | holdPort | releasePort
  | laneFecFault | pilotLoopUpdate | toneCheck | cassetteFail | feedSwitchBack | cassetteInsert | cassetteVerifyEnd
  | cassetteSafe | portAttemptFail | portRetry | replyCacheExpiry | ethNeighborReply | cnp | rdmaUnsupportedOpcode
  | rdmaRateRaise | thermalCeilingRise | opPointStep | thermalTrip | stackLimitRelease | probeRoundStart | probeHoldExpiry
  | clrFaults | probeNow | cassRemove | readClear | registerWrite | ethLinkChange | ptpTransmitterNotHeard | ethFrameDiscard => exact keepsOk_onUnit (by simp [h])
  | ptpLockLost | holdoverTimeout | oscillatorFault | slewBackEnd | reply | ack | replyRecordExpiry | recordWaitPerform
  | pitchBoundary | telemetryMapClose | telDataRead | recalNow | retire | restore | sectionActivate | cancel | activateNow
  | imageStoreWrite | eventResend | sessionIdleTimeout | qpselWrite | qpCommit | qpReset | sensorSample | powerCeilingStep
  | restartQualified | thermRestart | nvmWindowOpen | closeAll | edataRead | cairnWin3Read | bladeMate | modulePowerUp
  | inputLoss | inputRestore | powerDown | bivouac | resume | fwDataWrite | fwCancel | fwSwitch | fwVerify | fwErase
  | firmwareSwitch | newFirmwareStart => exact keepsOk_next (by simp [h])
  | timeFrameSend => exact keepsOk_execTimeFrameSend h _
  | timeFrameReceive => exact keepsOk_execTimeFrameReceive h _ _ _ _
  | acquireTimeout => exact keepsOk_execAcquireTimeout h
  | parentRejectExpiry => exact keepsOk_execParentRejectExpiry h _
  | scheduledTrafficResume => exact keepsOk_execScheduledTrafficResume h
  | waitTimeResume => exact keepsOk_execWaitTimeResume h _
  | nop => exact keepsOk_execNop h _ _
  | li => exact keepsOk_execLi h _ _
  | lih => exact keepsOk_execLih h _ _
  | pcnt => exact keepsOk_execPcnt h _ _
  | pfrom => exact keepsOk_execPfrom h _ _
  | pto => exact keepsOk_execPto h _ _
  | rdct => exact keepsOk_execRdct h _ _
  | rdflags => exact keepsOk_execRdflags h _ _
  | clrflags => exact keepsOk_execClrflags h _ _
  | rdid => exact keepsOk_execRdid h _ _
  | branchB => exact keepsOk_execBranchB h _ _
  | bl => exact keepsOk_execBl h _ _
  | br => exact keepsOk_execBr h _ _
  | blr => exact keepsOk_execBlr h _ _
  | loop => exact keepsOk_execLoop h _ _
  | vld => exact keepsOk_execVld h _ _
  | vst => exact keepsOk_execVst h _ _
  | pld => exact keepsOk_execPld h _ _
  | pst => exact keepsOk_execPst h _ _
  | vextr => exact keepsOk_execVextr h _ _
  | pack => exact keepsOk_execPack h _ _
  | unpack => exact keepsOk_execUnpack h _ _
  | tile => exact keepsOk_execTile h _ _
  | twarm => exact keepsOk_execTwarm h _ _
  | route => exact keepsOk_execRoute h _ _
  | copy => exact keepsOk_execCopy h _ _
  | waitt => exact keepsOk_execWaitt h _ _
  | waitc => exact keepsOk_execWaitc h _ _
  | setcnt => exact keepsOk_execSetcnt h _ _
  | rdcnt => exact keepsOk_execRdcnt h _ _
  | fence => exact keepsOk_execFence h _ _
  | fenceEid => exact keepsOk_execFenceEid h _ _
  | acq => exact keepsOk_execAcq h _ _
  | rel => exact keepsOk_execRel h _ _
  | halt => exact keepsOk_execHalt h _ _
  | counterWaitResume => exact keepsOk_execCounterWaitResume h _
  | tileAccept => exact keepsOk_execTileAccept h _ _
  | tileStart => exact keepsOk_execTileStart h _ _
  | stationarySwap => exact keepsOk_execStationarySwap h _ _
  | tileWritebackEnd => exact keepsOk_execTileWritebackEnd h _ _ _ _
  | twarmEnd => exact keepsOk_execTwarmEnd h _ _
  | gatherScatterComplete => exact keepsOk_execGatherScatterComplete h _
  | routeStart => exact keepsOk_execRouteStart h _
  | routeLeave => exact keepsOk_execRouteLeave h _
  | routeComplete => exact keepsOk_execRouteComplete h _
  | swdataAccess => exact keepsOk_execSwdataAccess h _ _
  | updateCallStart => exact keepsOk_execUpdateCallStart h _ _
  | updateCallComplete => exact keepsOk_execUpdateCallComplete h _ _
  | rootRefreshStart => exact keepsOk_execRootRefreshStart h _ _
  | rootRefreshComplete => exact keepsOk_execRootRefreshComplete h _ _
  | stependSwap => exact keepsOk_execStependSwap h _ _
  | memoryAdmit => exact keepsOk_execMemoryAdmit h _ _
  | channelServe => exact keepsOk_execChannelServe h _ _ _ _
  | regulatorCreditTick => exact keepsOk_execRegulatorCreditTick h _
  | zeroMapFill => exact keepsOk_execZeroMapFill h _ _ _
  | zrangeFlushComplete => exact keepsOk_execZrangeFlushComplete h _ _
  | parityError => exact keepsOk_execParityError h _ _ _ _ _ _
  | dieFence => exact keepsOk_execDieFence h _ _
  | linkRejoinComplete => exact keepsOk_execLinkRejoinComplete h _
  | load => exact keepsOk_execLoad h _
  | store => exact keepsOk_execStore h _
  | atomic => exact keepsOk_execAtomic h _
  | write => exact keepsOk_execWrite h _
  | reduce => exact keepsOk_execReduce h _
  | gfxor => exact keepsOk_execGfxor h _
  | readReq => exact keepsOk_execReadReq h _
  | topoChunk => exact keepsOk_execTopoChunk h _ _
  | refusal => exact keepsOk_execRefusal h _
  | readData => exact keepsOk_execReadData h _
  | remoteAccessTimeout => exact keepsOk_execRemoteAccessTimeout h _ _
  | retransmitTimeout => exact keepsOk_execRetransmitTimeout h _ _
  | copyTimeout => exact keepsOk_execCopyTimeout h _ _
  | ackTimer => exact keepsOk_execAckTimer h _
  | fenceComplete => exact keepsOk_execFenceComplete h _
  | fenceTimeout => exact keepsOk_execFenceTimeout h _
  | copyEngineAdmit => exact keepsOk_execCopyEngineAdmit h _ _
  | copyPacketSend => exact keepsOk_execCopyPacketSend h _ _
  | copyDescriptorComplete => exact keepsOk_execCopyDescriptorComplete h _ _
  | teardownAtT => exact keepsOk_execTeardownAtT h _
  | dataFrame => exact keepsOk_execDataFrame h _ _ _
  | frameInject => exact keepsOk_execFrameInject h _ _
  | scheduledFrameSend => exact keepsOk_execScheduledFrameSend h _ _
  | idle => exact keepsOk_execIdle h _ _ _
  | nak => exact keepsOk_execNak h _ _ _ _
  | reorderGapTimeout => exact keepsOk_execReorderGapTimeout h _
  | detourRelease => exact keepsOk_execDetourRelease h _
  | ident => exact keepsOk_execIdent h _ _ _
  | laneDrop => exact keepsOk_execLaneDrop h _ _ _
  | laneAdd => exact keepsOk_execLaneAdd h _ _ _
  | laneAck => exact keepsOk_execLaneAck h _ _ _
  | bar => exact keepsOk_execBar h _ _ _
  | barRepeat => exact keepsOk_execBarRepeat h _
  | laneChangeSwitch => exact keepsOk_execLaneChangeSwitch h _ _ _
  | laneChangeRetry => exact keepsOk_execLaneChangeRetry h _ _ _
  | ringLock => exact keepsOk_execRingLock h _ _ _
  | laneQualified => exact keepsOk_execLaneQualified h _ _ _ _ _
  | recalStart => exact keepsOk_execRecalStart h _ _ _
  | recalComplete => exact keepsOk_execRecalComplete h _ _ _ _ _
  | sourceFail => exact keepsOk_execSourceFail h _ _
  | spareVerified => exact keepsOk_execSpareVerified h _ _
  | portUp => exact keepsOk_execPortUp h _
  | sectionIncomplete => exact keepsOk_execSectionIncomplete h _ _
  | ping => exact keepsOk_execPing h _ _
  | uafadaRead => exact keepsOk_execUafadaRead h _ _
  | uafadaWrite => exact keepsOk_execUafadaWrite h _ _
  | image => exact keepsOk_execImage h _ _
  | teardown => exact keepsOk_execTeardown h _ _
  | eventAck => exact keepsOk_execEventAck h _ _
  | quote => exact keepsOk_execQuote h _ _
  | openSession => exact keepsOk_execOpenSession h _ _
  | closeSession => exact keepsOk_execCloseSession h _ _
  | eventDatagramSend => exact keepsOk_execEventDatagramSend h _
  | rdmaWrite => exact keepsOk_execRdmaWrite h _ _
  | rdmaReadRequest => exact keepsOk_execRdmaReadRequest h _ _
  | rdmaReadResponse => exact keepsOk_execRdmaReadResponse h _ _
  | acknowledge => exact keepsOk_execAcknowledge h _ _ _
  | rdmaLocalTimeout => exact keepsOk_execRdmaLocalTimeout h _
  | probeStart => exact keepsOk_execProbeStart h _ _
  | probeComplete => exact keepsOk_execProbeComplete h _ _ _
  | stragglerPeriodEnd => exact keepsOk_execStragglerPeriodEnd h
  | fuseWrite => exact keepsOk_execFuseWrite h
  | cairnRecordWrite => exact keepsOk_execCairnRecordWrite h
  | ringClearSlot => exact keepsOk_execRingClearSlot h
  | selftestComplete => exact keepsOk_execSelftestComplete h _ _
  | managementDomainDown => exact keepsOk_execManagementDomainDown h
  | hubReset => exact keepsOk_execHubReset h
  | fwEraseComplete => exact keepsOk_execFwEraseComplete h
  | uafadaUndefinedType => exact keepsOk_execUafadaUndefinedType h _ _

/-- Settles O5: an idle step keeps the canonical form by the lemma of its tick, and every other step by the lemma of its command. -/
theorem stepKeepsMemoriesCanonical : Obligations.StepKeepsMemoriesCanonical := by
  unfold Obligations.StepKeepsMemoriesCanonical
  intro s t h ht
  unfold step at ht
  split at ht
  · cases ht
    exact State.memoriesOk_idleStep h
  · next c rest _ => exact keepsOk_exec (s := { s with pending := rest }) c h t ht

end Sys2Proof.Machine
end

section
/-! PROOF. The words of the core instructions: their fields, and the two ways between words and instructions (O7, O8). -/
namespace Sys2Proof
open Sys2Proof

/-! ### The fields of a word -/

/-- The class field of a word (R121), of any spelling of the width. -/
def bitsClass {k : Nat} (w : BitVec k) : BitVec 4 := w.extractLsb' 60 4

/-- The opcode field of a word (R121), of any spelling of the width. -/
def bitsOp {k : Nat} (w : BitVec k) : BitVec 6 := w.extractLsb' 54 6

/-- `RF.ofWord` at any spelling of the width: a word put together from its fields has a sum as its width. -/
def RF.ofBits {k : Nat} (w : BitVec k) : RF :=
  { gneg := w.getLsbD 53, guard := w.extractLsb' 50 3, d := w.extractLsb' 45 5, a := w.extractLsb' 40 5, b := w.extractLsb' 35 5
    c := w.extractLsb' 30 5, fmt := w.extractLsb' 24 6, rm := w.extractLsb' 22 2, x := w.extractLsb' 17 5
    idx := w.extractLsb' 12 5, half := w.getLsbD 11, lm1 := w.extractLsb' 5 6, res := w.extractLsb' 0 5 }

/-- `IF.ofWord` at any spelling of the width. -/
def IF.ofBits {k : Nat} (w : BitVec k) : IF :=
  { gneg := w.getLsbD 53, guard := w.extractLsb' 50 3, d := w.extractLsb' 45 5, a := w.extractLsb' 40 5, imm := w.extractLsb' 0 40 }

/-- `CF.ofWord` at any spelling of the width. -/
def CF.ofBits {k : Nat} (w : BitVec k) : CF :=
  { gneg := w.getLsbD 53, guard := w.extractLsb' 50 3, cnt := w.extractLsb' 45 5, a := w.extractLsb' 40 5, b := w.extractLsb' 35 5
    n := w.extractLsb' 30 5, imm := w.extractLsb' 0 30 }

/-- The fields of format R one after another. -/
def RF.toBits (c : BitVec 4) (o : BitVec 6) (f : RF) : BitVec (4 + 6 + 1 + 3 + 5 + 5 + 5 + 5 + 6 + 2 + 5 + 5 + 1 + 6 + 5) := f.toWord c o

/-- The fields of format I one after another. -/
def IF.toBits (c : BitVec 4) (o : BitVec 6) (f : IF) : BitVec (4 + 6 + 1 + 3 + 5 + 5 + 40) := f.toWord c o

/-- The fields of format C one after another. -/
def CF.toBits (c : BitVec 4) (o : BitVec 6) (f : CF) : BitVec (4 + 6 + 1 + 3 + 5 + 5 + 5 + 5 + 30) := f.toWord c o

variable (c : BitVec 4) (o : BitVec 6)

theorem RF.bitsClass_toBits (f : RF) : bitsClass (f.toBits c o) = c := by
  simp (disch := decide) only [bitsClass, RF.toBits, RF.toWord, BitVec.extractLsb'_append_eq_of_le, Nat.reduceSub,
    BitVec.extractLsb'_eq_self]

theorem RF.bitsOp_toBits (f : RF) : bitsOp (f.toBits c o) = o := by
  simp (disch := decide) only [bitsOp, RF.toBits, RF.toWord, BitVec.extractLsb'_append_eq_of_le,
    BitVec.extractLsb'_append_eq_of_add_le, Nat.reduceSub, BitVec.extractLsb'_eq_self]

theorem RF.ofBits_toBits (f : RF) : RF.ofBits (f.toBits c o) = f := by
  simp (disch := decide) only [RF.ofBits, RF.toBits, RF.toWord, BitVec.extractLsb'_append_eq_of_le,
    BitVec.extractLsb'_append_eq_of_add_le, BitVec.getLsbD_append, Nat.reduceSub, Nat.reduceLT, reduceIte,
    BitVec.extractLsb'_eq_self, BitVec.getLsbD_ofBool]
  rfl

theorem IF.bitsClass_toBits (f : IF) : bitsClass (f.toBits c o) = c := by
  simp (disch := decide) only [bitsClass, IF.toBits, IF.toWord, BitVec.extractLsb'_append_eq_of_le, Nat.reduceSub,
    BitVec.extractLsb'_eq_self]

theorem IF.bitsOp_toBits (f : IF) : bitsOp (f.toBits c o) = o := by
  simp (disch := decide) only [bitsOp, IF.toBits, IF.toWord, BitVec.extractLsb'_append_eq_of_le,
    BitVec.extractLsb'_append_eq_of_add_le, Nat.reduceSub, BitVec.extractLsb'_eq_self]

theorem IF.ofBits_toBits (f : IF) : IF.ofBits (f.toBits c o) = f := by
  simp (disch := decide) only [IF.ofBits, IF.toBits, IF.toWord, BitVec.extractLsb'_append_eq_of_le,
    BitVec.extractLsb'_append_eq_of_add_le, BitVec.getLsbD_append, Nat.reduceSub, Nat.reduceLT, reduceIte,
    BitVec.extractLsb'_eq_self, BitVec.getLsbD_ofBool]
  rfl

theorem CF.bitsClass_toBits (f : CF) : bitsClass (f.toBits c o) = c := by
  simp (disch := decide) only [bitsClass, CF.toBits, CF.toWord, BitVec.extractLsb'_append_eq_of_le, Nat.reduceSub,
    BitVec.extractLsb'_eq_self]

theorem CF.bitsOp_toBits (f : CF) : bitsOp (f.toBits c o) = o := by
  simp (disch := decide) only [bitsOp, CF.toBits, CF.toWord, BitVec.extractLsb'_append_eq_of_le,
    BitVec.extractLsb'_append_eq_of_add_le, Nat.reduceSub, BitVec.extractLsb'_eq_self]

theorem CF.ofBits_toBits (f : CF) : CF.ofBits (f.toBits c o) = f := by
  simp (disch := decide) only [CF.ofBits, CF.toBits, CF.toWord, BitVec.extractLsb'_append_eq_of_le,
    BitVec.extractLsb'_append_eq_of_add_le, BitVec.getLsbD_append, Nat.reduceSub, Nat.reduceLT, reduceIte,
    BitVec.extractLsb'_eq_self, BitVec.getLsbD_ofBool]
  rfl

theorem ofBool_getLsbD (w : W64) (i : Nat) : BitVec.ofBool (w.getLsbD i) = w.extractLsb' i 1 := by
  ext j hj
  obtain rfl : j = 0 := by omega
  simp

theorem RF.toWord_ofWord (w : W64) : (RF.ofWord w).toWord (bitsClass w) (bitsOp w) = w := by
  simp only [RF.toWord, RF.ofWord, bitsClass, bitsOp, ofBool_getLsbD, BitVec.extractLsb'_append_extractLsb'_eq_extractLsb']
  exact BitVec.extractLsb'_eq_self

theorem IF.toWord_ofWord (w : W64) : (IF.ofWord w).toWord (bitsClass w) (bitsOp w) = w := by
  simp only [IF.toWord, IF.ofWord, bitsClass, bitsOp, ofBool_getLsbD, BitVec.extractLsb'_append_extractLsb'_eq_extractLsb']
  exact BitVec.extractLsb'_eq_self

theorem CF.toWord_ofWord (w : W64) : (CF.ofWord w).toWord (bitsClass w) (bitsOp w) = w := by
  simp only [CF.toWord, CF.ofWord, bitsClass, bitsOp, ofBool_getLsbD, BitVec.extractLsb'_append_extractLsb'_eq_extractLsb']
  exact BitVec.extractLsb'_eq_self

/-- A word of class c and opcode o is the word of its own fields. -/
theorem RF.word_eq {w : W64} {x y : Nat} (hc : (w.extractLsb' 60 4).toNat = x) (ho : (w.extractLsb' 54 6).toNat = y) :
    RF.toWord (BitVec.ofNat 4 x) (BitVec.ofNat 6 y) (RF.ofWord w) = w := by
  rw [← hc, ← ho, BitVec.ofNat_toNat, BitVec.ofNat_toNat, BitVec.setWidth_eq, BitVec.setWidth_eq]
  exact RF.toWord_ofWord w

/-- A word of class c and opcode o is the word of its own fields. -/
theorem IF.word_eq {w : W64} {x y : Nat} (hc : (w.extractLsb' 60 4).toNat = x) (ho : (w.extractLsb' 54 6).toNat = y) :
    IF.toWord (BitVec.ofNat 4 x) (BitVec.ofNat 6 y) (IF.ofWord w) = w := by
  rw [← hc, ← ho, BitVec.ofNat_toNat, BitVec.ofNat_toNat, BitVec.setWidth_eq, BitVec.setWidth_eq]
  exact IF.toWord_ofWord w

/-- A word of class c and opcode o is the word of its own fields. -/
theorem CF.word_eq {w : W64} {x y : Nat} (hc : (w.extractLsb' 60 4).toNat = x) (ho : (w.extractLsb' 54 6).toNat = y) :
    CF.toWord (BitVec.ofNat 4 x) (BitVec.ofNat 6 y) (CF.ofWord w) = w := by
  rw [← hc, ← ho, BitVec.ofNat_toNat, BitVec.ofNat_toNat, BitVec.setWidth_eq, BitVec.setWidth_eq]
  exact CF.toWord_ofWord w

/-! ### From a word to its instruction and back (O8) -/

theorem encode_of_decodeScalar {n : Nat} {w : W64} {i : Instr} (hc : (w.extractLsb' 60 4).toNat = 0)
    (h : decodeScalar n w (w.extractLsb' 54 6).toNat = some i) : encodeCoreWord i = some (n, w) := by
  unfold decodeScalar at h
  split at h <;> cases h
  all_goals
    rename_i ho
    simp [encodeCoreWord, RF.word_eq hc ho, IF.word_eq hc ho]

theorem encode_of_decodeBranch {n : Nat} {w : W64} {i : Instr} (hc : (w.extractLsb' 60 4).toNat = 1)
    (h : decodeBranch n w (w.extractLsb' 54 6).toNat = some i) : encodeCoreWord i = some (n, w) := by
  unfold decodeBranch at h
  split at h <;> cases h
  all_goals
    rename_i ho
    simp [encodeCoreWord, IF.word_eq hc ho]

theorem encode_of_decodeAccess {n : Nat} {w : W64} {i : Instr} (hc : (w.extractLsb' 60 4).toNat = 2)
    (h : decodeAccess n w (w.extractLsb' 54 6).toNat = some i) : encodeCoreWord i = some (n, w) := by
  unfold decodeAccess at h
  split at h <;> cases h
  all_goals
    rename_i ho
    simp [encodeCoreWord, RF.word_eq hc ho, IF.word_eq hc ho]

theorem encode_of_decodeVector {n : Nat} {w : W64} {i : Instr} (hc : (w.extractLsb' 60 4).toNat = 3)
    (h : decodeVector n w (w.extractLsb' 54 6).toNat = some i) : encodeCoreWord i = some (n, w) := by
  unfold decodeVector at h
  split at h <;> cases h
  all_goals
    rename_i ho
    simp [encodeCoreWord, RF.word_eq hc ho]

theorem encode_of_decodeConversion {n : Nat} {w : W64} {i : Instr} (hc : (w.extractLsb' 60 4).toNat = 4)
    (h : decodeConversion n w (w.extractLsb' 54 6).toNat = some i) : encodeCoreWord i = some (n, w) := by
  unfold decodeConversion at h
  split at h <;> cases h
  all_goals
    rename_i ho
    simp [encodeCoreWord, RF.word_eq hc ho]

theorem encode_of_decodeTile {n : Nat} {w : W64} {i : Instr} (hc : (w.extractLsb' 60 4).toNat = 5)
    (h : decodeTile n w (w.extractLsb' 54 6).toNat = some i) : encodeCoreWord i = some (n, w) := by
  unfold decodeTile at h
  split at h <;> cases h
  all_goals
    rename_i ho
    simp [encodeCoreWord, CF.word_eq hc ho]

theorem encode_of_decodeGather {n : Nat} {w : W64} {i : Instr} (hc : (w.extractLsb' 60 4).toNat = 6)
    (h : decodeGather n w (w.extractLsb' 54 6).toNat = some i) : encodeCoreWord i = some (n, w) := by
  unfold decodeGather at h
  split at h <;> cases h
  all_goals
    rename_i ho
    simp [encodeCoreWord, RF.word_eq hc ho]

theorem encode_of_decodeRoute {n : Nat} {w : W64} {i : Instr} (hc : (w.extractLsb' 60 4).toNat = 7)
    (h : decodeRoute n w (w.extractLsb' 54 6).toNat = some i) : encodeCoreWord i = some (n, w) := by
  unfold decodeRoute at h
  split at h <;> cases h
  all_goals
    rename_i ho
    simp [encodeCoreWord, CF.word_eq hc ho]

theorem encode_of_decodeCopy {n : Nat} {w : W64} {i : Instr} (hc : (w.extractLsb' 60 4).toNat = 8)
    (h : decodeCopy n w (w.extractLsb' 54 6).toNat = some i) : encodeCoreWord i = some (n, w) := by
  unfold decodeCopy at h
  split at h <;> cases h
  all_goals
    rename_i ho
    simp [encodeCoreWord, CF.word_eq hc ho]

theorem encode_of_decodeSync {n : Nat} {w : W64} {i : Instr} (hc : (w.extractLsb' 60 4).toNat = 9)
    (h : decodeSync n w (w.extractLsb' 54 6).toNat = some i) : encodeCoreWord i = some (n, w) := by
  unfold decodeSync at h
  split at h <;> cases h
  all_goals
    rename_i ho
    simp [encodeCoreWord, RF.word_eq hc ho, CF.word_eq hc ho]

theorem encode_of_decodeUpdate {n : Nat} {w : W64} {i : Instr} (hc : (w.extractLsb' 60 4).toNat = 10)
    (h : decodeUpdate n w (w.extractLsb' 54 6).toNat = some i) : encodeCoreWord i = some (n, w) := by
  unfold decodeUpdate at h
  split at h <;> cases h
  all_goals
    rename_i ho
    simp [encodeCoreWord, CF.word_eq hc ho]

theorem encode_of_decode {n : Nat} {w : W64} {i : Instr} (h : decodeCoreWord n w = some i) : encodeCoreWord i = some (n, w) := by
  unfold decodeCoreWord at h
  dsimp only at h
  split at h
  · next hc => exact encode_of_decodeScalar hc h
  · next hc => exact encode_of_decodeBranch hc h
  · next hc => exact encode_of_decodeAccess hc h
  · next hc => exact encode_of_decodeVector hc h
  · next hc => exact encode_of_decodeConversion hc h
  · next hc => exact encode_of_decodeTile hc h
  · next hc => exact encode_of_decodeGather hc h
  · next hc => exact encode_of_decodeRoute hc h
  · next hc => exact encode_of_decodeCopy hc h
  · next hc => exact encode_of_decodeSync hc h
  · next hc => exact encode_of_decodeUpdate hc h
  · cases h

theorem decode_reserved {n : Nat} {w : W64} (h : 11 ≤ (w.extractLsb' 60 4).toNat) : decodeCoreWord n w = none := by
  unfold decodeCoreWord
  dsimp only
  split
  case h_12 => rfl
  all_goals omega

/-- Settles O8: each decoder gives the instruction of the word's own class, opcode and fields, and the four words are evaluated. -/
theorem coreWordsHaveOneMeaning : Obligations.CoreWordsHaveOneMeaning := by
  unfold Obligations.CoreWordsHaveOneMeaning
  exact ⟨fun _ _ _ h => encode_of_decode h, fun _ _ h => decode_reserved h, by rfl, by rfl, by rfl, by rfl⟩

/-! ### From an instruction to its word and back (O7) -/

@[simp] theorem RF.class_toWord (c : BitVec 4) (o : BitVec 6) (f : RF) : (f.toWord c o).extractLsb' 60 4 = c :=
  RF.bitsClass_toBits c o f

@[simp] theorem RF.op_toWord (c : BitVec 4) (o : BitVec 6) (f : RF) : (f.toWord c o).extractLsb' 54 6 = o :=
  RF.bitsOp_toBits c o f

@[simp] theorem RF.ofWord_toWord (c : BitVec 4) (o : BitVec 6) (f : RF) : RF.ofWord (f.toWord c o) = f :=
  RF.ofBits_toBits c o f

@[simp] theorem IF.class_toWord (c : BitVec 4) (o : BitVec 6) (f : IF) : (f.toWord c o).extractLsb' 60 4 = c :=
  IF.bitsClass_toBits c o f

@[simp] theorem IF.op_toWord (c : BitVec 4) (o : BitVec 6) (f : IF) : (f.toWord c o).extractLsb' 54 6 = o :=
  IF.bitsOp_toBits c o f

@[simp] theorem IF.ofWord_toWord (c : BitVec 4) (o : BitVec 6) (f : IF) : IF.ofWord (f.toWord c o) = f :=
  IF.ofBits_toBits c o f

@[simp] theorem CF.class_toWord (c : BitVec 4) (o : BitVec 6) (f : CF) : (f.toWord c o).extractLsb' 60 4 = c :=
  CF.bitsClass_toBits c o f

@[simp] theorem CF.op_toWord (c : BitVec 4) (o : BitVec 6) (f : CF) : (f.toWord c o).extractLsb' 54 6 = o :=
  CF.bitsOp_toBits c o f

@[simp] theorem CF.ofWord_toWord (c : BitVec 4) (o : BitVec 6) (f : CF) : CF.ofWord (f.toWord c o) = f :=
  CF.ofBits_toBits c o f

/-- Settles O7: the class and the opcode of an instruction's word choose its decoder and its row, which reads the fields back. -/
theorem coreWordsRoundTrip : Obligations.CoreWordsRoundTrip := by
  unfold Obligations.CoreWordsRoundTrip
  intro i n w h
  unfold encodeCoreWord at h
  split at h <;> cases h
  all_goals simp [decodeCoreWord, decodeScalar, decodeBranch, decodeAccess, decodeVector, decodeConversion, decodeTile, decodeGather,
    decodeRoute, decodeCopy, decodeSync, decodeUpdate]

end Sys2Proof
end

section
/-! PROOF. Every command completes exactly when the units that it names exist (O3). -/
namespace Sys2Proof.Machine
open Sys2Proof

theorem ringExists_eq_ringOk (q l : Nat) : ringExists q l = ringOk q l := by
  rw [ringExists, Bool.decide_and]
  rfl

/-- A command's outcome is that of one next state where the units that it names exist, and the fault elsewhere. -/
def AnswersOnUnit (i : Instr) (s : State) : Prop := ∃ t, exec i s = onUnit i.wf t

theorem answersOnUnit_of_ringOk {i : Instr} {s t : State} {q l : Nat} (h : exec i s = onUnit (ringOk q l) t)
    (hwf : i.wf = ringExists q l) : AnswersOnUnit i s :=
  ⟨t, by rw [h, hwf, ringExists_eq_ringOk]⟩

theorem answersOnUnit_selftestComplete (d : Nat) (r : SelfTest) (s : State) : AnswersOnUnit (.selftestComplete d r) s := by
  have hwf : (Instr.selftestComplete d r).wf
      = decide (d < 4 ∧ (r.badPos.all fun e => dieOf e.1 == d) ∧ r.badCores.all fun n => dieOf n == d) := by
    rw [Bool.eq_iff_iff, decide_eq_true_eq]
    simp [Instr.wf, dieOf, and_assoc]
  exact ⟨_, by rw [hwf]; rfl⟩

theorem answersOnUnit (i : Instr) (s : State) : AnswersOnUnit i s := by
  cases i with
  | ident | bar | ringLock | pilotLoopUpdate | toneCheck | laneQualified | recalStart | recalComplete =>
    exact answersOnUnit_of_ringOk rfl rfl
  | selftestComplete d r => exact answersOnUnit_selftestComplete d r s
  | _ => exact ⟨_, rfl⟩

/-- Settles O3: by the one form of every command's outcome. -/
theorem commandsCompleteExactlyOnExistingUnits : Obligations.CommandsCompleteExactlyOnExistingUnits := by
  unfold Obligations.CommandsCompleteExactlyOnExistingUnits
  intro i s
  obtain ⟨t, ht⟩ := answersOnUnit i s
  exact ⟨fun h => ⟨t, by rw [ht, h]; rfl⟩, fun h => by rw [ht, h]; rfl⟩

end Sys2Proof.Machine
end

section
/-! PROOF. The statements of the block's step and of its reset (O1, O4, O6). -/
namespace Sys2Proof.Machine
open Sys2Proof

-- Evaluations side by side hold more threads than the memory of a check admits.
set_option Elab.async false

/-- Settles O1, by what a step is. -/
theorem stepRunsFrontCommand : Obligations.StepRunsFrontCommand := by
  unfold Obligations.StepRunsFrontCommand
  intro c rest s h
  simp only [step, h]

/-- Settles O4: no memory lists a byte after reset. -/
theorem resetMemoriesCanonical : Obligations.ResetMemoriesCanonical := by
  unfold Obligations.ResetMemoriesCanonical
  rfl

/-! ### Registers that reset leaves at zero (O6) -/

/-- A register of a block has a reset value other than 0. -/
def RegDesc.startsNonzero (d : RegDesc) : Bool := d.resetVal != 0

theorem regReset_eq_zero {a : Nat} {l : List RegDesc} (hl : (blockRegs a).filter RegDesc.startsNonzero = l)
    (h : ∀ d ∈ l, d.locate a = none) : regReset a = 0 := by
  unfold regReset
  split
  · next _ d _ hd =>
    by_contra hv
    obtain ⟨e, he, hf⟩ := List.exists_of_findSome?_eq_some hd
    obtain ⟨p, hp, hq⟩ := Option.map_eq_some_iff.mp hf
    cases hq
    have := h d (hl ▸ List.mem_filter.mpr ⟨he, by simpa [RegDesc.startsNonzero] using hv⟩)
    simp [this] at hp
  · rfl

/-- The registers of the core map's block numbers upward that start at a value other than 0. -/
def nonzeroFromCore : List RegDesc :=
  [Reg.coreCtrl, Reg.shadowCfg, Reg.pwrCeil, Reg.pwrOp, Reg.cstat, Reg.ethPcfg, Reg.evPort, Reg.qpdata0]

theorem startsNonzero_core : regsCore.filter RegDesc.startsNonzero = [Reg.coreCtrl, Reg.shadowCfg] := by decide +kernel
theorem startsNonzero_upd : regsUpd.filter RegDesc.startsNonzero = [] := by decide +kernel
theorem startsNonzero_power : (regsTherm ++ regsPwr).filter RegDesc.startsNonzero = [Reg.pwrCeil, Reg.pwrOp] := by decide +kernel
theorem startsNonzero_sec : regsSec.filter RegDesc.startsNonzero = [] := by decide +kernel
theorem startsNonzero_cairn : regsCairn.filter RegDesc.startsNonzero = [Reg.cstat] := by decide +kernel
theorem startsNonzero_eth : regsEth.filter RegDesc.startsNonzero = [Reg.ethPcfg, Reg.evPort, Reg.qpdata0] := by decide +kernel
theorem startsNonzero_self : regsSelf.filter RegDesc.startsNonzero = [] := by decide +kernel

/-- From the core map upward the registers that start at a value other than 0 are eight. -/
theorem startsNonzero_blocks {a : Nat} (ha : 8 ≤ a / 0x100000) :
    ∃ l, (blockRegs a).filter RegDesc.startsNonzero = l ∧ ∀ d ∈ l, d ∈ nonzeroFromCore := by
  refine ⟨_, rfl, ?_⟩
  unfold blockRegs
  split
  case h_1 | h_2 | h_3 | h_4 | h_5 | h_6 | h_7 => omega
  case h_8 => simp [startsNonzero_upd]
  case h_9 => simp only [startsNonzero_power]; simp [nonzeroFromCore]
  case h_10 => simp [startsNonzero_sec]
  case h_11 => simp [startsNonzero_cairn, nonzeroFromCore]
  case h_12 => simp [startsNonzero_eth, nonzeroFromCore]
  case h_13 => simp [startsNonzero_self]
  case h_14 =>
    split
    · simp [startsNonzero_core, nonzeroFromCore]
    · simp

/-- FLAGS and FAULT of a core, also of a number past the last core, start at zero: none of those registers lies at their place in a
core's 4 KiB. -/
theorem regReset_coreWord {a n o : Nat} (ha : a = 0x0800000 + o + n * 0x1000) (ho : o = 0x28 ∨ o = 0x30) : regReset a = 0 := by
  obtain ⟨l, hl, hm⟩ := startsNonzero_blocks (a := a) (by omega)
  refine regReset_eq_zero hl fun d hd => ?_
  have hd := hm d hd
  simp only [nonzeroFromCore, List.mem_cons, List.not_mem_nil, or_false] at hd
  obtain rfl | rfl | rfl | rfl | rfl | rfl | rfl | rfl := hd <;>
    simp [RegDesc.locate, Reg.coreCtrl, Reg.shadowCfg, Reg.pwrCeil, Reg.pwrOp, Reg.cstat, Reg.ethPcfg, Reg.evPort, Reg.qpdata0]
  all_goals omega

/-- Settles O6: the registers by their reset values, the rest by what the reset state lists. -/
theorem resetState : Obligations.ResetState := by
  unfold Obligations.ResetState
  refine ⟨rfl, rfl, rfl, fun n => ⟨rfl, ?_, ?_, fun k => rfl⟩, fun d => rfl, fun p => ⟨rfl, rfl⟩, rfl, rfl⟩
  · exact regReset_coreWord (o := 0x28) rfl (.inl rfl)
  · exact regReset_coreWord (o := 0x30) rfl (.inr rfl)

end Sys2Proof.Machine
end

section
/-! PROOF. Scalar results, compares, predicates and scalar reads, with their frames (O9, O10). -/
namespace Sys2Proof.Machine
open Sys2Proof

variable {s : State} {n : Nat}

/-- A command of core n whose outcome names that core completes with the state that its instruction leaves. -/
theorem completes_core {i : Instr} {t : State} {P : State → Prop} (hn : n < 2560) (hi : exec i s = onUnit (n < numCores) t) (hp : P t) :
    completes i s P :=
  ⟨t, by rw [hi, decide_eq_true (show n < numCores from hn)]; rfl, hp⟩

theorem completes_alu {f : RF} {i : Instr} {op : W64 → W64 → W64} {v : W64} (h : s.runsR n f { d := .s, a := .s, b := .s })
    (hi : exec i s = onUnit (n < numCores) (s.alu n f op))
    (hv : v = op ((s.coreAt n).sreg f.a.toNat) ((s.coreAt n).sreg f.b.toNat)) : completes i s (wroteScalar n f.d v s) := by
  refine completes_core h.1.1 hi ?_
  rw [State.alu, State.runR_eq _ _ _ _ _ h, Core.sreg_fetched, Core.sreg_fetched, hv]
  exact wroteScalar_done s n f.d _

theorem completes_aluImm {f : IF} {i : Instr} {imm : Bool} {op : W64 → W64} {v : W64} (h : s.runsI n f .s .s imm)
    (hi : exec i s = onUnit (n < numCores) (s.aluImm n f imm op)) (hv : v = op ((s.coreAt n).sreg f.a.toNat)) :
    completes i s (wroteScalar n f.d v s) := by
  refine completes_core h.1.1 hi ?_
  rw [State.aluImm, State.runI_eq _ _ _ _ _ _ _ h, Core.sreg_fetched, hv]
  exact wroteScalar_done s n f.d _

theorem min_signed {w : Nat} (x y : BitVec w) : (if x.toInt ≤ y.toInt then x else y) = if x.slt y then x else y := by
  rw [BitVec.slt_eq_decide]
  rcases lt_trichotomy x.toInt y.toInt with h | h | h
  · simp [h, h.le]
  · simp [BitVec.eq_of_toInt_eq h]
  · simp [not_le.mpr h, not_lt.mpr h.le]

theorem max_signed {w : Nat} (x y : BitVec w) : (if x.toInt ≤ y.toInt then y else x) = if x.slt y then y else x := by
  rw [BitVec.slt_eq_decide]
  rcases lt_trichotomy x.toInt y.toInt with h | h | h
  · simp [h, h.le]
  · simp [BitVec.eq_of_toInt_eq h]
  · simp [not_le.mpr h, not_lt.mpr h.le]

theorem min_unsigned {w : Nat} (x y : BitVec w) : (if x.toNat ≤ y.toNat then x else y) = if x.ult y then x else y := by
  rw [BitVec.ult_eq_decide]
  rcases lt_trichotomy x.toNat y.toNat with h | h | h
  · simp [h, h.le]
  · simp [BitVec.eq_of_toNat_eq h]
  · simp [not_le.mpr h, not_lt.mpr h.le]

theorem max_unsigned {w : Nat} (x y : BitVec w) : (if x.toNat ≤ y.toNat then y else x) = if x.ult y then y else x := by
  rw [BitVec.ult_eq_decide]
  rcases lt_trichotomy x.toNat y.toNat with h | h | h
  · simp [h, h.le]
  · simp [BitVec.eq_of_toNat_eq h]
  · simp [not_le.mpr h, not_lt.mpr h.le]

/-- LIH puts its 24 bits above the low 40 of the register. -/
theorem lih_value (x : W64) {k : Nat} (hk : k < 2 ^ 24) : BitVec.ofNat 64 (x.toNat % 2 ^ 40 + k * 2 ^ 40) = setFld x 63 40 k := by
  have hm : ~~~ maskOf 63 40 = BitVec.ofNat 64 (2 ^ 40 - 1) := by decide
  have hx : x.toNat % 2 ^ 40 < 2 ^ 40 := Nat.mod_lt _ (by norm_num)
  apply BitVec.eq_of_toNat_eq
  rw [setFld, hm, Nat.mod_eq_of_lt hk, BitVec.toNat_or, BitVec.toNat_and, BitVec.toNat_ofNat, BitVec.toNat_ofNat,
    BitVec.toNat_ofNat, Nat.mod_eq_of_lt (show 2 ^ 40 - 1 < 2 ^ 64 by norm_num), Nat.and_two_pow_sub_one_eq_mod,
    Nat.mod_eq_of_lt (show k * 2 ^ 40 < 2 ^ 64 by omega), Nat.mod_eq_of_lt (by omega), Nat.or_comm, Nat.mul_comm k,
    ← Nat.two_pow_add_eq_or_of_lt hx, Nat.add_comm]

theorem IF.imm_of_legal {f : IF} {d a : Use} {imm : Bool} (h : IF.legal f d a imm = true) : imm = true :=
  (Bool.and_eq_true_iff.mp h).2

/-- Settles O9: every form is one of the two shared operations, or writes its word as they do. -/
theorem scalarArithmeticAndImmediates : Obligations.ScalarArithmeticAndImmediates := by
  unfold Obligations.ScalarArithmeticAndImmediates
  refine ⟨fun n f s h => ?_, fun n f s => ⟨fun h => ?_, fun h => ?_, fun h => ?_, fun h => ?_⟩⟩
  · refine ⟨completes_alu h rfl rfl, completes_alu h rfl rfl, completes_alu h rfl (by rw [BitVec.ofNat_mul]; simp),
      completes_alu h rfl rfl, completes_alu h rfl rfl, completes_alu h rfl rfl, completes_alu h rfl rfl, completes_alu h rfl rfl,
      completes_alu h rfl rfl, completes_alu h rfl (min_signed ..), completes_alu h rfl (max_signed ..),
      completes_alu h rfl (min_unsigned ..), completes_alu h rfl (max_unsigned ..)⟩
  · exact ⟨completes_aluImm h rfl rfl, completes_aluImm h rfl rfl, completes_aluImm h rfl rfl⟩
  · exact ⟨completes_aluImm h rfl rfl, completes_aluImm h rfl rfl, completes_aluImm h rfl rfl⟩
  · refine completes_core h.1.1 rfl ?_
    rw [State.runI_eq _ _ _ _ _ _ _ h]
    exact wroteScalar_done s n f.d _
  · refine completes_core h.1.1 rfl ?_
    have hk : f.imm.toNat < 2 ^ 24 := of_decide_eq_true (IF.imm_of_legal h.2.1)
    rw [State.runI_eq _ _ _ _ _ _ _ h, Core.sreg_fetched, lih_value _ hk]
    exact wroteScalar_done s n f.d _

/-! ### Compares, predicates and scalar reads (O10) -/

theorem completes_compare {f : RF} {i : Instr} {cmp : W64 → W64 → Bool} {v : W64} (h : s.runsR n f { d := .p, a := .s, b := .s })
    (hi : exec i s = onUnit (n < numCores) (s.compare n f cmp))
    (hv : v = allBits (cmp ((s.coreAt n).sreg f.a.toNat) ((s.coreAt n).sreg f.b.toNat))) :
    completes i s (wrotePredicate n f.d v s) := by
  refine completes_core h.1.1 hi ?_
  rw [State.compare, State.runR_eq _ _ _ _ _ h, Core.sreg_fetched, Core.sreg_fetched, hv]
  exact wrotePredicate_done s n f.d _

theorem completes_predOp {f : RF} {i : Instr} {op : W64 → W64 → W64} {v : W64} (h : s.runsR n f { d := .p, a := .p, b := .p })
    (hi : exec i s = onUnit (n < numCores) (s.predOp n f op))
    (hv : v = op ((s.coreAt n).preg f.a.toNat) ((s.coreAt n).preg f.b.toNat)) : completes i s (wrotePredicate n f.d v s) := by
  refine completes_core h.1.1 hi ?_
  rw [State.predOp, State.runR_eq _ _ _ _ _ h, Core.preg_fetched, Core.preg_fetched, hv]
  exact wrotePredicate_done s n f.d _

theorem ite_allOnes {p : Prop} [Decidable p] {b : Bool} (h : p ↔ b = true) : (if p then BitVec.allOnes 64 else (0 : W64)) = allBits b := by
  unfold allBits
  split <;> split <;> simp_all

theorem ones_eq_length (w : W64) : ones w = ((List.range 64).filter fun i => w.getLsbD i).length := by
  have hsum : ∀ (l : List Nat) (k : Nat), l.foldl (fun k i => k + b2n (bit w i)) k = k + (l.filter fun i => w.getLsbD i).length := by
    intro l
    induction l with
    | nil => intro k; rfl
    | cons i l ih =>
      intro k
      rw [List.foldl_cons, ih]
      by_cases hw : w.getLsbD i <;> simp [bit, b2n, hw] <;> omega
  rw [ones, hsum, Nat.zero_add]

/-- Going on to the next instruction with nothing written. -/
theorem wentOn_done (s : State) (n : Nat) :
    let t := s.done n (s.coreAt n).fetched
    (t.coreAt n).pc = (s.coreAt n).pc + 8 ∧ sameButScalars (s.coreAt n) (t.coreAt n) ∧ (t.coreAt n).s = (s.coreAt n).s ∧ onlyCore n s t := by
  refine ⟨by simp, by simp [sameButScalars], by simp, rfl, fun m hm => State.coreAt_done_ne s _ hm⟩

/-- Settles O10: compares and predicate operations are two shared operations; the rest write their word as those do. -/
theorem predicatesAndScalarReads : Obligations.PredicatesAndScalarReads := by
  unfold Obligations.PredicatesAndScalarReads
  refine ⟨fun n f s => ⟨fun h => ?_, fun h => ?_, fun h => ?_, fun h => ?_⟩, fun n f s => ⟨fun h => ?_, fun h => ?_, fun h => ?_⟩⟩
  · exact ⟨completes_compare h rfl (ite_allOnes (by simp)), completes_compare h rfl (ite_allOnes (by simp)),
      completes_compare h rfl (ite_allOnes (by simp [BitVec.slt_eq_decide])),
      completes_compare h rfl (ite_allOnes (by simp [BitVec.ult_eq_decide])),
      completes_compare h rfl (ite_allOnes (by simp [BitVec.sle_eq_decide])),
      completes_compare h rfl (ite_allOnes (by simp [BitVec.ule_eq_decide]))⟩
  · exact ⟨completes_predOp h rfl rfl, completes_predOp h rfl rfl, completes_predOp h rfl rfl, completes_predOp h rfl rfl⟩
  · refine completes_core h.1.1 rfl ?_
    rw [State.runR_eq _ _ _ _ _ h, Core.sreg_fetched]
    exact wrotePredicate_done s n f.d _
  · constructor <;> refine completes_core h.1.1 rfl ?_ <;> rw [State.runR_eq _ _ _ _ _ h, Core.preg_fetched]
    · exact wroteScalar_done s n f.d _
    · rw [ones_eq_length]
      exact wroteScalar_done s n f.d _
  · refine completes_core h.1.1 rfl ?_
    rw [State.runR_eq _ _ _ _ _ h]
    exact wentOn_done s n
  · refine ⟨?_, ?_, ?_⟩ <;> refine completes_core h.1.1 rfl ?_ <;> rw [State.runR_eq _ _ _ _ _ h] <;> exact wroteScalar_done s n f.d _
  · refine completes_core h.1.1 rfl ?_
    rw [State.runR_eq _ _ _ _ _ h, Core.sreg_fetched]
    exact ⟨by simp, by simp, by simp, by simp [sameButScalars], rfl, fun m hm => State.coreAt_done_ne _ _ hm,
      fun b hb => State.reg_setReg_ne _ _ hb⟩

end Sys2Proof.Machine
end

section
/-! PROOF. What packing gives back, and the frames of stores, vector writes and exceptions; local and vector accesses (O14, O15). -/
namespace Sys2Proof.Machine
open Sys2Proof

/-! ### Words packed into one number -/

theorem packN_lt (w : Nat) (f : Nat → Nat) (n : Nat) : packN w f n < 2 ^ (w * n) := by
  induction n with
  | zero => simp [packN]
  | succ n ih =>
    have hf : f n % 2 ^ w < 2 ^ w := Nat.mod_lt _ (Nat.two_pow_pos w)
    calc packN w f n + f n % 2 ^ w * 2 ^ (w * n) < 2 ^ (w * n) + f n % 2 ^ w * 2 ^ (w * n) := by omega
      _ = (f n % 2 ^ w + 1) * 2 ^ (w * n) := by ring
      _ ≤ 2 ^ w * 2 ^ (w * n) := Nat.mul_le_mul_right _ hf
      _ = 2 ^ (w * (n + 1)) := by rw [← pow_add]; congr 1; ring

/-- A part of a packed number is the number that was put there. -/
theorem packN_part (w : Nat) (f : Nat → Nat) {i n : Nat} (hi : i < n) : packN w f n / 2 ^ (w * i) % 2 ^ w = f i % 2 ^ w := by
  induction n with
  | zero => omega
  | succ n ih =>
    rw [packN]
    rcases Nat.lt_succ_iff_lt_or_eq.mp hi with h | rfl
    · have hsplit : (2 : Nat) ^ (w * n) = 2 ^ (w * i) * (2 ^ w * 2 ^ (w * (n - i - 1))) := by
        rw [← pow_add, ← pow_add]
        congr 1
        obtain ⟨k, rfl⟩ : ∃ k, n = i + 1 + k := ⟨n - i - 1, by omega⟩
        rw [show i + 1 + k - i - 1 = k by omega]
        ring
      rw [hsplit, show f n % 2 ^ w * (2 ^ (w * i) * (2 ^ w * 2 ^ (w * (n - i - 1))))
          = 2 ^ (w * i) * (2 ^ w * (2 ^ (w * (n - i - 1)) * (f n % 2 ^ w))) by ring,
        Nat.add_mul_div_left _ _ (Nat.two_pow_pos _), Nat.add_mul_mod_self_left]
      exact ih h
    · rw [Nat.add_mul_div_right _ _ (Nat.two_pow_pos _), Nat.div_eq_of_lt (packN_lt w f i), Nat.zero_add, Nat.mod_mod]

theorem lane_ofLanes (f : Nat → W32) {i : Nat} (hi : i < 64) : lane (ofLanes f) i = f i := by
  apply BitVec.eq_of_toNat_eq
  have hlt := packN_lt 32 (fun i => (f i).toNat) 64
  rw [lane, BitVec.extractLsb'_toNat, ofLanes, BitVec.toNat_ofNat, Nat.mod_eq_of_lt hlt, Nat.shiftRight_eq_div_pow, packN_part 32 _ hi]
  exact Nat.mod_eq_of_lt (f i).isLt

theorem lane_blend (g : W64) (old : Vec) (f : Nat → W32) {i : Nat} (hi : i < 64) :
    lane (blend g old f) i = if bit g i then f i else lane old i := lane_ofLanes _ hi

theorem bit_ofBits (f : Nat → Bool) {i : Nat} (hi : i < 64) : bit (ofBits f) i = f i := by
  have hlt := packN_lt 1 (fun i => b2n (f i)) 64
  have hp := packN_part 1 (fun i => b2n (f i)) hi
  rw [Nat.one_mul, pow_one] at hp
  rw [bit, ofBits, BitVec.getLsbD_ofNat, decide_eq_true hi, Bool.true_and, Nat.testBit_eq_decide_div_mod_eq, hp]
  cases f i <;> rfl

theorem ofBytes_lt (l : List Byte) : ofBytes l < 2 ^ (8 * l.length) := by
  induction l with
  | nil => simp [ofBytes]
  | cons b bs ih =>
    have hb : b.toNat < 2 ^ 8 := b.isLt
    rw [ofBytes, List.length_cons, show 8 * (bs.length + 1) = 8 + 8 * bs.length by ring, pow_add]
    omega

theorem Core.loadN_lt (c : Core) (a w : Nat) : c.loadN a w < 2 ^ (8 * w) := by
  simpa [Core.loadN] using ofBytes_lt (Memory.bytes c.store a w)

/-! ### Frames of a store, of a vector write and of an exception -/

variable {s : State} {n : Nat}

theorem wroteStore_done (s : State) (n a w v : Nat) :
    wroteStore n a w v s (s.done n ((s.coreAt n).fetched.storeN a w v)) := by
  refine ⟨fun i hi => ?_, fun b hb => ?_, by simp [Core.storeN], by simp [sameButStore, Core.storeN], rfl,
    fun m hm => State.coreAt_done_ne s _ hm⟩
  · rw [State.coreAt_done_self]
    change Memory.byte (Memory.write (s.coreAt n).fetched.store a (toBytes w v)) (a + i) = _
    rw [Memory.byte_write, if_pos ⟨by omega, by simpa using hi⟩, Nat.add_sub_cancel_left, toBytes_getD _ _ _ hi]
  · rw [State.coreAt_done_self]
    change Memory.byte (Memory.write (s.coreAt n).fetched.store a (toBytes w v)) b = _
    rw [Memory.byte_write, if_neg (by rw [toBytes_length]; omega), Core.fetched_store]

theorem wroteLanes_done (s : State) (n : Nat) (d : BitVec 5) (g : W64) (f : Nat → W32) :
    wroteLanes n d g f s (s.done n ((s.coreAt n).fetched.setV d.toNat (blend g ((s.coreAt n).vreg d.toNat) f))) := by
  refine ⟨fun i hi => ?_, fun k hk => ?_, by simp, by simp [sameButVectors], rfl, fun m hm => State.coreAt_done_ne s _ hm⟩
  · rw [State.coreAt_done_self]
    change lane (((s.coreAt n).fetched.setV d.toNat _).vreg d.toNat) i = _
    rw [Core.vreg_setV, if_pos rfl, lane_blend _ _ _ hi]
  · rw [State.coreAt_done_self]
    change ((s.coreAt n).fetched.setV d.toNat _).vreg k = _
    rw [Core.vreg_setV, if_neg hk, Core.vreg_fetched]

theorem State.ready.running (h : s.ready n) : (s.coreAt n).st = .running := by
  have := h.2.1
  simp only [Core.mayIssue, Bool.and_eq_true, decide_eq_true_eq] at this
  exact this.1.1.1

theorem State.coreAt_jobFault (s : State) (index cause part tag peer addr p2 m : Nat) :
    (s.jobFault index cause part tag peer addr p2).coreAt m = s.coreAt m := by
  simp [State.coreAt]

/-- A job fault writes only registers of the endpoint, the cairn log and the event ring. -/
theorem State.reg_jobFault_ne (s : State) (index cause part tag peer addr p2 : Nat) {a : Nat} (h : a ≠ A.epJobfault)
    (h1 : a ≠ A.cairnCounts) (h2 : a ≠ A.cairnEvents) (h3 : a ≠ A.evStat) :
    (s.jobFault index cause part tag peer addr p2).reg a = s.reg a := by
  rw [(s.jobFault_logged index cause part tag peer addr p2).reg a h1 h2 h3]
  split
  · rfl
  · rw [State.reg_setBit, if_neg h]

theorem State.reg_coreFault_jobFault (s : State) (index cause part tag peer addr p2 : Nat) (hn : n < 2560) :
    (s.jobFault index cause part tag peer addr p2).reg (A.coreFault n) = s.reg (A.coreFault n) :=
  State.reg_jobFault_ne _ _ _ _ _ _ _ _ (by unfold A.coreFault A.epJobfault; omega) (by unfold A.coreFault A.cairnCounts; omega)
    (by unfold A.coreFault A.cairnEvents; omega) (by unfold A.coreFault A.evStat; omega)

theorem tookException_takeException (h : s.ready n) (cause : Cause) :
    tookException n cause s (s.takeException n cause (s.coreAt n).pc) := by
  unfold State.takeException
  simp only [h.running, true_or, if_true]
  split
  · exact ⟨by simp [State.coreAt_jobFault, Core.toFaulted], by rw [State.reg_coreFault_jobFault _ _ _ _ _ _ _ _ h.1]; simp,
      by simp [State.coreAt_jobFault, Core.toFaulted], by simp [State.coreAt_jobFault, Core.toFaulted],
      by simp [State.coreAt_jobFault, Core.toFaulted], by simp [State.coreAt_jobFault, Core.toFaulted],
      by simp [State.coreAt_jobFault, Core.toFaulted]⟩
  · exact ⟨by simp [Core.toFaulted], by simp, by simp [Core.toFaulted], by simp [Core.toFaulted], by simp [Core.toFaulted],
      by simp [Core.toFaulted], by simp [Core.toFaulted]⟩

/-! ### Local accesses (O14) -/

theorem completes_ld {f : IF} {i : Instr} {w : Nat} {ext : Nat → W64} {v : W64} (h : s.runsI n f .s .s true)
    (hi : exec i s = onUnit (n < numCores) (s.ldInstr n f w ext))
    (hat : localAddr (s.coreAt n) f % w = 0 ∧ localAddr (s.coreAt n) f + w ≤ storeSize)
    (hv : v = ext ((s.coreAt n).loadN (localAddr (s.coreAt n) f) w)) : completes i s (wroteScalar n f.d v s) := by
  refine completes_core h.1.1 hi ?_
  rw [State.ldInstr, State.runI_eq _ _ _ _ _ _ _ h, localAddr_fetched, State.access_ok _ _ hat.1 hat.2, Core.loadN_fetched, hv]
  exact wroteScalar_done s n f.d _

theorem completes_st {f : IF} {i : Instr} {w : Nat} (h : s.runsI n f .s .s true)
    (hi : exec i s = onUnit (n < numCores) (s.stInstr n f w))
    (hat : localAddr (s.coreAt n) f % w = 0 ∧ localAddr (s.coreAt n) f + w ≤ storeSize) :
    completes i s (wroteStore n (localAddr (s.coreAt n) f) w ((s.coreAt n).sreg f.d.toNat).toNat s) := by
  refine completes_core h.1.1 hi ?_
  rw [State.stInstr, State.runI_eq _ _ _ _ _ _ _ h, localAddr_fetched, State.access_ok _ _ hat.1 hat.2, Core.sreg_fetched]
  exact wroteStore_done s n _ _ _

/-- The sign extension of a load, as the statement writes it. -/
theorem sext_loadN (c : Core) (a w : Nat) :
    BitVec.ofInt 64 (if c.loadN a w < 2 ^ (8 * w - 1) then (c.loadN a w : Int) else c.loadN a w - 2 ^ (8 * w))
      = sext (8 * w) (c.loadN a w) := by
  rw [sext, signed, Nat.mod_eq_of_lt (c.loadN_lt a w)]
  push_cast
  rfl

theorem completes_ld_misaligned {f : IF} {i : Instr} {w : Nat} {ext : Nat → W64} (h : s.runsI n f .s .s true)
    (hi : exec i s = onUnit (n < numCores) (s.ldInstr n f w ext)) (ha : localAddr (s.coreAt n) f % w ≠ 0) :
    completes i s (tookException n .misaligned s) := by
  refine completes_core h.1.1 hi ?_
  rw [State.ldInstr, State.runI_eq _ _ _ _ _ _ _ h, localAddr_fetched, State.access_misaligned _ _ ha]
  exact tookException_takeException h.1 _

theorem completes_st_misaligned {f : IF} {i : Instr} {w : Nat} (h : s.runsI n f .s .s true)
    (hi : exec i s = onUnit (n < numCores) (s.stInstr n f w)) (ha : localAddr (s.coreAt n) f % w ≠ 0) :
    completes i s (tookException n .misaligned s) := by
  refine completes_core h.1.1 hi ?_
  rw [State.stInstr, State.runI_eq _ _ _ _ _ _ _ h, localAddr_fetched, State.access_misaligned _ _ ha]
  exact tookException_takeException h.1 _

theorem completes_ld_outside {f : IF} {i : Instr} {w : Nat} {ext : Nat → W64} (h : s.runsI n f .s .s true)
    (hi : exec i s = onUnit (n < numCores) (s.ldInstr n f w ext)) (ha : localAddr (s.coreAt n) f % w = 0)
    (hs : storeSize < localAddr (s.coreAt n) f + w) : completes i s (tookException n .storeRange s) := by
  refine completes_core h.1.1 hi ?_
  rw [State.ldInstr, State.runI_eq _ _ _ _ _ _ _ h, localAddr_fetched, State.access_outside _ _ ha hs]
  exact tookException_takeException h.1 _

theorem completes_st_outside {f : IF} {i : Instr} {w : Nat} (h : s.runsI n f .s .s true)
    (hi : exec i s = onUnit (n < numCores) (s.stInstr n f w)) (ha : localAddr (s.coreAt n) f % w = 0)
    (hs : storeSize < localAddr (s.coreAt n) f + w) : completes i s (tookException n .storeRange s) := by
  refine completes_core h.1.1 hi ?_
  rw [State.stInstr, State.runI_eq _ _ _ _ _ _ _ h, localAddr_fetched, State.access_outside _ _ ha hs]
  exact tookException_takeException h.1 _

/-- Settles O14: every load is one shared operation, and so is every store; PLD and PST access as they do. -/
theorem localLoadsAndStores : Obligations.LocalLoadsAndStores := by
  unfold Obligations.LocalLoadsAndStores
  refine ⟨fun n f s => ⟨fun h => ⟨fun ha => ⟨?_, ?_⟩, fun ha => ⟨?_, ?_⟩, fun ha => ⟨?_, ?_⟩, fun ha => ?_⟩, fun h ha => ?_⟩,
    fun n f s => ⟨fun h => ⟨fun ha => completes_st h rfl ha, fun ha => completes_st h rfl ha, fun ha => completes_st h rfl ha,
      fun ha => completes_st h rfl ha⟩, fun h ha => ?_⟩, fun n f s h => ?_⟩
  · exact completes_ld h rfl ha (sext_loadN _ _ _)
  · exact completes_ld h rfl ha rfl
  · exact completes_ld h rfl ha (sext_loadN _ _ _)
  · exact completes_ld h rfl ha rfl
  · exact completes_ld h rfl ha (sext_loadN _ _ _)
  · exact completes_ld h rfl ha rfl
  · exact completes_ld h rfl ha rfl
  · obtain ⟨ha, hs⟩ : localAddr (s.coreAt n) f % 8 = 0 ∧ localAddr (s.coreAt n) f + 8 ≤ storeSize := ha
    refine completes_core h.1.1 rfl ?_
    rw [State.runI_eq _ _ _ _ _ _ _ h, localAddr_fetched, State.access_ok _ _ ha hs, Core.loadN_fetched]
    exact wrotePredicate_done s n f.d _
  · obtain ⟨ha, hs⟩ : localAddr (s.coreAt n) f % 8 = 0 ∧ localAddr (s.coreAt n) f + 8 ≤ storeSize := ha
    refine completes_core h.1.1 rfl ?_
    rw [State.runI_eq _ _ _ _ _ _ _ h, localAddr_fetched, State.access_ok _ _ ha hs, Core.preg_fetched]
    exact wroteStore_done s n _ _ _
  · exact ⟨completes_ld_misaligned h rfl, completes_ld_misaligned h rfl, completes_ld_misaligned h rfl, completes_ld_misaligned h rfl,
      completes_ld_misaligned h rfl, completes_st_misaligned h rfl, completes_st_misaligned h rfl, completes_st_misaligned h rfl,
      completes_ld_outside h rfl, completes_ld_outside h rfl, completes_ld_outside h rfl, completes_ld_outside h rfl,
      completes_ld_outside h rfl, completes_ld_outside h rfl, completes_ld_outside h rfl, completes_st_outside h rfl,
      completes_st_outside h rfl, completes_st_outside h rfl, completes_st_outside h rfl⟩

/-! ### Vector accesses (O15) -/

theorem State.vecAccess_ok (s : State) (n : Nat) {base : Nat} {g : W64} (run : State) (ha : base % 64 = 0)
    (hr : ∀ i, i < 64 → bit g i = true → vecAddr base i + 4 ≤ storeSize) : s.vecAccess n base g run = run := by
  have hany : ((List.range 64).any fun i => bit g i && decide (storeSize < vecAddr base i + 4)) = false := by
    rw [List.any_eq_false]
    intro i hi
    have := hr i (List.mem_range.mp hi)
    simp only [Bool.and_eq_true, decide_eq_true_eq, not_and, not_lt]
    exact this
  simp [State.vecAccess, ha, hany]

/-- The words of a vector access at an aligned base do not overlap, also where they wrap at 2^64. -/
theorem vecAddr_disjoint {base i j : Nat} (ha : base % 64 = 0) (hi : i < 64) (hj : j < 64) (h : i ≠ j) :
    vecAddr base i + 4 ≤ vecAddr base j ∨ vecAddr base j + 4 ≤ vecAddr base i := by
  unfold vecAddr
  omega

/-- The store after the lanes below m were written by a VST. -/
theorem Core.storeLanes_bytes (c : Core) {base : Nat} (g : W64) (v : Vec) (ha : base % 64 = 0) {m : Nat} (hm : m ≤ 64) :
    let d := (List.range m).foldl (fun c i => if bit g i then c.storeN (vecAddr base i) 4 (lane v i).toNat else c) c
    (∀ i k, i < m → k < 4 → bit g i = true →
        Memory.byte d.store (vecAddr base i + k) = BitVec.ofNat 8 ((lane v i).toNat / 256 ^ k))
      ∧ (∀ b, (∀ i, i < m → bit g i = true → b < vecAddr base i ∨ vecAddr base i + 4 ≤ b) →
        Memory.byte d.store b = Memory.byte c.store b)
      ∧ { d with store := c.store } = c := by
  induction m with
  | zero => exact ⟨fun i k hi => absurd hi (Nat.not_lt_zero i), fun b _ => rfl, rfl⟩
  | succ m ih =>
    obtain ⟨hin, hout, hrest⟩ := ih (by omega)
    rw [List.range_succ, List.foldl_append, List.foldl_cons, List.foldl_nil]
    generalize (List.range m).foldl _ c = d at hin hout hrest ⊢
    by_cases hg : bit g m = true
    · simp only [if_pos hg, Core.storeN]
      refine ⟨fun i k hi hk hb => ?_, fun b hb => ?_, hrest⟩
      · rw [Memory.byte_write, toBytes_length]
        rcases Nat.lt_succ_iff_lt_or_eq.mp hi with h | rfl
        · have := vecAddr_disjoint (i := i) (j := m) ha (by omega) (by omega) (by omega)
          rw [if_neg (by omega)]
          exact hin i k h hk hb
        · rw [if_pos (by omega), Nat.add_sub_cancel_left, toBytes_getD _ _ _ hk]
      · have := hb m (by omega) hg
        rw [Memory.byte_write, toBytes_length, if_neg (by omega)]
        exact hout b fun i hi => hb i (by omega)
    · simp only [if_neg hg]
      refine ⟨fun i k hi hk hb => ?_, fun b hb => hout b fun i hi => hb i (by omega), hrest⟩
      rcases Nat.lt_succ_iff_lt_or_eq.mp hi with h | rfl
      · exact hin i k h hk hb
      · exact absurd hb hg

/-- Settles O15: the lanes of a load are a blend; those of a store are written one after another, each to its own word. -/
theorem vectorLoadsAndStores : Obligations.VectorLoadsAndStores := by
  unfold Obligations.VectorLoadsAndStores
  intro n f s h c a g word ha hr
  have hc : localAddr (s.coreAt n).fetched f = a := localAddr_fetched _ f
  constructor
  · refine completes_core h.1.1 rfl ?_
    rw [State.runIV_eq _ _ _ _ h, hc, State.vecAccess_ok _ _ _ ha hr]
    simp only [Core.vreg_fetched, Core.loadN_fetched]
    exact wroteLanes_done s n f.d g _
  · refine completes_core h.1.1 rfl ?_
    rw [State.runIV_eq _ _ _ _ h, hc, State.vecAccess_ok _ _ _ ha hr]
    obtain ⟨hin, hout, hrest⟩ := (s.coreAt n).fetched.storeLanes_bytes g ((s.coreAt n).vreg f.d.toNat) ha le_rfl
    simp only [Core.vreg_fetched, State.coreAt_done_self]
    refine ⟨hin, fun b hb => ?_, ?_, ?_, rfl, fun m hm => State.coreAt_done_ne s _ hm⟩
    · exact (hout b hb).trans (by rw [Core.fetched_store])
    · exact congrArg (· + 8) ((congrArg Core.pc hrest).trans (Core.fetched_pc _))
    · have hpatch := congrArg (fun d : Core => { d with pc := c.pc, ibuf := c.ibuf, store := c.store }) hrest
      exact hpatch.trans (by simp [c])

end Sys2Proof.Machine
end

section
/-! PROOF. Vector arithmetic, bit operations, moves, floating point and conversions between registers (O16, O17). -/
namespace Sys2Proof.Machine
open Sys2Proof

variable {s : State} {n : Nat}

/-! ### Lane-wise results -/

theorem laneFlags_zero (g : W64) : laneFlags g (fun _ => 0) = 0 := by
  simp [laneFlags]

@[simp] theorem laneOp_fetched (f : RF) (c : Core) (opF : FFmt → Rm → Nat → Nat → Nat → FRes) (opI : W32 → W32 → W32) (i : Nat) :
    laneOp f c.fetched opF opI i = laneOp f c opF opI i := by
  simp [laneOp]

/-- Writing lanes with their flags, said once for every instruction that does so. -/
theorem wroteLanesFlags_writeLanes (s : State) (n : Nat) (f : RF) (g : W64) (r : Nat → LaneRes) :
    wroteLanesFlags n f.d g (fun i => (r i).1) (laneFlags g fun i => (r i).2) s
      (s.writeLanes n f g (s.coreAt n).fetched r) := by
  unfold State.writeLanes
  refine ⟨fun i hi => ?_, fun k hk => ?_, ?_, by simp, by simp [sameButVectors], rfl, fun m hm => State.coreAt_done_ne _ _ hm,
    fun b hb => State.reg_setReg_ne _ _ hb⟩
  · rw [State.coreAt_done_self, Core.vreg_fetched]
    change lane (((s.coreAt n).fetched.setV f.d.toNat _).vreg f.d.toNat) i = _
    rw [Core.vreg_setV, if_pos rfl, lane_blend _ _ _ hi]
  · rw [State.coreAt_done_self]
    change ((s.coreAt n).fetched.setV f.d.toNat _).vreg k = _
    rw [Core.vreg_setV, if_neg hk, Core.vreg_fetched]
  · rw [State.reg_done]
    exact State.reg_setReg_self _ _ _

theorem completes_vecOp {f : RF} {i : Instr} {u : RUse} {opF : FFmt → Rm → Nat → Nat → Nat → FRes} {opI : W32 → W32 → W32}
    (h : s.runsV n f { u with rm := true }) (hi : exec i s = onUnit (n < numCores) (s.vecOp n f u opF opI)) :
    completes i s (wroteLanesFlags n f.d ((s.coreAt n).guardWord f.gneg f.guard) (fun k => (laneOp f (s.coreAt n) opF opI k).1)
      (laneFlags ((s.coreAt n).guardWord f.gneg f.guard) fun k => (laneOp f (s.coreAt n) opF opI k).2) s) := by
  refine completes_core h.1.1 hi ?_
  rw [State.vecOp, State.runV_eq _ _ _ _ _ h]
  have hl : laneOp f (s.coreAt n).fetched opF opI = laneOp f (s.coreAt n) opF opI := funext fun k => laneOp_fetched f _ opF opI k
  rw [hl]
  exact wroteLanesFlags_writeLanes s n f _ _

/-- The same for INT32 lanes, which set no flag. -/
theorem completes_vecInt {f : RF} {i : Instr} {u : RUse} {opF : FFmt → Rm → Nat → Nat → Nat → FRes} {opI : W32 → W32 → W32}
    (hf : f.fmt = 8) (h : s.runsV n f { u with rm := true }) (hi : exec i s = onUnit (n < numCores) (s.vecOp n f u opF opI))
    {r : Nat → W32} (hr : ∀ k, r k = opI (lane ((s.coreAt n).vreg f.a.toNat) k) (lane ((s.coreAt n).vreg f.b.toNat) k)) :
    completes i s (wroteLanesFlags n f.d ((s.coreAt n).guardWord f.gneg f.guard) r 0 s) := by
  have hl : laneOp f (s.coreAt n) opF opI = fun k => (r k, 0) := by
    funext k
    simp [laneOp, hf, hr]
  have := completes_vecOp h hi
  simpa only [hl, laneFlags_zero] using this

theorem completes_vecBits {f : RF} {i : Instr} {u : RUse} {op : Core → Nat → W32} {r : Nat → W32} (h : s.runsV n f u)
    (hi : exec i s = onUnit (n < numCores) (s.vecBits n f u op)) (hr : op (s.coreAt n).fetched = r) :
    completes i s (wroteLanes n f.d ((s.coreAt n).guardWord f.gneg f.guard) r s) := by
  refine completes_core h.1.1 hi ?_
  rw [State.vecBits, State.runV_eq _ _ _ _ _ h, hr, Core.vreg_fetched]
  exact wroteLanes_done s n f.d _ r

/-- Settles O16: the integer forms are one lane operation, the bit operations and moves another; VEXTR writes a scalar. -/
theorem vectorIntegersBitsAndMoves : Obligations.VectorIntegersBitsAndMoves := by
  unfold Obligations.VectorIntegersBitsAndMoves
  refine ⟨fun n f s hf => ⟨fun h => ?_, fun h => ?_⟩, fun n f s => ⟨fun h => ?_, fun h => ?_, fun h => ?_, fun h => ?_, fun h => ?_⟩⟩
  · exact ⟨completes_vecInt hf h rfl fun k => rfl, completes_vecInt hf h rfl fun k => rfl, completes_vecInt hf h rfl fun k => rfl,
      completes_vecInt hf h rfl fun k => min_signed _ _, completes_vecInt hf h rfl fun k => max_signed _ _⟩
  · refine ⟨completes_vecInt hf h rfl fun k => ?_, completes_vecInt hf h rfl fun k => BitVec.zero_sub _⟩
    simp [BitVec.slt_eq_decide]
  · exact ⟨completes_vecBits h rfl (by simp), completes_vecBits h rfl (by simp), completes_vecBits h rfl (by simp),
      completes_vecBits h rfl (by simp), completes_vecBits h rfl (by simp)⟩
  · exact completes_vecBits h rfl (by simp [bit])
  · exact completes_vecBits h rfl (by simp)
  · exact ⟨completes_vecBits h rfl (by simp [BitVec.setWidth_eq_extractLsb']),
      completes_vecBits h rfl (by simp [BitVec.setWidth_eq_extractLsb'])⟩
  · refine completes_core h.1.1 rfl ?_
    rw [State.runV_eq _ _ _ _ _ h]
    simp only [Core.vreg_fetched, Core.sreg_fetched, BitVec.ofNat_toNat]
    exact wroteScalar_done s n f.d _

/-- One lane of a floating-point operation: two BF16 elements, or one binary32 element (R102, R135). -/
def laneFloat (f : RF) (c : Core) (op : FFmt → Rm → Nat → Nat → Nat → FRes) (k : Nat) : LaneRes :=
  if f.fmt = 1 then
    let e := fun (j : Nat) => op bf16 (RF.mode f c j) (half (c.vreg f.a.toNat) j) (half (c.vreg f.b.toNat) j) (half (c.vreg f.c.toNat) j)
    (ofHalves (e (2 * k)).1 (e (2 * k + 1)).1, (e (2 * k)).2 ||| (e (2 * k + 1)).2)
  else toLane (op f32 (RF.mode f c k) (lane (c.vreg f.a.toNat) k).toNat (lane (c.vreg f.b.toNat) k).toNat
    (lane (c.vreg f.c.toNat) k).toNat)

theorem laneOp_eq_laneFloat {f : RF} (hf : f.fmt ≠ 8) (c : Core) (op : FFmt → Rm → Nat → Nat → Nat → FRes) (opI : W32 → W32 → W32) :
    laneOp f c op opI = laneFloat f c op := funext fun _ => if_neg hf

theorem completes_vecFloat {f : RF} {i : Instr} {u : RUse} {op : FFmt → Rm → Nat → Nat → Nat → FRes} {opI : W32 → W32 → W32}
    (hf : f.fmt ≠ 8) (h : s.runsV n f { u with rm := true }) (hi : exec i s = onUnit (n < numCores) (s.vecOp n f u op opI)) :
    completes i s (wroteLanesFlags n f.d ((s.coreAt n).guardWord f.gneg f.guard) (fun k => (laneFloat f (s.coreAt n) op k).1)
      (laneFlags ((s.coreAt n).guardWord f.gneg f.guard) fun k => (laneFloat f (s.coreAt n) op k).2) s) := by
  have := completes_vecOp h hi
  rwa [laneOp_eq_laneFloat hf] at this

/-- Settles O17: the shared lane operation, read at the two float formats. -/
theorem vectorFloatingPoint : Obligations.VectorFloatingPoint := by
  unfold Obligations.VectorFloatingPoint
  intro n f s hf c g gives
  have hgives : ∀ {i : Instr} {u : RUse} {op : FFmt → Rm → Nat → Nat → Nat → FRes} {opI : W32 → W32 → W32},
      s.runsV n f { u with rm := true } → exec i s = onUnit (n < numCores) (s.vecOp n f u op opI) → gives i op :=
    fun h hi => completes_vecFloat hf h hi
  clear_value gives
  exact ⟨fun h => ⟨hgives h rfl, hgives h rfl, hgives h rfl, hgives h rfl, hgives h rfl⟩,
    fun h => ⟨hgives h rfl, hgives h rfl⟩, fun h => ⟨hgives h rfl, hgives h rfl⟩, fun h => hgives h rfl,
    fun h => ⟨hgives h rfl, hgives h rfl, hgives h rfl, hgives h rfl⟩⟩

end Sys2Proof.Machine
end

section
/-! PROOF. Rounding of values that a format holds, canonical NaNs, and conversions between registers (O18). -/
namespace Sys2Proof.Machine
open Sys2Proof

/-! ### A binary32 value rounds to itself -/

theorem bitLen_le_of_lt {m k : Nat} (h : m < 2 ^ k) : bitLen m ≤ k := by
  unfold bitLen
  split
  · exact Nat.zero_le k
  · next hm => exact (Nat.log2_lt hm).mpr h

theorem bitLen_of_normal {m k : Nat} (hl : 2 ^ k ≤ m) (hu : m < 2 ^ (k + 1)) : bitLen m = k + 1 := by
  have hm : m ≠ 0 := by have := Nat.two_pow_pos k; omega
  rw [bitLen, if_neg hm, (Nat.log2_eq_iff hm).mpr ⟨hl, hu⟩]

/-- A magnitude that stands on its own grid is encoded exactly. -/
theorem FFmt.round_exact {f : FFmt} {m : Nat} {e : Int} (rm : Rm) (neg : Bool) (hm : m ≠ 0) (hq : f.quantum m e = e)
    (hb : (e - f.qmin).toNat * 2 ^ (f.prec - 1) + m < f.infBits) :
    f.round rm neg m e false = (f.withSign neg ((e - f.qmin).toNat * 2 ^ (f.prec - 1) + m), 0) := by
  simp [FFmt.round, FFmt.roundMag, hm, hq, Nat.not_le.mpr hb]

/-- What a binary32 word of a sign and a magnitude stands for (R47). -/
theorem decode_f32 (neg : Bool) {mag : Nat} (hm : mag < 2 ^ 31) : decodeF f32 (mag + b2n neg * 2 ^ 31) =
    if mag / 2 ^ 23 = 255 then (if mag % 2 ^ 23 = 0 then .inf neg else .nan (decide (mag % 2 ^ 23 < 2 ^ 23 / 2)))
    else if mag / 2 ^ 23 = 0 then .fin neg (mag % 2 ^ 23) (-149)
    else .fin neg (2 ^ 23 + mag % 2 ^ 23) (-149 + (mag / 2 ^ 23 : Nat) - 1) := by
  have hs : decide ((mag + b2n neg * 2 ^ 31) / f32.signBit % 2 = 1) = neg := by
    cases neg <;> simp [b2n, FFmt.signBit] <;> omega
  have hr : (mag + b2n neg * 2 ^ 31) % f32.signBit = mag := by simp only [FFmt.signBit]; omega
  simp only [decodeF, hs, hr, Nat.reduceSub]

/-- Encoding what a sign and a magnitude stand for gives them back, in every mode. -/
theorem f32_enc_decode (rm : Rm) (neg : Bool) {mag : Nat} (hm : mag < 2 ^ 31) (hn : (decodeF f32 (mag + b2n neg * 2 ^ 31)).isNaN = false) :
    f32.enc rm (decodeF f32 (mag + b2n neg * 2 ^ 31)) = (f32.withSign neg mag, 0) := by
  rw [decode_f32 neg hm] at hn ⊢
  by_cases he : mag / 2 ^ 23 = 255
  · rw [if_pos he] at hn ⊢
    by_cases hf : mag % 2 ^ 23 = 0
    · rw [if_pos hf, FFmt.enc, show mag = f32.infBits by simp only [FFmt.infBits]; omega]
    · rw [if_neg hf] at hn
      cases hn
  · rw [if_neg he]
    by_cases h0 : mag / 2 ^ 23 = 0
    · rw [if_pos h0, show mag % 2 ^ 23 = mag by omega, FFmt.enc]
      by_cases hz : mag = 0
      · rw [hz]
        rfl
      · have hq : f32.quantum mag (-149) = -149 := by
          have := bitLen_le_of_lt (m := mag) (k := 23) (by omega)
          simp only [FFmt.quantum]
          omega
        rw [FFmt.round_exact rm neg hz hq (by simp [FFmt.infBits]; omega)]
        simp
    · have hq : f32.quantum (2 ^ 23 + mag % 2 ^ 23) (-149 + (mag / 2 ^ 23 : Nat) - 1) = -149 + (mag / 2 ^ 23 : Nat) - 1 := by
        have := bitLen_of_normal (m := 2 ^ 23 + mag % 2 ^ 23) (k := 23) (by omega) (by omega)
        simp only [FFmt.quantum, this]
        omega
      have hd : (-149 + ((mag / 2 ^ 23 : Nat) : Int) - 1 - (-149)).toNat = mag / 2 ^ 23 - 1 := by omega
      have hb : (mag / 2 ^ 23 - 1) * 2 ^ (f32.prec - 1) + (2 ^ 23 + mag % 2 ^ 23) = mag := by simp only [Nat.reduceSub]; omega
      rw [if_neg h0, FFmt.enc, FFmt.round_exact rm neg (by omega) hq (by rw [hd, hb]; simp only [FFmt.infBits]; omega), hd, hb]

/-- A binary32 value that is no NaN rounds to its own word in every mode. -/
theorem f32_enc_dec32 (w : W32) (rm : Rm) (hw : (dec32 w).isNaN = false) : f32.enc rm (dec32 w) = (w.toNat, 0) := by
  have hlt : w.toNat < 2 ^ 32 := w.isLt
  obtain ⟨neg, mag, hm, hs⟩ : ∃ neg mag, mag < 2 ^ 31 ∧ w.toNat = mag + b2n neg * 2 ^ 31 :=
    ⟨decide (w.toNat / 2 ^ 31 = 1), w.toNat % 2 ^ 31, Nat.mod_lt _ (by norm_num), by
      unfold b2n
      split <;> simp_all <;> omega⟩
  unfold dec32 at hw ⊢
  rw [hs] at hw ⊢
  exact f32_enc_decode rm neg hm hw

/-! ### Canonical NaNs -/

variable {x y : FV}

theorem or_isNaN (h : x.isNaN = true ∨ y.isNaN = true) : (x.isNaN || y.isNaN) = true := by simpa using h

theorem mulV_isNaN (h : x.isNaN = true ∨ y.isNaN = true) : mulV x y = (.nan false, x.isSNaN || y.isSNaN) := by
  simp [mulV, or_isNaN h]

theorem addV_isNaN (f : FFmt) (rm : Rm) (h : x.isNaN = true ∨ y.isNaN = true) : f.addV rm x y = f.nanRes (x.isSNaN || y.isSNaN) := by
  simp [FFmt.addV, or_isNaN h]

theorem mulR_isNaN (f : FFmt) (rm : Rm) (h : x.isNaN = true ∨ y.isNaN = true) : f.mulR rm x y = f.nanRes (x.isSNaN || y.isSNaN) := by
  simp [FFmt.mulR, mulV_isNaN h, FV.isNaN]

theorem divR_isNaN (f : FFmt) (rm : Rm) (h : x.isNaN = true ∨ y.isNaN = true) : f.divR rm x y = f.nanRes (x.isSNaN || y.isSNaN) := by
  simp [FFmt.divR, or_isNaN h]

theorem fmaR_isNaN (f : FFmt) (rm : Rm) (z : FV) (h : x.isNaN = true ∨ y.isNaN = true) : (f.fmaR rm x y z).1 = f.nanBits := by
  simp [FFmt.fmaR, mulV_isNaN h, FV.isNaN, FFmt.nanRes]

theorem f32_nanRes (b : Bool) : f32.nanRes b = (0x7FC00000, if b then Flag.invalid else 0) := rfl

/-! ### The symmetric range of INT32 -/

/-- A number of the symmetric range is no −2^31 as a word. -/
theorem toInt_unsigned_ne {v : Int} (hl : -(2 ^ 31 - 1) ≤ v) (hu : v ≤ 2 ^ 31 - 1) : (BitVec.ofNat 32 (unsigned 32 v)).toInt ≠ -2 ^ 31 := by
  have hw : BitVec.ofNat 32 (unsigned 32 v) = BitVec.ofInt 32 v := by
    apply BitVec.eq_of_toNat_eq
    rw [BitVec.toNat_ofNat, BitVec.toNat_ofInt, unsigned, Nat.mod_eq_of_lt (by omega)]
  rw [hw, BitVec.toInt_ofInt, Int.bmod_eq_of_le (by norm_num; omega) (by norm_num; omega)]
  omega

theorem toInt32_ne (rm : Rm) (x : FV) : (BitVec.ofNat 32 (toInt32 rm x).1).toInt ≠ -2 ^ 31 := by
  unfold toInt32
  split
  · decide
  · dsimp only
    split <;> exact toInt_unsigned_ne (by norm_num) (by norm_num)
  · next neg m e =>
    dsimp only
    generalize (if 0 ≤ e then _ else _ : Nat × Bool) = p
    split
    · dsimp only
      split <;> exact toInt_unsigned_ne (by norm_num) (by norm_num)
    · next hk =>
      dsimp only
      split <;> exact toInt_unsigned_ne (by omega) (by omega)

/-! ### Conversions between registers -/

variable {s : State} {n : Nat}

theorem completes_convert {f : RF} {i : Instr} {u : RUse} {op : Core → Nat → LaneRes} {r : Nat → LaneRes} (h : s.runsV n f u)
    (hi : exec i s = onUnit (n < numCores) (s.convert n f u op)) (hr : op (s.coreAt n).fetched = r) :
    completes i s (wroteLanesFlags n f.d ((s.coreAt n).guardWord f.gneg f.guard) (fun k => (r k).1)
      (laneFlags ((s.coreAt n).guardWord f.gneg f.guard) fun k => (r k).2) s) := by
  refine completes_core h.1.1 hi ?_
  rw [State.convert, State.runV_eq _ _ _ _ _ h, hr]
  exact wroteLanesFlags_writeLanes s n f _ r

/-- Settles O18: rounding of a value on its grid, the NaN branch of each operation, the shared conversion, and the clamped range. -/
theorem conversionsRoundAndKeepNaNsCanonical : Obligations.ConversionsRoundAndKeepNaNsCanonical := by
  unfold Obligations.ConversionsRoundAndKeepNaNsCanonical
  refine ⟨fun w rm h => f32_enc_dec32 w rm h, fun x y z rm h => ?_, fun n f s => ⟨fun h => ?_, fun h => ⟨?_, ?_⟩, fun h => ⟨?_, ?_, ?_⟩⟩,
    toInt32_ne⟩
  · exact ⟨addV_isNaN f32 rm h, mulR_isNaN f32 rm h, divR_isNaN f32 rm h, fmaR_isNaN f32 rm _ h⟩
  all_goals exact completes_convert h rfl (by simp)

end Sys2Proof.Machine
end

section
/-! PROOF. Vector compares and reductions (O19). -/
namespace Sys2Proof.Machine
open Sys2Proof

variable {s t : State} {n : Nat}

/-! ### Results with flags -/

theorem onlyCoreReg_of_setFlags {m : W64} (h : onlyCore n (s.setFlags n m) t) :
    t.reg (A.coreFlags n) = s.reg (A.coreFlags n) ||| m ∧ onlyCoreReg n (A.coreFlags n) s t := by
  obtain ⟨hs, hc⟩ := h
  have hreg : ∀ b, t.reg b = (s.setFlags n m).reg b := fun b => by
    rw [← hs]
    rfl
  refine ⟨(hreg _).trans (State.reg_setReg_self _ _ _), ?_, hc, fun b hb => (hreg b).trans (State.reg_setReg_ne _ _ hb)⟩
  exact congrArg (fun u : State => { u with core := s.core, regs := s.regs, edge := s.edge }) hs

theorem wrotePredicateFlags_of {d : BitVec 5} {v m : W64} (h : wrotePredicate n d v (s.setFlags n m) t) :
    wrotePredicateFlags n d v m s t := by
  obtain ⟨hd, hr, hpc, hsame, honly⟩ := h
  obtain ⟨hf, ho⟩ := onlyCoreReg_of_setFlags honly
  exact ⟨hd, hr, hf, hpc, hsame, ho⟩

theorem wroteScalarFlags_of {d : BitVec 5} {v m : W64} (h : wroteScalar n d v (s.setFlags n m) t) : wroteScalarFlags n d v m s t := by
  obtain ⟨hd, hr, hpc, hsame, honly⟩ := h
  obtain ⟨hf, ho⟩ := onlyCoreReg_of_setFlags honly
  exact ⟨hd, hr, hf, hpc, hsame, ho⟩

/-! ### Compares -/

theorem completes_vecCompare {f : RF} {i : Instr} {fmts : List (BitVec 6)} {cmpF : FV → FV → Bool} {cmpI : W32 → W32 → Bool}
    (h : s.runsV n f { d := .p, a := .v, b := .v, fmts := fmts }) (hi : exec i s = onUnit (n < numCores) (s.vecCompare n f fmts cmpF cmpI))
    {g : W64} (hg : (s.coreAt n).guardWord f.gneg f.guard = g) {a b : Nat → W32} (ha : lane ((s.coreAt n).vreg f.a.toNat) = a)
    (hb : lane ((s.coreAt n).vreg f.b.toNat) = b) {r : Nat → Bool}
    (hr : ∀ k, r k = if f.fmt = 8 then cmpI (a k) (b k) else cmpF (dec32 (a k)) (dec32 (b k))) :
    completes i s (wrotePredicateFlags n f.d (ofBits fun k => bit g k && r k)
      (laneFlags g fun k => if f.fmt != 8 && ((dec32 (a k)).isSNaN || (dec32 (b k)).isSNaN) then Flag.invalid else 0) s) := by
  refine completes_core h.1.1 hi (wrotePredicateFlags_of ?_)
  rw [State.vecCompare, State.runV_eq _ _ _ _ _ h]
  have hb' : ∀ k, (if decide (f.fmt = 8) = true then cmpI (a k) (b k) else cmpF (dec32 (a k)) (dec32 (b k))) = r k := fun k => by
    rw [hr]
    simp
  have hi' : (!decide (f.fmt = 8)) = (f.fmt != 8) := rfl
  simp only [Core.vreg_fetched, ha, hb, hg, hb', hi']
  exact wrotePredicate_done _ n f.d _

theorem ordered_eq_not (x y : FV) : ordered x y = !(x.isNaN || y.isNaN) := by
  simp [ordered]

theorem le_eq_not_lt (x y : FV) : (x.lt y || x.eq y) = !(y.lt x) := by
  rw [Bool.eq_iff_iff]
  simp [FV.lt, FV.eq, le_iff_lt_or_eq]

theorem RF.fmt_mem_of_legal {f : RF} {u : RUse} (h : RF.legal f u = true) : f.fmt ∈ u.fmts := by
  simp only [RF.legal, Bool.and_eq_true] at h
  simpa using h.1.1.1.1.1.1.2

/-! ### Reductions -/

theorem completes_reduceTo {f : RF} {i : Instr} {rm : Bool} {rest : Core → W32} {opF : Core → Nat → FV → FV → FRes} {opI : W32 → W32 → W32}
    (h : s.runsV n f { d := .s, a := .v, fmts := fmtsFI, rm := rm }) (hi : exec i s = onUnit (n < numCores) (s.reduceTo n f rm rest opF opI))
    {r : LaneRes} (hr : reduceLanes f ((s.coreAt n).guardWord f.gneg f.guard) ((s.coreAt n).vreg f.a.toNat) (rest (s.coreAt n).fetched)
      (opF (s.coreAt n).fetched) opI = r) :
    completes i s (wroteScalarFlags n f.d (BitVec.ofNat 64 r.1.toNat) r.2 s) := by
  refine completes_core h.1.1 hi (wroteScalarFlags_of ?_)
  rw [State.reduceTo, State.runV_eq _ _ _ _ _ h]
  simp only [Core.vreg_fetched, hr, BitVec.ofNat_toNat]
  exact wroteScalar_done _ n f.d _

/-- The sum of 2 w words is that of the w sums of words w apart. -/
theorem sum_halves (xs : List W32) (w : Nat) (hl : xs.length = w + w) :
    ((List.range w).map fun i => xs.getD i 0 + xs.getD (i + w) 0).sum = xs.sum := by
  have hx : xs = (List.range (w + w)).map fun i => xs.getD i 0 := by
    apply List.ext_getElem (by simpa using hl)
    intro i h1 h2
    rw [List.getElem_map, List.getElem_range, List.getD_eq_getElem _ _ h1]
  have hsplit : (List.range (w + w)).map (fun i => xs.getD i 0)
      = (List.range w).map (fun i => xs.getD i 0) ++ (List.range w).map fun i => xs.getD (i + w) 0 := by
    rw [List.range_add, List.map_append, List.map_map]
    simp [Function.comp_def, Nat.add_comm]
  rw [List.sum_map_add, ← List.sum_append, ← hsplit, ← hx]

/-- One level of a tree of additions, which sets no flag. -/
theorem treeReduce_add_cons (ws : List Nat) (w : Nat) (xs : List W32) :
    treeReduce (fun _ x y => (x + y, 0)) (w :: ws) xs 0
      = treeReduce (fun _ x y => (x + y, 0)) ws ((List.range w).map fun i => xs.getD i 0 + xs.getD (i + w) 0) 0 := by
  have hz : ∀ l : List LaneRes, (∀ r ∈ l, r.2 = 0) → l.foldl (fun (m : W64) r => m ||| r.2) 0 = 0 := by
    intro l hl
    induction l with
    | nil => rfl
    | cons r l ih =>
      rw [List.foldl_cons, hl r (List.mem_cons_self ..)]
      exact ih fun x hx => hl x (List.mem_cons_of_mem _ hx)
  rw [treeReduce, hz _ (by simp), List.map_map]
  rfl

/-- The tree of additions over 64 words gives their sum (R137). -/
theorem treeReduce_add (xs : List W32) (hl : xs.length = 64) : treeReduce (fun _ x y => (x + y, 0)) treeLevels xs 0 = (xs.sum, 0) := by
  have hone : ∀ ys : List W32, ys.length = 1 → treeReduce (fun _ x y => (x + y, 0)) [] ys 0 = (ys.sum, 0) := by
    intro ys hy
    obtain ⟨y, rfl⟩ := List.length_eq_one_iff.mp hy
    simp [treeReduce]
  unfold treeLevels
  simp only [treeReduce_add_cons]
  rw [hone _ (by simp)]
  simp only [sum_halves, List.length_map, List.length_range, Nat.reduceAdd, hl]

/-- The sum of the words that a mask names, as a sum of numbers. -/
theorem sum_masked (g : W64) (v : Nat → W32) (l : List Nat) :
    (l.map fun i => if bit g i then v i else 0).sum = BitVec.ofNat 32 ((l.filter (bit g)).map fun i => (v i).toNat).sum := by
  induction l with
  | nil => rfl
  | cons i l ih =>
    rw [List.map_cons, List.sum_cons, ih]
    by_cases hi : bit g i = true
    · simp [hi, BitVec.ofNat_add]
    · simp [hi]

/-- Settles O19: compares and reductions are two shared operations; the tree of INT32 additions is a sum. -/
theorem vectorComparesAndReductions : Obligations.VectorComparesAndReductions := by
  unfold Obligations.VectorComparesAndReductions
  refine ⟨fun n f s => ⟨fun h => ⟨?_, ?_, ?_⟩, fun h => ?_⟩, fun n f s => ?_⟩
  · exact completes_vecCompare h rfl rfl rfl rfl fun k => by simp only [ordered_eq_not]
  · exact completes_vecCompare h rfl rfl rfl rfl fun k => by simp only [ordered_eq_not, BitVec.slt_eq_decide]
  · exact completes_vecCompare h rfl rfl rfl rfl fun k => by simp only [ordered_eq_not, le_eq_not_lt, BitVec.sle_eq_decide]
  · have hf : f.fmt = 0 := by simpa using RF.fmt_mem_of_legal h.2.1
    exact completes_vecCompare h rfl rfl rfl rfl fun k => by simp [ordered_eq_not, hf]
  · intro c g v sum top
    refine ⟨fun h => ⟨?_, fun hf => ?_⟩, fun h => ?_⟩
    · have hsum := completes_reduceTo (i := .vrsum n f) h rfl rfl
      simp only [RF.mode_fetched] at hsum
      exact hsum
    · simp only [sum, reduceLanes, if_pos hf]
      rw [treeReduce_add _ (by simp), sum_masked]
    · have htop := completes_reduceTo (i := .vrmax n f) h rfl rfl
      exact htop

end Sys2Proof.Machine
end

section
/-! PROOF. PACK and UNPACK (O20). -/
namespace Sys2Proof.Machine
open Sys2Proof

variable {s : State} {n : Nat}

/-! ### What PACK writes: its number of element codes and of scales -/

theorem bfmt_block {k : Nat} {b : BFmt} (h : bfmt k = some b) : b.block = 16 ∨ b.block = 32 := by
  unfold bfmt at h
  split at h
  case h_7 =>
    split at h
    · cases h
      exact .inl rfl
    · split at h
      · cases h
        exact .inr rfl
      · cases h
  all_goals
    cases h
    exact .inr rfl

theorem chunks_length {α : Type} (k m : Nat) (xs : List α) : (chunks k m xs).length = m := by
  induction m generalizing xs with
  | zero => rfl
  | succ m ih => rw [chunks, List.length_cons, ih]

theorem chunks_flatten_length {α : Type} (k m : Nat) (xs : List α) (h : xs.length = m * k) :
    ((chunks k m xs).map List.length).sum = m * k := by
  induction m generalizing xs with
  | zero => simp [chunks]
  | succ m ih =>
    rw [Nat.add_one_mul] at h
    rw [chunks, List.map_cons, List.sum_cons, ih _ (by rw [List.length_drop]; omega), List.length_take, Nat.add_one_mul]
    omega

theorem packBlock_elems_length (b : BFmt) (mode : Nat → Rm) (xs : List FV) : (b.packBlock mode xs).elems.length = xs.length := by
  unfold BFmt.packBlock
  split
  · simp
  · split <;> simp

theorem regElems_length (h : Bool) (v : Vec) : (regElems h v).length = elemCount h := by
  cases h <;> simp [regElems, elemCount]

theorem elemCount_eq_blocks (h : Bool) {b : BFmt} (hb : b.block = 16 ∨ b.block = 32) : elemCount h = elemCount h / b.block * b.block := by
  cases h <;> rcases hb with hb | hb <;> simp [elemCount, hb]

theorem packBlocks_length (f : RF) (c : Core) (b : BFmt) : (packBlocks f c b).length = elemCount f.half / b.block := by
  simp [packBlocks, chunks_length]

theorem sum_lengths_zipIdx {α β : Type} (g : List α × Nat → List β) (hg : ∀ x, (g x).length = x.1.length) (l : List (List α)) (k : Nat) :
    ((l.zipIdx k).map fun x => (g x).length).sum = (l.map List.length).sum := by
  induction l generalizing k with
  | nil => rfl
  | cons x l ih => rw [List.zipIdx_cons, List.map_cons, List.sum_cons, ih, hg, List.map_cons, List.sum_cons]

theorem packBlocks_elems_length (f : RF) (c : Core) {b : BFmt} (hb : b.block = 16 ∨ b.block = 32) :
    ((packBlocks f c b).flatMap fun x => x.elems).length = elemCount f.half := by
  have hl := elemCount_eq_blocks f.half hb
  have hc := chunks_flatten_length b.block (elemCount f.half / b.block) (regElems f.half (c.vreg f.a.toNat))
    (by rw [regElems_length]; exact hl)
  have hz := sum_lengths_zipIdx
    (fun x : List FV × Nat => (b.packBlock (fun j => RF.mode f c (x.2 * b.block + j)) x.1).elems) (fun x => packBlock_elems_length b _ x.1)
    (chunks b.block (elemCount f.half / b.block) (regElems f.half (c.vreg f.a.toNat))) 0
  rw [List.length_flatMap, packBlocks, List.map_map]
  exact (hz.trans hc).trans hl.symm

/-! ### The register file that PACK and UNPACK read is that of the core as it stands -/

theorem packBlocks_fetched (f : RF) (c : Core) (b : BFmt) : packBlocks f c.fetched b = packBlocks f c b := by
  simp [packBlocks]

theorem unpackAt_fetched (f : RF) (c : Core) (b : BFmt) (ea sa : Nat) (t : FFmt) (j : Nat) :
    unpackAt f c.fetched b ea sa t j = unpackAt f c b ea sa t j := by
  simp [unpackAt]

/-- A byte of the store that PACK leaves: the scales, written last, lie over the elements. -/
theorem Core.packed_byte (c : Core) (b : BFmt) (ea sa : Nat) (bs : List BlockOut) (a : Nat) :
    Memory.byte (c.packed b ea sa bs).store a =
      if sa ≤ a ∧ a < sa + bs.length then BitVec.ofNat 8 ((bs.map fun x => x.scale).getD (a - sa) 0)
      else if ea ≤ a ∧ a < ea + b.bytes (bs.flatMap fun x => x.elems).length then
        BitVec.ofNat 8 (b.packElems (bs.flatMap fun x => x.elems) / 256 ^ (a - ea))
      else Memory.byte c.store a := by
  unfold Core.packed Core.storeN
  simp only [Memory.byte_write, List.length_map, toBytes_length]
  split
  · next h =>
    have hk : a - sa < bs.length := by omega
    simp [List.getD_eq_getElem?_getD, List.getElem?_eq_getElem hk]
  · split
    · next h => exact toBytes_getD _ _ _ (by omega)
    · rfl

/-- The three extents of PACK: the elements clear of the scales, the scales clear of the elements, and the bytes outside both. -/
theorem Core.packed_bytes (c : Core) (b : BFmt) (ea sa : Nat) (bs : List BlockOut) {size scales : Nat}
    (hsize : b.bytes (bs.flatMap fun x => x.elems).length = size) (hscales : bs.length = scales) :
    (∀ i, i < size → (ea + i < sa ∨ sa + scales ≤ ea + i) → Memory.byte (c.packed b ea sa bs).store (ea + i)
        = BitVec.ofNat 8 (b.packElems (bs.flatMap fun x => x.elems) / 256 ^ i))
      ∧ (∀ k, k < scales → (sa + k < ea ∨ ea + size ≤ sa + k) →
        Memory.byte (c.packed b ea sa bs).store (sa + k) = BitVec.ofNat 8 ((bs.map fun x => x.scale).getD k 0))
      ∧ (∀ a, (a < ea ∨ ea + size ≤ a) → (a < sa ∨ sa + scales ≤ a) → Memory.byte (c.packed b ea sa bs).store a = Memory.byte c.store a) := by
  refine ⟨fun i hi ho => ?_, fun k hk ho => ?_, fun a h1 h2 => ?_⟩
  · rw [Core.packed_byte, hsize, hscales, if_neg (by omega), if_pos (by omega), Nat.add_sub_cancel_left]
  · rw [Core.packed_byte, hscales, if_pos (by omega), Nat.add_sub_cancel_left]
  · rw [Core.packed_byte, hsize, hscales, if_neg (by omega), if_neg (by omega)]

theorem State.packRun_ok (s : State) (n : Nat) (f : RF) {b : BFmt} (c : Core)
    (h : blockExtents b f.half (c.sreg f.b.toNat).toNat (c.sreg f.c.toNat).toNat = true) :
    s.packRun n f b c = (s.setFlags n ((packBlocks f c b).foldl (fun m x => m ||| x.flags) 0)).done n
      (c.packed b (c.sreg f.b.toNat).toNat (c.sreg f.c.toNat).toNat (packBlocks f c b)) := if_pos h

/-- Settles O20: PACK writes elements and then scales over a store that it leaves alone elsewhere; UNPACK writes every lane. -/
theorem packAndUnpack : Obligations.PackAndUnpack := by
  unfold Obligations.PackAndUnpack
  intro n f s b hb c count ea sa size scales blocks elem hea hsa
  have hext : blockExtents b f.half ea sa = true := by
    simp only [blockExtents, Bool.and_eq_true, decide_eq_true_eq]
    exact ⟨hea, hsa⟩
  have hblock : RF.block f = b := by rw [RF.block, hb]; rfl
  have hlen := packBlocks_elems_length f c (bfmt_block hb)
  have hscales : blocks.length = scales := packBlocks_length f c b
  refine ⟨fun h => ?_, fun h => ?_⟩
  · refine completes_core h.1.1 rfl ?_
    rw [State.runR_eq _ _ _ _ _ h, hblock, State.packRun_ok _ _ _ _ (by simpa [Core.sreg_fetched] using hext), packBlocks_fetched,
      Core.sreg_fetched, Core.sreg_fetched]
    obtain ⟨he, hs, ho⟩ := c.fetched.packed_bytes b ea sa blocks (congrArg b.bytes hlen) hscales
    simp only [State.coreAt_done_self, Core.nextPc_store]
    refine ⟨he, hs, fun a h1 h2 => (ho a h1 h2).trans (by rw [Core.fetched_store]), ?_, ?_, rfl,
      fun m hm => State.coreAt_done_ne _ _ hm, fun r hr => State.reg_setReg_ne _ _ hr⟩
    · simp [Core.packed, Core.storeN, c]
    · simp [sameButStore, Core.packed, Core.storeN, c]
  · refine completes_core h.1.1 rfl ?_
    rw [State.runR_eq _ _ _ _ _ h, hblock, State.unpackRun, if_pos (by simpa [Core.sreg_fetched] using hext)]
    simp only [unpackAt_fetched, Core.sreg_fetched]
    refine ⟨fun i hi => ?_, fun k hk => ?_, by simp [c], by simp [sameButVectors, c], rfl, fun m hm => State.coreAt_done_ne _ _ hm,
      fun r hr => State.reg_setReg_ne _ _ hr⟩
    · rw [State.coreAt_done_self]
      change lane ((c.fetched.setV f.d.toNat _).vreg f.d.toNat) i = _
      rw [Core.vreg_setV, if_pos rfl, lane_ofLanes _ hi]
      split <;> rfl
    · rw [State.coreAt_done_self]
      change (c.fetched.setV f.d.toNat _).vreg k = _
      rw [Core.vreg_setV, if_neg hk, Core.vreg_fetched]

end Sys2Proof.Machine
end

section
/-! PROOF. The refutation of O21: a warm-up of a position on which work waits marks the position active (R88). -/
namespace Sys2Proof.Machine
open Sys2Proof

-- Evaluations side by side hold more threads than the memory of a check admits.
set_option Elab.async false

/-- A running core whose position 0 runs a probe and is not marked active. -/
def probedCore : Core :=
  { Core.init with st := .running, pos := [(0, { Fuse.init.position 0 0 with run := some (false, 1), active := false })] }

/-- The module with that core and nothing else. -/
def probedState : State := { State.reset with core := [(0, probedCore)] }

/-- TWARM of array 0 with no interval. -/
def warmArray0 : CF := { gneg := false, guard := 0, cnt := 0, a := 0, b := 0, n := 0, imm := 1 }

theorem runsC_warmArray0 : probedState.runsC 0 warmArray0
    (CF.legal warmArray0 false false false (warmArray0.n == 0 && decide (warmArray0.imm.toNat < 2 ^ 26))) := by
  decide +kernel

theorem posOf_probedState : probedState.posOf 0 0 = some 0 := by decide +kernel

/-- The model's TWARM marks the position active, for its probe waits. -/
theorem active_twarm_probedState :
    ∃ t, exec (.twarm 0 warmArray0) probedState = .next t ∧ (t.posAt 0 0).active = true := by
  refine ⟨_, rfl, ?_⟩
  decide +kernel

/-- Refutes O21: TWARM of an array whose position runs a probe while not marked active also sets the position's activity (R88), where the
statement lets it change the warm-up alone. -/
theorem not_tileInstructionsEnterTheIssueQueue : ¬ Obligations.TileInstructionsEnterTheIssueQueue := by
  unfold Obligations.TileInstructionsEnterTheIssueQueue
  intro h
  obtain ⟨-, -, hwarm⟩ := h 0 warmArray0 probedState
  obtain ⟨t, ht, hpos, -⟩ := hwarm runsC_warmArray0
  obtain ⟨u, hu, hactive⟩ := active_twarm_probedState
  obtain rfl : u = t := by simpa using hu.symm.trans ht
  have hkept := congrArg Pos.active (hpos 0 0 (by decide +kernel) posOf_probedState)
  rw [hactive] at hkept
  exact absurd hkept (by decide +kernel)

end Sys2Proof.Machine
end

section
/-! PROOF. Gathers, scatters, routings and copies at issue (O22). -/
namespace Sys2Proof.Machine
open Sys2Proof

variable {s : State} {n : Nat}

@[simp] theorem Core.blockWords_fetched (c : Core) (a : Nat) : c.fetched.blockWords a = c.blockWords a := by simp [Core.blockWords]

@[simp] theorem blockAddr_fetched (c : Core) (f : CF) : blockAddr c.fetched f = blockAddr c f := by simp [blockAddr]

/-- An instruction that only writes fields of its own core leaves every other core and the rest of the state. -/
theorem onlyCore_done (s : State) (n : Nat) (c : Core) : onlyCore n s (s.done n c) := ⟨rfl, fun _ hm => State.coreAt_done_ne s c hm⟩

theorem onlyCore_setCore (s : State) (n : Nat) (c : Core) : onlyCore n s (s.setCore n c) := ⟨rfl, fun _ hm => State.coreAt_setCore_ne s c hm⟩

/-! ### Gathers and scatters -/

/-- A gather or scatter whose unit has room, whose base is aligned and whose rows lie in the store enters the unit. -/
theorem State.enterGs_ok (s : State) (n : Nat) (g : GsOp) (c : Core) (hr : c.gs.length < 4) (ha : g.base % (if g.isRow then 64 else 4) = 0)
    (ho : g.outside = false) : s.enterGs n g c = s.done n { c with gs := c.gs ++ [g] } := by
  rw [State.enterGs, if_neg (by omega), if_neg (by simpa using ha), ho]
  rfl

/-- The operation went into the unit of gathers and scatters, behind those that it holds. -/
def enteredGs (n : Nat) (g : GsOp) (s t : State) : Prop :=
  (t.coreAt n).gs = (s.coreAt n).gs ++ [g] ∧ (t.coreAt n).pc = (s.coreAt n).pc + 8
    ∧ { t.coreAt n with pc := (s.coreAt n).pc, ibuf := (s.coreAt n).ibuf, gs := (s.coreAt n).gs } = s.coreAt n ∧ onlyCore n s t

theorem enteredGs_done (s : State) (n : Nat) (g : GsOp) :
    enteredGs n g s (s.done n { (s.coreAt n).fetched with gs := (s.coreAt n).fetched.gs ++ [g] }) :=
  ⟨by simp, by simp, by simp, onlyCore_done s n _⟩

theorem gsOpOf_fetched (op : BitVec 6) (row : Bool) (f : RF) (act : W64) (c : Core) : gsOpOf op row f act c.fetched = gsOpOf op row f act c := by
  simp [gsOpOf]

/-- A register form enters its unit (R104, R144). -/
theorem completes_gsReg {f : RF} {i : Instr} {op : BitVec 6} {fmts : List (BitVec 6)} (hop : op.toNat < 8)
    (hi : exec i s = onUnit (n < numCores) (s.gsReg n f op fmts))
    (h : s.runsV n f { d := .v, a := .v, b := .s, c := .s, fmts := fmts, x := true }) (hr : (s.coreAt n).gs.length < 4)
    (ha : ((s.coreAt n).sreg f.b.toNat).toNat % 4 = 0) :
    completes i s (enteredGs n (gsOpOf op false f ((s.coreAt n).guardWord f.gneg f.guard) (s.coreAt n)) s) := by
  refine completes_core h.1.1 hi ?_
  have hrow : (gsOpOf op false f ((s.coreAt n).guardWord f.gneg f.guard) (s.coreAt n)).isRow = false := decide_eq_false (Nat.not_le.mpr hop)
  rw [State.gsReg, State.runV_eq _ _ _ _ _ h, gsOpOf_fetched,
    State.enterGs_ok _ _ _ _ (by simpa using hr) (by rw [hrow]; exact ha) (by rw [GsOp.outside, hrow]; rfl)]
  exact enteredGs_done s n _

/-- A row form enters its unit when the rows of its active lanes lie in the store (R105, R144). -/
theorem completes_gsRow {f : RF} {i : Instr} {op : BitVec 6} {fmts : List (BitVec 6)} (hop : 8 ≤ op.toNat)
    (hi : exec i s = onUnit (n < numCores) (s.gsRow n f op fmts))
    (h : s.runsR n f { d := .s, a := .v, b := .s, c := .s, fmts := fmts, x := true, lm1 := true }) (hr : (s.coreAt n).gs.length < 4)
    (ha : ((s.coreAt n).sreg f.b.toNat).toNat % 64 = 0)
    (hs : ∀ k, k < 64 → bit ((s.coreAt n).guardWord f.gneg f.guard) k = true →
      (((s.coreAt n).sreg f.d.toNat).toNat + 64 * (f.lm1.toNat + 1) * k) % 2 ^ 64 + 64 * (f.lm1.toNat + 1) ≤ storeSize) :
    completes i s (enteredGs n (gsOpOf op true f ((s.coreAt n).guardWord f.gneg f.guard) (s.coreAt n)) s) := by
  refine completes_core h.1.1 hi ?_
  let g := gsOpOf op true f ((s.coreAt n).guardWord f.gneg f.guard) (s.coreAt n)
  have hrow : g.isRow = true := decide_eq_true hop
  have hsize : g.size = 64 * (f.lm1.toNat + 1) := if_pos hrow
  have hout : g.outside = false := by
    rw [GsOp.outside, hrow, Bool.true_and, List.any_eq_false]
    intro k hk
    simp only [Bool.and_eq_true, decide_eq_true_eq, not_and, not_lt, GsOp.rowAt, hsize]
    exact hs k (List.mem_range.mp hk)
  rw [State.gsRow, State.runR_eq _ _ _ _ _ h, Core.guardWord_fetched, gsOpOf_fetched,
    State.enterGs_ok _ _ _ _ (by simpa using hr) (by rw [hrow]; exact ha) hout]
  exact enteredGs_done s n _

/-! ### Routings and copies -/

theorem routeCause_fetched (addr : Nat) (c : Core) : routeCause addr c.fetched = routeCause addr c := by
  simp [routeCause]

theorem completes_route {f : CF} (h : s.runsC n f (CF.legal f false true false (f.n == 0))) (hq : (s.coreAt n).routeQ = none)
    (hc : routeCause (blockAddr (s.coreAt n) f) (s.coreAt n) = none) :
    completes (.route n f) s fun t =>
      (t.coreAt n).routeQ = some (routeBlkOf (s.coreAt n).pc ((s.coreAt n).blockWords (blockAddr (s.coreAt n) f)))
        ∧ (t.coreAt n).pc = (s.coreAt n).pc + 8
        ∧ { t.coreAt n with pc := (s.coreAt n).pc, ibuf := (s.coreAt n).ibuf, routeQ := (s.coreAt n).routeQ } = s.coreAt n
        ∧ onlyCore n s t := by
  refine completes_core h.1.1 rfl ?_
  rw [State.runC_eq _ _ _ _ _ h]
  simp only [Core.fetched_routeQ, hq, Option.isSome_none, Bool.false_eq_true, if_false, blockAddr_fetched, routeCause_fetched, hc,
    Core.blockWords_fetched, Core.fetched_pc]
  exact ⟨by simp, by simp, by simp [← hq], onlyCore_done s n _⟩

theorem State.coreAt_setCopy (s : State) (d m : Nat) (x : CopyEng) : (s.setCopy d x).coreAt m = s.coreAt m := rfl

theorem zipIdx_map_range {α β : Type} (g : α → Nat → β) (f : Nat → α) (k : Nat) :
    (((List.range k).map f).zipIdx.map fun x => g x.1 x.2) = (List.range k).map fun i => g (f i) i := by
  apply List.ext_getElem (by simp)
  intro i h1 h2
  simp

/-- The engine's entry of a descriptor reads no core. -/
theorem State.newDesc_done (s : State) (n m id : Nat) (c : Core) (cnt : Option Nat) (w : List W64) :
    (s.done n c).newDesc id m cnt w = s.newDesc id m cnt w := rfl

theorem completes_copy {f : CF} (h : s.runsC n f (CF.legal f true true false (decide (f.n.toNat < 16))))
    (ha : blockAddr (s.coreAt n) f % 64 = 0) (hs : blockAddr (s.coreAt n) f + 64 * (f.n.toNat + 1) ≤ storeSize)
    (hd : s.coreDescs n + (f.n.toNat + 1) ≤ 64) (hw : s.copyWaits (dieOf n) = false)
    (hr : s.roomUsed (dieOf n) + (f.n.toNat + 1) ≤ 4096) :
    exec (.copy n f) s = .next ((s.done n (s.coreAt n).fetched).enterDescs n (some f.cnt.toNat)
      ((s.coreAt n).copyLines (blockAddr (s.coreAt n) f) (f.n.toNat + 1))) := by
  have he : exec (.copy n f) s = onUnit (n < numCores) _ := rfl
  rw [he, decide_eq_true (show n < numCores from h.1.1), onUnit_true, State.runC_eq _ _ _ _ _ h]
  simp only [blockAddr_fetched]
  rw [if_neg (by omega), if_neg (by omega), if_neg (by omega), if_neg (by simp [hw]; omega)]
  simp [Core.copyLines]

/-- Settles O22: register and row forms are two shared entries; ROUTE and COPY each write one field of the core or of the copy engine. -/
theorem unitInstructionsEnterTheirUnits : Obligations.UnitInstructionsEnterTheirUnits := by
  unfold Obligations.UnitInstructionsEnterTheirUnits
  intro n s c enters rows
  refine ⟨fun f => ⟨?_, ?_, ?_, ?_, ?_, ?_⟩, fun f => ?_⟩
  · exact completes_gsReg (by decide) rfl
  · exact completes_gsReg (by decide) rfl
  · exact completes_gsReg (by decide) rfl
  · exact completes_gsRow (by decide) rfl
  · exact completes_gsRow (by decide) rfl
  · exact completes_gsRow (by decide) rfl
  · intro addr line
    refine ⟨fun h hq hc => completes_route h hq hc, fun h ha hs hd hw hr => ⟨_, completes_copy h ha hs hd hw hr, ?_⟩⟩
    unfold State.enterDescs
    refine ⟨?_, ?_, fun d hd => Tab.get_put_ne _ _ _ hd, ?_, ?_, fun m hm => State.coreAt_done_ne _ _ hm, rfl⟩
    · rw [State.copyAt_setCopy_self]
      exact congrArg (_ ++ ·) (zipIdx_map_range (fun w i => s.newDesc ((s.copyAt (dieOf n)).nextId + i) n (some f.cnt.toNat) w) _ _)
    · rw [State.copyAt_setCopy_self, Core.copyLines, List.length_map, List.length_range]
      rfl
    · simp [State.coreAt_setCopy, c]
    · simp [State.coreAt_setCopy, c]

end Sys2Proof.Machine
end

section
/-! PROOF. The refutation of O23: a call accepted in the tick of a commit takes the record from before that commit (R156). -/
namespace Sys2Proof.Machine
open Sys2Proof

-- Evaluations side by side hold more threads than the memory of a check admits.
set_option Elab.async false

/-- A valid record of partition 0: RULE 0, VALID, and a block size in word 6. -/
def oldRecord : List W64 := [0x0800000000000000, 0, 0, 0, 0, 0, 0x100000000, 0]

/-- The engine after a commit in this tick that cleared group 0's record: the record from before it is kept in `prior`. -/
def committedEngine : UpdDie := { UpdDie.init with prior := [(0, 0, oldRecord)] }

/-- Core 0 runs over a store of zeros, and its die's engine has just committed. -/
def committedState : State := { State.reset with core := [(0, { Core.init with st := .running })], upd := [(0, committedEngine)] }

/-- STEPEND of the call block at address 0. -/
def stependAt0 : CF := { gneg := false, guard := 0, cnt := 0, a := 0, b := 0, n := 0, imm := 0 }

theorem runsC_stependAt0 : committedState.runsC 0 stependAt0 (CF.legal stependAt0 true true false (stependAt0.n == 0)) := by
  decide +kernel

/-- The model's STEPEND enters one call, with the record from before the commit. -/
theorem calls_stependAt0 : ∃ t, exec (.stepend 0 stependAt0) committedState = .next t
    ∧ ((t.updAt 0).calls.all fun x => x.record == oldRecord) = true := by
  refine ⟨_, rfl, ?_⟩
  decide +kernel

/-- Refutes O23: STEPEND in the tick of a commit of its group enters with the record from before the commit (R156), where the statement
says the group's record. -/
theorem not_updateCallsAreAccepted : ¬ Obligations.UpdateCallsAreAccepted := by
  unfold Obligations.UpdateCallsAreAccepted
  intro h
  obtain ⟨-, -, hstepend, -⟩ := h 0 stependAt0 committedState runsC_stependAt0
  obtain ⟨t, ht, ⟨x, a, b, -, hcalls, -, -, -, -, -, -, -, -, hrecord, -⟩, -⟩ := hstepend (by decide +kernel)
  obtain ⟨u, hu, hall⟩ := calls_stependAt0
  obtain rfl : u = t := by simpa using hu.symm.trans ht
  have hx := List.all_eq_true.mp hall x (hcalls ▸ by simp)
  rw [hrecord] at hx
  exact absurd hx (by decide +kernel)

end Sys2Proof.Machine
end

section
/-! PROOF. Bits and fields of a word after a field was written (R8 to R11). -/
namespace Sys2Proof.Machine
open Sys2Proof

/-! ### Fields -/

theorem getLsbD_maskOf {hi lo i : Nat} (h : i < 64) : (maskOf hi lo).getLsbD i = decide (lo ≤ i ∧ i ≤ hi) := by
  rw [maskOf, BitVec.getLsbD_ofNat, decide_eq_true h, Bool.true_and, Nat.testBit_mul_two_pow, Nat.testBit_two_pow_sub_one]
  rw [← Bool.decide_and]
  exact decide_eq_decide.mpr (by omega)

theorem getLsbD_setFld (w : W64) {hi lo i : Nat} (v : Nat) (h : i < 64) :
    (setFld w hi lo v).getLsbD i = if lo ≤ i ∧ i ≤ hi then v.testBit (i - lo) else w.getLsbD i := by
  rw [setFld, BitVec.getLsbD_or, BitVec.getLsbD_and, BitVec.getLsbD_not, getLsbD_maskOf h, BitVec.getLsbD_ofNat,
    Nat.testBit_mul_two_pow, Nat.testBit_mod_two_pow]
  by_cases hin : lo ≤ i ∧ i ≤ hi
  · have : i - lo < hi + 1 - lo := by omega
    simp [hin, h, this]
  · rw [if_neg hin]
    by_cases hl : lo ≤ i
    · simp [h, hl, show ¬ i ≤ hi by omega, show ¬ i - lo < hi + 1 - lo by omega]
    · simp [h, hl]

theorem testBit_fld (w : W64) (hi lo j : Nat) : (fld w hi lo).testBit j = (decide (j < hi + 1 - lo) && w.getLsbD (lo + j)) := by
  rw [fld, fieldOf, Nat.testBit_mod_two_pow, Nat.testBit_div_two_pow, Nat.add_comm j lo]
  rfl

theorem fld_setFld_self (w : W64) {hi lo : Nat} (v : Nat) (hi' : hi < 64) : fld (setFld w hi lo v) hi lo = v % 2 ^ (hi + 1 - lo) := by
  apply Nat.eq_of_testBit_eq
  intro j
  rw [testBit_fld, Nat.testBit_mod_two_pow]
  by_cases hj : j < hi + 1 - lo
  · rw [getLsbD_setFld _ _ (by omega), if_pos (by omega), Nat.add_sub_cancel_left]
  · simp [hj]

theorem fld_setFld_disjoint (w : W64) {hi lo hi2 lo2 : Nat} (v : Nat) (hi2' : hi2 < 64) (h : hi2 < lo ∨ hi < lo2) :
    fld (setFld w hi lo v) hi2 lo2 = fld w hi2 lo2 := by
  apply Nat.eq_of_testBit_eq
  intro j
  rw [testBit_fld, testBit_fld]
  by_cases hj : j < hi2 + 1 - lo2
  · rw [getLsbD_setFld _ _ (by omega), if_neg (by omega)]
  · simp [hj]

theorem fld_lt (w : W64) (hi lo : Nat) : fld w hi lo < 2 ^ (hi + 1 - lo) := Nat.mod_lt _ (Nat.two_pow_pos _)

theorem bit_setFld (w : W64) {hi lo i : Nat} (v : Nat) (h : i < 64) :
    bit (setFld w hi lo v) i = if lo ≤ i ∧ i ≤ hi then v.testBit (i - lo) else bit w i := getLsbD_setFld w v h

theorem bit_or (v w : W64) (i : Nat) : bit (v ||| w) i = (bit v i || bit w i) := BitVec.getLsbD_or

theorem bit_maskOf {hi lo i : Nat} (h : i < 64) : bit (maskOf hi lo) i = decide (lo ≤ i ∧ i ≤ hi) := getLsbD_maskOf h

theorem bit_zero (i : Nat) : bit 0 i = false := BitVec.getLsbD_zero

/-! ### Registers -/

variable {s : State}

/-- A counter field after it counted (R8): it stays at its largest value. -/
theorem State.fld_bump_self (s : State) (a : Nat) {hi lo : Nat} (k : Nat) (hi' : hi < 64) :
    fld ((s.bump a hi lo k).reg a) hi lo = min (2 ^ (hi + 1 - lo) - 1) (fld (s.reg a) hi lo + k) := by
  rw [State.reg_bump, if_pos rfl, fld_setFld_self _ _ hi']
  have := Nat.two_pow_pos (hi + 1 - lo)
  rw [Nat.mod_eq_of_lt (by unfold satAdd; omega)]
  rfl

theorem State.bit_setBit_self (s : State) (a : Nat) {i : Nat} (h : i < 64) : bit ((s.setBit a i).reg a) i = true := by
  rw [State.reg_setBit, if_pos rfl, bit_or, bit_maskOf h]
  simp

end Sys2Proof.Machine
end

section
/-! PROOF. Completion counters, waits and HALT (O24); the refutation of O25. -/
namespace Sys2Proof.Machine
open Sys2Proof

-- Evaluations side by side hold more threads than the memory of a check admits.
set_option Elab.async false

variable {s : State} {n : Nat}

theorem CF.sum_fetched (f : CF) (c : Core) : CF.sum f c.fetched = CF.sum f c := by simp [CF.sum]

@[simp] theorem Core.busy_fetched (c : Core) : c.fetched.busy = c.busy := by simp [Core.busy]

theorem Core.counter_setCounter (c : Core) (i k : Nat) (v : W32) : (c.setCounter i v).counter k = if k = i then v else c.counter k :=
  Tab.get_put 0 c.cnt i k v

/-- The signed difference of R113 is not negative just when the model's test holds. -/
theorem countMet_iff (x y : W32) : countMet x y = true ↔ (x - y).toInt ≥ 0 := by
  have hneg : (x - y).msb = true → (x - y).toInt < 0 := BitVec.toInt_neg_of_msb_true
  have hnonneg : (x - y).msb = false → 0 ≤ (x - y).toInt := BitVec.toInt_nonneg_of_msb_false
  cases hm : (x - y).msb
  · simpa [countMet, hm] using hnonneg hm
  · simpa [countMet, hm] using hneg hm

/-! ### Waits -/

/-- A wait for a time (R114). -/
theorem completes_waitt {f : CF} (h : s.runsC n f (CF.legal f false true false (f.n == 0))) {P : State → Prop}
    (hp : P (if CF.sum f (s.coreAt n) ≤ s.now then s.done n (s.coreAt n).fetched
      else s.setCore n ((s.coreAt n).fetched.await (.time (CF.sum f (s.coreAt n)))))) : completes (.waitt n f) s P := by
  refine completes_core h.1.1 rfl ?_
  rw [State.runC_eq _ _ _ _ _ h]
  simpa only [CF.sum_fetched] using hp

/-- A core that starts a wait, and nothing else, changes. -/
theorem awaits (s : State) (n : Nat) (w : Wait) :
    let t := s.setCore n ((s.coreAt n).fetched.await w)
    (t.coreAt n).st = .waiting ∧ (t.coreAt n).wait = some w ∧ (t.coreAt n).pc = (s.coreAt n).pc + 8
      ∧ { t.coreAt n with st := (s.coreAt n).st, wait := (s.coreAt n).wait, pc := (s.coreAt n).pc, ibuf := (s.coreAt n).ibuf } = s.coreAt n
      ∧ onlyCore n s t :=
  ⟨by simp [Core.await], by simp [Core.await], by simp [Core.await], by simp [Core.await], onlyCore_setCore s n _⟩

theorem wentOn_frame (s : State) (n : Nat) :
    let t := s.done n (s.coreAt n).fetched
    (t.coreAt n).pc = (s.coreAt n).pc + 8 ∧ { t.coreAt n with pc := (s.coreAt n).pc, ibuf := (s.coreAt n).ibuf } = s.coreAt n ∧ onlyCore n s t :=
  ⟨by simp, by simp, onlyCore_done s n _⟩

/-- What WAITC comes to (R113). -/
theorem completes_waitc {f : CF} (h : s.runsC n f (CF.legal f true true true (decide (f.n.toNat < 8)))) {P : State → Prop}
    (hp : P (if countMet ((s.coreAt n).counter f.cnt.toNat) ((CF.sum f (s.coreAt n)).truncate 32) then
        s.endWait n (s.coreAt n).fetched.nextPc f.n.toNat true
      else if s.passed (if f.b = 0 then none else some ((s.coreAt n).sreg f.b.toNat)) then
        s.endWait n (s.coreAt n).fetched.nextPc f.n.toNat false
      else s.setCore n ((s.coreAt n).fetched.await (.counter f.cnt.toNat ((CF.sum f (s.coreAt n)).truncate 32)
        (if f.b = 0 then none else some ((s.coreAt n).sreg f.b.toNat)) f.n.toNat)))) : completes (.waitc n f) s P := by
  refine completes_core h.1.1 rfl ?_
  rw [State.runC_eq _ _ _ _ _ h]
  simpa only [CF.sum_fetched, Core.counter_fetched, Core.sreg_fetched] using hp

/-- A predicate of a core that a wait's end wrote (R113). -/
theorem Core.preg_endWait (c : Core) (p r : Nat) (v : W64) :
    (c.fetched.nextPc.setP p v).preg r = if r = 0 then BitVec.allOnes 64 else if r = p then v else c.preg r := by
  rw [Core.preg_setP]
  split
  · rfl
  · split
    · rfl
    · change c.fetched.preg r = _
      rw [Core.preg_fetched]

theorem Core.setP_frame (c : Core) (p : Nat) (v : W64) :
    (c.fetched.nextPc.setP p v).pc = c.pc + 8 ∧ sameButPredicates c (c.fetched.nextPc.setP p v) := by
  unfold Core.setP
  split <;> exact ⟨by simp, by simp [sameButPredicates]⟩

/-- A met counter writes all ones to its predicate and nothing else (R113). -/
theorem endWait_met (s : State) (n p : Nat) :
    let t := s.endWait n (s.coreAt n).fetched.nextPc p true
    (t.coreAt n).preg p = BitVec.allOnes 64 ∧ (∀ k, k ≠ p → (t.coreAt n).preg k = (s.coreAt n).preg k)
      ∧ (t.coreAt n).pc = (s.coreAt n).pc + 8 ∧ sameButPredicates (s.coreAt n) (t.coreAt n) ∧ onlyCore n s t := by
  intro t
  have ht : t.coreAt n = (s.coreAt n).fetched.nextPc.setP p (BitVec.allOnes 64) := State.coreAt_setCore_self s n _
  obtain ⟨hpc, hsame⟩ := (s.coreAt n).setP_frame p (BitVec.allOnes 64)
  rw [ht]
  refine ⟨?_, fun k hk => ?_, hpc, hsame, onlyCore_setCore s n _⟩
  · rw [Core.preg_endWait, if_pos rfl]
    split <;> rfl
  · rw [Core.preg_endWait, if_neg hk]
    split
    · next h0 => rw [h0, Core.preg_zero]
    · rfl

/-- A deadline that comes first writes zeros and counts one late event (R113, R375). -/
theorem endWait_late (s : State) (n p : Nat) :
    let t := s.endWait n (s.coreAt n).fetched.nextPc p false
    (t.coreAt n).preg p = (if p = 0 then BitVec.allOnes 64 else 0) ∧ (∀ k, k ≠ p → (t.coreAt n).preg k = (s.coreAt n).preg k)
      ∧ (t.coreAt n).pc = (s.coreAt n).pc + 8 ∧ sameButPredicates (s.coreAt n) (t.coreAt n)
      ∧ fld (t.reg (A.plate (s.corePart n))) 63 32 = min (2 ^ 32 - 1) (fld (s.reg (A.plate (s.corePart n))) 63 32 + 1)
      ∧ (∀ m, m ≠ n → t.coreAt m = s.coreAt m) := by
  intro t
  have ht : t.coreAt n = (s.coreAt n).fetched.nextPc.setP p 0 := State.coreAt_setCore_self s n _
  obtain ⟨hpc, hsame⟩ := (s.coreAt n).setP_frame p 0
  rw [ht]
  refine ⟨?_, fun k hk => ?_, hpc, hsame, State.fld_bump_self (s.setCore n _) _ 1 (by norm_num),
    fun m hm => State.coreAt_setCore_ne s _ hm⟩
  · rw [Core.preg_endWait, if_pos rfl]
  · rw [Core.preg_endWait, if_neg hk]
    split
    · next h0 => rw [h0, Core.preg_zero]
    · rfl

/-- Settles O24: each wait is one of three outcomes, by its counter and its deadline; the others write one field. -/
theorem countersAndWaits : Obligations.CountersAndWaits := by
  unfold Obligations.CountersAndWaits
  intro n s c
  refine ⟨fun f => ?_, fun f => ⟨fun h => ?_, fun h hb => ?_, fun h hb => ?_⟩⟩
  · intro v p met waits
    have hmet : met ↔ countMet ((s.coreAt n).counter f.cnt.toNat) ((CF.sum f (s.coreAt n)).truncate 32) = true := (countMet_iff _ _).symm
    refine ⟨fun h => ⟨fun hv => ?_, fun hv => ?_⟩, fun h => ⟨fun hm => ?_, fun hm hb hd => ?_, fun hm hb => ?_, fun hm hb hd => ?_⟩, fun h => ?_⟩
    · refine completes_waitt h ?_
      rw [if_pos (show CF.sum f (s.coreAt n) ≤ s.now from BitVec.le_def.mpr hv)]
      exact wentOn_frame s n
    · refine completes_waitt h ?_
      rw [if_neg (show ¬ CF.sum f (s.coreAt n) ≤ s.now from fun hle => absurd (BitVec.le_def.mp hle) (Nat.not_le.mpr hv))]
      exact awaits s n _
    · refine completes_waitc h ?_
      rw [if_pos (hmet.mp hm)]
      exact endWait_met s n _
    · refine completes_waitc h ?_
      rw [if_neg (mt hmet.mpr hm), if_neg hb, if_pos (show s.passed (some ((s.coreAt n).sreg f.b.toNat)) = true from decide_eq_true (BitVec.le_def.mpr hd))]
      exact endWait_late s n _
    · refine completes_waitc h ?_
      rw [if_neg (mt hmet.mpr hm), if_pos hb, if_neg (show ¬ s.passed none = true from Bool.false_ne_true)]
      exact awaits s n _
    · refine completes_waitc h ?_
      rw [if_neg (mt hmet.mpr hm), if_neg hb, if_neg (show ¬ s.passed _ = true by
        simpa [State.passed, State.now, BitVec.le_def] using hd)]
      exact awaits s n _
    · refine completes_core h.1.1 rfl ?_
      rw [State.runC_eq _ _ _ _ _ h, CF.sum_fetched, State.coreAt_done_self]
      refine ⟨?_, fun k hk => ?_, by simp [Core.setCounter, c], by simp [Core.setCounter, c], onlyCore_done s n _⟩
      · exact (Core.counter_setCounter _ _ _ _).trans (if_pos rfl)
      · exact ((Core.counter_setCounter _ _ _ _).trans (if_neg hk)).trans (Core.counter_fetched _ _)
  · refine completes_core h.1.1 rfl ?_
    rw [State.runR_eq _ _ _ _ _ h, Core.counter_fetched]
    exact wroteScalar_done s n f.d _
  · refine completes_core h.1.1 rfl ?_
    rw [State.runR_eq _ _ _ _ _ h, Core.busy_fetched, if_neg (show ¬ (s.coreAt n).busy = true by rw [show (s.coreAt n).busy = false from hb]; exact Bool.false_ne_true), State.coreAt_done_self]
    exact ⟨by simp, by simp [c], onlyCore_done s n _⟩
  · refine completes_core h.1.1 rfl ?_
    rw [State.runR_eq _ _ _ _ _ h, Core.busy_fetched, if_pos hb, State.coreAt_done_self]
    exact ⟨by simpa using h.1.running, by simp [Core.mayIssue], by simp [c], onlyCore_done s n _⟩

/-! ### The refutation of O25 -/

/-- Core 0 runs, one local tick after power-up, with the hub counter still at zero. -/
def tickedState : State := { State.reset with clk := 1, core := [(0, { Core.init with st := .running })] }

/-- REL. -/
def relForm : RF :=
  { gneg := false, guard := 0, d := 0, a := 0, b := 0, c := 0, fmt := 0, rm := 0, x := 0, idx := 0, half := false, lm1 := 0, res := 0 }

theorem runsR_relForm : tickedState.runsR 0 relForm {} := by decide +kernel

/-- The model's REL takes its instant from cluster time. -/
theorem fence_relForm : ∃ t, exec (.rel 0 relForm) tickedState = .next t ∧ (t.coreAt 0).fence.map FenceRun.at_ = some 0 := by
  refine ⟨_, rfl, ?_⟩
  decide +kernel

/-- Refutes O25: a fence measures its 10 µs from cluster time at issue, here 0, where the statement gives it the local tick, here 1. -/
theorem not_fencesHoldIssue : ¬ Obligations.FencesHoldIssue := by
  unfold Obligations.FencesHoldIssue
  intro h
  obtain ⟨hforms, -⟩ := h 0 tickedState
  obtain ⟨-, -, t, ht, hfence, -⟩ := (hforms relForm).1 runsR_relForm
  obtain ⟨u, hu, hat⟩ := fence_relForm
  obtain rfl : u = t := by simpa using hu.symm.trans ht
  rw [hfence] at hat
  exact absurd hat (by decide)

end Sys2Proof.Machine
end

section
/-! PROOF. Requests entering the endpoint, and atomics at issue (O27). -/
namespace Sys2Proof.Machine
open Sys2Proof

/-! ### What sending changes -/

/-- Two states agree but for the hub, the endpoint and the registers. -/
def netOnly (s t : State) : Prop := { t with hub := s.hub, ep := s.ep, regs := s.regs, edge := s.edge } = s

theorem netOnly.refl (s : State) : netOnly s s := rfl

theorem netOnly.trans {s t u : State} (h : netOnly s t) (h' : netOnly t u) : netOnly s u := by
  unfold netOnly at h h'
  rw [← h'] at h
  exact h

theorem netOnly.coreAt {s t : State} (h : netOnly s t) (n : Nat) : t.coreAt n = s.coreAt n := by rw [← h]; rfl

theorem netOnly.rcAt {s t : State} (h : netOnly s t) (d : Nat) : t.rcAt d = s.rcAt d := by rw [← h]; rfl

theorem State.netOnly_chargeBudget (s : State) (q : Packet) (k : Nat) : netOnly s (s.chargeBudget q k) := by
  unfold State.chargeBudget
  split <;> rfl

theorem State.netOnly_sentNow (s : State) (q : Packet) : netOnly s (s.sentNow q) := by
  unfold State.sentNow
  dsimp only
  split <;> rfl

theorem State.netOnly_leaving (s : State) (index : Nat) (q : Packet) : netOnly s (s.leaving index q).1 := by
  unfold State.leaving
  dsimp only
  repeat' split
  · rfl
  · rfl
  · exact netOnly.trans (by rfl) (State.netOnly_sentNow _ _)
  · exact State.netOnly_sentNow _ _

theorem State.netOnly_forward (s : State) (index : Nat) (q : Packet) : netOnly s (s.forward index q) := by
  unfold State.forward
  dsimp only
  repeat' split
  · exact netOnly.trans (s.netOnly_leaving index q) rfl
  · exact netOnly.trans (s.netOnly_leaving index q) rfl
  · rfl

theorem State.netOnly_launch (s : State) (u : Unacked) (demote : Bool) : netOnly s (s.launch u demote).1 := rfl

/-- The launch of a request and its way to the router change the hub and the endpoint only. -/
theorem State.netOnly_launch_forward (s : State) (u : Unacked) (demote : Bool) (index : Nat) :
    netOnly s ((s.launch u demote).1.forward index (s.launch u demote).2) :=
  (s.netOnly_launch u demote).trans (State.netOnly_forward _ _ _)

/-- The request is charged, or its demotion counted, and it goes to the router: the endpoint is untouched before its launch. -/
def State.sends (s t : State) (u : Unacked) : Prop :=
  ∃ (s' : State) (demote : Bool), netOnly s s' ∧ s'.ep = s.ep ∧ t = (s'.launch u demote).1.forward (93 + u.die) (s'.launch u demote).2

theorem State.ep_chargeBudget (s : State) (q : Packet) (k : Nat) : (s.chargeBudget q k).ep = s.ep := by
  unfold State.chargeBudget
  split <;> rfl

/-- A waiting request stays, or it is a signal that goes out, or it is launched. -/
theorem State.pumpOne_cases (s : State) (p : Pump) (u : Unacked) :
    (∃ poor, State.pumpOne (s, p) u = (s, ⟨p.kept ++ [u], poor⟩)) ∨ (qType u.q = 0x24 ∧ netOnly s (State.pumpOne (s, p) u).1)
      ∨ s.sends (State.pumpOne (s, p) u).1 u := by
  unfold State.pumpOne
  dsimp only
  split
  · next h24 =>
    split
    · exact .inl ⟨_, rfl⟩
    · exact .inr (.inl ⟨h24, (State.netOnly_chargeBudget s u.q 16).trans rfl⟩)
  · split
    · exact .inl ⟨_, rfl⟩
    · split
      · split
        · exact .inl ⟨_, rfl⟩
        · exact .inr (.inr ⟨s, true, netOnly.refl s, rfl, rfl⟩)
      · split
        · split
          · cases s.preferred (qDest u.q) with
            | none => exact .inr (.inr ⟨s, true, netOnly.refl s, rfl, rfl⟩)
            | some port => exact .inr (.inr ⟨s.countDemoted port, true, rfl, rfl, rfl⟩)
          · exact .inl ⟨_, rfl⟩
        · split
          · exact .inl ⟨_, rfl⟩
          · exact .inr (.inr ⟨_, false, State.netOnly_chargeBudget _ _ _, State.ep_chargeBudget _ _ _, rfl⟩)

theorem State.netOnly_pumpOne (x : State × Pump) (u : Unacked) : netOnly x.1 (State.pumpOne x u).1 := by
  obtain ⟨s, p⟩ := x
  obtain ⟨poor, h⟩ | ⟨-, h⟩ | ⟨s', demote, hs, -, h⟩ := s.pumpOne_cases p u
  · rw [h]
    exact netOnly.refl s
  · exact h
  · rw [h]
    exact hs.trans (s'.netOnly_launch_forward u demote _)

theorem State.netOnly_pumpAll (l : List Unacked) (x : State × Pump) : netOnly x.1 (l.foldl State.pumpOne x).1 := by
  induction l generalizing x with
  | nil => exact netOnly.refl _
  | cons u l ih => exact (State.netOnly_pumpOne x u).trans (ih _)

theorem State.netOnly_pump (s : State) : netOnly s s.pump :=
  (show netOnly s { s with hub := { s.hub with dynWait := [] } } from rfl).trans
    ((State.netOnly_pumpAll s.hub.dynWait ({ s with hub := { s.hub with dynWait := [] } }, ⟨[], []⟩)).trans rfl)

/-- A request that enters the endpoint changes the hub, the endpoint and the registers only. -/
theorem State.netOnly_enqueue (s : State) (q : Packet) (part core : Nat) (own : Owner) : netOnly s (s.enqueue q part core own) :=
  netOnly.trans (by rfl) (State.netOnly_pump _)

/-! ### Where an entered request is -/

/-- One request before and after its sending: the entry, its owner, and what of its header no hub rewrites. -/
def Unacked.sameRequest (u v : Unacked) : Prop :=
  u.no = v.no ∧ u.own = v.own ∧ u.core = v.core ∧ u.part = v.part ∧ u.q.w0 = v.q.w0 ∧ u.q.w3 = v.q.w3 ∧ u.q.payload = v.q.payload

/-- The request waits for its acknowledgement. -/
def State.awaitsAck (s : State) (v : Unacked) : Prop := ∃ e, ∃ u ∈ (s.srcAt e).unacked, u.sameRequest v

/-- The request is in the endpoint: it waits to be sent, or for its acknowledgement. -/
def State.holdsRequest (s : State) (v : Unacked) : Prop :=
  ∃ u, (u ∈ s.hub.dynWait ∨ ∃ p ∈ s.ep.src, u ∈ p.2.unacked) ∧ u.sameRequest v

theorem Tab.mem_of_find {α : Type} {t : Tab α} {i : Nat} {x : α} (h : Tab.find t i = some x) : (i, x) ∈ t := by
  induction t with
  | nil => simp at h
  | cons e t ih =>
    obtain ⟨k, v⟩ := e
    rw [Tab.find] at h
    split at h
    · next hk => simp_all
    · exact List.mem_cons_of_mem _ (ih h)

theorem State.holdsRequest_of_awaitsAck {s : State} {v : Unacked} (h : s.awaitsAck v) : s.holdsRequest v := by
  obtain ⟨e, u, hu, hv⟩ := h
  refine ⟨u, .inr ?_, hv⟩
  cases hf : Tab.find s.ep.src e with
  | none => simp [State.srcAt, Tab.get, hf, SrcPair.init] at hu
  | some x => exact ⟨(e, x), Tab.mem_of_find hf, by simpa [State.srcAt, Tab.get, hf] using hu⟩

theorem State.awaitsAck_sentNow {s : State} {v : Unacked} (q : Packet) (h : s.awaitsAck v) : (s.sentNow q).awaitsAck v := by
  obtain ⟨e, u, hu, hv⟩ := h
  unfold State.sentNow
  dsimp only
  split
  · refine ⟨e, ?_⟩
    rw [State.srcAt_setSrc]
    split
    · next he =>
      subst he
      refine ⟨_, List.mem_map_of_mem hu, ?_⟩
      split <;> exact hv
    · exact ⟨u, hu, hv⟩
  · exact ⟨e, u, hu, hv⟩

theorem State.awaitsAck_leaving {s : State} {v : Unacked} (index : Nat) (q : Packet) (h : s.awaitsAck v) :
    (s.leaving index q).1.awaitsAck v := by
  unfold State.leaving
  dsimp only
  repeat' split
  · exact h
  · exact h
  · exact State.awaitsAck_sentNow _ h
  · exact State.awaitsAck_sentNow _ h

theorem State.awaitsAck_forward {s : State} {v : Unacked} (index : Nat) (q : Packet) (h : s.awaitsAck v) :
    (s.forward index q).awaitsAck v := by
  unfold State.forward
  dsimp only
  repeat' split
  · exact State.awaitsAck_leaving index q h
  · exact State.awaitsAck_leaving index q h
  · exact h

/-- The entry that a launch puts into its pair. -/
def State.launched (s : State) (u : Unacked) (demote : Bool) : Unacked :=
  { u with seq := (s.srcAt (qDest u.q)).next, q := (s.launch u demote).2, firstAt := s.clk, lastAt := s.clk }

theorem State.awaitsAck_launch (s : State) (u : Unacked) (demote : Bool) : (s.launch u demote).1.awaitsAck u := by
  refine ⟨qDest u.q, s.launched u demote, ?_, ?_⟩
  · unfold State.launch
    rw [State.srcAt_setSrc, if_pos rfl]
    exact List.mem_append_right _ (List.mem_singleton_self _)
  · cases demote <;> exact ⟨rfl, rfl, rfl, rfl, rfl, rfl, rfl⟩

theorem State.holdsRequest_pumpOne (s : State) (p : Pump) {u : Unacked} (h24 : qType u.q ≠ 0x24) :
    u ∈ (State.pumpOne (s, p) u).2.kept ∨ (State.pumpOne (s, p) u).1.awaitsAck u := by
  obtain ⟨poor, h⟩ | ⟨h, -⟩ | ⟨s', demote, -, -, h⟩ := s.pumpOne_cases p u
  · rw [h]
    exact .inl (List.mem_append_right _ (List.mem_singleton_self _))
  · exact absurd h h24
  · rw [h]
    exact .inr (State.awaitsAck_forward _ _ (s'.awaitsAck_launch u demote))

/-- The last of the waiting requests is, after the pump, still in the endpoint. -/
theorem State.holdsRequest_pump (s : State) (l : List Unacked) {u : Unacked} (hl : s.hub.dynWait = l ++ [u]) (h24 : qType u.q ≠ 0x24) :
    s.pump.holdsRequest u := by
  unfold State.pump
  rw [hl, List.foldl_append, List.foldl_cons, List.foldl_nil]
  generalize l.foldl State.pumpOne _ = x
  obtain ⟨t, p⟩ := x
  obtain h | h := State.holdsRequest_pumpOne t p h24
  · exact ⟨u, .inl h, ⟨rfl, rfl, rfl, rfl, rfl, rfl, rfl⟩⟩
  · exact State.holdsRequest_of_awaitsAck h

/-- The entry of a request that enters the endpoint. -/
def State.entryOf (s : State) (q : Packet) (part core : Nat) (own : Owner) : Unacked :=
  { no := s.ep.count, seq := 0, q := q, part := part, core := core, die := dieOf core, own := own, firstAt := s.clk,
    lastAt := s.clk, tries := 0, lost := false, routed := s.routedCopy own }

theorem State.holdsRequest_enqueue (s : State) (q : Packet) (part core : Nat) (own : Owner) (h24 : qType q ≠ 0x24) :
    (s.enqueue q part core own).holdsRequest (s.entryOf q part core own) :=
  State.holdsRequest_pump _ s.hub.dynWait rfl h24

/-! ### Atomics -/

variable {s : State} {n : Nat}

theorem qType_qMake (dest src tag type arg seq len addr : Nat) (payload : List Byte) :
    qType (qMake dest src tag type arg seq len addr payload) = type % 64 := by
  have h : (dest % 2 ^ 16 * 2 ^ 48 + src % 2 ^ 16 * 2 ^ 32 + tag % 2 ^ 12 * 2 ^ 20 + type % 2 ^ 6 * 2 ^ 14 + arg % 2 ^ 8 * 2 ^ 6)
      % 2 ^ 64 / 2 ^ 14 % 2 ^ 6 = type % 2 ^ 6 := by omega
  rw [qType, fld, fieldOf, qMake, BitVec.toNat_ofNat]
  exact h

theorem Tab.find_mapVals {α : Type} (t : Tab α) (g : Nat → α → α) (i : Nat) :
    Tab.find (t.map fun e => (e.1, g e.1 e.2)) i = (Tab.find t i).map (g i) := by
  induction t with
  | nil => rfl
  | cons e t ih =>
    obtain ⟨k, v⟩ := e
    simp only [List.map_cons, Tab.find]
    split
    · next hk => rw [hk]; rfl
    · exact ih

/-- What reaches lines of a cache marks loads in flight, and changes nothing else of a core. -/
theorem State.coreAt_rcSpoil (s : State) (d n : Nat) (part gran home : Option Nat) :
    ∃ g : Remote → Remote, (∀ r, (g r).id = r.id)
      ∧ (s.rcSpoil d part gran home).coreAt n = { s.coreAt n with rem := (s.coreAt n).rem.map g } := by
  let spoil := fun (r : Remote) => if (⟨s.clk, part, gran, home⟩ : RcTouch).hits r.part (r.addr / 64) r.home then { r with noFill := true } else r
  let mark := fun (k : Nat) (c : Core) => if dieOf k = d then { c with rem := c.rem.map spoil } else c
  have hcore : (s.rcSpoil d part gran home).core = s.core.map fun e => (e.1, mark e.1 e.2) :=
    List.map_congr_left fun e _ => by dsimp only [mark]; split <;> rfl
  have hat : (s.rcSpoil d part gran home).coreAt n = mark n (s.coreAt n) := by
    unfold State.coreAt Tab.get
    rw [hcore, Tab.find_mapVals]
    cases Tab.find s.core n with
    | some c => rfl
    | none => dsimp only [mark]; split <;> rfl
  rw [hat]
  dsimp only [mark]
  split
  · exact ⟨spoil, fun r => by dsimp only [spoil]; split <;> rfl, rfl⟩
  · exact ⟨id, fun _ => rfl, by rw [List.map_id]⟩

theorem State.rcAt_rcSpoil (s : State) (d e : Nat) (part gran home : Option Nat) : (s.rcSpoil d part gran home).rcAt e = s.rcAt e := by
  change (Tab.get RcDie.init (Tab.put s.rc d _) e).lines = (Tab.get RcDie.init s.rc e).lines
  rw [Tab.get_put]
  split
  · next h => rw [h]; rfl
  · rfl

theorem State.rcAt_setRc_self (s : State) (d : Nat) (l : List RcLine) : (s.setRc d l).rcAt d = l := by
  change (Tab.get RcDie.init (Tab.put s.rc d _) d).lines = l
  rw [Tab.get_put_self]

/-- The lines of a granule of one home and partition are gone. -/
theorem State.not_mem_rcDropGran {s : State} {d part gran home : Nat} {l : RcLine} (h : l ∈ (s.rcDropGran d part gran (some home)).rcAt d) :
    ¬ (l.part = part ∧ l.gran = gran ∧ l.home = home) := by
  rw [State.rcDropGran, State.rcAt_rcSpoil, State.rcAt_setRc_self] at h
  simpa [or_assoc, imp_iff_not_or] using (List.mem_filter.mp h).2

/-- The record of an access at issue (R134). -/
def State.accessOf (s : State) (n : Nat) (c : Core) (type d : Nat) (a : W64) : Remote :=
  { id := c.nextId, pc := c.pc, d := d, wide := accessBytes type == 8, atomic := isAtomic type
    eid := (s.rackEid (fld a 44 40)).getD 0xFFFF, addr := fld a 44 0, part := s.corePart n, tag := s.coreTag n
    home := s.homeOf a, at_ := s.ct
    noFill := s.rcTouched (dieOf n) (s.corePart n) (fld a 44 6) (s.homeOf a) }

/-- An issued access is outstanding, and its packet is in the endpoint (R134). -/
theorem State.issueAccess_enters (s : State) (n : Nat) (c : Core) {type : Nat} (d : Nat) (a : W64) (payload : List Byte) (h : type < 0x20) :
    let t := s.issueAccess n c type d a payload
    t.holdsRequest (s.entryOf (s.rackPacket n type a payload) (s.corePart n) n (.access n c.nextId))
      ∧ t.coreAt n = { c.nextPc with rem := s.accessOf n c type d a :: c.rem, nextId := c.nextId + 1 } ∧ ∀ e, t.rcAt e = s.rcAt e := by
  refine ⟨State.holdsRequest_enqueue _ _ _ _ _ ?_, ?_, fun e => (State.netOnly_enqueue _ _ _ _ _).rcAt e⟩
  · rw [State.rackPacket, qType_qMake]
    omega
  · exact ((State.netOnly_enqueue _ _ _ _ _).coreAt n).trans (State.coreAt_setCore_self _ _ _)

/-- The payload of an atomic (R226): its operand, and the compare value of a compare-swap. -/
def atomicPayload (type w : Nat) (x y : W64) : List Byte :=
  toBytes w x.toNat ++ if type == 0x0E || type == 0x0F then toBytes w y.toNat else []

/-- What an atomic of a width leaves (R133, R134, R215, R226): its record, its packet, and a cache without the lines of its granule. -/
def State.sentAtomic (s : State) (n d type w : Nat) (a : W64) (payload : List Byte) (t : State) : Prop :=
  let c := s.coreAt n
  let q := qMake ((s.rackEid (fld a 44 40)).getD 0xFFFF) s.topo.ownEid (s.coreTag n) type 0 0 w (fld a 39 0) payload
  (∃ r, (t.coreAt n).rem.map Remote.id = r.id :: c.rem.map Remote.id ∧ r ∈ (t.coreAt n).rem ∧ r.d = d
    ∧ r.addr = fld a 44 0 ∧ r.at_ = s.ct ∧ r.pc = c.pc ∧ r.atomic = true
    ∧ ∃ u, (u ∈ t.hub.dynWait ∨ ∃ p ∈ t.ep.src, u ∈ p.2.unacked) ∧ u.no = s.ep.count ∧ u.own = .access n r.id
      ∧ u.q.w0 = q.w0 ∧ u.q.w3 = q.w3 ∧ u.q.payload = payload)
  ∧ (∀ l ∈ t.rcAt (dieOf n), ¬ (l.part = s.corePart n ∧ l.gran = fld a 44 6 ∧ l.home = s.homeOf a))
  ∧ (t.coreAt n).s = c.s ∧ (t.coreAt n).store = c.store ∧ (t.coreAt n).pc = c.pc + 8

/-- The die's lines of the granule that an access of a core meets are removed (R215 rule 3). -/
def State.withoutGran (s : State) (n : Nat) (a : W64) : State := s.rcDropGran (dieOf n) (s.corePart n) (fld a 44 6) (some (s.homeOf a))

theorem State.coreAt_withoutGran (s : State) (n : Nat) (a : W64) :
    ∃ g : Remote → Remote, (∀ r, (g r).id = r.id) ∧ (s.withoutGran n a).coreAt n = { s.coreAt n with rem := (s.coreAt n).rem.map g } :=
  State.coreAt_rcSpoil _ _ _ _ _ _

theorem State.sentAtomic_issueAccess (s : State) (n d : Nat) {type : Nat} (a : W64) (payload : List Byte) (h : isAtomic type = true) :
    s.sentAtomic n d type (accessBytes type) a payload ((s.withoutGran n a).issueAccess n
      { (s.coreAt n).fetched with rem := ((s.withoutGran n a).coreAt n).rem } type d a payload) := by
  have htype : type < 0x20 := by
    have : 0x08 ≤ type ∧ type ≤ 0x19 := by simpa [isAtomic] using h
    omega
  obtain ⟨g, hg, hrem⟩ := s.coreAt_withoutGran n a
  obtain ⟨⟨u, hin, hno, hown, -, -, hw0, hw3, hpayload⟩, hat, hrc⟩ := (s.withoutGran n a).issueAccess_enters n
    { (s.coreAt n).fetched with rem := ((s.withoutGran n a).coreAt n).rem } d a payload htype
  have hids : ((s.coreAt n).rem.map g).map Remote.id = (s.coreAt n).rem.map Remote.id := by
    rw [List.map_map]
    exact List.map_congr_left fun r _ => hg r
  unfold State.sentAtomic
  rw [hat]
  refine ⟨⟨_, ?_, List.mem_cons_self, rfl, rfl, rfl, by simp [State.accessOf], h, u, hin, hno, hown, hw0, hw3, hpayload⟩, fun l hl => ?_, ?_, ?_, ?_⟩
  · simp only [hrem, ← hids]
    rfl
  · rw [hrc] at hl
    exact State.not_mem_rcDropGran hl
  all_goals simp

variable {s : State} {n : Nat}

theorem completes_atomic {f : RF} {i : Instr} {type w : Nat} {payload : List Byte} (hi : exec i s = onUnit (n < numCores) (s.atomicInstr n f type))
    (hw : accessBytes type = w) (ha : isAtomic type = true)
    (hp : atomicPayload type w ((s.coreAt n).sreg f.b.toNat) ((s.coreAt n).sreg f.c.toNat) = payload)
    (h : s.runsR n f { d := .s, a := .s, b := .s, c := if type == 0x0E || type == 0x0F then .s else .none })
    (hc : s.rackCause ((s.coreAt n).sreg f.a.toNat) w = none) (hr : (s.coreAt n).rem.length < 32) :
    completes i s (s.sentAtomic n f.d.toNat type w ((s.coreAt n).sreg f.a.toNat) payload) := by
  subst hw hp
  refine completes_core h.1.1 hi ?_
  rw [State.atomicInstr]
  dsimp only
  rw [State.runR_eq _ _ _ _ _ h]
  simp only [Core.sreg_fetched, hc]
  rw [if_neg (show ¬ 32 ≤ (s.coreAt n).fetched.rem.length by simpa using hr)]
  exact s.sentAtomic_issueAccess n f.d.toNat _ _ ha

/-- An atomic that is no compare-swap carries its operand alone. -/
theorem completes_fetchOp {f : RF} {i : Instr} {type w : Nat} (hi : exec i s = onUnit (n < numCores) (s.atomicInstr n f type))
    (hw : accessBytes type = w) (ha : isAtomic type = true) (hcas : (type == 0x0E || type == 0x0F) = false)
    (h : s.runsR n f { d := .s, a := .s, b := .s }) (hc : s.rackCause ((s.coreAt n).sreg f.a.toNat) w = none)
    (hr : (s.coreAt n).rem.length < 32) :
    completes i s (s.sentAtomic n f.d.toNat type w ((s.coreAt n).sreg f.a.toNat) (toBytes w ((s.coreAt n).sreg f.b.toNat).toNat)) :=
  completes_atomic hi hw ha (by simp [atomicPayload, hcas]) (by simpa [hcas] using h) hc hr

/-- Settles O27: every atomic is one issue, told apart by its type, its width and its payload. -/
theorem atomicsEnterTheEndpoint : Obligations.AtomicsEnterTheEndpoint := by
  unfold Obligations.AtomicsEnterTheEndpoint
  intro n f s c a d part e sends x y word dword hr
  refine ⟨fun h hc => ?_, fun h hc => ?_, fun h => ⟨fun hc => ?_, fun hc => ?_⟩⟩
  · have hop : ∀ {i : Instr} {type : Nat}, exec i s = onUnit (n < numCores) (s.atomicInstr n f type) → accessBytes type = 4 →
        isAtomic type = true → (type == 0x0E || type == 0x0F) = false → sends i type 4 word :=
      fun hi hw ha hcas => completes_fetchOp hi hw ha hcas h hc hr
    exact ⟨hop rfl rfl rfl rfl, hop rfl rfl rfl rfl, hop rfl rfl rfl rfl, hop rfl rfl rfl rfl, hop rfl rfl rfl rfl, hop rfl rfl rfl rfl,
      hop rfl rfl rfl rfl, hop rfl rfl rfl rfl, hop rfl rfl rfl rfl⟩
  · have hop : ∀ {i : Instr} {type : Nat}, exec i s = onUnit (n < numCores) (s.atomicInstr n f type) → accessBytes type = 8 →
        isAtomic type = true → (type == 0x0E || type == 0x0F) = false → sends i type 8 dword :=
      fun hi hw ha hcas => completes_fetchOp hi hw ha hcas h hc hr
    exact ⟨hop rfl rfl rfl rfl, hop rfl rfl rfl rfl, hop rfl rfl rfl rfl, hop rfl rfl rfl rfl, hop rfl rfl rfl rfl, hop rfl rfl rfl rfl,
      hop rfl rfl rfl rfl⟩
  · exact completes_atomic (type := 0x0E) rfl rfl rfl rfl h hc hr
  · exact completes_atomic (type := 0x0F) rfl rfl rfl rfl h hc hr

end Sys2Proof.Machine
end

section
/-! PROOF. The refutation of O31: the end of a warm-up marks its position active (R88, R140). -/
namespace Sys2Proof.Machine
open Sys2Proof

-- Evaluations side by side hold more threads than the memory of a check admits.
set_option Elab.async false

/-- What a command is said to leave holds of the state that it leaves. -/
theorem completes.of_next {i : Instr} {s t : State} {P : State → Prop} (h : completes i s P) (ht : exec i s = .next t) : P t := by
  obtain ⟨u, hu, hp⟩ := h
  obtain rfl : u = t := by simpa using hu.symm.trans ht
  exact hp

/-- Position 0 of core 0 is warm up to tick 0, and not marked active. -/
def warmState : State :=
  { State.reset with core := [(0, { Core.init with pos := [(0, { Fuse.init.position 0 0 with warm := some 0, active := false })] })] }

theorem active_twarmEnd_warmState : ∃ t, exec (.twarmEnd 0 0) warmState = .next t ∧ (t.posAt 0 0).active = true := by
  refine ⟨_, rfl, ?_⟩
  decide +kernel

/-- Refutes O31: TWARM_END marks the position active, for work waited on it since the last boundary (R88), where the statement lets it
clear the warm-up alone. -/
theorem not_tileOperationsRun : ¬ Obligations.TileOperationsRun := by
  unfold Obligations.TileOperationsRun
  intro h
  obtain ⟨-, -, -, -, -, hwarm⟩ := h 0 0 warmState (by decide) (by decide)
  obtain ⟨t, ht, hactive⟩ := active_twarmEnd_warmState
  obtain ⟨hpos, -⟩ := (hwarm 0 (by decide +kernel) (by decide)).of_next ht
  rw [hpos] at hactive
  exact absurd hactive (by decide +kernel)

end Sys2Proof.Machine
end

section
/-! PROOF. The refutation of O32: a gather without any line to access overtakes the older ones of its unit (R104). -/
namespace Sys2Proof.Machine
open Sys2Proof

-- Evaluations side by side hold more threads than the memory of a check admits.
set_option Elab.async false

/-- A gather of no lane. -/
def idleGather : GsOp :=
  { op := 0, idx := 0, act := 0, base := 0, bound := 0, data := 0, dest := 0, row := 0, lines := 1, fmt := 0, cnt := 0 }

/-- A gather of lane 0 that lies out of its bound: it accesses no line. -/
def boundedGather : GsOp := { idleGather with act := 1 }

/-- Core 0 runs, and its unit holds both, the gather of no lane first. -/
def gatherState : State := { State.reset with core := [(0, { Core.init with st := .running, gs := [idleGather, boundedGather] })] }

theorem gs_gatherState : ∃ t, exec (.gatherScatterComplete 0) gatherState = .next t ∧ (t.coreAt 0).gs = [idleGather] := by
  refine ⟨_, rfl, ?_⟩
  decide +kernel

/-- Refutes O32: of the two gathers the model completes the younger, which accesses no line (R104), where the statement completes the
oldest. -/
theorem not_transfersRoutingsAndCopiesRun : ¬ Obligations.TransfersRoutingsAndCopiesRun := by
  unfold Obligations.TransfersRoutingsAndCopiesRun
  intro h
  obtain ⟨hgs, -⟩ := h 0 gatherState (by decide)
  obtain ⟨t, ht, hleft⟩ := gs_gatherState
  obtain ⟨-, -, -, -, hrest, -⟩ := (hgs idleGather [boundedGather] rfl (by decide)).of_next ht
  rw [hrest] at hleft
  exact absurd (congrArg (List.map GsOp.act) hleft) (by decide)

end Sys2Proof.Machine
end

section
/-! PROOF. The refutation of O33: a throttled channel holds the root unit (R363). -/
namespace Sys2Proof.Machine
open Sys2Proof

-- Evaluations side by side hold more threads than the memory of a check admits.
set_option Elab.async false

/-- A refresh that has not begun. -/
def idleRefresh : URefresh :=
  { group := 0, record := [], part := 0, waiters := [], running := false, block := 0, held := none, at_ := 0 }

/-- Die 0 holds that refresh; channel 0 of its throttled stack 0 served a granule in this tick. -/
def throttledState : State :=
  { State.reset with
    upd := [(0, { UpdDie.init with refresh := [idleRefresh] })]
    mem := { MemS.init with die := [(0, { MemDie.init with stack := [(0, { Stack.init with limit := 1 })], served := [(0, 0)] })] } }

theorem refresh_throttledState :
    ∃ t, exec (.rootRefreshStart 0 0) throttledState = .next t ∧ (t.updAt 0).refresh.map URefresh.running = [false] := by
  refine ⟨_, rfl, ?_⟩
  decide +kernel

/-- Refutes O33: while a channel of the die is held by the limit of a throttled stack (R363) the root unit reads no factors, where the
statement starts the refresh as soon as its partition has credit. -/
theorem not_updateEnginesRunTheirCalls : ¬ Obligations.UpdateEnginesRunTheirCalls := by
  unfold Obligations.UpdateEnginesRunTheirCalls
  intro h
  obtain ⟨-, hrefresh, -⟩ := h 0 throttledState (by decide)
  obtain ⟨-, hstart, -⟩ := hrefresh idleRefresh [] rfl
  obtain ⟨t, ht, hidle⟩ := refresh_throttledState
  obtain ⟨⟨y, hy⟩, -⟩ := (hstart rfl (by decide +kernel) (by decide +kernel) (by decide +kernel)).of_next ht
  rw [hy] at hidle
  exact absurd hidle (by simp)

end Sys2Proof.Machine
end

section
/-! PROOF. The refutation of O34: a count of served granules that reaches a memory map. -/
namespace Sys2Proof.Machine
open Sys2Proof

-- Evaluations side by side hold more threads than the memory of a check admits.
set_option Elab.async false

/-- A latency-critical read whose partition is none of the sixteen: its count is that of the register MEM.MAP of die 1. -/
def strayRead : MemReq :=
  { req := 0, part := 32704, lc := true, ct := 0, op := .read, off := 0, len := 64, data := [], tag := 0, copy := false }

/-- A read at die 1, in segment 0. -/
def dieOneRead : MemReq :=
  { req := 0, part := 0, lc := false, ct := 0, op := .read, off := 2 ^ 38 + 2 ^ 15, len := 64, data := [], tag := 0, copy := false }

/-- Both wait at die 0 as granules of one request, and the count stands one granule below a unit. -/
def strayState : State :=
  { State.reset with
    dom := { State.reset.dom with mem := 0xF }
    parts := [(A.memMap 1 * 64, 1023)]
    mem := { MemS.init with die := [(0, { MemDie.init with waiting := [(0, strayRead), (0, dieOneRead)] })] } }

theorem chan_strayState :
    ∃ t, exec (.memoryAdmit 0 0) strayState = .next t ∧ Tab.get [] (t.memAt 0).chan 1 = [] := by
  refine ⟨_, rfl, ?_⟩
  decide +kernel

/-- Refutes O34: where a waiting granule carries a partition number beyond the sixteen, its admission counts in another register, here in
the memory map of die 1; segment 0 of die 1 becomes interleaved, and the next granule of the request goes to another channel than the one
that the statement takes from the map before. -/
theorem not_memoryRequestsAreServed : ¬ Obligations.MemoryRequestsAreServed := by
  unfold Obligations.MemoryRequestsAreServed
  intro h
  obtain ⟨-, -, -, hadmit, -⟩ := h 0 strayState (by decide)
  obtain ⟨t, ht, hempty⟩ := chan_strayState
  obtain ⟨-, hchan, -⟩ := (hadmit 0 0 dieOneRead (by decide) (by decide +kernel) (by decide +kernel) (by decide +kernel)).of_next ht
  have hone := congrArg List.length ((hchan 1).symm.trans hempty)
  exact absurd hone (by decide +kernel)

end Sys2Proof.Machine
end

section
/-! PROOF. The refutation of O36: a FENCE written in the tick in which a link would come UP fences its die (R11). -/
namespace Sys2Proof.Machine
open Sys2Proof

-- Evaluations side by side hold more threads than the memory of a check admits.
set_option Elab.async false

/-- Link 0 trains for the first time, and software writes its D2D.CTRL.FENCE in this tick. -/
def fencedTraining : State :=
  { State.reset with
    link := [(0, { Link.init with st := .training, attempts := 1 })]
    edge := { Edge.none with sw := [(A.d2dCtrl 0, [(0, 8)])] } }

theorem st_fencedTraining :
    ∃ t, exec (.linkTrainComplete 0 (BitVec.allOnes 96) (BitVec.allOnes 96) []) fencedTraining = .next t ∧ (t.linkAt 0).st = .fenced := by
  refine ⟨_, rfl, ?_⟩
  decide +kernel

/-- Refutes O36: a link that trains at full width goes to FENCED when a FENCE is written in the same tick (R11, R220), where the statement
has it UP. -/
theorem not_dieLinksAndWhatTheyTakeWithThem : ¬ Obligations.DieLinksAndWhatTheyTakeWithThem := by
  unfold Obligations.DieLinksAndWhatTheyTakeWithThem
  rintro ⟨hlink, -⟩
  obtain ⟨-, -, htrain, -⟩ := hlink 0 fencedTraining (by decide)
  obtain ⟨-, -, hcomplete⟩ := htrain (BitVec.allOnes 96) (BitVec.allOnes 96) [] (by decide +kernel)
  obtain ⟨t, ht, hfenced⟩ := st_fencedTraining
  obtain ⟨-, -, -, -, -, -, -, hup⟩ := hcomplete.of_next ht
  have hst := hup (by decide +kernel) (by decide +kernel) (by decide +kernel)
  rw [hfenced] at hst
  exact absurd hst (by decide +kernel)

end Sys2Proof.Machine
end

section
/-! PROOF. The refutations of O37 and O38: a packet whose inbound buffer gives an uncorrectable word is discarded (R262). -/
namespace Sys2Proof.Machine
open Sys2Proof

-- Evaluations side by side hold more threads than the memory of a check admits.
set_option Elab.async false

/-- A store of tag 0 from endpoint 2 to endpoint 1, in a buffer that gives an uncorrectable word. -/
def lostStore : Packet := { qSeal (qMake 1 2 0 0x03 0 0 4 0 (List.replicate 4 0)) with bad := true }

/-- The module is endpoint 1 and expects sequence 0 of endpoint 2. -/
def targetState : State :=
  { State.reset with
    dom := { State.reset.dom with hub := true }
    topo := { State.reset.topo with ownEid := 1 }
    ep := { Endpoint.init with dst := [(2, { DstPair.init with expected := some 0 })] } }

theorem inTurn_lostStore : targetState.inTurn lostStore := by decide +kernel

theorem inject_targetState : ∃ t, exec (.store lostStore) targetState = .next t ∧ t.hub.inject.length = 0 := by
  refine ⟨_, rfl, ?_⟩
  decide +kernel

/-- Refutes O37: the model discards a store whose words are uncorrectable, where the statement has it refused. -/
theorem not_targetsAnswerRequests : ¬ Obligations.TargetsAnswerRequests := by
  unfold Obligations.TargetsAnswerRequests
  rintro ⟨-, hrefused⟩
  obtain ⟨-, hstore, -⟩ := hrefused lostStore 1 0 targetState inTurn_lostStore (by decide +kernel) (by decide +kernel) (by decide)
  obtain ⟨t, ht, hnone⟩ := inject_targetState
  have hreply : hasReply (qType lostStore) = true → targetState.ep.records.length < 65536 := fun _ => by decide +kernel
  obtain ⟨⟨r, hinject, -⟩, -⟩ := (hstore (by decide +kernel) hreply).of_next ht
  rw [hinject] at hnone
  exact absurd hnone (by simp)

/-- A request of no owner under sequence 0 that waits for its acknowledgement. -/
def sentStore : Unacked :=
  { no := 0, seq := 0, q := lostStore, part := 0, core := 0, die := 0, own := .none, firstAt := 0, lastAt := 0, tries := 0, lost := false }

/-- The acknowledgement of sequence 0 from endpoint 2, in a buffer that gives an uncorrectable word. -/
def lostAck : Packet := { qSeal (qPut1 (qMake 1 2 0 0x32 0 0 0 0 []) 23 23 1) with bad := true }

/-- The module is endpoint 1 and has sent that request to endpoint 2. -/
def sourceState : State :=
  { State.reset with
    dom := { State.reset.dom with hub := true }
    topo := { State.reset.topo with ownEid := 1 }
    ep := { Endpoint.init with src := [(2, { SrcPair.init with unacked := [sentStore] })] } }

theorem unacked_sourceState : ∃ t, exec (.ack lostAck) sourceState = .next t ∧ (t.srcAt (qSrc lostAck)).unacked.length = 1 := by
  refine ⟨_, rfl, ?_⟩
  decide +kernel

/-- Refutes O38: the model discards an acknowledgement whose words are uncorrectable, where the statement ends the request with it. -/
theorem not_sourcesTakeAnswers : ¬ Obligations.SourcesTakeAnswers := by
  unfold Obligations.SourcesTakeAnswers
  intro h
  obtain ⟨-, -, -, hack, -⟩ := h lostAck 0 0 sourceState (by decide)
  obtain ⟨t, ht, hkept⟩ := unacked_sourceState
  have hends := hack (by decide +kernel) (by decide +kernel) (by decide +kernel) (by decide +kernel) (by decide +kernel) (by decide +kernel)
    sentStore (by decide +kernel) (by decide +kernel) (by decide +kernel)
  obtain ⟨hnone, -⟩ := hends.of_next ht
  rw [hnone] at hkept
  exact absurd hkept (by decide)

end Sys2Proof.Machine
end

section
/-! PROOF. The refutation of O39: the room that a time-out leaves lets a waiting request take the same sequence. -/
namespace Sys2Proof.Machine
open Sys2Proof

-- Evaluations side by side hold more threads than the memory of a check admits.
set_option Elab.async false

/-- A pull of copy engine 0 whose data have not come. -/
def timedOutPull : Desc :=
  { id := 0, core := 0, cnt := none, words := [], part := 0, tag := 0, next := 0, given := 0, got := [], outstanding := 1, status := 0,
    peer := 0, failAddr := 0, bytes := 0, at_ := 0 }

/-- A load to endpoint 2 that waits to be sent. -/
def waitingLoad : Unacked :=
  { no := 0, seq := 0, q := qMake 2 1 0 0x01 0 0 4 0 [], part := 0, core := 0, die := 0, own := .none, firstAt := 0, lastAt := 0, tries := 0,
    lost := false }

/-- The pull went to endpoint 2 under sequence 0, which has come round to be the pair's next one, and the load waits behind it. -/
def wrappedState : State :=
  { State.reset with
    clk := 40000
    copy := [(0, { CopyEng.init with descs := [timedOutPull] })]
    hub := { HubS.init with dynWait := [waitingLoad] }
    ep := { Endpoint.init with src := [(2, { SrcPair.init with answers := [(0, (.copy 0 0 0, 0, 0))] })] } }

theorem answers_wrappedState :
    ∃ t, exec (.copyTimeout 2 0) wrappedState = .next t ∧ (Tab.find (t.srcAt 2).answers 0).isSome = true := by
  refine ⟨_, rfl, ?_⟩
  decide +kernel

/-- Refutes O39: the time-out sends what waits (R229), and where the pair's sequence has come round the load sent takes the entry of the
pull's sequence, which the statement has empty. -/
theorem not_requestsTimeOut : ¬ Obligations.RequestsTimeOut := by
  unfold Obligations.RequestsTimeOut
  intro h
  obtain ⟨-, -, hpull, -⟩ := h 2 wrappedState
  obtain ⟨t, ht, hsome⟩ := answers_wrappedState
  obtain ⟨-, hnone, -⟩ := (hpull 0 0 0 0 (0, 0) timedOutPull (by decide +kernel) (by decide +kernel) (by decide +kernel) (by decide +kernel)).of_next ht
  rw [hnone] at hsome
  exact absurd hsome (by decide)

end Sys2Proof.Machine
end

section
/-! PROOF. The refutation of O40: a packet with an uncorrectable word is no packet for the endpoint (R262). -/
namespace Sys2Proof.Machine
open Sys2Proof

-- Evaluations side by side hold more threads than the memory of a check admits.
set_option Elab.async false

/-- An acknowledgement from endpoint 2 to endpoint 1, in a buffer that gives an uncorrectable word. -/
def spoiltAck : Packet := { qSeal (qMake 1 2 0 0x32 0 0 0 0 []) with bad := true }

/-- The frame that carries it, under sequence 0. -/
def spoiltFrame : Frame := frameOf 1 0 0 spoiltAck

/-- Endpoint 1, whose port 0 is UP with lane 0. -/
def receivingState : State :=
  { State.reset with
    topo := { State.reset.topo with ownEid := 1 }
    hub := { HubS.init with port := [(0, { Port.init with st := .up, rxLanes := 1, txLanes := 1 })] } }

theorem inbound_receivingState :
    ∃ t, exec (.dataFrame 0 0 spoiltFrame) receivingState = .next t ∧ t.hub.inbound.length = 0 := by
  refine ⟨_, rfl, ?_⟩
  decide +kernel

/-- Refutes O40: the model discards the packet, where the statement has it ejected. -/
theorem not_framesMoveThroughTheRouter : ¬ Obligations.FramesMoveThroughTheRouter := by
  unfold Obligations.FramesMoveThroughTheRouter
  intro h
  obtain ⟨hdata, -⟩ := h 0 0 spoiltFrame receivingState (by decide) (by decide) (by decide +kernel)
  obtain ⟨hown, -⟩ := hdata (by decide +kernel) (by decide +kernel) (by decide +kernel) (by decide +kernel) (by decide +kernel) (by decide +kernel)
  obtain ⟨t, ht, hnone⟩ := inbound_receivingState
  obtain ⟨hejected, -⟩ := (hown (by decide +kernel) (.inl (by decide +kernel))).of_next ht
  rw [hejected] at hnone
  exact absurd hnone (by simp)

end Sys2Proof.Machine
end

section
/-! PROOF. The refutation of O41: a pitch boundary is taken once (R7). -/
namespace Sys2Proof.Machine
open Sys2Proof

-- Evaluations side by side hold more threads than the memory of a check admits.
set_option Elab.async false

/-- The hub stands at the boundary of cluster time 0, which it has already taken with one pitch counted. -/
def boundaryState : State :=
  { State.reset with
    dom := { State.reset.dom with hub := true }
    hub := { HubS.init with pitchDone := some 0, mapPitches := 1 } }

theorem mapPitches_boundaryState : ∃ t, exec .pitchBoundary boundaryState = .next t ∧ t.hub.mapPitches = 1 := by
  refine ⟨_, rfl, ?_⟩
  decide +kernel

/-- Refutes O41: PITCH_BOUNDARY at a boundary that has been taken does nothing, where the statement counts one pitch more. -/
theorem not_portsAndPitches : ¬ Obligations.PortsAndPitches := by
  unfold Obligations.PortsAndPitches
  intro h
  obtain ⟨-, hpitch, -⟩ := h boundaryState
  obtain ⟨hboundary, -⟩ := hpitch (by decide +kernel) (by decide +kernel)
  obtain ⟨t, ht, hone⟩ := mapPitches_boundaryState
  obtain ⟨-, hcounts, -⟩ := hboundary.of_next ht
  obtain ⟨hmore, -⟩ := hcounts (by decide +kernel)
  rw [hmore] at hone
  exact absurd hone (by decide +kernel)

end Sys2Proof.Machine
end

section
/-! PROOF. The refutation of O42: a silent lane without its local oscillator does not recover at once (R290, R303). -/
namespace Sys2Proof.Machine
open Sys2Proof

-- Evaluations side by side hold more threads than the memory of a check admits.
set_option Elab.async false

/-- Port 0 runs in coherent mode on lane 0, on which no frame has come for 1 µs, and no wavelength of its engine has a feed. -/
def darkState : State :=
  { State.reset with
    time := { State.reset.time with counter := 2000 }
    regs := [(A.pmapReg 0, 1)]
    hub := { HubS.init with port := [(0, { Port.init with st := .up, rxLanes := 1, txLanes := 1 })] }
    opt := { OptS.init with feedDark := [(0, 0xFF)] } }

theorem st_darkState : ∃ t, exec (.laneSilence 0 0) darkState = .next t ∧ (t.laneAt 0 0 true).st = .down := by
  refine ⟨_, rfl, ?_⟩
  decide +kernel

theorem posServing_darkState : darkState.posServing 0 = 0 := by decide +kernel

/-- Refutes O42: the ring of the lane that leaves is DOWN until its feed returns (R303), where the statement has it lock at once. -/
theorem not_lanesLeaveAndJoin : ¬ Obligations.LanesLeaveAndJoin := by
  unfold Obligations.LanesLeaveAndJoin
  intro h
  obtain ⟨hsilent, -⟩ := h 0 0 darkState (by decide +kernel) (by decide +kernel) (by decide +kernel)
  obtain ⟨t, ht, hdown⟩ := st_darkState
  obtain ⟨-, hlocking, -⟩ := (hsilent (by decide +kernel) (by decide +kernel)).of_next ht
  rw [posServing_darkState, hdown] at hlocking
  exact absurd hlocking (by decide)

end Sys2Proof.Machine
end

section
/-! PROOF. The refutation of O43: a restored ring without its feed is DOWN (R303). -/
namespace Sys2Proof.Machine
open Sys2Proof

-- Evaluations side by side hold more threads than the memory of a check admits.
set_option Elab.async false

/-- Transmit ring 0 of position 0, which OPT.LSEL selects, is retired, and no wavelength of its engine has a feed. -/
def retiredDark : State :=
  { State.reset with
    dom := { State.reset.dom with hub := true }
    opt := { OptS.init with lane := [(0, { Lane.init with st := .retired })], feedDark := [(0, 0xFF)] } }

theorem st_retiredDark : ∃ t, exec .restore retiredDark = .next t ∧ (t.laneAt 0 0 false).st = .down := by
  refine ⟨_, rfl, ?_⟩
  decide +kernel

/-- Refutes O43: OPT.LCMD.RESTORE leaves the ring DOWN until its feed returns (R303), where the statement has it lock. -/
theorem not_ringsLockAndRecalibrate : ¬ Obligations.RingsLockAndRecalibrate := by
  unfold Obligations.RingsLockAndRecalibrate
  intro h
  obtain ⟨-, -, -, -, -, -, -, -, hrestore⟩ := h 0 0 false retiredDark (by decide) (by decide) (by decide +kernel)
  obtain ⟨t, ht, hdown⟩ := st_retiredDark
  obtain ⟨hlocking, -⟩ := (hrestore (by decide +kernel) (by decide +kernel) (by decide +kernel)).of_next ht
  rw [hdown] at hlocking
  exact absurd hlocking (by decide)

end Sys2Proof.Machine
end

section
/-! PROOF. The refutation of O44: a feed that waits for a lane out on its port (R304). -/
namespace Sys2Proof.Machine
open Sys2Proof

-- Evaluations side by side hold more threads than the memory of a check admits.
set_option Elab.async false

/-- Wavelength 0 of engine 8 is on its second feed while its primary cassette, running, serves it. The one port of the engine that is UP,
port 31 with four lanes, has lane 3 out: its transmit set names four lanes, but the fourth of them is not a lane of the port. -/
def laneOutOnFeed : State :=
  { State.reset with
    hub := { State.reset.hub with port := [(31, { Port.init with st := .up, txLanes := 0x17 })] }
    opt := { OptS.init with feedSec := [(8, 1)], cass := [(0, { Cass.init with present := true, st := .running })] } }

theorem change_laneOutOnFeed : ∃ t, exec (.feedSwitchBack 8 0) laneOutOnFeed = .next t ∧ t.opt.change.length = 0 := by
  refine ⟨_, rfl, ?_⟩
  decide +kernel

/-- Refutes O44: with a lane of the port out the feed waits (R304), where the statement has it drop the lane, as the count of the transmit
set is the full one. -/
theorem not_cassettesFeedTheEngines : ¬ Obligations.CassettesFeedTheEngines := by
  unfold Obligations.CassettesFeedTheEngines
  intro h
  obtain ⟨-, -, -, -, -, hback, -⟩ := h 0 laneOutOnFeed (by decide)
  obtain ⟨-, hdrop⟩ := hback 8 0 (by decide) (by decide) (by decide) (by decide +kernel) (by decide +kernel) (by decide +kernel)
  obtain ⟨t, ht, hnone⟩ := change_laneOutOnFeed
  obtain ⟨⟨hplanned, -⟩, -⟩ := (hdrop 31 0 (by decide +kernel) (by decide +kernel) (by decide +kernel) (by decide +kernel) (by decide +kernel)
    (by decide +kernel) (by decide) (by decide)).of_next ht
  have hlen := congrArg List.length hplanned
  rw [hnone] at hlen
  simp at hlen

end Sys2Proof.Machine
end

section
/-! PROOF. The refutation of O45: an IDENT in an uncorrectable codeword (R292, R305). -/
namespace Sys2Proof.Machine
open Sys2Proof

-- Evaluations side by side hold more threads than the memory of a check admits.
set_option Elab.async false

/-- Port 0 trains on its default position. -/
def portTraining : State :=
  { State.reset with
    dom := { State.reset.dom with hub := true }
    hub := { State.reset.hub with port := [(0, { Port.init with st := .training })] } }

/-- A CONTROL frame with CRC and first word in order whose body holds a reserved value, of SUB 0; the codeword in which it ends is
uncorrectable. -/
def uncorrectableIdent : CtlFrame :=
  { ctlFrameOf 1 0 ⟨BitVec.ofNat 64 (2 ^ 24), 0, 0, 0⟩ with tail := true }

theorem drops_portTraining : ∃ t, exec (.ident 0 0 uncorrectableIdent) portTraining = .next t ∧ t.reg A.drops = 0 := by
  refine ⟨_, rfl, ?_⟩
  decide +kernel

/-- Refutes O45: a frame in an uncorrectable codeword is discarded and counts at its port (R292), where the statement counts it among the
frames with reserved values. -/
theorem not_portsComeUpOrAreBarred : ¬ Obligations.PortsComeUpOrAreBarred := by
  unfold Obligations.PortsComeUpOrAreBarred
  intro h
  obtain ⟨-, -, -, hident, -⟩ := h 0 portTraining ⟨by decide, by decide +kernel, by decide +kernel⟩ (by decide +kernel)
  obtain ⟨hreserved, -⟩ := hident 0 uncorrectableIdent (by decide +kernel) (by decide +kernel) (by decide +kernel) (by decide +kernel)
    (by decide +kernel) (by decide +kernel) (by decide +kernel)
  obtain ⟨t, ht, hnone⟩ := drops_portTraining
  have hcounted := (hreserved (by decide +kernel)).of_next ht
  rw [hcounted] at hnone
  exact absurd hnone (by decide +kernel)

end Sys2Proof.Machine
end

section
/-! PROOF. The refutation of O46: a section that was rejected for its size is rejected no second time (R327). -/
namespace Sys2Proof.Machine
open Sys2Proof

-- Evaluations side by side hold more threads than the memory of a check admits.
set_option Elab.async false

/-- Section 0 of image 0 was rejected for its size, and no chunk of it has come for 1 s. -/
def oversizeStale : State :=
  { State.reset with
    clk := 2000000000
    topo := { State.reset.topo with asm := [{ image := 0, sec := 0, words := 2097153, data := [], lastAt := 0, kept := false }] } }

theorem topoReject_oversizeStale :
    ∃ t, exec (.sectionIncomplete 0 0) oversizeStale = .next t ∧ fld (t.reg A.topoReject) 63 60 = 0 := by
  refine ⟨_, rfl, ?_⟩
  decide +kernel

/-- Refutes O46: a section that is not kept leaves without a second rejection (R327), where the statement has TOPO.REJECT give
INCOMPLETE. -/
theorem not_topoSectionsArrive : ¬ Obligations.TopoSectionsArrive := by
  unfold Obligations.TopoSectionsArrive
  intro h
  obtain ⟨-, hincomplete, -⟩ := h 0 0 oversizeStale
  obtain ⟨t, ht, hnone⟩ := topoReject_oversizeStale
  obtain ⟨⟨hcode, -⟩, -⟩ := (hincomplete { image := 0, sec := 0, words := 2097153, data := [], lastAt := 0, kept := false }
    (by decide +kernel) (by decide) (by decide)).of_next ht
  rw [hnone] at hcode
  exact absurd hcode (by decide)

end Sys2Proof.Machine
end

section
/-! PROOF. The refutation of O47: the SECURITY section waits for its fuses (R388). -/
namespace Sys2Proof.Machine
open Sys2Proof

-- Evaluations side by side hold more threads than the memory of a check admits.
set_option Elab.async false

/-- A pending SCHEDULE section. -/
def pendingSchedule : Sect :=
  { type := 5, partial_ := false, gen := 2, baseGen := 0, actCt := 0, due := 0, words := 0, image := 0, sec := 0, scopeEid := 0
    scopeMask := 0, recs := [], sigs := [], msg := [], now := false, missed := false }

/-- A SECURITY section of generation 1 took effect, and its fuse job waits; the image store is due to be written. -/
def securityUnfused : State :=
  { State.reset with
    self := { State.reset.self with nvmOk := true }
    sec := { State.reset.sec with jobs := [.release] }
    topo := { State.reset.topo with gen := [(10, 1)], storeGen := [], pend := [(5, pendingSchedule)], storeDirty := true } }

theorem storeGen_securityUnfused : ∃ t, exec .imageStoreWrite securityUnfused = .next t ∧ t.topo.storeGen.length = 0 := by
  refine ⟨_, rfl, ?_⟩
  decide +kernel

/-- Refutes O47: while a fuse job waits the SECURITY section does not go to the image store (R388), where the statement has all of the
configuration go there. -/
theorem not_pendingSectionsTakeEffect : ¬ Obligations.PendingSectionsTakeEffect := by
  unfold Obligations.PendingSectionsTakeEffect
  intro h
  obtain ⟨-, -, -, -, -, -, hstore⟩ := h 5 pendingSchedule securityUnfused (by decide +kernel) rfl
  obtain ⟨t, ht, hnone⟩ := storeGen_securityUnfused
  obtain ⟨hgen, -⟩ := (hstore (by decide +kernel) (by decide +kernel)).of_next ht
  rw [hgen] at hnone
  exact absurd hnone (by decide +kernel)

end Sys2Proof.Machine
end

section
/-! PROOF. The refutation of O49: the zero bytes that end a signature (R316, R395). -/
namespace Sys2Proof.Machine
open Sys2Proof

-- Evaluations side by side hold more threads than the memory of a check admits.
set_option Elab.async false

/-- An OWNED module with its first Ethernet port on. -/
def ownedOnLink : State :=
  { State.reset with
    eth := { State.reset.eth with linkUp := 1 }
    sec := { State.reset.sec with owned := true }
    regs := [(A.ethPcfg 0, BitVec.ofNat 64 (2 ^ 63))] }

/-- An OPEN under authority 2, which the module has not, whose last word, beyond the signature, is not zero. -/
def unpaddedOpen : UMsg :=
  { w0 := BitVec.ofNat 64 (2 ^ 56 + 7 * 2 ^ 48), w1 := BitVec.ofNat 64 (0xFFFF * 2 ^ 48 + 828), w2 := 0, w3 := 0
    body := BitVec.ofNat 64 (2 ^ 56 + 2 * 2 ^ 48) :: List.replicate 826 0 ++ [BitVec.allOnes 64]
    tag := 0, src := 0, sport := 0, mac := 0, udpLen := 6656 }

theorem out_unpaddedOpen : ∃ t, exec (.openSession 0 unpaddedOpen) ownedOnLink = .next t ∧ t.out.length = 1 := by
  refine ⟨_, rfl, ?_⟩
  decide +kernel

theorem accepts_unpaddedOpen : ownedOnLink.accepts 0 unpaddedOpen := by
  refine ⟨by decide, ?_, ?_, ?_, ?_, ?_, ?_, ?_, ?_, ?_⟩ <;> decide +kernel

/-- Refutes O49: an OPEN whose last word is not zero is answered FORMAT before its key is looked at, where the statement has a key that may
not open a session leave it without an answer. -/
theorem not_sessionsOpenAndClose : ¬ Obligations.SessionsOpenAndClose := by
  unfold Obligations.SessionsOpenAndClose
  intro h
  obtain ⟨hattest, -⟩ := h 0 unpaddedOpen ownedOnLink
  obtain ⟨-, hopen, -⟩ := hattest accepts_unpaddedOpen (by decide +kernel)
  obtain ⟨t, ht, hanswer⟩ := out_unpaddedOpen
  obtain ⟨-, hsilent⟩ := (hopen (by decide +kernel) (by decide +kernel) (by decide +kernel) (by decide +kernel) (by decide +kernel)
    (by decide +kernel)).of_next ht
  obtain ⟨hout, -⟩ := hsilent (Or.inl (by decide +kernel))
  rw [hout] at hanswer
  exact absurd hanswer (by decide +kernel)

end Sys2Proof.Machine
end

section
/-! PROOF. The refutations of O52 and O55: with no die to test the stage DIES is over as it begins (R419). -/
namespace Sys2Proof.Machine
open Sys2Proof

-- Evaluations side by side hold more threads than the memory of a check admits.
set_option Elab.async false

/-- A module that tripped, has been cool for more than 1 s and has no die with power. -/
def trippedWithoutDies : State :=
  { State.reset with
    clk := 2000000000
    self := { State.reset.self with tripped := true, coolSince := some 0 }
    svc := { State.reset.svc with stage := .bivouac } }

theorem stage_trippedWithoutDies : ∃ t, exec .thermRestart trippedWithoutDies = .next t ∧ t.svc.stage = .running := by
  refine ⟨_, rfl, ?_⟩
  decide +kernel

/-- Refutes O52: a restart with no die that comes up goes to RUNNING at once (R419), where the statement has it stand in DIES. -/
theorem not_readingsCeilingsAndTrips : ¬ Obligations.ReadingsCeilingsAndTrips := by
  unfold Obligations.ReadingsCeilingsAndTrips
  intro h
  obtain ⟨-, hstate⟩ := h
  obtain ⟨-, -, hrestart, -⟩ := hstate trippedWithoutDies
  obtain ⟨t, ht, hrunning⟩ := stage_trippedWithoutDies
  obtain ⟨-, -, -, hdies, -⟩ := (hrestart (by decide +kernel)).of_next ht
  rw [hrunning] at hdies
  exact absurd hdies (by decide)

/-- A module in a commanded bivouac with no die that has power. -/
def bivouacWithoutDies : State :=
  { State.reset with svc := { State.reset.svc with stage := .bivouac, commanded := true } }

theorem stage_bivouacWithoutDies : ∃ t, exec .resume bivouacWithoutDies = .next t ∧ t.svc.stage = .running := by
  refine ⟨_, rfl, ?_⟩
  decide +kernel

/-- Refutes O55: a bivouac that ends with no die that comes up goes to RUNNING at once (R419, R424), where the statement has it stand in
DIES. -/
theorem not_powerComesAndGoes : ¬ Obligations.PowerComesAndGoes := by
  unfold Obligations.PowerComesAndGoes
  intro h
  obtain ⟨-, -, -, -, -, -, -, -, -, -, -, -, -, -, -, -, -, hresume, -⟩ := h bivouacWithoutDies
  obtain ⟨hdies, -⟩ := hresume rfl rfl rfl
  obtain ⟨t, ht, hrunning⟩ := stage_bivouacWithoutDies
  obtain ⟨hstage, -⟩ := (hdies rfl).of_next ht
  rw [hrunning] at hstage
  exact absurd hstage (by decide)

end Sys2Proof.Machine
end

section
/-! PROOF. Event datagrams, neighbour frames and link changes of the Ethernet ports (O50; R337, R338, R346, R347, R355). -/
namespace Sys2Proof.Machine
open Sys2Proof

/-- A command that names a unit which exists completes with the state it gives. -/
theorem onUnit_next {ok : Bool} (hok : ok = true) (t : State) : onUnit ok t = .next t := if_pos hok

/-- A discarded frame counts in DISCARDS of its port, and nothing else changes. -/
theorem State.discard_counts (s : State) (p : Nat) :
    { s.discard p with regs := s.regs, edge := s.edge } = s
      ∧ fld ((s.discard p).reg (A.ethCnt p)) 15 0 = min 65535 (fld (s.reg (A.ethCnt p)) 15 0 + 1) :=
  ⟨rfl, s.fld_bump_self (A.ethCnt p) 1 (by decide)⟩

/-! ### Datagrams -/

theorem State.lastSent_stampSent (s : State) {p : Nat} (hp : p < 2) : (s.stampSent p).lastSent p = some s.clk := by
  obtain rfl | rfl : p = 0 ∨ p = 1 := by omega
  · rfl
  · rfl

theorem State.stampSent_frame (s : State) (p : Nat) :
    (s.stampSent p).out = s.out ∧ (s.stampSent p).regs = s.regs ∧ (s.stampSent p).eth.events = s.eth.events
      ∧ (s.stampSent p).eth.telOut = s.eth.telOut ∧ ∀ q k type seq body,
        (s.stampSent p).emitDatagram q k type seq body
          = (s.stampSent p).emit (.datagram (s.eventTo q k) (headWord0 type 0 seq false) (s.headWord1 0 body.length) s.now s.headWord3 body) := by
  unfold State.stampSent
  split
  · exact ⟨rfl, rfl, rfl, rfl, fun _ _ _ _ _ => rfl⟩
  · exact ⟨rfl, rfl, rfl, rfl, fun _ _ _ _ _ => rfl⟩

/-- The destination to which an event still has to go is one of the two. -/
theorem State.dueEvent_lt {s : State} {p k : Nat} {e : Ev} (h : s.dueEvent p = some (e, k)) : k < 2 := by
  unfold State.dueEvent at h
  obtain ⟨x, -, hx⟩ := List.exists_of_findSome?_eq_some h
  obtain ⟨j, hj, hjk⟩ := Option.map_eq_some_iff.mp hx
  obtain ⟨-, rfl⟩ := Prod.mk.injEq .. ▸ hjk
  exact List.mem_range.mp (List.mem_of_find?_eq_some hj)

theorem bit_setDestination (w : BitVec 2) {k : Nat} (hk : k < 2) : (w ||| BitVec.ofNat 2 (2 ^ k)).getLsbD k = true := by
  obtain rfl | rfl : k = 0 ∨ k = 1 := by omega
  all_goals revert w; decide

theorem eventDatagramSend_event {s : State} {p k : Nat} {e : Ev} (hp : p < 2) (hmgmt : s.dom.mgmt = true) (hmay : s.mayDatagram p = true)
    (hdue : s.dueEvent p = some (e, k)) :
    completes (.eventDatagramSend p) s fun t =>
      t.out = .datagram (s.eventTo p k) (headWord0 e.type 0 e.seq false) (s.headWord1 0 e.body.length) s.time.counter s.headWord3 e.body :: s.out
        ∧ t.lastSent p = some s.clk
        ∧ (∀ x, x ∈ t.eth.events → x.seq = e.seq → x.sent.getLsbD k = true ∧ x.sentAt = some s.clk)
        ∧ t.eth.events.length = s.eth.events.length ∧ t.regs = s.regs := by
  refine ⟨s.sendEvent p e k, ?_, ?_⟩
  · exact (onUnit_next (decide_eq_true hp) _).trans (by rw [if_pos ⟨hmgmt, hmay⟩, hdue])
  unfold State.sendEvent
  extract_lets l
  obtain ⟨hout, hregs, hevents, -, hsend⟩ := State.stampSent_frame { s with eth := { s.eth with events := l } } p
  rw [hsend]
  refine ⟨congrArg _ hout, State.lastSent_stampSent _ hp, fun x hx hseq => ?_, ?_, hregs⟩
  · replace hx : x ∈ l := by rwa [State.emit, hevents] at hx
    obtain ⟨y, -, rfl⟩ := List.mem_map.mp hx
    by_cases hy : y.seq = e.seq
    · rw [if_pos hy]
      exact ⟨bit_setDestination _ (State.dueEvent_lt hdue), rfl⟩
    · rw [if_neg hy] at hseq
      exact absurd hseq hy
  · show (State.eth _).events.length = _
    exact (congrArg List.length hevents).trans (List.length_map _)

theorem eventDatagramSend_telemetry {s : State} {p k : Nat} {ws : List W64} (hp : p < 2) (hmgmt : s.dom.mgmt = true)
    (hmay : s.mayDatagram p = true) (hdue : s.dueEvent p = none) (htel : s.eth.telOut = [(k, ws)]) (hport : s.eventPort k = some p)
    (hmtu : 3200 ≤ s.field (A.ethPcfg p) 13 0) :
    completes (.eventDatagramSend p) s fun t =>
      t.out = .datagram (s.eventTo p k) (headWord0 0x42 0 0 false) (s.headWord1 0 ws.length) s.time.counter s.headWord3 ws :: s.out
        ∧ t.eth.telOut = [] ∧ t.lastSent p = some s.clk ∧ t.regs = s.regs := by
  refine ⟨s.sendTelemetry p, ?_, ?_⟩
  · exact (onUnit_next (decide_eq_true hp) _).trans (by rw [if_pos ⟨hmgmt, hmay⟩, hdue])
  have hfind : (s.eth.telOut.find? fun e => s.eventPort e.1 == some p) = some (k, ws) := by rw [htel]; simp [hport]
  unfold State.sendTelemetry
  rw [hfind]
  simp only [htel, List.erase_cons_head]
  rw [if_neg (by exact Nat.not_lt.mpr hmtu)]
  obtain ⟨hout, hregs, -, htelOut, hsend⟩ := State.stampSent_frame { s with eth := { s.eth with telOut := [] } } p
  rw [hsend]
  exact ⟨congrArg _ hout, htelOut, State.lastSent_stampSent _ hp, hregs⟩

theorem eventResend_only {s : State} {e : Ev} {y : Nat} (hswitch : s.svc.switching = none) (hevents : s.eth.events = [e])
    (hsent : e.sentAt = some y) (hdue : y + 200000000 ≤ s.clk) :
    completes (.eventResend e.seq) s fun t => t = { s with eth := { s.eth with events := [{ e with sent := 0, sentAt := some s.clk }] } } := by
  refine ⟨_, rfl, ?_⟩
  have hresend : s.resendDue e = true := by
    have hspan : 100 * ms1 = 200000000 := by decide
    rw [State.resendDue, hsent, Option.any_some, hspan]
    exact decide_eq_true hdue
  simp [hswitch, hevents, hresend]

/-! ### Frames and links -/

theorem ethNeighborReply_answers {s : State} {p : Nat} (r : NbrReq) (hp : p < 2) (hon : s.ethOn p = true) :
    completes (.ethNeighborReply p r) s fun t =>
      (s.vlanFits p r.vlan = true → s.ownRequest p r = true → s.echoFits p r = true →
          t = s.emit (.nbrReply { port := p, mac := r.mac, vlan := s.vlanOf p } r.ask r.data))
        ∧ (s.vlanFits p r.vlan = false ∨ s.ownRequest p r = false ∨ s.echoFits p r = false → { t with regs := s.regs, edge := s.edge } = s
          ∧ fld (t.reg (A.ethCnt p)) 15 0 = min 65535 (fld (s.reg (A.ethCnt p)) 15 0 + 1)) := by
  by_cases hown : (s.vlanFits p r.vlan && s.ownRequest p r && s.echoFits p r) = true
  · refine ⟨s.emit (.nbrReply { port := p, mac := r.mac, vlan := s.vlanOf p } r.ask r.data), ?_, fun _ _ _ => rfl, fun hnot => ?_⟩
    · exact (onUnit_next (decide_eq_true hp) _).trans (by rw [if_neg (by simp [hon]), if_pos hown])
    · simp only [Bool.and_eq_true] at hown
      simp [hown.1.1, hown.1.2, hown.2] at hnot
  · refine ⟨s.discard p, ?_, fun hvlan hreq hfits => absurd (by simp [hvlan, hreq, hfits]) hown, fun _ => s.discard_counts p⟩
    exact (onUnit_next (decide_eq_true hp) _).trans (by rw [if_neg (by simp [hon]), if_neg hown])

/-- A port that forgets every transmitter hears none, and the other port's receiver stays. -/
theorem State.ptpForget_all (s : State) {p : Nat} (hp : p < 2) :
    ((s.ptpForget p fun _ => true).ptpSide p).heard = [] ∧ (s.ptpForget p fun _ => true).ptpSide (1 - p) = s.ptpSide (1 - p)
      ∧ { s.ptpForget p (fun _ => true) with time := s.time } = s := by
  refine ⟨?_, ?_, rfl⟩
  · show (Tab.get PtpSide.init (Tab.put s.time.ptp p _) p).heard = []
    rw [Tab.get_put, if_pos rfl]
    unfold PtpSide.turn
    split <;> simp
  · show Tab.get PtpSide.init (Tab.put s.time.ptp p _) (1 - p) = _
    rw [Tab.get_put, if_neg (by omega)]
    rfl

/-- The link bit of a port as it changes, and that of the other port. -/
theorem linkUp_change (w : BitVec 2) (up : Bool) {p : Nat} (hp : p < 2) :
    let t := if up then w ||| BitVec.ofNat 2 (2 ^ p) else w &&& ~~~ BitVec.ofNat 2 (2 ^ p)
    t.getLsbD p = up ∧ t.getLsbD (1 - p) = w.getLsbD (1 - p) := by
  obtain rfl | rfl : p = 0 ∨ p = 1 := by omega
  all_goals cases up <;> revert w <;> decide

theorem ethLinkChange_changes {s : State} {p : Nat} (up : Bool) (hp : p < 2) (hhub : s.dom.hub = true) :
    completes (.ethLinkChange p up) s fun t =>
      t.eth.linkUp.getLsbD p = up ∧ t.eth.linkUp.getLsbD (1 - p) = s.eth.linkUp.getLsbD (1 - p)
        ∧ { t with eth := { t.eth with linkUp := s.eth.linkUp, fecUp := s.eth.fecUp }, time := s.time } = s ∧ (up = true → t.time = s.time)
        ∧ (up = false → (t.ptpSide p).heard = [] ∧ t.ptpSide (1 - p) = s.ptpSide (1 - p)) := by
  obtain ⟨hself, hother⟩ := linkUp_change s.eth.linkUp up hp
  have hexec : exec (.ethLinkChange p up) s = .next (
      let t := { s with eth := { s.eth with
        linkUp := if up then s.eth.linkUp ||| BitVec.ofNat 2 (2 ^ p) else s.eth.linkUp &&& ~~~ BitVec.ofNat 2 (2 ^ p)
        fecUp := if up then s.eth.fecUp ||| BitVec.ofNat 2 (2 ^ p) else s.eth.fecUp } }
      if up then t else t.ptpForget p fun _ => true) := by
    refine (onUnit_next (decide_eq_true hp) _).trans ?_
    simp only [hhub, Bool.true_or, Bool.and_true]
  refine ⟨_, hexec, ?_⟩
  cases up with
  | true => exact ⟨hself, hother, rfl, fun _ => rfl, fun h => absurd h (by decide)⟩
  | false =>
    obtain ⟨hnone, hside, hframe⟩ := State.ptpForget_all { s with eth := { s.eth with
        linkUp := s.eth.linkUp &&& ~~~ BitVec.ofNat 2 (2 ^ p), fecUp := s.eth.fecUp } } hp
    exact ⟨hself, hother, rfl, fun h => absurd h (by decide), fun _ => ⟨hnone, hside⟩⟩

/-- Settles O50, command by command. -/
theorem ethernetPortsSendAndAnswer : Obligations.EthernetPortsSendAndAnswer := by
  unfold Obligations.EthernetPortsSendAndAnswer
  intro p s hp
  refine ⟨fun e k hmgmt hmay hdue => eventDatagramSend_event hp hmgmt hmay hdue,
    fun k ws hmgmt hmay hdue htel hport hmtu => eventDatagramSend_telemetry hp hmgmt hmay hdue htel hport hmtu,
    fun e y hswitch hevents hsent hdue => eventResend_only hswitch hevents hsent hdue,
    fun r hon => ethNeighborReply_answers r hp hon, fun up hhub => ethLinkChange_changes up hp hhub, fun hon => ?_⟩
  refine ⟨s.discard p, ?_, s.discard_counts p⟩
  exact (onUnit_next (decide_eq_true hp) _).trans (by rw [if_pos hon])

end Sys2Proof.Machine
end

section
/-! PROOF. Fuse writes, endorsement reads, and the cairn log (O54; R384, R388, R404 to R407, R410, R414, R415). -/
namespace Sys2Proof.Machine
open Sys2Proof

/-! ### Words of a slot (R405) -/

theorem ofBytes_append (a b : List Byte) : ofBytes (a ++ b) = ofBytes a + 256 ^ a.length * ofBytes b := by
  induction a with
  | nil => simp [ofBytes]
  | cons x a ih => rw [List.cons_append, ofBytes, ofBytes, ih, List.length_cons, pow_succ]; ring

theorem ofBytes_toBytes (n v : Nat) : ofBytes (toBytes n v) = v % 256 ^ n := by
  induction n generalizing v with
  | zero => simp [toBytes, ofBytes, Nat.mod_one]
  | succ n ih =>
    have hlow : (BitVec.ofNat 8 v).toNat = v % 256 := rfl
    rw [toBytes, ofBytes, ih, hlow, pow_succ', Nat.mod_mul]

theorem ofBytes_bytesOf_cons (w : W64) (ws : List W64) : ofBytes (bytesOf (w :: ws)) = w.toNat + 2 ^ 64 * ofBytes (bytesOf ws) := by
  have hw : w.toNat % 256 ^ 8 = w.toNat := Nat.mod_eq_of_lt w.isLt
  rw [bytesOf, List.flatMap_cons, ofBytes_append, ofBytes_toBytes, toBytes_length, hw]
  rfl

theorem toNat_slotOfWords (a b c d : W64) :
    (slotOfWords [a, b, c, d]).toNat = a.toNat + 2 ^ 64 * (b.toNat + 2 ^ 64 * (c.toNat + 2 ^ 64 * d.toNat)) := by
  rw [slotOfWords, BitVec.toNat_ofNat]
  simp only [ofBytes_bytesOf_cons, show ofBytes (bytesOf []) = 0 from rfl, Nat.mul_zero, Nat.add_zero]
  have ha := a.isLt
  have hb := b.isLt
  have hc := c.isLt
  have hd := d.isLt
  exact Nat.mod_eq_of_lt (by omega)

/-- A slot gives back the words that it was made of. -/
theorem slotWords_slotOfWords (a b c d : W64) : slotWords (slotOfWords [a, b, c, d]) = [a, b, c, d] := by
  have ha := a.isLt
  have hb := b.isLt
  have hc := c.isLt
  have hd := d.isLt
  have hv := toNat_slotOfWords a b c d
  unfold slotWords
  refine List.cons_eq_cons.mpr ⟨?_, List.cons_eq_cons.mpr ⟨?_, List.cons_eq_cons.mpr ⟨?_, List.cons_eq_cons.mpr ⟨?_, rfl⟩⟩⟩⟩
  all_goals
    apply BitVec.eq_of_toNat_eq
    rw [BitVec.extractLsb'_toNat, hv, Nat.shiftRight_eq_div_pow]
    omega

theorem length_slotWords (v : BitVec 256) : (slotWords v).length = 4 := rfl

/-- VALID is the high field of a slot's last word. -/
theorem slotValid_eq_fld (v : BitVec 256) : slotValid v = fld ((slotWords v).getD 3 0) 63 48 := by
  show (v.extractLsb' 240 16).toNat = (v.extractLsb' 192 64).toNat / 2 ^ 48 % 2 ^ 16
  have hv := v.isLt
  rw [BitVec.extractLsb'_toNat, BitVec.extractLsb'_toNat, Nat.shiftRight_eq_div_pow, Nat.shiftRight_eq_div_pow]
  omega

/-- A slot whose VALID is replaced (R415): VALID reads as given, and its other words stay. -/
theorem slot_revalidated (v : BitVec 256) (x : Nat) (hx : x < 2 ^ 16) :
    let w := slotOfWords ((slotWords v).take 3 ++ [setFld ((slotWords v).getD 3 0) 63 48 x])
    slotValid w = x ∧ (slotWords w).take 3 = (slotWords v).take 3 := by
  have hwords : slotWords (slotOfWords ((slotWords v).take 3 ++ [setFld ((slotWords v).getD 3 0) 63 48 x]))
      = (slotWords v).take 3 ++ [setFld ((slotWords v).getD 3 0) 63 48 x] := slotWords_slotOfWords _ _ _ _
  refine ⟨?_, by rw [hwords]; rfl⟩
  rw [slotValid_eq_fld, hwords]
  exact (fld_setFld_self _ x (by decide)).trans (Nat.mod_eq_of_lt hx)

/-- The log after a write to one slot. -/
theorem State.slotAt_write (s t : State) {m : Nat} {v : BitVec 256} (h : t.cairn.slot = Tab.put s.cairn.slot (slotKey m) v) :
    t.slotAt m = v ∧ ∀ i, slotKey i ≠ slotKey m → t.slotAt i = s.slotAt i := by
  unfold State.slotAt
  rw [h]
  exact ⟨by rw [Tab.get_put, if_pos rfl], fun i hi => by rw [Tab.get_put, if_neg hi]⟩

/-! ### Fuses and the endorsement -/

/-- A fuse write (R384, R388) changes the fuses as its kind says. -/
theorem State.burn_fuse (s : State) (j : FuseJob) :
    (∀ a b, j = .claim a b → (s.burn j).fuse = { s.fuse with claimed := s.fuse.claimed + 1, anchor0 := a, anchor1 := b, revoked0 := 0, revoked1 := 0 })
      ∧ (∀ k, j = .revoke 0 k → (s.burn j).fuse = { s.fuse with revoked0 := s.fuse.revoked0 ||| BitVec.ofNat 4 (2 ^ k) })
      ∧ (∀ k, j = .revoke 1 k → (s.burn j).fuse = { s.fuse with revoked1 := s.fuse.revoked1 ||| BitVec.ofNat 4 (2 ^ k) })
      ∧ (∀ v, j = .rollback v → (s.burn j).fuse = { s.fuse with svnMin := max s.fuse.svnMin v })
      ∧ (j = .release → (s.burn j).fuse = { s.fuse with released := s.fuse.released + 1 })
      ∧ (∀ i, j = .revokeVendor i → (s.burn j).fuse = { s.fuse with vkeyRevoked := s.fuse.vkeyRevoked ||| BitVec.ofNat 2 (2 ^ i) }) := by
  refine ⟨?_, ?_, ?_, ?_, ?_, ?_⟩
  all_goals intros; subst_vars; rfl

/-- A fuse write changes nothing but the fuses. -/
theorem State.burn_frame (s : State) (j : FuseJob) : { s.burn j with fuse := s.fuse } = s := by cases j <;> rfl

theorem fuseWrite_burns {s : State} {j : FuseJob} {l : List FuseJob} (hjobs : s.sec.jobs = j :: l) (hmgmt : s.dom.mgmt = true)
    (hopen : s.self.fuseOk = true) :
    ∃ t, exec .fuseWrite s = .next t ∧ t.sec = { s.sec with jobs := l } ∧ (l = [] → bit (t.reg A.secEvents) 4 = true)
      ∧ { t with sec := s.sec, fuse := s.fuse, regs := s.regs, edge := s.edge } = s ∧ t.fuse = (s.burn j).fuse := by
  have hexec : exec .fuseWrite s = .next (if l.isEmpty then { s.burn j with sec := { s.sec with jobs := l } }.setBit A.secEvents 4
      else { s.burn j with sec := { s.sec with jobs := l } }) := by
    show Host.Outcome.next _ = _
    rw [hjobs]
    simp only [hmgmt, hopen, and_self, if_true]
  refine ⟨_, hexec, ?_⟩
  have hframe : { s.burn j with sec := s.sec, fuse := s.fuse, regs := s.regs, edge := s.edge } = s := by cases j <;> rfl
  cases l with
  | nil => exact ⟨rfl, fun _ => State.bit_setBit_self _ _ (by decide), hframe, rfl⟩
  | cons _ _ => exact ⟨rfl, fun h => absurd h (by simp), hframe, rfl⟩

theorem edataRead_advances {s : State} (hmgmt : s.dom.mgmt = true) : completes .edataRead s fun t =>
    t.out = .softRead A.edata s.edataWord :: s.out
      ∧ s.edataWord = (if s.field A.esel 8 0 < 422 then Tab.get 0 s.fuse.endorsement (s.field A.esel 8 0) else 0)
      ∧ t.field A.esel 8 0 = (if s.field A.esel 8 0 = 421 then 0 else (s.field A.esel 8 0 + 1) % 512)
      ∧ { t with out := s.out, regs := s.regs, edge := s.edge } = s := by
  refine ⟨s.nextEndorsement.emit (.softRead A.edata s.edataWord), ?_, rfl, rfl, ?_, rfl⟩
  · show Host.Outcome.next (if _ then _ else _) = _
    rw [if_pos hmgmt]
  · show fld ((s.putField A.esel 8 0 _).reg A.esel) 8 0 = _
    rw [State.reg_putField, if_pos rfl, fld_setFld_self _ _ (by decide)]
    split
    · rfl
    · exact Nat.mod_mod _ _

/-! ### The log -/

theorem cairnRecordWrite_writes {s : State} {r : CRec} {l : List CRec} (hbuf : s.cairn.buf = r :: l) (hmgmt : s.dom.mgmt = true)
    (hopen : s.self.nvmOk = true) : completes .cairnRecordWrite s fun t =>
      t.slotAt r.num = slotOfWords r.words ∧ t.cairn.buf = l ∧ t.cairn.written = r.num + 1
        ∧ (if (r.num + 1) % 2 = 0 then t.cairn.head0 = headCell (r.num + 1) ∧ t.cairn.head1 = s.cairn.head1
          else t.cairn.head1 = headCell (r.num + 1) ∧ t.cairn.head0 = s.cairn.head0)
        ∧ (∀ m, slotKey m ≠ slotKey r.num → t.slotAt m = s.slotAt m) ∧ { t with cairn := s.cairn } = s := by
  refine ⟨s.writeSlot r, ?_, ?_⟩
  · show Host.Outcome.next _ = _
    rw [hbuf]
    simp only [hmgmt, hopen, and_self, if_true]
  obtain ⟨hself, hother⟩ := State.slotAt_write s (s.writeSlot r) (m := r.num) rfl
  refine ⟨hself, congrArg List.tail hbuf, rfl, ?_, hother, rfl⟩
  unfold State.writeSlot
  split
  · next heven => exact ⟨if_pos heven, if_neg (by omega)⟩
  · next hodd => exact ⟨if_pos (by omega), if_neg hodd⟩

theorem cairnWin3Read_advances (s : State) : completes .cairnWin3Read s fun t =>
    t.out = .softRead (A.win 3) ((s.recordWords s.cursor).getD 3 0) :: s.out ∧ t.cursor = (s.cursor + 1) % 2 ^ 48
      ∧ (s.recordState s.cursor = 3 → bit (t.reg A.cairnEvents) 2 = true) ∧ t.cairn = s.cairn := by
  refine ⟨((if s.recordState s.cursor = 3 then (s.bump A.cairnCounts 31 16 1).setBit A.cairnEvents 2 else s).putField A.cairnCursor 47 0
    (s.cursor + 1)).emit (.softRead (A.win 3) ((s.recordWords s.cursor).getD 3 0)), rfl, ?_⟩
  have hcursor : ∀ u : State, (u.putField A.cairnCursor 47 0 (s.cursor + 1)).cursor = (s.cursor + 1) % 2 ^ 48 := fun u => by
    rw [State.cursor, State.field, State.reg_putField, if_pos rfl, fld_setFld_self _ _ (by decide)]
  by_cases hbad : s.recordState s.cursor = 3
  · rw [if_pos hbad]
    refine ⟨rfl, hcursor _, fun _ => ?_, rfl⟩
    show bit ((State.putField _ _ _ _ _).reg A.cairnEvents) 2 = true
    rw [State.reg_putField, if_neg (by decide)]
    exact State.bit_setBit_self _ _ (by decide)
  · rw [if_neg hbad]
    exact ⟨rfl, hcursor _, fun h => absurd h hbad, rfl⟩

theorem ringClearSlot_clears {s : State} {limit : W64} {w k m : Nat} {l : List (W64 × Nat × Nat)} (hclearing : s.cairn.clearing = (limit, w, k) :: l)
    (hmgmt : s.dom.mgmt = true) (hopen : s.self.nvmOk = true) (hnext : s.nextToClear limit w k = some m) :
    completes .ringClearSlot s fun t =>
      slotValid (t.slotAt m) = 0x5A5A ∧ (slotWords (t.slotAt m)).take 3 = (slotWords (s.slotAt m)).take 3
        ∧ t.cairn.clearing = (limit, w, m + 1) :: l ∧ (∀ i, slotKey i ≠ slotKey m → t.slotAt i = s.slotAt i)
        ∧ fld (t.reg A.cairnCounts) 15 0 = min 65535 (fld (s.reg A.cairnCounts) 15 0 + 1) := by
  let v := slotOfWords ((slotWords (s.slotAt m)).take 3 ++ [setFld ((slotWords (s.slotAt m)).getD 3 0) 63 48 0x5A5A])
  refine ⟨{ s.bump A.cairnCounts 15 0 1 with cairn := { s.cairn with
      slot := Tab.put s.cairn.slot (slotKey m) v, clearing := (limit, w, m + 1) :: l } }, ?_, ?_⟩
  · show Host.Outcome.next _ = _
    rw [hclearing]
    simp only [hmgmt, hopen, not_true_eq_false, Bool.true_eq_false, or_self, if_false, hnext]
    rfl
  obtain ⟨hvalid, hwords⟩ := slot_revalidated (s.slotAt m) 0x5A5A (by decide)
  obtain ⟨hself, hother⟩ := State.slotAt_write s { s.bump A.cairnCounts 15 0 1 with cairn := { s.cairn with
      slot := Tab.put s.cairn.slot (slotKey m) v, clearing := (limit, w, m + 1) :: l } } (m := m) rfl
  exact ⟨(congrArg slotValid hself).trans hvalid, (congrArg (fun x => (slotWords x).take 3) hself).trans hwords, rfl, hother,
    s.fld_bump_self A.cairnCounts 1 (by decide)⟩

theorem ringClearSlot_ends {s : State} {limit : W64} {w k : Nat} {l : List (W64 × Nat × Nat)} (hclearing : s.cairn.clearing = (limit, w, k) :: l)
    (hmgmt : s.dom.mgmt = true) (hopen : s.self.nvmOk = true) (hnext : s.nextToClear limit w k = none) :
    completes .ringClearSlot s fun t =>
      t.cairn = { s.cairn with clearing := l } ∧ bit (t.reg A.cairnEvents) 3 = true
        ∧ { t with cairn := s.cairn, regs := s.regs, edge := s.edge } = s := by
  refine ⟨{ s.setBit A.cairnEvents 3 with cairn := { s.cairn with clearing := l } }, ?_, rfl, s.bit_setBit_self A.cairnEvents (by decide), rfl⟩
  show Host.Outcome.next _ = _
  rw [hclearing]
  simp only [hmgmt, hopen, not_true_eq_false, Bool.true_eq_false, or_self, if_false, hnext]

/-- Settles O54, command by command. -/
theorem fusesAndTheCairnLog : Obligations.FusesAndTheCairnLog := by
  unfold Obligations.FusesAndTheCairnLog
  intro s
  refine ⟨fun j l hjobs hmgmt hopen => ?_, edataRead_advances, fun r l hbuf hmgmt hopen => cairnRecordWrite_writes hbuf hmgmt hopen,
    cairnWin3Read_advances s, fun limit w k l hclearing hmgmt hopen =>
      ⟨fun m hnext => ringClearSlot_clears hclearing hmgmt hopen hnext, fun hnext => ringClearSlot_ends hclearing hmgmt hopen hnext⟩⟩
  obtain ⟨t, ht, hsec, hevent, hframe, hfuse⟩ := fuseWrite_burns hjobs hmgmt hopen
  exact ⟨t, ht, hsec, hevent, hframe, hfuse ▸ s.burn_fuse j⟩

end Sys2Proof.Machine
end

section
/-! PROOF. What the end of a core's work can change (R97, R99, R369 to R373): the core, the records of its checks, and the registers that
name them. -/
namespace Sys2Proof.Machine
open Sys2Proof

/-! ### Records of the checks -/

/-- A register in which a failed check, a record or a datagram shows (R346, R373, R409). -/
def checkReg (a : Nat) : Prop := a = A.selfCapt ∨ a = A.selfCaptCt ∨ a = A.cairnCounts ∨ a = A.cairnEvents ∨ a = A.evStat

/-- The second state has reported checks that the first has not; of the mismatches fewer may be open. -/
structure State.Checked (s t : State) : Prop where
  rest : { t with regs := s.regs, edge := s.edge, self := s.self, cairn := s.cairn, eth := s.eth } = s
  self : { t.self with open_ := s.self.open_ } = s.self
  eth : { t.eth with events := s.eth.events, nextSeq := s.eth.nextSeq } = s.eth
  reg : ∀ a, ¬ checkReg a → t.reg a = s.reg a

theorem State.Checked.refl (s : State) : s.Checked s := ⟨rfl, rfl, rfl, fun _ _ => rfl⟩

theorem State.Checked.trans {s t u : State} (h : s.Checked t) (k : t.Checked u) : s.Checked u where
  rest := by rw [← h.rest, ← k.rest]
  self := by rw [← h.self, ← k.self]
  eth := by rw [← h.eth, ← k.eth]
  reg a ha := (k.reg a ha).trans (h.reg a ha)

/-- A record, with or without its datagram, is one of a check. -/
theorem State.Logged.checked {s t : State} (h : s.Logged t) : s.Checked t where
  rest := by
    obtain ⟨h1, h2, h3, h4, h5, h6, h7, h8, h9, h10, h11, h12, h13, h14, h15, h16, h17, h18, -, h20, h21, -, -⟩ := h
    cases s
    cases t
    simp_all
  self := by rw [h.self]
  eth := h.eth
  reg a ha := h.reg a (fun e => ha (.inr (.inr (.inl e)))) (fun e => ha (.inr (.inr (.inr (.inl e))))) fun e => ha (.inr (.inr (.inr (.inr e))))

theorem State.checked_setReg (s : State) {a : Nat} (ha : checkReg a) (v : W64) : s.Checked (s.setReg a v) :=
  ⟨rfl, rfl, rfl, fun _ hb => s.reg_setReg_ne v fun h => hb (h ▸ ha)⟩

theorem State.checked_event (s : State) {a : Nat} (ha : checkReg a) (f : W64 → W64) : s.Checked (s.event a f) :=
  ⟨rfl, rfl, rfl, fun _ hb => s.reg_setReg_ne _ fun h => hb (h ▸ ha)⟩

theorem State.checked_capture (s : State) (x : Cond) (n pos kind fmt : Nat) : s.Checked (s.capture x n pos kind fmt) := by
  unfold State.capture
  split
  · exact .refl s
  · exact (s.checked_event (.inl rfl) _).trans (State.checked_setReg _ (.inr (.inl rfl)) _)

theorem State.checked_wrongResult (s : State) (x : Cond) (code n pos kind fmt seq : Nat) :
    s.Checked (s.wrongResult x code n pos kind fmt seq) :=
  (s.report_logged _).checked.trans (State.checked_capture _ _ _ _ _ _)

theorem State.checked_setOpen (s : State) (l : List Mismatch) : s.Checked { s with self := { s.self with open_ := l } } :=
  ⟨rfl, rfl, rfl, fun _ _ => rfl⟩

/-- Steps that each report checks report checks together. -/
theorem State.checked_foldl {α : Type} (f : State → α → State) (h : ∀ (s : State) (x : α), s.Checked (f s x)) (l : List α) (s : State) :
    s.Checked (l.foldl f s) := by
  induction l generalizing s with
  | nil => exact .refl s
  | cons x l ih => exact (h s x).trans (ih _)

theorem State.checked_closeMismatches (s : State) : s.Checked s.closeMismatches := by
  refine (s.checked_setOpen _).trans (State.checked_foldl _ (fun s m => ?_) _ _)
  split
  · exact s.checked_wrongResult _ _ _ _ _ _ _
  · exact .refl s

theorem State.checked_followUpDone (s : State) (n j : Nat) (followUp failed : Bool) : s.Checked (s.followUpDone n j followUp failed) :=
  (s.checked_setOpen _).trans (State.checked_closeMismatches _)

section Checked
variable {s t : State} (h : s.Checked t)
include h

theorem State.Checked.core : t.core = s.core := by rw [← h.rest]
theorem State.Checked.fuse : t.fuse = s.fuse := by rw [← h.rest]
theorem State.Checked.svc : t.svc = s.svc := by rw [← h.rest]
theorem State.Checked.faults : t.self.faults = s.self.faults := by rw [← h.self]
theorem State.Checked.bounds : t.self.bounds = s.self.bounds := by rw [← h.self]
theorem State.Checked.posAt (n j : Nat) : t.posAt n j = s.posAt n j := by unfold State.posAt State.coreAt; rw [h.core, h.fuse]
theorem State.Checked.bound (k : Nat) : t.bound k = s.bound k := by unfold State.bound; rw [h.bounds]

end Checked

/-! ### The end of a core's work -/

/-- A position keeps what the end of its core's work leaves: no probe begins on it, and it stays fenced. -/
def Pos.keptBy (p q : Pos) : Prop := (p.run = none → q.run = none) ∧ (p.fenced = true → q.fenced = true)

/-- Between two states the work of core n has ended, or its state has changed; checks were reported. -/
structure State.CoreWork (n : Nat) (s t : State) : Prop where
  rest : { t with free := s.free, regs := s.regs, edge := s.edge, core := s.core, self := s.self, cairn := s.cairn, eth := s.eth } = s
  self : { t.self with open_ := s.self.open_, op := s.self.op } = s.self
  eth : { t.eth with events := s.eth.events, nextSeq := s.eth.nextSeq } = s.eth
  core : ∀ m, m ≠ n → t.coreAt m = s.coreAt m
  pos : ∀ j, (s.posAt n j).keptBy (t.posAt n j)
  reg : ∀ a, ¬ checkReg a → a ≠ A.coreCtrl n → a ≠ A.coreFault n → a ≠ A.epJobfault → a ≠ A.selfEvents → t.reg a = s.reg a
  bits : ∀ a, ¬ checkReg a → (n < numCores → a ≠ A.coreCtrl n ∧ a ≠ A.coreFault n) → ∀ i, bit (s.reg a) i = true → bit (t.reg a) i = true

theorem State.CoreWork.refl (n : Nat) (s : State) : State.CoreWork n s s :=
  ⟨rfl, rfl, rfl, fun _ _ => rfl, fun _ => ⟨id, id⟩, fun _ _ _ _ _ _ => rfl, fun _ _ _ _ => id⟩

theorem State.CoreWork.trans {n : Nat} {s t u : State} (h : State.CoreWork n s t) (k : State.CoreWork n t u) : State.CoreWork n s u where
  rest := by rw [← h.rest, ← k.rest]
  self := by rw [← h.self, ← k.self]
  eth := by rw [← h.eth, ← k.eth]
  core m hm := (k.core m hm).trans (h.core m hm)
  pos j := ⟨fun e => (k.pos j).1 ((h.pos j).1 e), fun e => (k.pos j).2 ((h.pos j).2 e)⟩
  reg a h1 h2 h3 h4 h5 := (k.reg a h1 h2 h3 h4 h5).trans (h.reg a h1 h2 h3 h4 h5)
  bits a h1 h2 i e := k.bits a h1 h2 i (h.bits a h1 h2 i e)

theorem State.Checked.coreWork {s t : State} (h : s.Checked t) (n : Nat) : State.CoreWork n s t where
  rest := by rw [← h.rest]
  self := by rw [← h.self]
  eth := h.eth
  core m _ := by unfold State.coreAt; rw [h.core]
  pos j := by rw [h.posAt]; exact ⟨id, id⟩
  reg a ha _ _ _ _ := h.reg a ha
  bits a ha _ i e := (h.reg a ha).symm ▸ e

/-- A register of the core, its job faults or the SELF events change so that no bit falls. -/
theorem State.coreWork_setReg (n : Nat) (s : State) {a : Nat} (v : W64)
    (ha : a = A.coreCtrl n ∨ a = A.coreFault n ∨ a = A.epJobfault ∨ a = A.selfEvents)
    (hv : (n < numCores ∧ (a = A.coreCtrl n ∨ a = A.coreFault n)) ∨ ∀ i, bit (s.reg a) i = true → bit v i = true) :
    State.CoreWork n s (s.setReg a v) where
  rest := rfl
  self := rfl
  eth := rfl
  core _ _ := rfl
  pos _ := ⟨id, id⟩
  reg b _ h2 h3 h4 h5 := s.reg_setReg_ne v (by rintro rfl; rcases ha with h | h | h | h <;> contradiction)
  bits b _ h2 i e := by
    rw [State.reg_setReg]
    split
    · next hab =>
      rcases hv with ⟨hn, h | h⟩ | hv
      · exact absurd (hab.trans h) (h2 hn).1
      · exact absurd (hab.trans h) (h2 hn).2
      · exact hv i (hab ▸ e)
    · exact e

theorem State.coreWork_setBit (n : Nat) (s : State) {a : Nat} (i : Nat) (ha : a = A.epJobfault ∨ a = A.selfEvents) :
    State.CoreWork n s (s.setBit a i) := by
  have h := s.coreWork_setReg n (a := a) (s.reg a ||| maskOf i i) (.inr (.inr ha)) (.inr fun k e => by rw [bit_or, e]; rfl)
  exact { h with }

theorem State.coreWork_jobFault (n : Nat) (s : State) (index cause part tag peer addr p2 : Nat) :
    State.CoreWork n s (s.jobFault index cause part tag peer addr p2) := by
  have h := (s.jobFault_logged index cause part tag peer addr p2).checked.coreWork n
  split at h
  · exact h
  · exact (s.coreWork_setBit n part (.inl rfl)).trans h

/-- Core n changes, with its positions as the end of work leaves them. -/
theorem State.coreWork_setCore (n : Nat) (s : State) (c : Core) (hpos : ∀ j, (s.posAt n j).keptBy ((s.setCore n c).posAt n j)) :
    State.CoreWork n s (s.setCore n c) where
  rest := rfl
  self := rfl
  eth := rfl
  core _ hm := s.coreAt_setCore_ne c hm
  pos := hpos
  reg _ _ _ _ _ _ := rfl
  bits _ _ _ _ e := e

theorem State.posAt_setCore_self (s : State) (n j : Nat) (c : Core) : (s.setCore n c).posAt n j = Tab.get (s.fuse.position n j) c.pos j := by
  unfold State.posAt
  rw [State.coreAt_setCore_self]
  rfl

/-- Core n changes, and its positions stay. -/
theorem State.coreWork_setCore_pos (n : Nat) (s : State) {c : Core} (hpos : c.pos = (s.coreAt n).pos) : State.CoreWork n s (s.setCore n c) := by
  refine s.coreWork_setCore n c fun j => ?_
  rw [State.posAt_setCore_self, hpos]
  exact ⟨id, id⟩

theorem State.posAt_setPos (s : State) (n j k : Nat) (p : Pos) : (s.setPos n j p).posAt n k = if k = j then p else s.posAt n k := by
  unfold State.setPos
  rw [State.posAt_setCore_self]
  exact Tab.get_put _ _ _ _ _

@[simp] theorem State.posAt_setPos_self (s : State) (n j : Nat) (p : Pos) : (s.setPos n j p).posAt n j = p := by
  rw [State.posAt_setPos, if_pos rfl]

theorem State.posAt_setPos_ne (s : State) (n : Nat) {j k : Nat} (p : Pos) (h : k ≠ j) : (s.setPos n j p).posAt n k = s.posAt n k := by
  rw [State.posAt_setPos, if_neg h]

theorem State.coreWork_setPos (n : Nat) (s : State) (j : Nat) {p : Pos} (hp : (s.posAt n j).keptBy p) : State.CoreWork n s (s.setPos n j p) := by
  refine s.coreWork_setCore n _ fun k => ?_
  show (s.posAt n k).keptBy ((s.setPos n j p).posAt n k)
  rw [State.posAt_setPos]
  split
  · next h => exact h ▸ hp
  · exact ⟨id, id⟩

theorem State.coreWork_askProbe (n : Nat) (s : State) (j : Nat) (followUp : Bool) : State.CoreWork n s (s.askProbe n j followUp) := by
  unfold State.askProbe
  dsimp only
  split
  · exact .refl n s
  · refine s.coreWork_setPos n j ?_
    exact ⟨id, id⟩

theorem State.coreWork_probeNext (n : Nat) (s : State) (k : Nat) : State.CoreWork n s (s.probeNext n k) := by
  unfold State.probeNext
  split
  · exact s.coreWork_askProbe n _ _
  · exact .refl n s

theorem State.coreWork_probeCut (n : Nat) (s : State) (j : Nat) (followUp : Bool) : State.CoreWork n s (s.probeCut n j followUp) := by
  have h := (s.checked_followUpDone n j followUp false).coreWork n
  unfold State.probeCut
  dsimp only
  split
  · exact h
  · exact h.trans (State.coreWork_probeNext n _ _)

theorem State.coreWork_foldl {α : Type} (n : Nat) (f : State → α → State) (h : ∀ (s : State) (x : α), State.CoreWork n s (f s x)) (l : List α) (s : State) :
    State.CoreWork n s (l.foldl f s) := by
  induction l generalizing s with
  | nil => exact .refl n s
  | cons x l ih => exact (h s x).trans (ih _)

/-- A table with every value changed reads as changed, and the default where nothing stood. -/
theorem Tab.get_map {α : Type} (d : α) (t : Tab α) (f : Nat → α → α) (k : Nat) :
    Tab.get d (t.map fun e => (e.1, f e.1 e.2)) k = match Tab.find t k with
      | some x => f k x
      | none => d := by
  induction t with
  | nil => rfl
  | cons e t ih =>
    obtain ⟨i, x⟩ := e
    unfold Tab.get at ih ⊢
    simp only [List.map_cons, Tab.find] at ih ⊢
    by_cases h : i = k
    · subst h
      simp
    · simpa [h] using ih

/-- The positions of a core whose work has been abandoned. -/
theorem Pos.keptBy_abandoned (d : Pos) (t : Tab Pos) (f : Nat → Pos → Pos) (hf : ∀ (k : Nat) (p : Pos), p.keptBy (f k p)) (j : Nat) :
    (Tab.get d t j).keptBy (Tab.get d (t.map fun e => (e.1, f e.1 e.2)) j) := by
  rw [Tab.get_map]
  unfold Tab.get
  cases Tab.find t j with
  | none => exact ⟨id, id⟩
  | some x => exact hf j x

/-- What is left of a core whose work has been abandoned, before its probes are counted as cut short (R99). -/
def State.abandoned (s : State) (n : Nat) : Core :=
  { s.coreAt n with
    store := s.stopped (s.coreAt n), wait := none, fence := none, halting := false, copyWait := none, queue := []
    pos := (s.coreAt n).pos.map fun (e : Nat × Pos) => (e.1, { e.2.abandon with active := e.2.active || s.waiting n e.1 })
    gs := [], route := none, routeQ := none, routeOut := [] }

theorem State.abandonWork_eq (s : State) (n : Nat) :
    s.abandonWork n = (s.coreAt n).probing.foldl (fun s e => s.probeCut n e.1 e.2)
      { s.setCore n (s.abandoned n) with free := s.free + 12288 * ((s.coreAt n).gs.length + 1) } := rfl

theorem State.coreWork_abandonWork (n : Nat) (s : State) : State.CoreWork n s (s.abandonWork n) := by
  rw [State.abandonWork_eq]
  have hset : State.CoreWork n s (s.setCore n (s.abandoned n)) := by
    refine s.coreWork_setCore n _ fun j => ?_
    rw [State.posAt_setCore_self]
    exact Pos.keptBy_abandoned (s.fuse.position n j) (s.coreAt n).pos
      (fun k p => { p.abandon with active := p.active || s.waiting n k }) (fun _ _ => ⟨fun _ => rfl, id⟩) j
  have hfree : State.CoreWork n s { s.setCore n (s.abandoned n) with free := s.free + 12288 * ((s.coreAt n).gs.length + 1) } := { hset with }
  exact hfree.trans (State.coreWork_foldl n _ (fun (s : State) (e : Nat × Bool) => s.coreWork_probeCut n e.1 e.2) _ _)

theorem State.coreWork_enterReset {n : Nat} (hn : n < numCores) (s : State) : State.CoreWork n s (s.enterReset n) := by
  have hctrl := fun (u : State) => u.coreWork_setReg n (a := A.coreCtrl n) 2 (.inl rfl) (.inl ⟨hn, .inl rfl⟩)
  unfold State.enterReset
  dsimp only
  split
  · exact hctrl s
  · refine State.CoreWork.trans ?_ (hctrl _)
    refine State.CoreWork.trans ?_ (State.coreWork_setReg n _ 0 (.inr (.inl rfl)) (.inl ⟨hn, .inr rfl⟩))
    refine (s.coreWork_abandonWork n).trans (State.coreWork_setCore_pos n _ ?_)
    rfl

theorem State.coreWork_releaseReset {n : Nat} (hn : n < numCores) (s : State) : State.CoreWork n s (s.releaseReset n) := by
  have h := s.coreWork_setReg n (a := A.coreCtrl n) (s.reg (A.coreCtrl n) &&& ~~~ 2) (.inl rfl) (.inl ⟨hn, .inl rfl⟩)
  unfold State.releaseReset
  dsimp only
  split
  · refine h.trans (State.coreWork_setCore_pos n _ ?_)
    rfl
  · exact h

theorem State.coreWork_fenceCore (n : Nat) (s : State) : State.CoreWork n s (s.fenceCore n) := by
  unfold State.fenceCore
  dsimp only
  split
  · exact .refl n s
  · refine State.CoreWork.trans ?_ (State.coreWork_jobFault n _ _ _ _ _ _ _ _)
    refine State.CoreWork.trans ?_ (State.coreWork_setReg n _ _ (.inl rfl) (.inr fun i e => by rw [bit_or, e]; rfl))
    refine (s.coreWork_abandonWork n).trans (State.coreWork_setCore_pos n _ ?_)
    rfl

theorem State.coreWork_arm (n : Nat) (s : State) : State.CoreWork n s (s.arm n) := by
  unfold State.arm
  dsimp only
  split
  · refine s.coreWork_setCore_pos n ?_
    rfl
  · exact .refl n s

/-- A die beyond the last has no core domain that is up. -/
theorem State.core_lt_of_coreDom {s : State} {n : Nat} (h : s.coreDom (dieOf n) = true) : n < numCores := by
  have hdie : dieOf n < 4 := BitVec.lt_of_getLsbD h
  unfold dieOf at hdie
  unfold numCores
  omega

theorem State.coreWork_writeCtrl (n : Nat) (s : State) (v : W64) : State.CoreWork n s (s.writeCtrl n v) := by
  unfold State.writeCtrl
  by_cases hup : s.coreDom (dieOf n) = true
  · have hn := State.core_lt_of_coreDom hup
    rw [if_neg (by simp [hup])]
    split
    · exact s.coreWork_enterReset hn
    · have hfence : State.CoreWork n s (if bit v 2 then (s.releaseReset n).fenceCore n else s.releaseReset n) := by
        split
        · exact (s.coreWork_releaseReset hn).trans (State.coreWork_fenceCore n _)
        · exact s.coreWork_releaseReset hn
      dsimp only
      split
      · exact hfence.trans (State.coreWork_arm n _)
      · exact hfence
  · rw [if_pos (by simp [hup])]
    exact .refl n s

theorem State.coreWork_setOp (n : Nat) (s : State) (d : Nat) (x : OpPoint) : State.CoreWork n s (s.setOp d x) :=
  ⟨rfl, rfl, rfl, fun _ _ => rfl, fun _ => ⟨id, id⟩, fun _ _ _ _ _ _ => rfl, fun _ _ _ _ e => e⟩

theorem State.coreWork_raiseGuardBand (n : Nat) (s : State) (d : Nat) : State.CoreWork n s (s.raiseGuardBand d) := by
  unfold State.raiseGuardBand
  split
  · exact .refl n s
  · dsimp only
    have hevent : State.CoreWork n s (if s.bound 5 < (s.opAt d).gband + s.bound 6 then s.setBit A.selfEvents 6 else s) := by
      split
      · exact s.coreWork_setBit n 6 (.inr rfl)
      · exact .refl n s
    split
    · exact (hevent.trans (State.coreWork_setOp n _ _ _)).trans (State.coreWork_setBit n _ 5 (.inr rfl))
    · exact hevent

/-- A position is fenced, with its core where `whole` (R371). -/
def State.fencedPos (s : State) (n j : Nat) (whole : Bool) : State :=
  let s := if whole then s.fenceCore n else s
  (s.setPos n j { s.posAt n j with fenced := true }).setBit A.selfEvents 2

/-- The spare position takes the logical number of a fenced one, or there is none that could (R371). -/
def State.remapped (s : State) (n j : Nat) : State :=
  if s.spareFree n then
    ((((s.setPos n 16 { s.posAt n 16 with logical := (s.posAt n j).logical }).setPos n j
      { s.posAt n j with logical := 31 }).writeCtrl n 2).writeCtrl n 0).setBit A.selfEvents 4
  else s.setBit A.selfEvents 3

theorem State.fenceArray_eq (s : State) (n j : Nat) (whole : Bool) :
    ∃ note, s.fenceArray n j whole = (((s.fencedPos n j whole).remapped n j).raiseGuardBand (dieOf n)).report note := ⟨_, rfl⟩

theorem State.coreWork_fencedPos (n : Nat) (s : State) (j : Nat) (whole : Bool) : State.CoreWork n s (s.fencedPos n j whole) := by
  have hfence : State.CoreWork n s (if whole then s.fenceCore n else s) := by
    split
    · exact s.coreWork_fenceCore n
    · exact .refl n s
  refine State.CoreWork.trans ?_ (State.coreWork_setBit n _ 2 (.inr rfl))
  refine hfence.trans (State.coreWork_setPos n _ j ?_)
  exact ⟨id, fun _ => rfl⟩

theorem State.coreWork_remapped (n : Nat) (s : State) (j : Nat) : State.CoreWork n s (s.remapped n j) := by
  unfold State.remapped
  split
  · refine State.CoreWork.trans ?_ (State.coreWork_setBit n _ 4 (.inr rfl))
    refine State.CoreWork.trans ?_ (State.coreWork_writeCtrl n _ 0)
    refine State.CoreWork.trans ?_ (State.coreWork_writeCtrl n _ 2)
    have hspare := s.coreWork_setPos n 16 (p := { s.posAt n 16 with logical := (s.posAt n j).logical }) ⟨id, id⟩
    refine hspare.trans (State.coreWork_setPos n _ j ?_)
    rw [State.posAt_setPos]
    split
    · next h => subst h; exact ⟨id, id⟩
    · exact ⟨id, id⟩
  · exact s.coreWork_setBit n 3 (.inr rfl)

/-- What follows the fence of a position itself: the spare takes over, the guard band rises, and the fence is reported. -/
theorem State.coreWork_fenceArray_of_fencedPos (n : Nat) (s : State) (j : Nat) (whole : Bool) :
    State.CoreWork n (s.fencedPos n j whole) (s.fenceArray n j whole) := by
  obtain ⟨note, heq⟩ := s.fenceArray_eq n j whole
  rw [heq]
  exact ((State.coreWork_remapped n _ j).trans (State.coreWork_raiseGuardBand n _ _)).trans ((State.report_logged _ _).checked.coreWork n)

/-- A fence of a position (R371): the rest of the module but its core stays. -/
theorem State.coreWork_fenceArray (n : Nat) (s : State) (j : Nat) (whole : Bool) : State.CoreWork n s (s.fenceArray n j whole) :=
  (s.coreWork_fencedPos n j whole).trans (s.coreWork_fenceArray_of_fencedPos n j whole)

/-- The registers of the cores lie below those of the management blocks. -/
theorem ne_coreReg {n a : Nat} (hn : n < numCores) (ha : 0x1200000 ≤ a) : a ≠ A.coreCtrl n ∧ a ≠ A.coreFault n := by
  unfold numCores at hn
  unfold A.coreCtrl A.coreFault
  omega

section CoreWork
variable {n : Nat} {s t : State} (h : State.CoreWork n s t)
include h

theorem State.CoreWork.svc : t.svc = s.svc := by rw [← h.rest]
theorem State.CoreWork.sec : t.sec = s.sec := by rw [← h.rest]
theorem State.CoreWork.dom : t.dom = s.dom := by rw [← h.rest]
theorem State.CoreWork.fuse : t.fuse = s.fuse := by rw [← h.rest]
theorem State.CoreWork.faults : t.self.faults = s.self.faults := by rw [← h.self]
theorem State.CoreWork.faultsOf (m j : Nat) : t.faultsOf m j = s.faultsOf m j := by unfold State.faultsOf; rw [h.faults]

/-- The counts of the SELF block stay. -/
theorem State.CoreWork.selfCounts (hn : n < numCores) : t.reg A.selfCounts = s.reg A.selfCounts := by
  obtain ⟨hctrl, hfault⟩ := ne_coreReg (a := A.selfCounts) hn (by decide)
  exact h.reg A.selfCounts (by unfold checkReg; decide) hctrl hfault (by decide) (by decide)

/-- No event of the SELF block goes. -/
theorem State.CoreWork.selfEvents (hn : n < numCores) {i : Nat} (hi : bit (s.reg A.selfEvents) i = true) :
    bit (t.reg A.selfEvents) i = true :=
  h.bits A.selfEvents (by unfold checkReg; decide) (fun _ => ne_coreReg hn (by decide)) i hi

end CoreWork

end Sys2Proof.Machine
end

section
/-! PROOF. Probes, fault counts and fences of array positions (O53; R368 to R371, R379). -/
namespace Sys2Proof.Machine
open Sys2Proof

theorem onlyCore_setPos (s : State) (n j : Nat) (p : Pos) : onlyCore n s (s.setPos n j p) := ⟨rfl, fun _ hm => s.coreAt_setCore_ne _ hm⟩

/-! ### Asking for probes (R368) -/

/-- A round, or PROBE_NOW, asks for a probe of the first enabled position. -/
theorem State.probeNext_first {s : State} {n j : Nat} (hj : (s.enabledPos n).head? = some j) :
    ((s.probeNext n 0).posAt n j).asks
        = (if (s.posAt n j).asks.any (fun a => !a.2) then (s.posAt n j).asks else (s.posAt n j).asks ++ [(s.clk, false)])
      ∧ ((s.probeNext n 0).posAt n j).run = (s.posAt n j).run ∧ (∀ k, k ≠ j → (s.probeNext n 0).posAt n k = s.posAt n k)
      ∧ onlyCore n s (s.probeNext n 0) := by
  have hfind : (s.enabledPos n).find? (fun j => decide (0 ≤ j)) = some j := by
    obtain ⟨l, hl⟩ := List.head?_eq_some_iff.mp hj
    rw [hl]
    rfl
  have hround : s.probeNext n 0 = if (s.posAt n j).asks.any (fun a => !a.2) then s
      else s.setPos n j { s.posAt n j with asks := (s.posAt n j).asks ++ [(s.clk, false)] } := by
    have hkind : (fun a : Nat × Bool => a.2 == false) = fun a => !a.2 := by funext a; cases a.2 <;> rfl
    simp only [State.probeNext, hfind, State.askProbe, hkind, Bool.false_eq_true, if_false]
  rw [hround]
  split
  · exact ⟨rfl, rfl, fun _ _ => rfl, rfl, fun _ _ => rfl⟩
  · refine ⟨by rw [State.posAt_setPos_self], by rw [State.posAt_setPos_self], fun k hk => s.posAt_setPos_ne n _ hk, onlyCore_setPos s n j _⟩

/-! ### The result of a probe (R369 to R371) -/

/-- A probe is over: it counts, and its position runs none. -/
def State.probeOver (s : State) (n j : Nat) : State :=
  (s.setPos n j { s.posAt n j with run := none, active := true }).bump A.selfCounts 63 32 1

theorem State.posAt_probeOver (s : State) (n j : Nat) : (s.probeOver n j).posAt n j = { s.posAt n j with run := none, active := true } :=
  s.posAt_setPos_self n j _

theorem State.reg_probeOver (s : State) (n j : Nat) :
    fld ((s.probeOver n j).reg A.selfCounts) 63 32 = min 0xFFFFFFFF (fld (s.reg A.selfCounts) 63 32 + 1)
      ∧ fld ((s.probeOver n j).reg A.selfCounts) 31 16 = fld (s.reg A.selfCounts) 31 16 := by
  refine ⟨State.fld_bump_self _ _ 1 (by decide), ?_⟩
  unfold State.probeOver
  rw [State.reg_bump, if_pos rfl]
  exact fld_setFld_disjoint _ _ (by decide) (by decide)

/-- A wrong result outside a mismatch: it counts, shows, and is reported. -/
def State.probeFailed (s : State) (n j : Nat) : State :=
  let u := (s.bump A.selfCounts 31 16 1).setBit A.selfEvents 0
  (u.followUpDone n j false false).wrongResult (u.condition (dieOf n)) 0xD001 n j 0 0x3F 0

theorem State.reg_probeFailed (s : State) (n j : Nat) :
    fld ((s.probeFailed n j).reg A.selfCounts) 63 32 = fld (s.reg A.selfCounts) 63 32
      ∧ fld ((s.probeFailed n j).reg A.selfCounts) 31 16 = min 0xFFFF (fld (s.reg A.selfCounts) 31 16 + 1)
      ∧ bit ((s.probeFailed n j).reg A.selfEvents) 0 = true := by
  have hchecked : ((s.bump A.selfCounts 31 16 1).setBit A.selfEvents 0).Checked (s.probeFailed n j) :=
    (State.checked_followUpDone _ _ _ _ _).trans (State.checked_wrongResult _ _ _ _ _ _ _ _)
  have hcounts : (s.probeFailed n j).reg A.selfCounts = (s.bump A.selfCounts 31 16 1).reg A.selfCounts :=
    (hchecked.reg _ (by unfold checkReg; decide)).trans (by rw [State.reg_setBit, if_neg (by decide)])
  rw [hcounts, hchecked.reg _ (by unfold checkReg; decide)]
  refine ⟨?_, State.fld_bump_self _ _ 1 (by decide), State.bit_setBit_self _ _ (by decide)⟩
  rw [State.reg_bump, if_pos rfl]
  exact fld_setFld_disjoint _ _ (by decide) (by decide)

/-- The fault of a position counts, up to 255, whether or not it fences. -/
theorem State.faultsOf_addFault (s : State) (n j : Nat) : ((s.addFault n j).faultsOf n j).1 = min 255 ((s.faultsOf n j).1 + 1) := by
  have hset : ((s.setFaults n j (satAdd 255 (s.faultsOf n j).1 1, (s.faultsOf n j).2)).faultsOf n j).1 = min 255 ((s.faultsOf n j).1 + 1) := by
    show (Tab.get (0, 0) (Tab.put s.self.faults (n * 17 + j) _) (n * 17 + j)).1 = _
    rw [Tab.get_put, if_pos rfl]
    rfl
  unfold State.addFault
  dsimp only
  split
  · rw [(State.coreWork_fenceArray n _ j true).faultsOf, hset]
  · exact hset

/-- What a fault of a position leaves: the counts of the SELF block, its events, and the rest of its core's positions. -/
theorem State.coreWork_addFault (s : State) (n j : Nat) :
    State.CoreWork n (s.setFaults n j (satAdd 255 (s.faultsOf n j).1 1, (s.faultsOf n j).2)) (s.addFault n j) := by
  unfold State.addFault
  dsimp only
  split
  · exact State.coreWork_fenceArray n _ j true
  · exact .refl n _

/-- A fault that reaches FAULT_LIMIT fences the position (R371). -/
theorem State.fenced_addFault {s : State} {n j : Nat} (hn : n < numCores) (hpolicy : s.bound 8 = 1) (hlimit : s.bound 7 ≤ (s.faultsOf n j).1 + 1)
    (hmax : s.bound 7 ≤ 255) (hfree : (s.posAt n j).fenced = false) (hswitch : s.svc.switching = none) :
    ((s.addFault n j).posAt n j).fenced = true ∧ bit ((s.addFault n j).reg A.selfEvents) 2 = true := by
  let u := s.setFaults n j (satAdd 255 (s.faultsOf n j).1 1, (s.faultsOf n j).2)
  have hfence : s.addFault n j = u.fenceArray n j true := by
    unfold State.addFault
    dsimp only
    refine if_pos ⟨hpolicy, ?_, ?_, hswitch⟩
    · show s.bound 7 ≤ min 255 ((s.faultsOf n j).1 + 1)
      omega
    · show ¬ (s.posAt n j).fenced = true
      simp [hfree]
  have hafter := u.coreWork_fenceArray_of_fencedPos n j true
  rw [hfence]
  refine ⟨(hafter.pos j).2 ?_, hafter.selfEvents hn (State.bit_setBit_self _ _ (by decide))⟩
  exact congrArg Pos.fenced (State.posAt_setPos_self _ n j _)

theorem State.self_bump (s : State) (r hi lo n : Nat) : (s.bump r hi lo n).self = s.self := rfl
theorem State.self_setBit (s : State) (r n : Nat) : (s.setBit r n).self = s.self := rfl
theorem State.posAt_bump (s : State) (r hi lo x n j : Nat) : (s.bump r hi lo x).posAt n j = s.posAt n j := rfl
theorem State.posAt_setBit (s : State) (r x n j : Nat) : (s.setBit r x).posAt n j = s.posAt n j := rfl
theorem State.svc_bump (s : State) (r hi lo n : Nat) : (s.bump r hi lo n).svc = s.svc := rfl
theorem State.svc_setBit (s : State) (r n : Nat) : (s.setBit r n).svc = s.svc := rfl

/-- A wrong result leaves the position, its counts, the bounds and the service state. -/
theorem State.posAt_probeFailed (s : State) (n j : Nat) :
    ((s.probeOver n j).probeFailed n j).posAt n j = { s.posAt n j with run := none, active := true }
      ∧ ((s.probeOver n j).probeFailed n j).faultsOf n j = s.faultsOf n j
      ∧ (∀ k, ((s.probeOver n j).probeFailed n j).bound k = s.bound k) ∧ ((s.probeOver n j).probeFailed n j).svc = s.svc := by
  have hchecked : (((s.probeOver n j).bump A.selfCounts 31 16 1).setBit A.selfEvents 0).Checked ((s.probeOver n j).probeFailed n j) :=
    (State.checked_followUpDone _ _ _ _ _).trans (State.checked_wrongResult _ _ _ _ _ _ _ _)
  have hself : (((s.probeOver n j).bump A.selfCounts 31 16 1).setBit A.selfEvents 0).self = s.self := by
    rw [State.self_setBit, State.self_bump, State.probeOver, State.self_bump]
    rfl
  have hsvc : (((s.probeOver n j).bump A.selfCounts 31 16 1).setBit A.selfEvents 0).svc = s.svc := by
    rw [State.svc_setBit, State.svc_bump, State.probeOver, State.svc_bump]
    rfl
  have hpos : (((s.probeOver n j).bump A.selfCounts 31 16 1).setBit A.selfEvents 0).posAt n j = (s.probeOver n j).posAt n j := by
    rw [State.posAt_setBit, State.posAt_bump]
  refine ⟨(hchecked.posAt n j).trans (hpos.trans (s.posAt_probeOver n j)), ?_, fun k => (hchecked.bound k).trans ?_, hchecked.svc.trans hsvc⟩
  · unfold State.faultsOf
    rw [hchecked.faults, hself]
  · unfold State.bound
    rw [hself]

/-- A position's fault counts and may fence it; then the round goes on. -/
theorem State.probeFault_frame (u : State) {n j : Nat} (hn : n < numCores) :
    let t := (u.addFault n j).probeNext n (j + 1)
    t.reg A.selfCounts = u.reg A.selfCounts ∧ ((u.posAt n j).run = none → (t.posAt n j).run = none)
      ∧ (t.faultsOf n j).1 = min 255 ((u.faultsOf n j).1 + 1)
      ∧ (bit (u.reg A.selfEvents) 0 = true → bit (t.reg A.selfEvents) 0 = true)
      ∧ (u.bound 8 = 1 → u.bound 7 ≤ (u.faultsOf n j).1 + 1 → u.bound 7 ≤ 255 → (u.posAt n j).fenced = false → u.svc.switching = none →
        (t.posAt n j).fenced = true ∧ bit (t.reg A.selfEvents) 2 = true) := by
  have hnext := State.coreWork_probeNext n (u.addFault n j) (j + 1)
  have hfault := u.coreWork_addFault n j
  generalize hv : u.setFaults n j (satAdd 255 (u.faultsOf n j).1 1, (u.faultsOf n j).2) = v at hfault
  have hpos : v.posAt n j = u.posAt n j := hv ▸ rfl
  have hregs : v.regs = u.regs := hv ▸ rfl
  have hreg : ∀ r, v.reg r = u.reg r := fun r => by unfold State.reg; rw [hregs]
  have hafter := hfault.trans hnext
  refine ⟨(hafter.selfCounts hn).trans (hreg _), fun h => (hafter.pos j).1 (by rw [hpos]; exact h), ?_, fun h => hafter.selfEvents hn (by rw [hreg]; exact h),
    fun hpolicy hlimit hmax hfree hswitch => ?_⟩
  · rw [hnext.faultsOf, State.faultsOf_addFault]
  · obtain ⟨hfenced, hshown⟩ := State.fenced_addFault hn hpolicy hlimit hmax hfree hswitch
    exact ⟨(hnext.pos j).2 hfenced, hnext.selfEvents hn hshown⟩

/-- PROBE_COMPLETE of a round's probe: its result is taken, and the round goes on. -/
theorem exec_probeComplete {s : State} {n j : Nat} (hn : n < numCores) (hj : j < 17) (hrun : (s.posAt n j).run = some (false, 0)) (crc : BitVec 32) :
    exec (.probeComplete n j crc) s = .next ((if crc = Config.probeCrc n j then (s.probeOver n j).followUpDone n j false false
      else ((s.probeOver n j).probeFailed n j).addFault n j).probeNext n (j + 1)) := by
  refine (onUnit_next (decide_eq_true ⟨hn, hj⟩) _).trans ?_
  rw [hrun]
  by_cases hcrc : crc = Config.probeCrc n j
  · simp only [hcrc, decide_true, if_true, Bool.false_eq_true, if_false]
    rfl
  · simp only [hcrc, decide_false, if_false, Bool.false_eq_true]
    rfl

theorem probeComplete_good {s : State} {n j : Nat} (hn : n < numCores) (hj : j < 17) (hrun : (s.posAt n j).run = some (false, 0)) :
    ∃ t, exec (.probeComplete n j (Config.probeCrc n j)) s = .next t
      ∧ fld (t.reg A.selfCounts) 63 32 = min 0xFFFFFFFF (fld (s.reg A.selfCounts) 63 32 + 1) ∧ (t.posAt n j).run = none
      ∧ t.faultsOf n j = s.faultsOf n j ∧ fld (t.reg A.selfCounts) 31 16 = fld (s.reg A.selfCounts) 31 16 := by
  refine ⟨_, (exec_probeComplete hn hj hrun _).trans (by rw [if_pos rfl]), ?_⟩
  have hafter := ((s.probeOver n j).checked_followUpDone n j false false |>.coreWork n).trans (State.coreWork_probeNext n _ (j + 1))
  obtain ⟨hprobes, hfailed⟩ := s.reg_probeOver n j
  rw [hafter.selfCounts hn, hafter.faultsOf]
  exact ⟨hprobes, (hafter.pos j).1 (by rw [State.posAt_probeOver]), rfl, hfailed⟩

theorem probeComplete_bad {s : State} {n j : Nat} (hn : n < numCores) (hj : j < 17) (hrun : (s.posAt n j).run = some (false, 0)) {crc : BitVec 32}
    (hcrc : crc ≠ Config.probeCrc n j) :
    ∃ t, exec (.probeComplete n j crc) s = .next t
      ∧ fld (t.reg A.selfCounts) 63 32 = min 0xFFFFFFFF (fld (s.reg A.selfCounts) 63 32 + 1) ∧ (t.posAt n j).run = none
      ∧ (t.faultsOf n j).1 = min 255 ((s.faultsOf n j).1 + 1) ∧ bit (t.reg A.selfEvents) 0 = true
      ∧ fld (t.reg A.selfCounts) 31 16 = min 0xFFFF (fld (s.reg A.selfCounts) 31 16 + 1)
      ∧ (s.bound 8 = 1 → s.bound 7 ≤ (s.faultsOf n j).1 + 1 → s.bound 7 ≤ 255 → (s.posAt n j).fenced = false → s.svc.switching = none →
        (t.posAt n j).fenced = true ∧ bit (t.reg A.selfEvents) 2 = true) := by
  obtain ⟨hprobes, hfailed⟩ := s.reg_probeOver n j
  obtain ⟨hover, hcount, hevent⟩ := (s.probeOver n j).reg_probeFailed n j
  obtain ⟨hpos, hfaults, hbound, hsvc⟩ := s.posAt_probeFailed n j
  obtain ⟨hcounts, hrest, hfaults', hevents, hfences⟩ := ((s.probeOver n j).probeFailed n j).probeFault_frame (j := j) hn
  refine ⟨_, (exec_probeComplete hn hj hrun _).trans (by rw [if_neg hcrc]), ?_⟩
  rw [hcounts, hfaults', hfaults, hover, hcount, hfailed, hprobes]
  refine ⟨rfl, hrest (by rw [hpos]), rfl, hevents hevent, rfl, fun hpolicy hlimit hmax hfree hswitch => ?_⟩
  exact hfences ((hbound 8).trans hpolicy) (by rw [hbound 7, hfaults]; exact hlimit) (by rw [hbound 7]; exact hmax) (by rw [hpos]; exact hfree)
    (by rw [hsvc]; exact hswitch)

/-! ### CLR_FAULTS (R379) -/

/-- One position's counts are cleared, and its fence while the core is in RESET. -/
def State.clearPos (s : State) (n j : Nat) : State :=
  let s := s.setFaults n j (0, 0)
  if (s.coreAt n).st = .reset then s.setPos n j { s.posAt n j with fenced := false } else s

theorem State.clearPos_frame (s : State) (n j : Nat) :
    ((s.clearPos n j).coreAt n).st = (s.coreAt n).st ∧ (s.clearPos n j).regs = s.regs ∧ (s.clearPos n j).hub = s.hub
      ∧ (∀ k, (s.clearPos n j).faultsOf n k = if k = j then (0, 0) else s.faultsOf n k)
      ∧ ((s.coreAt n).st = .reset → ∀ k, (s.clearPos n j).posAt n k = if k = j then { s.posAt n j with fenced := false } else s.posAt n k)
      ∧ ((s.coreAt n).st ≠ .reset → ∀ k, (s.clearPos n j).posAt n k = s.posAt n k) := by
  have hfaults : ∀ k, (s.setFaults n j (0, 0)).faultsOf n k = if k = j then (0, 0) else s.faultsOf n k := fun k => by
    show Tab.get (0, 0) (Tab.put s.self.faults (n * 17 + j) (0, 0)) (n * 17 + k) = _
    rw [Tab.get_put]
    exact if_congr (by omega) rfl rfl
  unfold State.clearPos
  dsimp only
  by_cases hst : (s.coreAt n).st = .reset
  · rw [if_pos (show ((s.setFaults n j (0, 0)).coreAt n).st = .reset from hst)]
    refine ⟨?_, rfl, rfl, hfaults, fun _ k => ?_, fun h => absurd hst h⟩
    · unfold State.setPos
      rw [State.coreAt_setCore_self]
      rfl
    · rw [State.posAt_setPos]
      rfl
  · rw [if_neg (show ¬ ((s.setFaults n j (0, 0)).coreAt n).st = .reset from hst)]
    exact ⟨rfl, rfl, rfl, hfaults, fun h => absurd h hst, fun _ _ => rfl⟩

/-- Positions cleared one after the other. -/
theorem State.clearPos_foldl (n : Nat) (l : List Nat) (s : State) :
    let t := l.foldl (fun s j => s.clearPos n j) s
    (t.coreAt n).st = (s.coreAt n).st ∧ t.regs = s.regs ∧ t.hub = s.hub
      ∧ (∀ k, t.faultsOf n k = if k ∈ l then (0, 0) else s.faultsOf n k)
      ∧ ((s.coreAt n).st = .reset → ∀ k, (t.posAt n k).fenced = if k ∈ l then false else (s.posAt n k).fenced)
      ∧ ((s.coreAt n).st ≠ .reset → ∀ k, t.posAt n k = s.posAt n k) := by
  induction l generalizing s with
  | nil => exact ⟨rfl, rfl, rfl, fun _ => rfl, fun _ _ => rfl, fun _ _ => rfl⟩
  | cons j l ih =>
    obtain ⟨hst, hregs, hhub, hfaults, hreset, hother⟩ := s.clearPos_frame n j
    obtain ⟨ist, iregs, ihub, ifaults, ireset, iother⟩ := ih (s.clearPos n j)
    refine ⟨ist.trans hst, iregs.trans hregs, ihub.trans hhub, fun k => ?_, fun h k => ?_, fun h k => ?_⟩
    · rw [List.foldl_cons, ifaults, hfaults]
      by_cases hk : k ∈ l <;> by_cases hkj : k = j <;> simp [hk, hkj]
    · rw [List.foldl_cons, ireset (hst ▸ h), hreset h]
      by_cases hk : k ∈ l <;> by_cases hkj : k = j <;> simp [hk, hkj]
    · exact (iother (hst ▸ h) k).trans (hother h k)

theorem clrFaults_clears {s : State} {n j : Nat} (hn : n < numCores) (hj : j < 17) (hmgmt : s.dom.mgmt = true) :
    completes (.clrFaults n) s fun t =>
      t.faultsOf n j = (0, 0) ∧ ((s.coreAt n).st = .reset → (t.posAt n j).fenced = false)
        ∧ ((s.coreAt n).st ≠ .reset → t.posAt n j = s.posAt n j) ∧ t.regs = s.regs ∧ t.hub = s.hub := by
  refine ⟨s.clearFaults n, (onUnit_next (decide_eq_true hn) _).trans (by rw [if_pos hmgmt]), ?_⟩
  obtain ⟨-, hregs, hhub, hfaults, hreset, hother⟩ := State.clearPos_foldl n (List.range 17) s
  have hmem : j ∈ List.range 17 := List.mem_range.mpr hj
  exact ⟨(hfaults j).trans (if_pos hmem), fun h => (hreset h j).trans (if_pos hmem), fun h => hother h j, hregs, hhub⟩

/-- Settles O53, clause by clause. -/
theorem probesCheckPositions : Obligations.ProbesCheckPositions := by
  unfold Obligations.ProbesCheckPositions
  intro n j s hn hj p begun
  refine ⟨fun hup hfirst => ⟨?_, fun hperiod => ?_⟩, fun y f l hasks => ⟨fun hdue => ?_, fun hup hheld hrun => ?_⟩, fun f k hrun crc => ?_,
    fun hrun crc => ?_, clrFaults_clears hn hj⟩
  · exact ⟨s.probeNext n 0, (onUnit_next (decide_eq_true hn) _).trans (by rw [State.probeCore, if_pos hup]), State.probeNext_first hfirst⟩
  · exact ⟨s.probeNext n 0, (onUnit_next (decide_eq_true hn) _).trans (by rw [if_pos ⟨hup, hperiod⟩]), State.probeNext_first hfirst⟩
  · refine ⟨_, (onUnit_next (decide_eq_true ⟨hn, hj⟩) _).trans (congrArg _ (if_pos ?_)), rfl⟩
    have hms : ms1 = 2000000 := rfl
    rw [hms, show (s.posAt n j).asks = (y, f) :: l from hasks]
    exact List.any_eq_true.mpr ⟨(y, f), List.mem_cons_self, decide_eq_true hdue⟩
  · refine ⟨_, (onUnit_next (decide_eq_true ⟨hn, hj⟩) _).trans ?_, rfl⟩
    dsimp only
    rw [show (s.posAt n j).asks = (y, f) :: l from hasks]
    exact congrArg _ (if_pos ⟨hup, hheld, hrun⟩)
  · refine ⟨s, (onUnit_next (decide_eq_true ⟨hn, hj⟩) _).trans ?_, rfl⟩
    rw [hrun]
    rfl
  · by_cases hcrc : crc = Config.probeCrc n j
    · obtain ⟨t, ht, hprobes, hnone, hfaults, hfailed⟩ := probeComplete_good hn hj hrun
      exact ⟨t, hcrc ▸ ht, hprobes, hnone, fun _ => ⟨hfaults, hfailed⟩, fun h => absurd hcrc h⟩
    · obtain ⟨t, ht, hprobes, hnone, hbad⟩ := probeComplete_bad hn hj hrun hcrc
      exact ⟨t, ht, hprobes, hnone, fun h => absurd h hcrc, fun _ => hbad⟩

end Sys2Proof.Machine
end

section
/-! PROOF. The states of a core and what changes them (O29; R43, R97, R99, R113, R114, R118, R119). -/
namespace Sys2Proof.Machine
open Sys2Proof

/-- Addresses of the registers of one core differ. -/
theorem coreRegs_ne (n : Nat) :
    A.coreFault n ≠ A.coreCtrl n ∧ A.corePart n ≠ A.coreCtrl n ∧ A.corePart n ≠ A.coreFault n ∧ A.coreStart n ≠ A.coreCtrl n := by
  unfold A.coreFault A.coreCtrl A.corePart A.coreStart
  omega

/-! ### The core whose work has ended (R99) -/

/-- No tile operation is on a position of the core. -/
def Core.posIdle (c : Core) : Prop := ∀ e ∈ c.pos, e.2.held = [] ∧ e.2.wb = []

/-- Of core n only the probes of its positions differ. -/
def State.probesOnly (n : Nat) (s t : State) : Prop :=
  { t.coreAt n with pos := (s.coreAt n).pos } = s.coreAt n ∧ ((s.coreAt n).posIdle → (t.coreAt n).posIdle)

theorem State.probesOnly.refl (n : Nat) (s : State) : State.probesOnly n s s := ⟨rfl, id⟩

theorem State.probesOnly.trans {n : Nat} {s t u : State} (h : State.probesOnly n s t) (k : State.probesOnly n t u) : State.probesOnly n s u :=
  ⟨by rw [← h.1, ← k.1], k.2 ∘ h.2⟩

theorem State.Checked.probesOnly {s t : State} (h : s.Checked t) (n : Nat) : State.probesOnly n s t := by
  have hcore : t.coreAt n = s.coreAt n := by unfold State.coreAt; rw [h.core]
  exact ⟨by rw [hcore], by rw [hcore]; exact id⟩

/-- A position at which no operation is has none that its core lists. -/
theorem State.posAt_of_posIdle {s : State} {n : Nat} (h : (s.coreAt n).posIdle) (j : Nat) : (s.posAt n j).held = [] ∧ (s.posAt n j).wb = [] := by
  unfold State.posAt Tab.get
  cases hj : Tab.find (s.coreAt n).pos j with
  | none => exact ⟨rfl, rfl⟩
  | some p => exact h _ (Tab.mem_of_find hj)

theorem State.probesOnly_askProbe (n : Nat) (s : State) (j : Nat) (followUp : Bool) : State.probesOnly n s (s.askProbe n j followUp) := by
  unfold State.askProbe
  dsimp only
  split
  · exact .refl n s
  · unfold State.setPos State.probesOnly
    rw [State.coreAt_setCore_self]
    refine ⟨rfl, fun hidle e he => ?_⟩
    rcases Tab.mem_put he with rfl | he
    · exact State.posAt_of_posIdle hidle j
    · exact hidle e he

theorem State.probesOnly_probeCut (n : Nat) (s : State) (j : Nat) (followUp : Bool) : State.probesOnly n s (s.probeCut n j followUp) := by
  have h := (s.checked_followUpDone n j followUp false).probesOnly n
  unfold State.probeCut State.probeNext
  dsimp only
  split
  · exact h
  · split
    · exact h.trans (State.probesOnly_askProbe n _ _ _)
    · exact h

theorem State.probesOnly_probesCut (n : Nat) (l : List (Nat × Bool)) (s : State) :
    State.probesOnly n s (l.foldl (fun s e => s.probeCut n e.1 e.2) s) := by
  induction l generalizing s with
  | nil => exact .refl n s
  | cons e l ih => exact (s.probesOnly_probeCut n e.1 e.2).trans (ih _)

/-- The core after its work has ended: nothing is left of it but what R99 keeps. -/
theorem State.coreAt_abandonWork (s : State) (n : Nat) :
    { (s.abandonWork n).coreAt n with pos := (s.abandoned n).pos } = s.abandoned n ∧ ((s.abandonWork n).coreAt n).posIdle := by
  have hself : ({ s.setCore n (s.abandoned n) with free := s.free + 12288 * ((s.coreAt n).gs.length + 1) } : State).coreAt n = s.abandoned n :=
    State.coreAt_setCore_self s n _
  obtain ⟨hcore, hidle⟩ := State.probesOnly_probesCut n (s.coreAt n).probing
    { s.setCore n (s.abandoned n) with free := s.free + 12288 * ((s.coreAt n).gs.length + 1) }
  rw [hself] at hcore hidle
  rw [State.abandonWork_eq]
  refine ⟨hcore, hidle fun e he => ?_⟩
  obtain ⟨x, -, rfl⟩ := List.mem_map.mp he
  exact ⟨rfl, rfl⟩

/-- What is read of the core after its work has ended. -/
theorem State.abandonWork_frame (s : State) (n : Nat) :
    let c := (s.abandonWork n).coreAt n
    c.wait = none ∧ c.gs = [] ∧ c.route = none ∧ c.routeQ = none ∧ c.routeOut = [] ∧ c.queue = [] ∧ c.upd = (s.coreAt n).upd
      ∧ c.cnt = (s.coreAt n).cnt ∧ c.rem = (s.coreAt n).rem ∧ c.s = (s.coreAt n).s ∧ c.v = (s.coreAt n).v
      ∧ c.store = s.stopped (s.coreAt n) := by
  have h := (s.coreAt_abandonWork n).1
  generalize (s.abandonWork n).coreAt n = c at h
  dsimp only
  exact ⟨(congrArg Core.wait h :), (congrArg Core.gs h :), (congrArg Core.route h :), (congrArg Core.routeQ h :), (congrArg Core.routeOut h :),
    (congrArg Core.queue h :), (congrArg Core.upd h :), (congrArg Core.cnt h :), (congrArg Core.rem h :), (congrArg Core.s h :),
    (congrArg Core.v h :), (congrArg Core.store h :)⟩

/-- Where neither gathers nor a routing run, the store stays as it is (R99). -/
theorem State.stopped_of_idle {s : State} {c : Core} (hgs : c.gs = []) (hroute : c.route = none) : s.stopped c = c.store := by
  unfold State.stopped
  rw [hgs, hroute]
  rfl

/-- A core without tile operations, transfers and routing is busy with its update calls alone. -/
theorem Core.busy_of_posIdle {c : Core} (hpos : c.posIdle) (hqueue : c.queue = []) (hgs : c.gs = []) (hroute : c.route = none) (hq : c.routeQ = none)
    (hout : c.routeOut = []) : c.busy = decide (0 < c.upd) := by
  have hany : (c.pos.any fun e => !e.2.held.isEmpty || !e.2.wb.isEmpty) = false := by
    refine List.any_eq_false.mpr fun e he => ?_
    obtain ⟨hheld, hwb⟩ := hpos e he
    simp [hheld, hwb]
  unfold Core.busy
  rw [hany, hqueue, hgs, hroute, hq, hout]
  simp

/-! ### Writes of CORE.CTRL (R97, R450) -/

/-- RESET_HOLD written 1 to a core that is not in RESET. -/
theorem State.enterReset_frame {s : State} {n : Nat} (hst : (s.coreAt n).st ≠ .reset) :
    let t := s.enterReset n
    (t.coreAt n).st = .reset ∧ t.reg (A.coreFault n) = 0 ∧ (∀ k, (t.coreAt n).counter k = 0) ∧ (t.coreAt n).busy = decide (0 < (s.coreAt n).upd)
      ∧ ((s.coreAt n).gs = [] → (s.coreAt n).route = none → (t.coreAt n).store = (s.coreAt n).store)
      ∧ (t.coreAt n).s = (s.coreAt n).s ∧ (t.coreAt n).v = (s.coreAt n).v := by
  intro t
  obtain ⟨-, hgs, hroute, hq, hout, hqueue, hupd, -, -, hs, hv, hstore⟩ := s.abandonWork_frame n
  have hidle := (s.coreAt_abandonWork n).2
  have ht : t = (((s.abandonWork n).setCore n { (s.abandonWork n).coreAt n with st := .reset, cnt := [], rem := [] }).setReg (A.coreFault n) 0).setReg
      (A.coreCtrl n) 2 := by
    show s.enterReset n = _
    unfold State.enterReset
    rw [if_neg hst]
  have hcore : t.coreAt n = { (s.abandonWork n).coreAt n with st := .reset, cnt := [], rem := [] } := by
    rw [ht]
    exact State.coreAt_setCore_self _ n _
  refine ⟨by rw [hcore], ?_, fun k => by rw [hcore]; rfl, ?_, fun h1 h2 => ?_, by rw [hcore]; exact hs, by rw [hcore]; exact hv⟩
  · rw [ht, State.reg_setReg_ne _ _ (coreRegs_ne n).1, State.reg_setReg, if_pos rfl]
  · rw [hcore]
    exact (Core.busy_of_posIdle (c := { (s.abandonWork n).coreAt n with st := .reset, cnt := [], rem := [] }) hidle hqueue hgs hroute hq hout).trans
      (congrArg (fun k => decide (0 < k)) hupd)
  · rw [hcore]
    exact hstore.trans (State.stopped_of_idle h1 h2)

/-- RESET_HOLD written 0 leaves a core that is not in RESET. -/
theorem State.releaseReset_of_ne {s : State} {n : Nat} (hst : (s.coreAt n).st ≠ .reset) :
    s.releaseReset n = s.setReg (A.coreCtrl n) (s.reg (A.coreCtrl n) &&& ~~~ 2) := by
  unfold State.releaseReset
  dsimp only
  rw [if_neg]
  rintro ⟨h, -⟩
  exact hst h

/-- FENCE of a core that is neither in RESET nor FENCED. -/
theorem State.fenceCore_frame {s : State} {n : Nat} (hreset : (s.coreAt n).st ≠ .reset) (hfenced : (s.coreAt n).st ≠ .fenced) :
    let t := s.fenceCore n
    (t.coreAt n).st = .fenced ∧ bit (t.reg (A.coreCtrl n)) 2 = true ∧ (t.coreAt n).wait = none ∧ (t.coreAt n).gs = []
      ∧ (t.coreAt n).route = none ∧ (∀ a, (t.coreAt n).queueOf a = []) ∧ (t.coreAt n).cnt = (s.coreAt n).cnt ∧ (t.coreAt n).rem = (s.coreAt n).rem
      ∧ (s.coreTag n ≠ 0 → bit (t.reg A.epJobfault) (s.corePart n) = true) := by
  intro t
  obtain ⟨hwait, hgs, hroute, -, -, hqueue, -, hcnt, hrem, -, -, -⟩ := s.abandonWork_frame n
  have hpart : (s.abandonWork n).reg (A.corePart n) = s.reg (A.corePart n) := by
    obtain ⟨-, hctrl, hfault, -⟩ := coreRegs_ne n
    refine (s.coreWork_abandonWork n).reg _ ?_ hctrl hfault ?_ ?_
    · unfold checkReg A.corePart A.selfCapt A.selfCaptCt A.cairnCounts A.cairnEvents A.evStat
      omega
    · unfold A.corePart A.epJobfault
      omega
    · unfold A.corePart A.selfEvents
      omega
  let u := (s.abandonWork n).setCore n { (s.abandonWork n).coreAt n with st := .fenced }
  let w := u.setReg (A.coreCtrl n) (u.reg (A.coreCtrl n) ||| 4)
  have hwpart : w.reg (A.corePart n) = s.reg (A.corePart n) := by
    show (u.setReg _ _).reg _ = _
    rw [State.reg_setReg_ne _ _ (coreRegs_ne n).2.1]
    exact hpart
  have htag : w.coreTag n = s.coreTag n := by unfold State.coreTag State.field; rw [hwpart]
  have hpno : w.corePart n = s.corePart n := by unfold State.corePart State.field; rw [hwpart]
  have ht : t = w.jobFault n 7 (w.corePart n) (w.coreTag n) 0xFFFF 0 0 := by
    show s.fenceCore n = _
    unfold State.fenceCore
    dsimp only
    rw [if_neg (not_or.mpr ⟨hreset, hfenced⟩)]
  have hcore : t.coreAt n = { (s.abandonWork n).coreAt n with st := .fenced } := by
    rw [ht, State.coreAt_jobFault]
    exact State.coreAt_setCore_self _ n _
  have hlogged := w.jobFault_logged n 7 (w.corePart n) (w.coreTag n) 0xFFFF 0 0
  have hctrl : bit (w.reg (A.coreCtrl n)) 2 = true := by
    show bit ((u.setReg _ _).reg _) 2 = true
    rw [State.reg_setReg, if_pos rfl, bit_or]
    simp [bit]
  rw [hcore]
  refine ⟨rfl, ?_, hwait, hgs, hroute, fun a => ?_, hcnt, hrem, fun h => ?_⟩
  · rw [ht]
    have hwork := w.coreWork_jobFault (n + 1) n 7 (w.corePart n) (w.coreTag n) 0xFFFF 0 0
    refine hwork.bits _ ?_ (fun _ => ?_) 2 hctrl
    · unfold checkReg A.coreCtrl A.selfCapt A.selfCaptCt A.cairnCounts A.cairnEvents A.evStat
      omega
    · unfold A.coreCtrl A.coreFault
      omega
  · show Tab.get [] ((s.abandonWork n).coreAt n).queue a = []
    rw [hqueue]
    rfl
  · rw [if_neg (by rw [htag]; exact h)] at hlogged
    rw [ht, hlogged.reg _ (by decide) (by decide) (by decide), hpno]
    exact State.bit_setBit_self _ _ (by have := fld_lt (s.reg (A.corePart n)) 15 12; unfold State.corePart State.field; omega)

/-- RUN of a core that is IDLE, HALTED or FAULTED. -/
theorem State.arm_frame {s : State} {n : Nat} (hst : (s.coreAt n).st = .idle ∨ (s.coreAt n).st = .halted ∨ (s.coreAt n).st = .faulted) :
    let t := s.arm n
    (t.coreAt n).st = .armed ∧ (t.coreAt n).pc = fld (s.reg (A.coreStart n)) 19 3 * 8 ∧ (t.coreAt n).ibuf = []
      ∧ (∀ r, (t.coreAt n).sreg r = 0) ∧ (∀ r, (t.coreAt n).vreg r = 0) ∧ (∀ r, r ≠ 0 → (t.coreAt n).preg r = 0)
      ∧ (t.coreAt n).shadowR ≠ 0 ∧ (t.coreAt n).store = (s.coreAt n).store ∧ (t.coreAt n).cnt = (s.coreAt n).cnt ∧ onlyCore n s t := by
  intro t
  let seed := BitVec.ofNat 32 n ^^^ (s.reg (A.coreStartCt n)).truncate 32
  have ht : t = s.setCore n { s.coreAt n with
      st := .armed, ibuf := [], pc := fld (s.reg (A.coreStart n)) 19 3 * 8, s := [], v := [], p := [], shadowR := if seed = 0 then 1 else seed } := by
    show s.arm n = _
    unfold State.arm
    dsimp only
    rw [if_pos hst]
  rw [ht, State.coreAt_setCore_self]
  refine ⟨rfl, rfl, rfl, fun r => ?_, fun _ => rfl, fun r hr => ?_, ?_, rfl, rfl, onlyCore_setCore s n _⟩
  · unfold Core.sreg
    split <;> rfl
  · unfold Core.preg
    rw [if_neg hr]
    rfl
  · dsimp only
    split
    · decide
    · next h => exact h

/-- A write of CORE.CTRL with RESET_HOLD 0. -/
theorem State.writeCtrl_of_up {s : State} {n : Nat} (hup : s.coreDom (dieOf n) = true) {v : W64} (hv : bit v 1 = false) :
    s.writeCtrl n v = if bit v 0 then (if bit v 2 then (s.releaseReset n).fenceCore n else s.releaseReset n).arm n
      else if bit v 2 then (s.releaseReset n).fenceCore n else s.releaseReset n := by
  unfold State.writeCtrl
  rw [if_neg (by simp [hup]), if_neg (by simp [hv])]

/-! ### SWDATA (R118, R119) -/

theorem State.swAddr_swAdvance (s : State) (n : Nat) : (s.swAdvance n).swAddr n = (s.swAddr n + 8) % 0xC0000 := by
  have haligned : 8 ∣ s.swAddr n := Dvd.intro_left _ rfl
  unfold State.swAdvance
  show fld ((s.putField _ 19 3 _).reg _) 19 3 * 8 = _
  unfold State.putField
  rw [State.reg_setReg, if_pos rfl, fld_setFld_self _ _ (by decide)]
  unfold storeSize
  omega

theorem swdataAccess_write {n : Nat} (hn : n < numCores) {s : State} (hup : s.coreDom (dieOf n) = true) (v : W64) :
    completes (.swdataAccess n (some v)) s fun t =>
      (∀ i, i < 8 → Memory.byte (t.coreAt n).store (s.swAddr n + i) = BitVec.ofNat 8 (v.toNat / 256 ^ i))
        ∧ (∀ b, (b < s.swAddr n ∨ s.swAddr n + 8 ≤ b) → Memory.byte (t.coreAt n).store b = Memory.byte (s.coreAt n).store b)
        ∧ t.swAddr n = (s.swAddr n + 8) % 0xC0000 ∧ { t.coreAt n with store := (s.coreAt n).store } = s.coreAt n
        ∧ onlyCoreReg n (A.coreSwaddr n) s t := by
  refine ⟨s.swWrite n v, (onUnit_next (decide_eq_true hn) _).trans (by rw [if_pos hup]), ?_⟩
  have hcore : (s.swWrite n v).coreAt n = (s.coreAt n).storeN (s.swAddr n) 8 v.toNat := State.coreAt_setCore_self s n _
  dsimp only
  rw [hcore]
  refine ⟨fun i hi => ?_, fun b hb => ?_, State.swAddr_swAdvance _ n, rfl, rfl, fun m hm => State.coreAt_setCore_ne s _ hm,
    fun b hb => State.reg_setReg_ne _ _ hb⟩
  · unfold Core.storeN
    rw [Memory.byte_write, toBytes_length, if_pos (by omega), Nat.add_sub_cancel_left, toBytes_getD _ _ _ hi]
  · unfold Core.storeN
    rw [Memory.byte_write, toBytes_length, if_neg (by omega)]

theorem swdataAccess_read {n : Nat} (hn : n < numCores) {s : State} (hup : s.coreDom (dieOf n) = true) :
    completes (.swdataAccess n none) s fun t =>
      (∃ v : W64, t.out = .softRead (A.coreSwdata n) v :: s.out
          ∧ v = BitVec.ofNat 64 (ofBytes ((List.range 8).map fun i => Memory.byte (s.coreAt n).store (s.swAddr n + i))))
        ∧ t.swAddr n = (s.swAddr n + 8) % 0xC0000 ∧ t.core = s.core := by
  refine ⟨(s.swRead n).1.emit (.softRead (A.coreSwdata n) (s.swRead n).2), (onUnit_next (decide_eq_true hn) _).trans (by rw [if_pos hup]), ?_⟩
  exact ⟨⟨_, rfl, rfl⟩, State.swAddr_swAdvance s n, rfl⟩

/-! ### Waits that end (R43, R113) -/

theorem counterWaitResume_eq {n : Nat} (hn : n < numCores) {s : State} (hst : (s.coreAt n).st = .waiting) {k p : Nat} {v : W32} {dl : Option W64}
    (hwait : (s.coreAt n).wait = some (.counter k v dl p)) :
    exec (.counterWaitResume n) s = .next (if countMet ((s.coreAt n).counter k) v then s.endWait n (s.coreAt n).resumed p true
      else if s.passed dl then s.endWait n (s.coreAt n).resumed p false else s) := by
  refine (onUnit_next (decide_eq_true hn) _).trans ?_
  simp only [hst, hwait]

/-- The core after a counter wait has ended. -/
theorem State.coreAt_endWait (s : State) (n p : Nat) (met : Bool) :
    (s.endWait n (s.coreAt n).resumed p met).coreAt n = (s.coreAt n).resumed.setP p (if met then BitVec.allOnes 64 else 0) := by
  unfold State.endWait
  dsimp only
  split <;> exact State.coreAt_setCore_self s n _

theorem Core.resumed_setP_frame (c : Core) (p : Nat) (v : W64) :
    { c.resumed.setP p v with st := c.st, wait := c.wait, p := c.p } = c ∧ (c.resumed.setP p v).st = .running ∧ (c.resumed.setP p v).wait = none := by
  unfold Core.setP
  split <;> exact ⟨rfl, rfl, rfl⟩

theorem Core.preg_setP_self (c : Core) (p : Nat) (v : W64) : (c.setP p v).preg p = if p = 0 then BitVec.allOnes 64 else v := by
  unfold Core.setP Core.preg
  by_cases hp : p = 0
  · simp [hp]
  · simp [hp]

/-- Settles O29, clause by clause. -/
theorem coreStatesChange : Obligations.CoreStatesChange := by
  unfold Obligations.CoreStatesChange
  intro n s hn c now up only
  have hunit : decide (n < numCores) = true := decide_eq_true hn
  have honly : ∀ d, (s.setCore n d).coreAt n = d ∧ onlyCore n s (s.setCore n d) := fun d => ⟨State.coreAt_setCore_self s n d, onlyCore_setCore s n d⟩
  refine ⟨fun hst htime => ?_, fun hhalting hst hbusy => ?_, fun x hst hwait hx => ⟨fun hfirst => ?_, fun hother => ?_⟩,
    fun k v dl p hst hwait => ⟨fun hmet => ?_, fun x hdl hnot hx => ?_⟩, fun v hup hv => ?_, fun hup hst harr htrim => ?_,
    fun hup hreset hfenced => ?_, fun hup hst => ?_, fun hup => ⟨fun v => swdataAccess_write hn hup v, swdataAccess_read hn hup⟩⟩
  · exact ⟨_, (onUnit_next hunit _).trans (by rw [if_pos ⟨hst, BitVec.le_def.mpr htime⟩]), honly _⟩
  · exact ⟨_, (onUnit_next hunit _).trans (congrArg _ (if_pos ⟨hhalting, hst, by simp [show (s.coreAt n).busy = false from hbusy]⟩)), honly _⟩
  · refine ⟨_, (onUnit_next hunit _).trans ?_, honly _⟩
    simp only [show (s.coreAt n).st = .waiting from hst, show (s.coreAt n).wait = some (.time x) from hwait]
    exact congrArg _ (if_pos ⟨BitVec.le_def.mpr hx, by simp [hfirst]⟩)
  · refine ⟨s, (onUnit_next hunit _).trans ?_, rfl⟩
    simp only [show (s.coreAt n).st = .waiting from hst, show (s.coreAt n).wait = some (.time x) from hwait]
    exact congrArg _ (if_neg (by simp [hother]))
  · refine ⟨_, (counterWaitResume_eq hn hst hwait).trans (by rw [if_pos ((countMet_iff _ _).mpr hmet)]), ?_⟩
    obtain ⟨hframe, hrun, hnone⟩ := c.resumed_setP_frame p (BitVec.allOnes 64)
    rw [State.coreAt_endWait]
    refine ⟨?_, hframe, hrun, hnone, onlyCore_setCore s n _⟩
    rw [Core.preg_setP_self]
    split <;> rfl
  · have hlate : s.passed dl = true := by
      rw [hdl]
      exact decide_eq_true (BitVec.le_def.mpr hx)
    refine ⟨_, (counterWaitResume_eq hn hst hwait).trans (by rw [if_neg (mt (countMet_iff _ _).mp (not_le.mpr hnot)), if_pos hlate]), ?_⟩
    obtain ⟨hframe, hrun, hnone⟩ := c.resumed_setP_frame p 0
    rw [State.coreAt_endWait]
    refine ⟨?_, hrun, hnone, hframe, fun m hm => State.coreAt_setCore_ne s _ hm⟩
    rw [Core.preg_setP_self]
    rfl
  · have hwrite : s.writeCtrl n v = s.enterReset n := by
      unfold State.writeCtrl
      rw [if_neg (by simp [show s.coreDom (dieOf n) = true from hup]), if_pos hv]
    refine ⟨s.enterReset n, (onUnit_next hunit _).trans (by rw [hwrite]), ?_, ?_, fun hst => (State.enterReset_frame hst).2,
      (s.coreWork_enterReset hn).core⟩
    · by_cases hst : (s.coreAt n).st = .reset
      · unfold State.enterReset
        rw [if_pos hst]
        exact hst
      · exact (State.enterReset_frame hst).1
    · unfold State.enterReset
      dsimp only
      rw [State.reg_setReg, if_pos rfl]
  · have hrelease : s.releaseReset n = (s.setReg (A.coreCtrl n) (s.reg (A.coreCtrl n) &&& ~~~ 2)).setCore n { c with st := .idle } := by
      unfold State.releaseReset
      exact if_pos ⟨hst, harr, htrim⟩
    refine ⟨s.releaseReset n, (onUnit_next hunit _).trans (by rw [State.writeCtrl_of_up hup (by decide)]; rfl), ?_⟩
    rw [hrelease]
    refine ⟨State.coreAt_setCore_self _ n _, ?_, rfl, fun m hm => State.coreAt_setCore_ne _ _ hm, fun b hb => State.reg_setReg_ne _ _ hb⟩
    show bit ((s.setReg _ _).reg _) 1 = false
    rw [State.reg_setReg, if_pos rfl]
    simp [bit]
  · have hrelease := State.releaseReset_of_ne hreset
    refine ⟨(s.releaseReset n).fenceCore n, (onUnit_next hunit _).trans (by rw [State.writeCtrl_of_up hup (by decide)]; rfl), ?_⟩
    rw [hrelease]
    have hpart := s.reg_setReg_ne (s.reg (A.coreCtrl n) &&& ~~~ 2) (coreRegs_ne n).2.1
    have hframe := State.fenceCore_frame (s := s.setReg (A.coreCtrl n) (s.reg (A.coreCtrl n) &&& ~~~ 2)) hreset hfenced
    unfold State.coreTag State.corePart State.field at hframe ⊢
    rw [hpart] at hframe
    exact hframe
  · have hne : (s.coreAt n).st ≠ .reset := by
      rcases hst with h | h | h <;> exact fun hr => by rw [show (s.coreAt n).st = _ from h] at hr; cases hr
    have hrelease := State.releaseReset_of_ne hne
    refine ⟨(s.releaseReset n).arm n, (onUnit_next hunit _).trans (by rw [State.writeCtrl_of_up hup (by decide)]; rfl), ?_⟩
    rw [hrelease]
    obtain ⟨harmed, hpc, hibuf, hs, hv, hp, hr, hstore, hcnt, hrest, hother⟩ :=
      State.arm_frame (s := s.setReg (A.coreCtrl n) (s.reg (A.coreCtrl n) &&& ~~~ 2)) hst
    rw [State.reg_setReg_ne _ _ (coreRegs_ne n).2.2.2] at hpc
    refine ⟨harmed, hpc, hibuf, hs, hv, hp, hr, hstore, hcnt, ?_, hother, fun b hb => ?_⟩
    · exact congrArg (fun u : State => { u with core := s.core, regs := s.regs, edge := s.edge }) hrest
    · have hregs := congrArg State.regs hrest
      exact (congrArg (fun r => Tab.get (regReset b) r b) hregs).trans (State.reg_setReg_ne _ _ hb)

end Sys2Proof.Machine
end

section
/-! PROOF. Fields of registers follow their access codes (O57; R8 to R13, R335, R341, R352). -/
namespace Sys2Proof.Machine
open Sys2Proof
-- Evaluations side by side hold more threads than the memory of a check admits.
set_option Elab.async false


/-! ### The register map -/

/-- A field lies in its word, and so does its reset value. -/
def RegField.fits (f : RegField) : Bool := decide (f.lo ≤ f.hi ∧ f.hi < 64 ∧ f.reset < 2 ^ (f.hi + 1 - f.lo))

/-- No bit of a word is in both fields. -/
def RegField.apart (f g : RegField) : Prop := f.hi < g.lo ∨ g.hi < f.lo

/-- The fields of a register lie in its word and share no bit. -/
def RegDesc.fits (d : RegDesc) : Bool := d.fields.all RegField.fits && decide (d.fields.Pairwise fun f g => f.hi < g.lo ∨ g.hi < f.lo)

theorem regsGlobal_fit : regsGlobal.all RegDesc.fits = true := by decide +kernel
theorem regsTime_fit : regsTime.all RegDesc.fits = true := by decide +kernel
theorem regsTopo_fit : regsTopo.all RegDesc.fits = true := by decide +kernel
theorem regsHub_fit : regsHub.all RegDesc.fits = true := by decide +kernel
theorem regsD2d_fit : regsD2d.all RegDesc.fits = true := by decide +kernel
theorem regsOpt_fit : regsOpt.all RegDesc.fits = true := by decide +kernel
theorem regsMem_fit : regsMem.all RegDesc.fits = true := by decide +kernel
theorem regsUpd_fit : regsUpd.all RegDesc.fits = true := by decide +kernel
theorem regsPower_fit : (regsTherm ++ regsPwr).all RegDesc.fits = true := by decide +kernel
theorem regsSec_fit : regsSec.all RegDesc.fits = true := by decide +kernel
theorem regsCairn_fit : regsCairn.all RegDesc.fits = true := by decide +kernel
theorem regsEth_fit : regsEth.all RegDesc.fits = true := by decide +kernel
theorem regsSelf_fit : regsSelf.all RegDesc.fits = true := by decide +kernel
theorem regsCore_fit : regsCore.all RegDesc.fits = true := by decide +kernel

theorem blockRegs_fit (a : Nat) : (blockRegs a).all RegDesc.fits = true := by
  unfold blockRegs
  split
  case h_1 => exact regsGlobal_fit
  case h_2 => exact regsTime_fit
  case h_3 => exact regsTopo_fit
  case h_4 => exact regsHub_fit
  case h_5 => exact regsD2d_fit
  case h_6 => exact regsOpt_fit
  case h_7 => exact regsMem_fit
  case h_8 => exact regsUpd_fit
  case h_9 => exact regsPower_fit
  case h_10 => exact regsSec_fit
  case h_11 => exact regsCairn_fit
  case h_12 => exact regsEth_fit
  case h_13 => exact regsSelf_fit
  case h_14 =>
    split
    · exact regsCore_fit
    · rfl

/-- The fields of a register of the map lie in its word and share no bit. -/
theorem fields_of_regAt {a i j : Nat} {d : RegDesc} (h : regAt a = some (d, i, j)) :
    (∀ f ∈ d.fields, f.lo ≤ f.hi ∧ f.hi < 64 ∧ f.reset < 2 ^ (f.hi + 1 - f.lo)) ∧ d.fields.Pairwise RegField.apart := by
  obtain ⟨e, he, hlocate⟩ := List.exists_of_findSome?_eq_some h
  obtain ⟨p, -, hp⟩ := Option.map_eq_some_iff.mp hlocate
  obtain rfl : e = d := congrArg Prod.fst hp
  have hfit := List.all_eq_true.mp (blockRegs_fit a) e he
  unfold RegDesc.fits at hfit
  rw [Bool.and_eq_true] at hfit
  exact ⟨fun f hf => of_decide_eq_true (List.all_eq_true.mp hfit.1 f hf), (of_decide_eq_true hfit.2 : e.fields.Pairwise fun f g => f.hi < g.lo ∨ g.hi < f.lo)⟩

/-! ### Words changed field by field -/

/-- A change of a word for one field: each bit of the field becomes what `F` makes of it, the others stay. -/
def changesField (g : W64 → RegField → W64) (F : RegField → Nat → Bool → Bool) : Prop :=
  ∀ (w : W64) (x : RegField) (b : Nat), b < 64 → bit (g w x) b = if x.lo ≤ b ∧ b ≤ x.hi then F x b (bit w b) else bit w b

section Fields
variable {g : W64 → RegField → W64} {F : RegField → Nat → Bool → Bool} (hg : changesField g F)
include hg

theorem bit_foldl_outside {b : Nat} (hb : b < 64) {l : List RegField} (h : ∀ x ∈ l, ¬ (x.lo ≤ b ∧ b ≤ x.hi)) (w : W64) :
    bit (l.foldl g w) b = bit w b := by
  induction l generalizing w with
  | nil => rfl
  | cons x l ih =>
    rw [List.foldl_cons, ih (fun y hy => h y (.tail _ hy)), hg w x b hb, if_neg (h x (.head _))]

/-- A bit of a field is changed with its own field alone. -/
theorem bit_foldl_field {l : List RegField} (hapart : l.Pairwise RegField.apart) {f : RegField} (hf : f ∈ l) {b : Nat} (hlo : f.lo ≤ b)
    (hhi : b ≤ f.hi) (hb : b < 64) (w : W64) : bit (l.foldl g w) b = F f b (bit w b) := by
  induction l generalizing w with
  | nil => cases hf
  | cons x l ih =>
    obtain ⟨hx, hl⟩ := List.pairwise_cons.mp hapart
    rw [List.foldl_cons]
    rcases List.mem_cons.mp hf with rfl | hf
    · have hrest : ∀ y ∈ l, ¬ (y.lo ≤ b ∧ b ≤ y.hi) := fun y hy => by
        have h := hx y hy
        unfold RegField.apart at h
        omega
      rw [bit_foldl_outside hg hb hrest, hg w f b hb, if_pos ⟨hlo, hhi⟩]
    · have h := hx f hf
      unfold RegField.apart at h
      rw [ih hl hf, hg w x b hb, if_neg (by omega)]

end Fields

/-- What a bit of a field becomes when software writes a word to its register (R9, R11, R13, R335). -/
def fieldBit (base : Nat) (image : Bool) (set v : W64) (f : RegField) (b : Nat) (old : Bool) : Bool :=
  match f.acc with
  | .rw => if legalValue base f.lo (fld v f.hi f.lo) && !image then bit v b else old
  | .w1c => old && (!bit v b || bit set b)
  | .w1s => old || bit v b
  | _ => old

theorem changesField_writeField (base : Nat) (image : Bool) (set v : W64) :
    changesField (fun w f => writeField base f image set v w) (fieldBit base image set v) := by
  intro w x b hb
  unfold writeField fieldBit
  dsimp only
  cases x.acc
  case rw =>
    by_cases hlegal : (legalValue base x.lo (fld v x.hi x.lo) && !image) = true
    · simp only [hlegal, if_true]
      rw [bit_setFld _ _ hb]
      split
      · next hin =>
        rw [testBit_fld, show x.lo + (b - x.lo) = b by omega, decide_eq_true (by omega), Bool.true_and]
        rfl
      · rfl
    · simp only [hlegal, Bool.false_eq_true, if_false, ite_self]
  case w1c =>
    dsimp only
    have hbit : bit (w &&& ~~~ (v &&& maskOf x.hi x.lo &&& ~~~ set)) b
        = (bit w b && !(bit v b && decide (x.lo ≤ b ∧ b ≤ x.hi) && !bit set b)) := by
      unfold bit
      rw [BitVec.getLsbD_and, BitVec.getLsbD_not, BitVec.getLsbD_and, BitVec.getLsbD_and, BitVec.getLsbD_not, getLsbD_maskOf hb]
      simp [hb]
    rw [hbit]
    split
    · next hin => rw [decide_eq_true hin]; cases bit v b <;> cases bit set b <;> simp
    · next hin => rw [decide_eq_false hin]; simp
  case w1s =>
    dsimp only
    have hbit : bit (v &&& maskOf x.hi x.lo) b = (bit v b && decide (x.lo ≤ b ∧ b ≤ x.hi)) := by
      unfold bit
      rw [BitVec.getLsbD_and, getLsbD_maskOf hb]
    rw [bit_or, hbit]
    split
    · next hin => rw [decide_eq_true hin, Bool.and_true]
    · next hin => rw [decide_eq_false hin, Bool.and_false, Bool.or_false]
  all_goals exact (ite_self _).symm

/-- Ones at the fields of an access code. -/
theorem bit_maskBy {d : RegDesc} (hapart : d.fields.Pairwise RegField.apart) (p : Acc → Bool) {f : RegField} (hf : f ∈ d.fields) {b : Nat}
    (hlo : f.lo ≤ b) (hhi : b ≤ f.hi) (hb : b < 64) : bit (d.maskBy p) b = p f.acc := by
  have hg : changesField (fun m x => if p x.acc then m ||| maskOf x.hi x.lo else m) (fun x _ old => old || p x.acc) := fun w x b hb => by
    dsimp only
    by_cases hp : p x.acc = true
    · rw [if_pos hp, hp, bit_or, bit_maskOf hb]
      split
      · next hin => rw [decide_eq_true hin]
      · next hin => rw [decide_eq_false hin, Bool.or_false]
    · rw [if_neg hp, Bool.not_eq_true _ |>.mp hp, Bool.or_false, ite_self]
  exact (bit_foldl_field hg hapart hf hlo hhi hb 0).trans (by rw [bit_zero, Bool.false_or])

/-- The reset values of the fields of an access code. -/
theorem bit_resetBy {d : RegDesc} (hapart : d.fields.Pairwise RegField.apart) (p : Acc → Bool) {f : RegField} (hf : f ∈ d.fields) {b : Nat}
    (hlo : f.lo ≤ b) (hhi : b ≤ f.hi) (hb : b < 64) : bit (d.resetBy p) b = (p f.acc && f.reset.testBit (b - f.lo)) := by
  have hg : changesField (fun m x => if p x.acc then setFld m x.hi x.lo x.reset else m)
      (fun x b old => if p x.acc then x.reset.testBit (b - x.lo) else old) := fun w x b hb => by
    dsimp only
    split
    · exact bit_setFld _ _ hb
    · exact (ite_self _).symm
  refine (bit_foldl_field hg hapart hf hlo hhi hb 0).trans ?_
  rw [bit_zero]
  cases p f.acc <;> simp

/-- A field of a word whose masked bits come from another word. -/
theorem fld_masked {w x m : W64} {hi lo : Nat} {y : W64} (h : ∀ b, lo ≤ b → b ≤ hi → bit ((w &&& ~~~ m) ||| x) b = bit y b) :
    fld ((w &&& ~~~ m) ||| x) hi lo = fld y hi lo := by
  apply Nat.eq_of_testBit_eq
  intro j
  rw [testBit_fld, testBit_fld]
  by_cases hj : j < hi + 1 - lo
  · rw [show ((w &&& ~~~ m) ||| x).getLsbD (lo + j) = y.getLsbD (lo + j) from h (lo + j) (by omega) (by omega)]
  · rw [decide_eq_false hj, Bool.false_and, Bool.false_and]

theorem bit_masked (w x m : W64) {b : Nat} (hb : b < 64) : bit ((w &&& ~~~ m) ||| x) b = (bit w b && !bit m b || bit x b) := by
  unfold bit
  rw [BitVec.getLsbD_or, BitVec.getLsbD_and, BitVec.getLsbD_not, decide_eq_true hb, Bool.true_and]

/-! ### Writes -/

/-- Between two states the stored fields of one register have changed, and what a recalibration of all rings sets. -/
structure State.StoredAt (a : Nat) (s t : State) : Prop where
  rest : { t with regs := s.regs, edge := s.edge, opt := s.opt } = s
  image : t.edge.image = s.edge.image
  hw : t.edge.hw = s.edge.hw
  reg : ∀ b, b ≠ a → t.reg b = s.reg b

theorem State.StoredAt.refl (a : Nat) (s : State) : State.StoredAt a s s := ⟨rfl, rfl, rfl, fun _ _ => rfl⟩

theorem State.StoredAt.trans {a : Nat} {s t u : State} (h : State.StoredAt a s t) (k : State.StoredAt a t u) : State.StoredAt a s u where
  rest := by rw [← h.rest, ← k.rest]
  image := k.image.trans h.image
  hw := k.hw.trans h.hw
  reg b hb := (k.reg b hb).trans (h.reg b hb)

theorem State.StoredAt.live {a : Nat} {s t : State} (h : State.StoredAt a s t) (b : Nat) : t.live b = s.live b := by
  have hdom : t.dom = s.dom := by rw [← h.rest]
  unfold State.live State.memDom State.coreDom
  rw [hdom]

theorem State.storedAt_logWrite (s : State) (a b w : Nat) (v : W64) : State.StoredAt a s (s.logWrite b w v) := ⟨rfl, rfl, rfl, fun _ _ => rfl⟩

theorem State.storedAt_writeStored (s : State) (d : RegDesc) (a : Nat) (v : W64) : State.StoredAt a s (s.writeStored d a v) :=
  ⟨rfl, rfl, rfl, fun _ hb => s.reg_setReg_ne _ hb⟩

/-- A field after a write. -/
theorem State.bit_writeStored (s : State) {d : RegDesc} (a : Nat) (v : W64) (hapart : d.fields.Pairwise RegField.apart) {f : RegField}
    (hf : f ∈ d.fields) {b : Nat} (hlo : f.lo ≤ b) (hhi : b ≤ f.hi) (hb : b < 64) :
    bit ((s.writeStored d a v).reg a) b = fieldBit d.base (s.edge.image.contains a) (s.eventBits a) v f b (bit (s.reg a) b) := by
  unfold State.writeStored
  rw [State.reg_setReg, if_pos rfl]
  exact bit_foldl_field (changesField_writeField d.base _ _ v) hapart hf hlo hhi hb _

/-- Whether a register of the hub or management domain has command fields is a matter of the register alone. -/
theorem State.writeHubReg_none {s t : State} {base i : Nat} {v : W64} (h : s.writeHubReg base i v = none) : t.writeHubReg base i v = none := by
  rw [← Option.isNone_iff_eq_none] at h ⊢
  rw [← h]
  unfold State.writeHubReg
  simp only [apply_ite Option.isNone, Option.isNone_some, Option.isNone_none]

/-- The same of a register of a die. -/
theorem State.writeDieReg_none {s t : State} {base i j : Nat} {v : W64} (h : s.writeDieReg base i j v = none) : t.writeDieReg base i j v = none := by
  rw [← Option.isNone_iff_eq_none] at h ⊢
  rw [← h]
  unfold State.writeDieReg
  simp only [apply_ite Option.isNone, Option.isNone_some, Option.isNone_none]

/-- A write to a register whose fields are all stored. -/
theorem State.storeReg_stored {s : State} {a i j : Nat} {d : RegDesc} (hlive : s.live a = true) (hreg : regAt a = some (d, i, j)) {v : W64}
    (hhub : s.writeHubReg d.base i v = none) (hdie : s.writeDieReg d.base i j v = none) :
    State.StoredAt a s (s.storeReg a v) ∧ (s.storeReg a v).reg a = (s.writeStored d a v).reg a := by
  have hstored := s.storedAt_writeStored d a v
  unfold State.storeReg
  rw [if_pos hlive]
  simp only [hreg]
  split
  · rw [hhub]
    dsimp only
    split
    · exact ⟨⟨hstored.rest, hstored.image, hstored.hw, hstored.reg⟩, rfl⟩
    · exact ⟨hstored, rfl⟩
  · rw [hdie]
    exact ⟨hstored, rfl⟩

/-- Whether a register holds its value in stored fields is a matter of the register alone. -/
theorem State.plainReg_eq (s t : State) (base : Nat) : t.plainReg base = s.plainReg base := by
  unfold State.plainReg State.writeHubReg State.writeDieReg
  simp only [apply_ite Option.isNone, Option.isNone_some, Option.isNone_none]

/-- Writes that arbitration places later, one after the other. -/
theorem State.storedAt_writesAgain {d : RegDesc} {a : Nat} (hvalue : valueReg d.base = false) (l : List (Nat × W64)) (s : State) :
    State.StoredAt a s (l.foldl (fun s e => s.writeAgain d a e.2) s) := by
  induction l generalizing s with
  | nil => exact .refl a s
  | cons e l ih =>
    refine State.StoredAt.trans ?_ (ih _)
    show State.StoredAt a s (s.writeAgain d a e.2)
    unfold State.writeAgain
    rw [if_neg (by simp [hvalue])]
    split
    · exact s.storedAt_writeStored d a e.2
    · exact .refl a s

theorem State.writesAgain_of_not_live {d : RegDesc} {a : Nat} {s : State} (h : s.live a = false) (l : List (Nat × W64)) :
    l.foldl (fun s e => s.writeAgain d a e.2) s = s := by
  induction l with
  | nil => rfl
  | cons e l ih =>
    have hnone : s.writeAgain d a e.2 = s := by
      unfold State.writeAgain State.storeReg
      simp [h]
    rw [List.foldl_cons, hnone, ih]

/-- A write outside every register, or to a domain that is down, does nothing. -/
theorem State.writeReg_of_not_live {s : State} {a : Nat} (h : s.live a = false ∨ regAt a = none) (w : Nat) (v : W64) :
    s.writeReg w a v = s.logWrite a w v := by
  unfold State.writeReg
  dsimp only
  split
  · next d i j hreg =>
    have hlive : (s.logWrite a w v).live a = false := h.resolve_right (by simp [hreg])
    have hstore : (s.logWrite a w v).storeReg a v = s.logWrite a w v := by
      unfold State.storeReg
      rw [if_neg (by simp [hlive])]
    split
    · exact hstore
    · rw [if_neg (by simp [hlive]), hstore, State.writesAgain_of_not_live hlive]
  · rfl

theorem State.readReg_of_not_live {s : State} {a : Nat} (h : s.live a = false ∨ regAt a = none) : s.readReg a = (s, 0) := by
  unfold State.readReg
  rcases h with h | h
  · rw [if_neg (by simp [h])]
  · rw [h]
    exact ite_self _

theorem exec_registerWrite (w : Writer) {a : Nat} (ha : a % 8 = 0 ∧ a < 0x4000000) (v : W64) (s : State) :
    exec (.registerWrite w a v) s = .next (s.writeReg (writerIndex w) a v) :=
  onUnit_next (decide_eq_true ha) _

/-! ### Reads -/

/-- RC fields go back to their reset values, and keep the events of the tick. -/
theorem State.clearOnRead_frame {s : State} {a i j : Nat} {d : RegDesc} (hreg : regAt a = some (d, i, j)) (hpeak : s.peakIndex d.base = none) :
    (∀ f, f ∈ d.fields → fld ((s.clearOnRead d a).reg a) f.hi f.lo =
        if f.acc = .rc then (match Tab.find s.edge.hw a with | some e => fld e.2 f.hi f.lo | none => f.reset) else fld (s.reg a) f.hi f.lo)
      ∧ (∀ b, b ≠ a → (s.clearOnRead d a).reg b = s.reg b)
      ∧ { s.clearOnRead d a with regs := s.regs, edge := s.edge } = s := by
  obtain ⟨hfits, hapart⟩ := fields_of_regAt hreg
  have hmask : ∀ f ∈ d.fields, ∀ b, f.lo ≤ b → b ≤ f.hi → bit (d.maskBy fun c => c == .rc) b = (f.acc == .rc) := fun f hf b hlo hhi =>
    bit_maskBy hapart _ hf hlo hhi (by have := hfits f hf; omega)
  have hreset : ∀ f ∈ d.fields, ∀ b, f.lo ≤ b → b ≤ f.hi → bit (d.resetBy fun c => c == .rc) b = (f.acc == .rc && f.reset.testBit (b - f.lo)) :=
    fun f hf b hlo hhi => bit_resetBy hapart _ hf hlo hhi (by have := hfits f hf; omega)
  unfold State.clearOnRead
  rw [hpeak]
  dsimp only
  generalize hm : (d.maskBy fun c => c == .rc) = m at hmask
  generalize hc : (d.resetBy fun c => c == .rc) = clear at hreset
  split
  · next hzero =>
    refine ⟨fun f hf => ?_, fun _ _ => rfl, rfl⟩
    have hnot := hmask f hf f.lo le_rfl (hfits f hf).1
    rw [hzero, bit_zero] at hnot
    rw [if_neg (by simpa using hnot.symm)]
  · split
    · next e he =>
      refine ⟨fun f hf => ?_, fun b hb => s.reg_setReg_ne _ hb, rfl⟩
      show fld ((s.setReg a _).reg a) f.hi f.lo = _
      rw [State.reg_setReg, if_pos rfl]
      obtain ⟨-, hhi, -⟩ := hfits f hf
      have hbits : ∀ b, f.lo ≤ b → b ≤ f.hi →
          bit ((s.reg a &&& ~~~ m) ||| (e.2 &&& m)) b = (bit (s.reg a) b && !(f.acc == .rc) || (bit e.2 b && (f.acc == .rc))) := fun b h1 h2 => by
        rw [bit_masked _ _ _ (by omega), ← hmask f hf b h1 h2]
        exact congrArg _ BitVec.getLsbD_and
      by_cases hrc : f.acc = .rc
      · simp only [if_pos hrc, he]
        refine fld_masked fun b h1 h2 => ?_
        rw [hbits b h1 h2, hrc]
        simp
      · rw [if_neg hrc]
        refine fld_masked fun b h1 h2 => ?_
        rw [hbits b h1 h2, beq_eq_false_iff_ne.mpr hrc]
        simp
    · next he =>
      refine ⟨fun f hf => ?_, fun b hb => s.reg_setReg_ne _ hb, rfl⟩
      rw [State.reg_setReg, if_pos rfl]
      obtain ⟨hle, hhi, hval⟩ := hfits f hf
      have hbits : ∀ b, f.lo ≤ b → b ≤ f.hi → bit ((s.reg a &&& ~~~ m) ||| clear) b
          = (bit (s.reg a) b && !(f.acc == .rc) || ((f.acc == .rc) && f.reset.testBit (b - f.lo))) := fun b h1 h2 => by
        rw [bit_masked _ _ _ (by omega), ← hmask f hf b h1 h2, hreset f hf b h1 h2, hmask f hf b h1 h2]
      by_cases hrc : f.acc = .rc
      · simp only [if_pos hrc, he]
        have hfld : fld (setFld 0 f.hi f.lo f.reset) f.hi f.lo = f.reset := by
          rw [fld_setFld_self _ _ hhi, Nat.mod_eq_of_lt hval]
        refine Eq.trans (fld_masked fun b h1 h2 => ?_) hfld
        rw [hbits b h1 h2, hrc, bit_setFld _ _ (by omega), if_pos ⟨h1, h2⟩]
        simp
      · rw [if_neg hrc]
        refine fld_masked fun b h1 h2 => ?_
        rw [hbits b h1 h2, beq_eq_false_iff_ne.mpr hrc]
        simp

section Written
variable {s : State} {a i j : Nat} {d : RegDesc} (hlive : s.live a = true) (hreg : regAt a = some (d, i, j))
include hlive hreg

/-- The last write of the tick to a register. -/
theorem State.writeReg_last {v : W64} (w : Nat) (hhub : s.writeHubReg d.base i v = none) (hdie : s.writeDieReg d.base i j v = none)
    (hlater : s.laterWrites a w = []) :
    State.StoredAt a s (s.writeReg w a v) ∧ (s.writeReg w a v).reg a = (s.writeStored d a v).reg a := by
  have heq : s.writeReg w a v = (s.logWrite a w v).storeReg a v := by
    unfold State.writeReg
    simp only [hreg, hlater, if_true]
  rw [heq]
  obtain ⟨hstored, hword⟩ := State.storeReg_stored (s := s.logWrite a w v) hlive hreg (State.writeHubReg_none hhub) (State.writeDieReg_none hdie)
  refine ⟨(s.storedAt_logWrite a a w v).trans hstored, hword.trans ?_⟩
  unfold State.writeStored
  rw [State.reg_setReg, State.reg_setReg]
  rfl

/-- A write before others of the tick: the last of them gives the value. -/
theorem State.writeReg_before {v : W64} {w : Nat} {e : Nat × W64} {l : List (Nat × W64)} (hhub : s.writeHubReg d.base i v = none)
    (hdie : s.writeDieReg d.base i j v = none) (hlater : s.laterWrites a w = l ++ [e]) (hplain : s.plainReg d.base = true)
    (hsw : d.base ≠ A.coreSwdata 0) (hvalue : valueReg d.base = false) :
    ∃ u, State.StoredAt a s u ∧ s.writeReg w a v = u.writeStored d a e.2 := by
  obtain ⟨hstored, -⟩ := State.storeReg_stored (s := s.logWrite a w v) hlive hreg (State.writeHubReg_none hhub) (State.writeDieReg_none hdie)
  have hu := ((s.storedAt_logWrite a a w v).trans hstored).trans (State.storedAt_writesAgain (d := d) hvalue l _)
  refine ⟨_, hu, ?_⟩
  have heq : s.writeReg w a v = (l ++ [e]).foldl (fun s e => s.writeAgain d a e.2) ((s.logWrite a w v).storeReg a v) := by
    unfold State.writeReg
    simp only [hreg, hlater, hsw, false_and, if_false]
    rw [if_neg (by simp)]
  rw [heq, List.foldl_append, List.foldl_cons, List.foldl_nil]
  generalize l.foldl (fun s e => s.writeAgain d a e.2) ((s.logWrite a w v).storeReg a v) = u at hu ⊢
  unfold State.writeAgain
  rw [if_neg (by simp [hvalue]), if_pos (by rw [State.plainReg_eq s u, hplain, hu.live, hlive]; rfl)]

/-- A read of a register without a read effect of its own. -/
theorem State.readReg_stored (hplain : [A.telData, A.edata, A.coreSwdata 0, A.ethFec 0].contains d.base = false) (hwin : ¬ (d.base = A.win 0 ∧ i = 3)) :
    s.readReg a = (s.clearOnRead d a, (s.beforeEvents d a).viewReg d i j a) := by
  simp only [List.contains_cons, List.contains_nil, Bool.or_false, Bool.or_eq_false_iff, beq_eq_false_iff_ne, ne_eq] at hplain
  obtain ⟨htel, hedata, hsw, hfec⟩ := hplain
  unfold State.readReg
  rw [if_pos hlive]
  simp only [hreg]
  rw [if_neg htel, if_neg hwin, if_neg hfec, if_neg hedata, if_neg hsw]

end Written

/-- Settles O57, clause by clause. -/
theorem registerFieldsFollowTheirAccessCodes : Obligations.RegisterFieldsFollowTheirAccessCodes := by
  unfold Obligations.RegisterFieldsFollowTheirAccessCodes
  intro w a v s halign hmax
  have hread : exec (.readClear a) s = .next ((s.readReg a).1.emit (.softRead a (s.readReg a).2)) := onUnit_next (decide_eq_true ⟨halign, hmax⟩) _
  refine ⟨fun hnone => ⟨?_, ?_⟩, fun d i j hlive hreg hhub hdie => ⟨fun hlater => ?_, fun e l hlater hplain hsw hvalue => ?_⟩,
    fun d i j hlive hreg hpeak hplain hwin => ?_⟩
  · exact ⟨_, exec_registerWrite w ⟨halign, hmax⟩ v s, by rw [State.writeReg_of_not_live hnone]; rfl⟩
  · exact ⟨_, hread, by rw [State.readReg_of_not_live hnone]; rfl⟩
  · obtain ⟨hstored, hword⟩ := State.writeReg_last hlive hreg (writerIndex w) hhub hdie hlater
    obtain ⟨hfits, hapart⟩ := fields_of_regAt hreg
    refine ⟨_, exec_registerWrite w ⟨halign, hmax⟩ v s, fun f hf b hlo hhi => ?_, hstored.reg, hstored.rest⟩
    rw [hword, State.bit_writeStored s a v hapart hf hlo hhi (by have := hfits f hf; omega)]
    rfl
  · obtain ⟨u, hstored, heq⟩ := State.writeReg_before hlive hreg hhub hdie hlater hplain hsw hvalue
    obtain ⟨hfits, hapart⟩ := fields_of_regAt hreg
    have hframe := hstored.trans (u.storedAt_writeStored d a e.2)
    refine ⟨_, exec_registerWrite w ⟨halign, hmax⟩ v s, ?_⟩
    rw [heq]
    refine ⟨fun f hf b hlo hhi hacc hlegal himage => ?_, hframe.reg⟩
    rw [State.bit_writeStored u a e.2 hapart hf hlo hhi (by have := hfits f hf; omega), hstored.image, himage]
    unfold fieldBit
    rw [hacc, hlegal]
    rfl
  · obtain ⟨hfields, hother, hrest⟩ := State.clearOnRead_frame hreg hpeak
    refine ⟨_, hread, ?_⟩
    rw [State.readReg_stored hlive hreg hplain hwin]
    have hout : (s.clearOnRead d a).out = s.out := (congrArg State.out hrest :)
    refine ⟨?_, hfields, hother, congrArg (fun u : State => { u with out := s.out }) hrest⟩
    show _ :: (s.clearOnRead d a).out = _
    rw [hout]

end Sys2Proof.Machine
end

section
/-! PROOF. What choosing the parent and the time state can change (R29 to R31, R36): cluster time, the events and counts of its block, the
records of it, and from where the ports count capacity. -/
namespace Sys2Proof.Machine
open Sys2Proof

/-- Between two states the module has moved between its time states. -/
structure State.TimeWork (s t : State) : Prop where
  rest : { t with regs := s.regs, edge := s.edge, time := s.time, hub := s.hub, cairn := s.cairn, eth := s.eth } = s
  eth : { t.eth with events := s.eth.events, nextSeq := s.eth.nextSeq } = s.eth
  time : { t.time with
    counter := s.time.counter, rate := s.time.rate, st := s.time.st, rootEid := s.time.rootEid, rootGen := s.time.rootGen
    rootPrio := s.time.rootPrio, hops := s.time.hops, untraceable := s.time.untraceable, parent := s.time.parent, primary := s.time.primary
    ownGen := s.time.ownGen, run := s.time.run, since := s.time.since, slewing := s.time.slewing, slewBack := s.time.slewBack
    slewPhase := s.time.slewPhase, correct := s.time.correct, schedStopped := s.time.schedStopped, relockedAt := s.time.relockedAt
    moved := s.time.moved, ctShift := s.time.ctShift } = s.time
  reg : ∀ a, ¬ checkReg a → a ≠ A.timeEvents → a ≠ A.timeCounts → t.reg a = s.reg a
  events : ∀ i, bit (s.reg A.timeEvents) i = true → bit (t.reg A.timeEvents) i = true

theorem State.TimeWork.refl (s : State) : s.TimeWork s := ⟨rfl, rfl, rfl, fun _ _ _ _ => rfl, fun _ => id⟩

theorem State.TimeWork.trans {s t u : State} (h : s.TimeWork t) (k : t.TimeWork u) : s.TimeWork u where
  rest := by rw [← h.rest, ← k.rest]
  eth := by rw [← h.eth, ← k.eth]
  time := by rw [← h.time, ← k.time]
  reg a h1 h2 h3 := (k.reg a h1 h2 h3).trans (h.reg a h1 h2 h3)
  events i e := k.events i (h.events i e)

theorem State.Checked.timeWork {s t : State} (h : s.Checked t) (hself : t.self = s.self) : s.TimeWork t where
  rest := by
    have hrest := h.rest
    cases s
    cases t
    simp_all
  eth := h.eth
  time := by rw [show t.time = s.time by rw [← h.rest]]
  reg a ha _ _ := h.reg a ha
  events i e := (h.reg A.timeEvents (by unfold checkReg; decide)).symm ▸ e

theorem State.Logged.timeWork {s t : State} (h : s.Logged t) : s.TimeWork t := h.checked.timeWork h.self

theorem State.timeWork_setBit (s : State) (i : Nat) : s.TimeWork (s.setBit A.timeEvents i) where
  rest := rfl
  eth := rfl
  time := rfl
  reg a _ ha _ := by rw [State.reg_setBit, if_neg ha]
  events k e := by rw [State.reg_setBit, if_pos rfl, bit_or, e]; rfl

theorem State.timeWork_bump (s : State) (hi lo n : Nat) : s.TimeWork (s.bump A.timeCounts hi lo n) where
  rest := rfl
  eth := rfl
  time := rfl
  reg a _ _ ha := by rw [State.reg_bump, if_neg ha]
  events k e := by rw [State.reg_bump, if_neg (by decide)]; exact e

/-- A step that is taken under a condition. -/
theorem State.timeWork_ite {c : Prop} [Decidable c] {s t : State} (h : s.TimeWork t) : s.TimeWork (if c then t else s) := by
  split
  · exact h
  · exact .refl s

theorem State.timeWork_ite_else {c : Prop} [Decidable c] {s t : State} (h : s.TimeWork t) : s.TimeWork (if c then s else t) := by
  split
  · exact .refl s
  · exact h

/-- Cluster time itself changes, but for what the neighbours and the 1588 sources said. -/
theorem State.timeWork_setTime (s : State) {x : TimeS} (h : { x with
    counter := s.time.counter, rate := s.time.rate, st := s.time.st, rootEid := s.time.rootEid, rootGen := s.time.rootGen
    rootPrio := s.time.rootPrio, hops := s.time.hops, untraceable := s.time.untraceable, parent := s.time.parent, primary := s.time.primary
    ownGen := s.time.ownGen, run := s.time.run, since := s.time.since, slewing := s.time.slewing, slewBack := s.time.slewBack
    slewPhase := s.time.slewPhase, correct := s.time.correct, schedStopped := s.time.schedStopped, relockedAt := s.time.relockedAt
    moved := s.time.moved, ctShift := s.time.ctShift } = s.time) : s.TimeWork { s with time := x } :=
  ⟨rfl, rfl, h, fun _ _ _ _ => rfl, fun _ => id⟩

theorem State.timeWork_enterTime (s : State) (new : TState) : s.TimeWork (s.enterTime new) := by
  unfold State.enterTime
  dsimp only
  split
  · exact .refl s
  · refine State.TimeWork.trans ?_ (State.report_logged _ _).timeWork
    refine State.TimeWork.trans ?_ (State.timeWork_ite (State.timeWork_bump _ _ _ _))
    refine State.TimeWork.trans ?_ (State.timeWork_ite (State.timeWork_setBit _ _))
    refine State.TimeWork.trans ?_ (State.timeWork_ite ((State.timeWork_setBit _ _).trans (State.timeWork_bump _ _ _ _)))
    exact s.timeWork_setTime rfl

theorem State.timeWork_follow (s : State) (p : Option Nat) : s.TimeWork (s.follow p) := by
  unfold State.follow
  refine State.TimeWork.trans ?_ (State.timeWork_ite_else (State.timeWork_setBit _ 2))
  refine State.TimeWork.trans ?_ (State.timeWork_ite ((State.timeWork_setBit _ 1).trans (State.timeWork_bump _ 47 32 1)))
  exact s.timeWork_setTime rfl

theorem State.timeWork_steerPtp (s : State) : s.TimeWork s.steerPtp := s.timeWork_setTime rfl

theorem State.timeWork_bePrimary (s : State) (prio : Nat) : s.TimeWork (s.bePrimary prio) := by
  unfold State.bePrimary
  dsimp only
  split
  · exact s.timeWork_setTime rfl
  · refine State.TimeWork.trans ?_ (State.timeWork_ite_else (State.timeWork_setBit _ 2))
    refine State.TimeWork.trans ?_ (State.timeWork_ite ((State.timeWork_setBit _ 1).trans (State.timeWork_bump _ 47 32 1)))
    refine State.TimeWork.trans ?_ (State.timeWork_steerPtp _)
    exact s.timeWork_setTime rfl

theorem State.timeWork_jumpTo (s : State) (v : W64) : s.TimeWork (s.jumpTo v) := ⟨rfl, rfl, rfl, fun _ _ _ _ => rfl, fun _ => id⟩

theorem State.timeWork_loadCounter (s : State) (v : W64) : s.TimeWork (s.loadCounter v) := ⟨rfl, rfl, rfl, fun _ _ _ _ => rfl, fun _ => id⟩

theorem State.timeWork_correctBy (s : State) (ticks : Int) : s.TimeWork (s.correctBy ticks) := by
  unfold State.correctBy
  dsimp only
  split
  · refine State.TimeWork.trans ?_ (State.note_logged _ _).timeWork
    refine State.TimeWork.trans ?_ (State.timeWork_setBit _ _)
    refine State.TimeWork.trans (s.timeWork_jumpTo (s.time.counter + BitVec.ofNat 64 ticks.toNat)) ?_
    exact State.timeWork_setTime _ rfl
  · split
    · refine State.TimeWork.trans ?_ (State.note_logged _ _).timeWork
      refine State.TimeWork.trans ?_ (State.timeWork_setBit _ _)
      exact s.timeWork_setTime rfl
    · exact s.timeWork_setTime rfl

theorem State.timeWork_conflict (s : State) (p : Nat) : s.TimeWork (s.conflict p) := by
  unfold State.conflict
  split
  · exact .refl s
  · exact (s.timeWork_setBit 7).trans (State.report_logged _ _).timeWork

theorem State.timeWork_withParent (s : State) (p : Nat) (linkLost : Bool) : s.TimeWork (s.withParent p linkLost) := by
  unfold State.withParent
  dsimp only
  cases s.time.st
  case free => exact (s.timeWork_loadCounter _).trans (State.timeWork_enterTime _ _)
  case acquire => exact State.timeWork_ite (s.timeWork_enterTime _)
  case locked => exact State.timeWork_ite (s.timeWork_enterTime _)
  case holdover => exact .refl s
  case lost => exact State.timeWork_ite_else ((s.timeWork_enterTime _).trans (State.timeWork_correctBy _ _))

theorem State.timeWork_withoutParent (s : State) (linkLost : Bool) : s.TimeWork (s.withoutParent linkLost) := by
  unfold State.withoutParent
  split
  · exact State.timeWork_ite (s.timeWork_enterTime _)
  · exact s.timeWork_enterTime _
  · exact .refl s

theorem State.timeWork_asPrimary (s : State) (prio : Nat) : s.TimeWork (s.asPrimary prio) := by
  unfold State.asPrimary
  dsimp only
  split
  · exact ((s.timeWork_loadCounter _).trans (State.timeWork_bePrimary _ prio)).trans (State.timeWork_enterTime _ _)
  · split
    · exact .refl s
    · split
      · exact s.timeWork_correctBy _
      · exact ((s.timeWork_correctBy _).trans (State.timeWork_bePrimary _ prio)).trans (State.timeWork_enterTime _ _)
  · exact (s.timeWork_bePrimary prio).trans (State.timeWork_enterTime _ _)

/-- The best neighbour is one that R31 refuses: it is reported. -/
def State.reportsBest (s : State) : State :=
  match s.bestPort ((Tab.keys s.time.nbr).filter s.mayParent) with
  | some b => if s.refusesRoot b then s.conflict b else s
  | none => s

/-- The parent that R30 and R31 leave. -/
def State.chosenParent (s : State) : Option Nat :=
  s.bestPort (((Tab.keys s.time.nbr).filter s.mayParent).filter fun p => !s.refusesRoot p)

/-- The priority at which the module is primary root, with a parent to choose (R29, R31). -/
def State.primaryPrio (s : State) (chosen : Option Nat) : Option Nat :=
  match s.ownPrio with
  | some i =>
    if s.time.everLocked && (chosen.all fun p => i ≤ (s.nbrAt p).rootPrio) && (s.time.primary || !s.betterHeard i) then some i else none
  | none => none

/-- The module follows the parent that is chosen, or none. -/
def State.followChosen (s : State) (chosen : Option Nat) : State :=
  match chosen with
  | some p => (s.follow (some p)).withParent p (s.time.parent.any s.parentLost)
  | none => (s.follow none).withoutParent (s.time.parent.any s.parentLost)

theorem State.evalTime1_eq (s : State) : s.evalTime1 = match s.reportsBest.primaryPrio s.chosenParent with
    | some i => s.reportsBest.asPrimary i
    | none => s.reportsBest.followChosen s.chosenParent := rfl

theorem State.timeWork_reportsBest (s : State) : s.TimeWork s.reportsBest := by
  unfold State.reportsBest
  split
  · exact State.timeWork_ite (s.timeWork_conflict _)
  · exact .refl s

theorem State.timeWork_followChosen (s : State) (chosen : Option Nat) : s.TimeWork (s.followChosen chosen) := by
  cases chosen with
  | none => exact (s.timeWork_follow none).trans (State.timeWork_withoutParent _ _)
  | some p => exact (s.timeWork_follow (some p)).trans (State.timeWork_withParent _ p _)

theorem State.timeWork_evalTime1 (s : State) : s.TimeWork s.evalTime1 := by
  rw [State.evalTime1_eq]
  refine s.timeWork_reportsBest.trans ?_
  split
  · exact State.timeWork_asPrimary _ _
  · exact State.timeWork_followChosen _ _

/-- The parent is chosen, and the state that follows (R29 to R31, R36). -/
theorem State.timeWork_evalTime (s : State) : s.TimeWork s.evalTime := s.timeWork_evalTime1.trans (State.timeWork_evalTime1 _)

section TimeWork
variable {s t : State} (h : s.TimeWork t)
include h

theorem State.TimeWork.nbrAt (p : Nat) : t.nbrAt p = s.nbrAt p := by
  unfold State.nbrAt
  rw [show t.time.nbr = s.time.nbr by rw [← h.time]]

theorem State.TimeWork.ptpSide (e : Nat) : t.ptpSide e = s.ptpSide e := by
  unfold State.ptpSide
  rw [show t.time.ptp = s.time.ptp by rw [← h.time]]

end TimeWork

end Sys2Proof.Machine
end

section
/-! PROOF. Firmware is staged, verified and switched (O56; R391 to R394, R428 to R431, R434). -/
namespace Sys2Proof.Machine
open Sys2Proof

/-! ### The loss of domains (R21, R418) -/

/-- Between two states domains may have gone; security state, the firmware switch and the security events stay. -/
structure State.Fades (s t : State) : Prop where
  sec : t.sec = s.sec
  switching : t.svc.switching = s.svc.switching
  reg : t.reg A.secEvents = s.reg A.secEvents
  mem : ∀ i, t.dom.mem.getLsbD i = true → s.dom.mem.getLsbD i = true
  core : ∀ i, t.dom.core.getLsbD i = true → s.dom.core.getLsbD i = true

theorem State.Fades.refl (s : State) : s.Fades s := ⟨rfl, rfl, rfl, fun _ => id, fun _ => id⟩

theorem State.Fades.trans {s t u : State} (h : s.Fades t) (k : t.Fades u) : s.Fades u :=
  ⟨k.sec.trans h.sec, k.switching.trans h.switching, k.reg.trans h.reg, fun i e => h.mem i (k.mem i e), fun i e => h.core i (k.core i e)⟩

theorem State.Checked.fades {s t : State} (h : s.Checked t) : s.Fades t := by
  have hdom : t.dom = s.dom := by rw [← h.rest]
  exact ⟨by rw [← h.rest], by rw [h.svc], h.reg _ (by unfold checkReg; decide), fun i => by rw [hdom]; exact id, fun i => by rw [hdom]; exact id⟩

theorem State.TimeWork.fades {s t : State} (h : s.TimeWork t) : s.Fades t := by
  have hdom : t.dom = s.dom := by rw [← h.rest]
  exact ⟨by rw [← h.rest], by rw [← h.rest], h.reg _ (by unfold checkReg; decide) (by decide) (by decide), fun i => by rw [hdom]; exact id,
    fun i => by rw [hdom]; exact id⟩

theorem State.fades_setReg (s : State) {a : Nat} (v : W64) (ha : a ≠ A.secEvents) : s.Fades (s.setReg a v) :=
  ⟨rfl, rfl, s.reg_setReg_ne v ha.symm, fun _ => id, fun _ => id⟩

theorem State.fades_setBit (s : State) {a : Nat} (i : Nat) (ha : a ≠ A.secEvents) : s.Fades (s.setBit a i) :=
  ⟨rfl, rfl, by rw [State.reg_setBit, if_neg ha.symm], fun _ => id, fun _ => id⟩

theorem State.fades_ite {c : Prop} [Decidable c] {s t : State} (h : s.Fades t) : s.Fades (if c then t else s) := by
  split
  · exact h
  · exact .refl s

theorem State.fades_foldl {α : Type} (f : State → α → State) (l : List α) (h : ∀ x ∈ l, ∀ s : State, s.Fades (f s x)) (s : State) :
    s.Fades (l.foldl f s) := by
  induction l generalizing s with
  | nil => exact .refl s
  | cons x l ih => exact (h x (.head _) s).trans (ih (fun y hy => h y (.tail _ hy)) _)

/-- A register outside the range of a reset stays. -/
theorem State.reg_resetRegs (s : State) {lo hi a : Nat} (ha : ¬ (lo ≤ a ∧ a < hi)) : (s.resetRegs lo hi).reg a = s.reg a := by
  unfold State.resetRegs State.reg
  dsimp only
  congr 1
  induction s.regs with
  | nil => rfl
  | cons e l ih =>
    obtain ⟨k, v⟩ := e
    by_cases hk : k = a
    · subst hk
      simp [Tab.find, ha]
    · rw [List.map_cons]
      split
      · split <;> simp only [Tab.find, if_neg hk, ih]
      · simp only [Tab.find, if_neg hk, ih]

theorem State.fades_resetRegs (s : State) {lo hi : Nat} (h : ¬ (lo ≤ A.secEvents ∧ A.secEvents < hi)) : s.Fades (s.resetRegs lo hi) :=
  ⟨rfl, rfl, s.reg_resetRegs h, fun _ => id, fun _ => id⟩

theorem State.fades_jobFault (s : State) (index cause part tag peer addr p2 : Nat) : s.Fades (s.jobFault index cause part tag peer addr p2) := by
  have h := (s.jobFault_logged index cause part tag peer addr p2).checked.fades
  split at h
  · exact h
  · exact (s.fades_setBit part (by decide)).trans h

theorem State.fades_voidDirect (s : State) (d : Nat) : s.Fades (s.voidDirect d) := by
  unfold State.voidDirect
  dsimp only
  split
  · exact .refl s
  · exact ⟨rfl, rfl, rfl, fun _ => id, fun _ => id⟩

theorem State.fades_endMismatches (s : State) (d : Nat) : s.Fades (s.endMismatches d) :=
  ((s.checked_setOpen _).trans (State.checked_closeMismatches _)).fades

/-- A bit that has been cleared among four. -/
theorem getLsbD_cleared (x : BitVec 4) (d i : Nat) : (x &&& ~~~ BitVec.ofNat 4 (2 ^ d)).getLsbD i = (x.getLsbD i && !decide (i = d)) := by
  by_cases hi : i < 4
  · rw [BitVec.getLsbD_and, BitVec.getLsbD_not, decide_eq_true hi, Bool.true_and, BitVec.getLsbD_ofNat, decide_eq_true hi, Bool.true_and,
      Nat.testBit_two_pow]
    simp only [eq_comm]
  · rw [BitVec.getLsbD_of_ge _ _ (by omega), BitVec.getLsbD_of_ge _ _ (by omega), Bool.false_and]

theorem getLsbD_of_cleared {x : BitVec 4} {d i : Nat} (h : (x &&& ~~~ BitVec.ofNat 4 (2 ^ d)).getLsbD i = true) : x.getLsbD i = true := by
  rw [getLsbD_cleared, Bool.and_eq_true] at h
  exact h.1

/-- A core domain goes. -/
theorem State.fades_coreDown (s : State) {d : Nat} (hd : d < 4) :
    s.Fades (s.coreDown d) ∧ (s.coreDown d).dom.core.getLsbD d = false := by
  have hbefore : s.Fades (((s.dropUncrossed d).voidDirect d).endMismatches d).accrueSlow := by
    refine State.Fades.trans ?_ (t := ((s.dropUncrossed d).voidDirect d).endMismatches d) ⟨rfl, rfl, rfl, fun _ => id, fun _ => id⟩
    refine State.Fades.trans ?_ (State.fades_endMismatches _ d)
    refine State.Fades.trans ?_ (State.fades_voidDirect _ d)
    exact ⟨rfl, rfl, rfl, fun _ => id, fun _ => id⟩
  unfold State.coreDown
  dsimp only
  generalize (((s.dropUncrossed d).voidDirect d).endMismatches d).accrueSlow = u at hbefore
  refine ⟨?_, ?_⟩
  · refine State.Fades.trans ?_ (State.fades_resetRegs _ (by unfold A.rcCtrl A.secEvents; omega))
    refine State.Fades.trans ?_ (State.fades_resetRegs _ (by unfold A.cpyStat A.secEvents; omega))
    refine State.Fades.trans ?_ (State.fades_resetRegs _ (by unfold A.secEvents; omega))
    refine State.Fades.trans ?_ (State.fades_resetRegs _ (by unfold A.secEvents; omega))
    exact hbefore.trans ⟨rfl, rfl, rfl, fun _ => id, fun _ => getLsbD_of_cleared⟩
  · exact (getLsbD_cleared u.dom.core d d).trans (by simp)

/-- The die end of a link goes with its die's memory domain. -/
def State.linkEndDown (s : State) (d : Nat) : State :=
  let l := s.linkAt d
  s.setLink d (if l.st = .fenced then l else { l with st := .down, rejoining := false, drops := [] })

/-- A die without its memory domain. -/
def State.withoutMem (s : State) (d : Nat) : State := { s with dom := { s.dom with mem := s.dom.mem &&& ~~~ BitVec.ofNat 4 (2 ^ d) } }

theorem State.memDown_eq (s : State) (d : Nat) : s.memDown d =
    ((((s.coreDown d).loseMemory d).resetRegs (0x600000 + d * 0x40000) (0x600000 + (d + 1) * 0x40000)).linkEndDown d).withoutMem d := rfl

theorem State.fades_loseMemory (s : State) (d : Nat) : s.Fades (s.loseMemory d) := ⟨rfl, rfl, rfl, fun _ => id, fun _ => id⟩

theorem State.fades_linkEndDown (s : State) (d : Nat) : s.Fades (s.linkEndDown d) := ⟨rfl, rfl, rfl, fun _ => id, fun _ => id⟩

theorem State.fades_withoutMem (s : State) (d : Nat) : s.Fades (s.withoutMem d) ∧ (s.withoutMem d).dom.mem.getLsbD d = false :=
  ⟨⟨rfl, rfl, rfl, fun _ => getLsbD_of_cleared, fun _ => id⟩, (getLsbD_cleared s.dom.mem d d).trans (by simp)⟩

/-- A memory domain goes. -/
theorem State.fades_memDown (s : State) {d : Nat} (hd : d < 4) :
    s.Fades (s.memDown d) ∧ (s.memDown d).dom.core.getLsbD d = false ∧ (s.memDown d).dom.mem.getLsbD d = false := by
  obtain ⟨hcore, hgone⟩ := s.fades_coreDown hd
  have hreset := ((s.coreDown d).fades_loseMemory d).trans (State.fades_resetRegs _ (lo := 0x600000 + d * 0x40000) (hi := 0x600000 + (d + 1) * 0x40000)
    (by unfold A.secEvents; omega))
  have hlink := hreset.trans (State.fades_linkEndDown _ d)
  obtain ⟨hmem, hoff⟩ := State.fades_withoutMem
    ((((s.coreDown d).loseMemory d).resetRegs (0x600000 + d * 0x40000) (0x600000 + (d + 1) * 0x40000)).linkEndDown d) d
  rw [State.memDown_eq]
  have hafter := hlink.trans hmem
  exact ⟨hcore.trans hafter, Bool.eq_false_iff.mpr fun h => by simpa [hgone] using hafter.core d h, hoff⟩

theorem State.fades_setLink (s : State) (d : Nat) (l : Link) : s.Fades (s.setLink d l) := ⟨rfl, rfl, rfl, fun _ => id, fun _ => id⟩

theorem State.fades_testsDone (s : State) : s.Fades s.testsDone := State.fades_ite ⟨rfl, rfl, rfl, fun _ => id, fun _ => id⟩

theorem State.fades_answerOffline (s : State) (d : Nat) (r : MemReq) : s.Fades (s.answerOffline d r) := by
  unfold State.answerOffline
  dsimp only
  split <;> split <;> exact ⟨rfl, rfl, rfl, fun _ => id, fun _ => id⟩

theorem State.fades_faultParts (s : State) (index cause : Nat) (p : Nat → Bool) : s.Fades (s.faultParts index cause p) :=
  State.fades_foldl _ _ (fun (k : Nat) _ (s : State) => s.fades_jobFault index cause k (s.partTag k) 0xFFFF 0 0) _

theorem State.fades_rcDropHome (s : State) (d home : Nat) : s.Fades (s.rcDropHome d home) := ⟨rfl, rfl, rfl, fun _ => id, fun _ => id⟩

/-- A die is fenced as its memory goes. -/
theorem State.fades_fenceDie (s : State) {d : Nat} (hd : d < 4) : s.Fades (s.fenceDie d 4) := by
  unfold State.fenceDie
  dsimp only
  refine State.Fades.trans ?_ (State.fades_testsDone _)
  refine State.Fades.trans ?_ (State.fades_foldl _ _ (fun (j : Nat) _ (s : State) => ?_) _)
  · rw [if_neg (by decide)]
    refine State.Fades.trans ?_ (State.fades_loseMemory _ d)
    refine State.Fades.trans ?_ (State.fades_coreDown _ hd).1
    refine State.Fades.trans ?_ (State.fades_faultParts _ _ _ _)
    refine State.Fades.trans ?_ (State.fades_foldl _ _ (fun (r : MemReq) _ (s : State) => s.fades_answerOffline d r) _)
    refine State.Fades.trans ?_ (State.report_logged _ _).checked.fades
    refine State.Fades.trans ?_ (State.fades_ite (State.fades_setBit _ 0 (by unfold A.d2dEvents A.secEvents; omega)))
    refine State.Fades.trans ?_ (State.fades_setBit _ 1 (by unfold A.d2dEvents A.secEvents; omega))
    refine State.Fades.trans ?_ (State.fades_setReg _ _ (by unfold A.fenceCt A.secEvents; omega))
    exact s.fades_setLink d _
  · split
    · exact .refl s
    · exact s.fades_rcDropHome j d

theorem State.fades_fenceFirst (s : State) {d : Nat} (hd : d < 4) : s.Fades (s.fenceFirst d 4) := State.fades_ite (s.fades_fenceDie hd)

/-- One die's rail goes (R21). -/
def State.dieRailDown (s : State) (d : Nat) : State := (if s.dom.hub then s.fenceFirst d 4 else s).memDown d

theorem State.fades_dieRailDown (s : State) {d : Nat} (hd : d < 4) :
    s.Fades (s.dieRailDown d) ∧ (s.dieRailDown d).dom.core.getLsbD d = false ∧ (s.dieRailDown d).dom.mem.getLsbD d = false := by
  obtain ⟨hdown, hgone⟩ := State.fades_memDown (if s.dom.hub then s.fenceFirst d 4 else s) hd
  exact ⟨(State.fades_ite (s.fades_fenceFirst hd)).trans hdown, hgone⟩

/-- Once their rails have gone the dies have no domain. -/
theorem State.fades_dieRailsDown (s : State) {l : List Nat} (hl : ∀ d ∈ l, d < 4) :
    s.Fades (l.foldl State.dieRailDown s)
      ∧ ∀ d ∈ l, (l.foldl State.dieRailDown s).dom.core.getLsbD d = false ∧ (l.foldl State.dieRailDown s).dom.mem.getLsbD d = false := by
  induction l generalizing s with
  | nil => exact ⟨.refl s, fun _ h => nomatch h⟩
  | cons d l ih =>
    obtain ⟨hfirst, hcore, hmem⟩ := s.fades_dieRailDown (hl d (.head _))
    obtain ⟨hrest, hgone⟩ := ih (s.dieRailDown d) fun e he => hl e (.tail _ he)
    refine ⟨hfirst.trans hrest, fun e he => ?_⟩
    rcases List.mem_cons.mp he with rfl | he
    · exact ⟨Bool.eq_false_iff.mpr fun h => by simp [hrest.core e h] at hcore, Bool.eq_false_iff.mpr fun h => by simp [hrest.mem e h] at hmem⟩
    · exact hgone e he

/-- The hub domain goes. -/
theorem State.fades_hubDown (s : State) : s.Fades s.hubDown ∧ s.hubDown.dom.hub = false := by
  have hforget : ∀ (u : State) (e : Nat) (gone : PtpTx → Bool), u.Fades (u.ptpForget e gone) ∧ (u.ptpForget e gone).dom = u.dom :=
    fun u e gone => ⟨⟨rfl, rfl, rfl, fun _ => id, fun _ => id⟩, rfl⟩
  have heval : ∀ u : State, u.Fades u.evalTime ∧ u.evalTime.dom = u.dom := fun u =>
    ⟨u.timeWork_evalTime.fades, (congrArg State.dom u.timeWork_evalTime.rest :)⟩
  unfold State.hubDown
  dsimp only
  refine ⟨?_, ?_⟩
  · refine State.Fades.trans ?_ (heval _).1
    refine State.Fades.trans ?_ (hforget _ 1 _).1
    refine State.Fades.trans ?_ (hforget _ 0 _).1
    refine State.Fades.trans ?_ (State.fades_resetRegs _ (by unfold A.secEvents; omega))
    exact ⟨rfl, rfl, rfl, fun _ => id, fun _ => id⟩
  · rw [(heval _).2, (hforget _ _ _).2, (hforget _ _ _).2]
    rfl

theorem State.railsDown_eq (s : State) : s.railsDown = ((List.range 4).foldl State.dieRailDown s).hubDown := rfl

/-- The hub, memory and core domains go: what is left of them. -/
theorem State.railsDown_frame (s : State) :
    s.Fades s.railsDown ∧ s.railsDown.dom.hub = false ∧ s.railsDown.dom.mem = 0 ∧ s.railsDown.dom.core = 0 := by
  obtain ⟨hdies, hgone⟩ := s.fades_dieRailsDown (l := List.range 4) fun d hd => List.mem_range.mp hd
  obtain ⟨hhub, hoff⟩ := State.fades_hubDown ((List.range 4).foldl State.dieRailDown s)
  rw [State.railsDown_eq]
  refine ⟨hdies.trans hhub, hoff, BitVec.eq_of_getLsbD_eq fun i hi => ?_, BitVec.eq_of_getLsbD_eq fun i hi => ?_⟩
  · refine Eq.trans ?_ BitVec.getLsbD_zero.symm
    exact Bool.eq_false_iff.mpr fun h => by simpa [(hgone i (List.mem_range.mpr hi)).2] using hhub.mem i h
  · refine Eq.trans ?_ BitVec.getLsbD_zero.symm
    exact Bool.eq_false_iff.mpr fun h => by simpa [(hgone i (List.mem_range.mpr hi)).1] using hhub.core i h

/-! ### The boot chain (R391 to R394) -/

theorem State.goodManifest_eq_some {s : State} {b : Nat} {m : Container} :
    s.goodManifest b = some m ↔ Config.container (s.bankBytes b) = some m ∧ s.romChecks m = true ∧ bodyChecks m = true := by
  unfold State.goodManifest
  rw [Option.filter_eq_some_iff, State.manifestOk, Bool.and_eq_true]

/-- A bank that passes all the checks runs. -/
theorem State.tryBank_of_good {s : State} {b : Nat} {m : Container} (h : s.goodManifest b = some m) :
    s.tryBank b = ((s.romPasses m).runManifest b m, true) := by
  obtain ⟨hbank, hrom, hbody⟩ := State.goodManifest_eq_some.mp h
  unfold State.tryBank
  rw [hbank]
  simp [hrom, hbody]

/-- A bank that fails a check leaves no more than a measurement of the ROM's stage. -/
theorem State.tryBank_of_bad {s : State} {b : Nat} (h : s.goodManifest b = none) :
    ∃ x, s.tryBank b = ({ s with sec := { s.sec with meas0 := x } }, false) := by
  unfold State.tryBank
  split
  · next m hbank =>
    by_cases hrom : s.romChecks m = true
    · have hbody : bodyChecks m = false := by
        by_contra hb
        rw [State.goodManifest_eq_some.mpr ⟨hbank, hrom, by simpa using hb⟩] at h
        cases h
      exact ⟨_, by simp [hrom, hbody]; rfl⟩
    · exact ⟨s.sec.meas0, by simp [hrom]⟩
  · exact ⟨s.sec.meas0, rfl⟩

theorem State.boot_of_good {s : State} {m : Container} (h : s.goodManifest s.svc.bootBank = some m) :
    s.boot = ((s.romPasses m).runManifest s.svc.bootBank m, false) := by
  unfold State.boot
  rw [State.tryBank_of_good h]

/-- The boot bank fails: the other one is tried. -/
theorem State.boot_of_bad {s : State} (h : s.goodManifest s.svc.bootBank = none) :
    ∃ x, let u := State.setBit { s with sec := { s.sec with meas0 := x } } A.secEvents 5
      (∀ m, s.goodManifest (1 - s.svc.bootBank) = some m → s.boot = ((u.romPasses m).runManifest (1 - s.svc.bootBank) m, true))
        ∧ (s.goodManifest (1 - s.svc.bootBank) = none → ∃ y, s.boot = (State.enterRecovery { u with sec := { u.sec with meas0 := y } }, true)) := by
  obtain ⟨x, hx⟩ := State.tryBank_of_bad h
  refine ⟨x, fun m hm => ?_, fun hnone => ?_⟩
  · unfold State.boot
    rw [hx]
    have hgood : (State.setBit { s with sec := { s.sec with meas0 := x } } A.secEvents 5).goodManifest (1 - s.svc.bootBank) = some m := hm
    dsimp only
    rw [State.tryBank_of_good hgood]
  · have hbad : (State.setBit { s with sec := { s.sec with meas0 := x } } A.secEvents 5).goodManifest (1 - s.svc.bootBank) = none := hnone
    obtain ⟨y, hy⟩ := State.tryBank_of_bad hbad
    refine ⟨y, ?_⟩
    unfold State.boot
    rw [hx]
    dsimp only
    rw [hy]

/-! ### Fences held back during a switch (R371, R430) -/

/-- Security and service state stay, and no event of those blocks goes. -/
structure State.ServiceKept (s t : State) : Prop where
  sec : t.sec = s.sec
  svc : t.svc = s.svc
  svcEvents : ∀ i, bit (s.reg A.svcEvents) i = true → bit (t.reg A.svcEvents) i = true
  secEvents : ∀ i, bit (s.reg A.secEvents) i = true → bit (t.reg A.secEvents) i = true

theorem State.ServiceKept.refl (s : State) : s.ServiceKept s := ⟨rfl, rfl, fun _ => id, fun _ => id⟩

theorem State.ServiceKept.trans {s t u : State} (h : s.ServiceKept t) (k : t.ServiceKept u) : s.ServiceKept u :=
  ⟨k.sec.trans h.sec, k.svc.trans h.svc, fun i e => k.svcEvents i (h.svcEvents i e), fun i e => k.secEvents i (h.secEvents i e)⟩

theorem State.CoreWork.serviceKept {n : Nat} {s t : State} (h : State.CoreWork n s t) : s.ServiceKept t :=
  ⟨h.sec, h.svc, h.bits _ (by unfold checkReg; decide) fun hn => ne_coreReg hn (by decide),
    h.bits _ (by unfold checkReg; decide) fun hn => ne_coreReg hn (by decide)⟩

theorem State.heldFences_kept (s : State) : s.ServiceKept s.heldFences := by
  have hfold : ∀ (l : List (Nat × Nat × Nat)) (u : State), u.ServiceKept (l.foldl (fun s e =>
      if s.bound 8 = 1 ∧ s.bound 7 ≤ e.2.1 ∧ ¬ (s.posAt (e.1 / 17) (e.1 % 17)).fenced then s.fenceArray (e.1 / 17) (e.1 % 17) true else s) u) := by
    intro l
    induction l with
    | nil => exact fun u => .refl u
    | cons e l ih =>
      intro u
      refine State.ServiceKept.trans ?_ (ih _)
      dsimp only
      split
      · exact (State.coreWork_fenceArray _ u _ true).serviceKept
      · exact .refl u
  exact hfold _ s

/-- The new firmware starts, the boot chain having run to u. -/
theorem exec_newFirmwareStart {s u : State} {fallback : Bool} (hswitch : s.svc.switching.isSome = true) (hboot : s.boot = (u, fallback)) :
    let w := { u with svc := { u.svc with switching := none } }
    exec .newFirmwareStart s = .next (if w.sec.recovery then (w.noteBoot fallback).railsDown
      else (((w.noteBoot fallback).acceptStart).setBit A.svcEvents 2).heldFences) := by
  show Host.Outcome.next _ = _
  rw [if_pos hswitch, hboot]

theorem State.noteBoot_logged (s : State) (fallback : Bool) : s.Logged (s.noteBoot fallback) := by
  unfold State.noteBoot
  split
  · exact s.note_logged _
  · split
    · exact s.note_logged _
    · exact .refl s

/-- A bank runs: what the start of the new firmware leaves. -/
theorem newFirmwareStart_runs {s u : State} {fallback : Bool} (hswitch : s.svc.switching.isSome = true) (hboot : s.boot = (u, fallback))
    (hrun : u.sec.recovery = false) :
    ∃ t, exec .newFirmwareStart s = .next t ∧ t.sec = u.sec ∧ t.svc = { u.svc with switching := none } ∧ bit (t.reg A.svcEvents) 2 = true
      ∧ (bit (u.reg A.secEvents) 5 = true → bit (t.reg A.secEvents) 5 = true) := by
  refine ⟨_, (exec_newFirmwareStart hswitch hboot).trans (by rw [if_neg (by simp [hrun])]), ?_⟩
  generalize hw : ({ u with svc := { u.svc with switching := none } } : State) = w
  have hlogged : w.Logged (w.noteBoot fallback).acceptStart := (w.noteBoot_logged fallback).trans (State.report_logged _ _)
  have hheld := State.heldFences_kept (((w.noteBoot fallback).acceptStart).setBit A.svcEvents 2)
  have hsecEvents : (((w.noteBoot fallback).acceptStart).setBit A.svcEvents 2).reg A.secEvents = u.reg A.secEvents := by
    rw [State.reg_setBit, if_neg (by decide), hlogged.reg _ (by decide) (by decide) (by decide), ← hw]
    rfl
  refine ⟨hheld.sec.trans (hlogged.sec.trans (hw ▸ rfl)), hheld.svc.trans (hlogged.svc.trans (hw ▸ rfl)),
    hheld.svcEvents 2 (State.bit_setBit_self _ _ (by decide)), fun h => hheld.secEvents 5 (by rw [hsecEvents]; exact h)⟩

/-- No bank passes: what is left. -/
theorem newFirmwareStart_recovers {s u : State} {fallback : Bool} (hswitch : s.svc.switching.isSome = true) (hboot : s.boot = (u, fallback))
    (hrecovery : u.sec.recovery = true) :
    ∃ t, exec .newFirmwareStart s = .next t ∧ t.sec = u.sec ∧ t.svc.switching = none ∧ t.reg A.secEvents = u.reg A.secEvents
      ∧ t.dom.hub = false ∧ t.dom.mem = 0 ∧ t.dom.core = 0 := by
  refine ⟨_, (exec_newFirmwareStart hswitch hboot).trans (by rw [if_pos hrecovery]), ?_⟩
  generalize hw : ({ u with svc := { u.svc with switching := none } } : State) = w
  obtain ⟨hfades, hgone⟩ := State.railsDown_frame (w.noteBoot fallback)
  have hall := (w.noteBoot_logged fallback).checked.fades.trans hfades
  exact ⟨hall.sec.trans (hw ▸ rfl), hall.switching.trans (hw ▸ rfl), hall.reg.trans (hw ▸ rfl), hgone⟩

/-! ### The staging bank (R428, R429, R434) -/

theorem State.bankBytes_setStaging (s : State) (m : Memory) : (s.setStaging m).bankBytes s.stagingBank = m := by
  unfold State.setStaging State.bankBytes
  by_cases h : s.stagingBank = 0 <;> simp [h]

theorem State.activateDue_of_none {s : State} (h : s.topo.pend = []) : s.activateDue = s := by
  unfold State.activateDue
  dsimp only
  rw [h]
  simp [Tab.find]

/-- Settles O56, clause by clause. -/
theorem firmwareIsStagedAndSwitched : Obligations.FirmwareIsStagedAndSwitched := by
  unfold Obligations.FirmwareIsStagedAndSwitched
  intro s svcOnly
  refine ⟨fun v hpending herasing => ?_, ⟨_, rfl, rfl⟩, fun hpending => ?_, fun herasing => ?_, ?_, ⟨fun hstaged halign hlate hpend => ?_, fun hbad => ?_⟩,
    fun hpending hdue hnone => ⟨fun hst => ?_, fun hl hh => ?_⟩, fun hswitch => ?_⟩
  · have hdata : exec (.fwDataWrite v) s = .next (let o := s.field A.fwSel 24 3
        let u := (s.setStaging ((s.bankBytes s.stagingBank).write (8 * o) (toBytes 8 v.toNat))).putField A.fwSel 24 3 (o + 1)
        { u with svc := { u.svc with staged := 1 } }) := by
      show Host.Outcome.next (s.fwData v) = _
      unfold State.fwData
      rw [if_neg (by simp [hpending, herasing])]
    refine ⟨_, hdata, ?_⟩
    have hbank : ∀ (m : Memory) (x : Nat) (y : Nat), (let u := (s.setStaging m).putField A.fwSel 24 3 x
        ({ u with svc := { u.svc with staged := y } } : State)).bankBytes s.stagingBank = m := fun m x y => s.bankBytes_setStaging m
    have hregs : ∀ m : Memory, (s.setStaging m).reg A.fwSel = s.reg A.fwSel := fun m => by
      unfold State.setStaging
      split <;> rfl
    dsimp only
    rw [hbank]
    refine ⟨fun i hi => ?_, fun a ha => ?_, ?_, rfl⟩
    · rw [Memory.byte_write, toBytes_length, if_pos (by omega), Nat.add_sub_cancel_left, toBytes_getD _ _ _ hi]
    · rw [Memory.byte_write, toBytes_length, if_neg (by omega)]
    · show fld (((s.setStaging _).putField A.fwSel 24 3 _).reg A.fwSel) 24 3 = _
      unfold State.putField
      rw [State.reg_setReg, if_pos rfl, fld_setFld_self _ _ (by decide)]
  · refine ⟨_, rfl, ?_⟩
    unfold State.fwErase
    rw [if_neg (by simp [hpending])]
  · refine ⟨_, congrArg Host.Outcome.next (if_pos herasing), s.bankBytes_setStaging [], rfl, rfl, rfl, rfl, ?_⟩
    unfold State.setStaging
    split <;> rfl
  · refine ⟨s.fwVerify, rfl, ?_⟩
    unfold State.fwVerify
    cases hbank : Config.container (s.bankBytes s.stagingBank) with
    | none => exact ⟨rfl, rfl, rfl, fun _ => rfl, fun m hm => nomatch hm⟩
    | some m =>
      refine ⟨rfl, rfl, rfl, fun h => (nomatch h), fun m' hm => ?_⟩
      obtain rfl : m = m' := Option.some.inj hm
      dsimp only
      by_cases hok : (s.manifestOk m && oneApart m.proto s.svc.protoMajor && oneApart m.fmt s.svc.fmtMajor) = true
      · rw [if_pos hok]
        refine ⟨⟨fun _ => ?_, fun _ => rfl⟩, .inl rfl, rfl⟩
        simpa [oneApart, and_assoc] using hok
      · rw [if_neg hok]
        refine ⟨⟨fun h => (nomatch h), fun h => absurd ?_ hok⟩, .inr rfl, rfl⟩
        simpa [oneApart, and_assoc] using h
  · refine ⟨_, rfl, ?_⟩
    unfold State.fwSwitch
    have hclear : ((Tab.vals s.topo.pend).any fun (x : Sect) => decide (s.reg A.fwCt ≤ x.due ∧ x.due.toNat < (s.reg A.fwCt).toNat + 1000000000)) = false := by
      refine List.any_eq_false.mpr fun x hx => ?_
      obtain ⟨e, he, rfl⟩ := List.mem_map.mp hx
      have h := hpend e he
      rw [decide_eq_true_eq, BitVec.le_def]
      omega
    dsimp only
    rw [if_pos ⟨hstaged, halign, hlate, by rw [hclear]; rfl⟩]
  · refine ⟨_, rfl, ?_⟩
    unfold State.fwSwitch
    dsimp only
    rw [if_neg]
    · exact ⟨State.bit_setBit_self _ _ (by decide), rfl⟩
    · rintro ⟨h1, h2, h3, -⟩
      have h3 : s.time.counter.toNat + 4000000 ≤ (s.reg A.fwCt).toNat := h3
      rcases hbad with h | h | h
      · exact h h1
      · exact h h2
      · exact absurd h3 (by omega)
  · refine ⟨_, congrArg Host.Outcome.next (if_pos ⟨hpending, BitVec.le_def.mpr hdue⟩), ?_⟩
    rw [State.activateDue_of_none hnone]
    dsimp only
    rw [if_pos hst]
    exact ⟨rfl, rfl, rfl, rfl, rfl, rfl⟩
  · refine ⟨_, congrArg Host.Outcome.next (if_pos ⟨hpending, BitVec.le_def.mpr hdue⟩), ?_⟩
    rw [State.activateDue_of_none hnone]
    dsimp only
    rw [if_neg (not_or.mpr ⟨hl, hh⟩)]
    exact ⟨rfl, rfl, rfl, State.bit_setBit_self _ _ (by decide)⟩
  · cases hgood : s.goodManifest s.svc.bootBank with
    | some m =>
      obtain ⟨t, ht, hsec, hsvc, hstart, -⟩ := newFirmwareStart_runs hswitch (State.boot_of_good hgood) rfl
      obtain ⟨-, hrom, hbody⟩ := State.goodManifest_eq_some.mp hgood
      refine ⟨t, ht, by rw [hsvc], fun _ => hstart, fun h => (nomatch h), fun m' hm => ?_, fun m' h => nomatch h⟩
      obtain rfl : m = m' := Option.some.inj hm
      have hloader : sha3 m.loader = m.loaderHash := by
        unfold State.romChecks at hrom
        exact beq_iff_eq.mp (Bool.and_eq_true _ _ ▸ hrom).2
      have hbodyHash : sha3 m.body = m.bodyHash := beq_iff_eq.mp hbody
      rw [hsvc, hsec, hloader, hbodyHash]
      exact ⟨rfl, rfl, rfl, rfl, rfl, rfl⟩
    | none =>
      obtain ⟨x, hother, hneither⟩ := State.boot_of_bad hgood
      have hshown : ∀ u : State, bit ((u.setBit A.secEvents 5).reg A.secEvents) 5 = true := fun u => State.bit_setBit_self u _ (by decide)
      cases hgood2 : s.goodManifest (1 - s.svc.bootBank) with
      | some m =>
        obtain ⟨t, ht, hsec, hsvc, hstart, hfallback⟩ := newFirmwareStart_runs hswitch (hother m hgood2) rfl
        refine ⟨t, ht, by rw [hsvc], fun _ => hstart, fun _ h => (nomatch h), fun m' h => (nomatch h), fun m' _ _ => ⟨by rw [hsvc]; rfl, ?_⟩⟩
        exact hfallback (hshown _)
      | none =>
        obtain ⟨y, hy⟩ := hneither hgood2
        obtain ⟨t, ht, hsec, hswitching, hevents, hhub, hmem, hcore⟩ := newFirmwareStart_recovers hswitch hy rfl
        have hrecovery : t.sec.recovery = true := by rw [hsec]; rfl
        refine ⟨t, ht, hswitching, fun h => absurd (hrecovery.symm.trans h) Bool.noConfusion, fun _ _ => ?_, fun m' h => (nomatch h),
          fun m' _ h => (nomatch h)⟩
        rw [hsec, hevents]
        exact ⟨rfl, hshown _, rfl, rfl, rfl, hhub, hmem, hcore⟩

end Sys2Proof.Machine
end

section
/-! PROOF. Memory is refreshed, zeroed, scrubbed and compressed (O35; R192, R195, R197 to R201, R203). -/
namespace Sys2Proof.Machine
open Sys2Proof

@[simp] theorem State.stackAt_setStack_self (s : State) (d i : Nat) (k : Stack) : (s.setStack d i k).stackAt d i = k := by
  unfold State.setStack State.stackAt
  rw [State.memAt_setMem_self]
  exact Tab.get_put_self _ _ _ _

/-! ### Refresh (R192) -/

/-- The first refresh of a bank after a tick comes after it. -/
theorem lt_nextRefresh {b t interval : Nat} (hi : 0 < interval) : t < nextRefresh b t interval := by
  unfold nextRefresh
  dsimp only
  generalize b * interval / 16 = off
  split
  · assumption
  · have h := Nat.lt_div_mul_add hi (a := t - off)
    rw [Nat.add_mul, Nat.one_mul]
    omega

theorem refreshTicks_pos (code : Nat) : 0 < refreshTicks code := by
  unfold refreshTicks
  split
  · decide
  · split <;> decide

theorem State.refreshBank_frame (s : State) (d c b : Nat) :
    let t := s.refreshBank d c b
    Tab.find (t.memAt d).refreshed (16 * c + b) = some s.clk ∧ s.clk < t.refreshDue d c b ∧ (t.memAt d).chan = (s.memAt d).chan
      ∧ { t with mem := s.mem } = s ∧ t.mem.bytes = s.mem.bytes ∧ t.mem.poison = s.mem.poison := by
  unfold State.refreshBank State.refreshDue
  simp only [State.memAt_setMem_self, Tab.find_put_self, Tab.get_put_self]
  exact ⟨trivial, lt_nextRefresh (refreshTicks_pos _), trivial, rfl, rfl, rfl⟩

/-! ### Stacks (R192, R197) -/

/-- What stands outside a range of keys stays, what stands in it goes. -/
theorem Memory.byte_outside (m : Memory) (lo hi a : Nat) : Memory.byte (Tab.outside m lo hi) a = if a < lo ∨ hi ≤ a then Memory.byte m a else 0 := by
  unfold Memory.byte Tab.outside Tab.get
  induction m with
  | nil => exact (ite_self _).symm
  | cons e m ih =>
    obtain ⟨k, x⟩ := e
    by_cases hk : k < lo ∨ hi ≤ k
    · rw [List.filter_cons_of_pos (by simpa using hk)]
      simp only [Tab.find]
      by_cases hka : k = a
      · subst hka
        rw [if_pos rfl, if_pos rfl, if_pos hk]
      · rw [if_neg hka, if_neg hka, ih]
    · rw [List.filter_cons_of_neg (by simpa using hk), ih]
      simp only [Tab.find]
      by_cases hka : k = a
      · subst hka
        rw [if_neg hk, if_neg hk]
      · rw [if_neg hka]

/-- The core domains come up without the memory's doing. -/
theorem State.mem_diesUp (s : State) : s.diesUp.mem = s.mem := by
  have hcore : ∀ (u : State) (d : Nat), (u.coreUp d).mem = u.mem := fun _ _ => rfl
  have hfold : ∀ (l : List Nat) (u : State), (l.foldl (fun s d =>
      if s.memDom d && s.linkUp d && !s.svc.dieFail.getLsbD d && !s.coreDom d then s.coreUp d else s) u).mem = u.mem := by
    intro l
    induction l with
    | nil => exact fun _ => rfl
    | cons d l ih =>
      intro u
      rw [List.foldl_cons, ih]
      split
      · exact hcore u d
      · rfl
  have hdone : ∀ u : State, u.testsDone.mem = u.mem := fun u => by
    unfold State.testsDone
    split <;> rfl
  unfold State.diesUp
  split
  · rfl
  · exact (hdone _).trans (hfold _ s)

theorem State.mem_stageOn (s : State) : s.stageOn.mem = s.mem := by
  unfold State.stageOn
  split
  · exact s.mem_diesUp
  · rfl

/-- A stack written with zeros from its first byte on. -/
theorem State.initStack_frame (s : State) {d i lo : Nat} (hlo : lo = (128 * d + 16 * i) * 2 ^ 31) :
    ((s.initStack d i).stackAt d i).trained = true
      ∧ ∀ a, Memory.byte (s.initStack d i).mem.bytes a = if a < lo ∨ lo + 16 * 2 ^ 31 ≤ a then Memory.byte s.mem.bytes a else 0 := by
  unfold State.initStack
  rw [← hlo, State.stackAt_setStack_self]
  exact ⟨rfl, Memory.byte_outside s.mem.bytes _ _⟩

theorem memoryInitComplete_zeroes {d i lo : Nat} (hd : d < 4) (hi : i < 8) {s : State} (hup : s.memDom d = true)
    (hlo : lo = (128 * d + 16 * i) * 2 ^ 31) :
    completes (.memoryInitComplete d i) s fun t =>
      (t.stackAt d i).trained = true
        ∧ (∀ a, lo ≤ a → a < lo + 16 * 2 ^ 31 → Memory.byte t.mem.bytes a = 0)
        ∧ (∀ a, (a < lo ∨ lo + 16 * 2 ^ 31 ≤ a) → Memory.byte t.mem.bytes a = Memory.byte s.mem.bytes a) := by
  refine ⟨(s.initStack d i).stageOn, (onUnit_next (decide_eq_true ⟨hd, hi⟩) _).trans (by rw [if_pos hup]), ?_⟩
  obtain ⟨htrained, hbytes⟩ := s.initStack_frame hlo
  have hmem := (s.initStack d i).mem_stageOn
  generalize (s.initStack d i).stageOn = t at hmem
  have hstack : t.stackAt d i = (s.initStack d i).stackAt d i := by
    unfold State.stackAt State.memAt
    rw [hmem]
  rw [hstack, hmem]
  refine ⟨htrained, fun a h1 h2 => ?_, fun a ha => ?_⟩
  · rw [hbytes, if_neg (by omega)]
  · rw [hbytes, if_pos ha]

/-! ### Scrubbing and the zero-map cache (R195, R197, R200) -/

/-- A codeword without damage reads as it stands. -/
theorem State.readCode_clean (s : State) (p : Place) (part req : Nat) : s.readCode p part req [] = (s, s.poisoned p) := by
  have hnone : normDamage [] = [] := by decide
  unfold State.readCode
  rw [hnone]
  rfl

/-- What a channel's serving leaves of its die's controllers. -/
theorem State.serveGranules_frame (s : State) (d c g : Nat) :
    ∃ x, (s.serveGranules d c g).memAt d = { s.memAt d with served := x } ∧ { s.serveGranules d c g with mem := s.mem } = s
      ∧ (s.serveGranules d c g).mem.bytes = s.mem.bytes ∧ (s.serveGranules d c g).mem.poison = s.mem.poison := by
  unfold State.serveGranules
  exact ⟨_, State.memAt_setMem_self _ _ _, rfl, rfl, rfl⟩

theorem scrubRead_next {d c : Nat} (hd : d < 4) (hc : c < 128) {s : State} (hdue : s.scrubDue d c = true) :
    completes (.scrubRead d c []) s fun t =>
      Tab.get 0 (t.memAt d).scrubL c = (Tab.get 0 (s.memAt d).scrubL c + 64) % 2 ^ 31
        ∧ { t with mem := s.mem } = s ∧ t.mem.bytes = s.mem.bytes ∧ t.mem.poison = s.mem.poison := by
  refine ⟨_, (onUnit_next (decide_eq_true ⟨hd, hc⟩) _).trans (by rw [if_pos hdue]), ?_⟩
  obtain ⟨x, hmem, hrest, hbytes, hpoison⟩ := s.serveGranules_frame d c 1
  dsimp only
  rw [State.readCode_clean, State.memAt_setMem_self]
  exact ⟨Tab.get_put_self _ _ _ _, congrArg (fun u : State => { u with mem := s.mem }) hrest, hbytes, hpoison⟩

/-- A map line with nothing owed to it is read as memory has it. -/
theorem State.settled_of_idle {s : State} {p : Place} (h : Tab.get [] (s.memAt p.die).chan p.chan = []) (bad : Bool) :
    s.settled p bad = (bad, s.granuleBytes p) := by
  unfold State.settled
  rw [h]
  rfl

/-- A cache that is not full takes a line. -/
theorem State.zcachePut_of_room {s : State} {d : Nat} (h : (s.memAt d).zcache.length < 4096) (line k : Nat) (bits : BitVec 512) (dirty : Bool) :
    s.zcachePut d line k bits dirty = s.setMem d { s.memAt d with zcache := Tab.put (s.memAt d).zcache line (k, bits, dirty) } := by
  unfold State.zcachePut
  dsimp only
  rw [decide_eq_false (not_le.mpr h)]
  rfl

theorem zeroMapFill_reads {d a k : Nat} (hd : d < 4) {s : State} (hup : s.memDom d = true) (howner : s.mapOwner d a = some k)
    (hnone : Tab.find (s.memAt d).zcache a = none) (hroom : (s.memAt d).zcache.length < 4096)
    (hclean : s.poisoned (placeLocal d (a * 64)) = false) (hidle : Tab.get [] (s.memAt d).chan (placeLocal d (a * 64)).chan = []) :
    completes (.zeroMapFill d a []) s fun t =>
      Tab.find (t.memAt d).zcache a = some (k, BitVec.ofNat 512 (ofBytes (s.granuleBytes (placeLocal d (a * 64)))), false)
        ∧ t.mem.bytes = s.mem.bytes := by
  have hexec : exec (.zeroMapFill d a []) s = .next (s.zfill d k a []).1 := by
    refine (onUnit_next (decide_eq_true hd) _).trans ?_
    simp only [howner, hup, hnone, Option.isNone_none, and_self, if_true]
  generalize hp : placeLocal d (a * 64) = p at hclean hidle
  have hdie : p.die = d := by rw [← hp]; rfl
  obtain ⟨x, hmem, -, hbytes, hpoison⟩ := (s.bump (A.zstat d) 31 0 1).serveGranules_frame d p.chan 1
  have hfill : s.zfill d k a [] = ((((s.bump (A.zstat d) 31 0 1).serveGranules d p.chan 1)).zcachePut d a k
      (BitVec.ofNat 512 (ofBytes (s.granuleBytes p))) false, some (BitVec.ofNat 512 (ofBytes (s.granuleBytes p)))) := by
    have hpoisoned : ((s.bump (A.zstat d) 31 0 1).serveGranules d p.chan 1).poisoned p = false := by
      unfold State.poisoned
      rw [hpoison]
      exact hclean
    have hgranule : ((s.bump (A.zstat d) 31 0 1).serveGranules d p.chan 1).granuleBytes p = s.granuleBytes p := by
      unfold State.granuleBytes
      rw [hbytes]
      rfl
    have hsettled : ((s.bump (A.zstat d) 31 0 1).serveGranules d p.chan 1).settled p false = (false, s.granuleBytes p) := by
      rw [State.settled_of_idle (by rw [hdie, hmem]; exact hidle), hgranule]
    unfold State.zfill
    simp only [hp, State.readCode_clean, hpoisoned, hsettled, Bool.false_eq_true, if_false]
  refine ⟨_, hexec, ?_⟩
  rw [hfill]
  have hlen : (((s.bump (A.zstat d) 31 0 1).serveGranules d p.chan 1).memAt d).zcache.length < 4096 := by
    rw [hmem]
    exact hroom
  dsimp only
  rw [State.zcachePut_of_room hlen, State.memAt_setMem_self]
  exact ⟨Tab.find_put_self _ _ _, hbytes⟩

/-! ### Compressed ranges (R198, R201, R203) -/

/-- The fields that software writes of MEM.ZRANGEk. -/
theorem zrangeMask : (maskOf 47 31 ||| maskOf 16 0 : W64) = 0x0000FFFF8001FFFF := by decide

/-- Dirty map lines of a range back in memory: the registers and the controllers stay. -/
theorem State.writeMapLines_frame (d : Nat) (l : List (Nat × Nat × BitVec 512 × Bool)) (s : State) :
    let t := l.foldl (fun t e => if e.2.2.2 then t.writeMapLine d e.1 e.2.2.1 else t) s
    t.regs = s.regs ∧ t.mem.die = s.mem.die := by
  induction l generalizing s with
  | nil => exact ⟨rfl, rfl⟩
  | cons e l ih =>
    obtain ⟨hregs, hdie⟩ := ih (if e.2.2.2 then s.writeMapLine d e.1 e.2.2.1 else s)
    refine ⟨hregs.trans ?_, hdie.trans ?_⟩ <;> split <;> rfl

theorem zrangeFlushComplete_ends {d k : Nat} (hd : d < 4) (hk : k < 8) {s : State} (hflush : k ∈ (s.memAt d).zflush) :
    completes (.zrangeFlushComplete d k) s fun t =>
      bit (t.reg (A.zrange d k)) 63 = false ∧ bit (t.reg (A.zrange d k)) 62 = false
        ∧ fld (t.reg (A.zrange d k)) 47 31 = fld (s.reg (A.zrange d k)) 47 31 ∧ fld (t.reg (A.zrange d k)) 16 0 = fld (s.reg (A.zrange d k)) 16 0
        ∧ ∀ e ∈ (t.memAt d).zcache, e.2.1 ≠ k := by
  refine ⟨_, (onUnit_next (decide_eq_true ⟨hd, hk⟩) _).trans (by rw [if_pos (by simpa using hflush)]), ?_⟩
  dsimp only
  generalize hu : ({ s with mem := { s.mem with
    bytes := s.mem.bytes.filter fun e => !s.mappedOut d k e.1
    poison := s.mem.poison.filter fun e => !s.mappedOut d k (e.1 * 64) } } : State) = u
  obtain ⟨hregs, -⟩ := State.writeMapLines_frame d ((u.memAt d).zcache.filter fun e => e.2.1 == k) u
  generalize ((u.memAt d).zcache.filter fun e => e.2.1 == k).foldl (fun t e => if e.2.2.2 then t.writeMapLine d e.1 e.2.2.1 else t) u = w at hregs
  have hword : (w.setMem d { w.memAt d with zcache := (w.memAt d).zcache.filter (fun e => e.2.1 != k), zflush := (w.memAt d).zflush.erase k }).reg
      (A.zrange d k) = s.reg (A.zrange d k) := by
    show (Tab.find w.regs _).getD _ = _
    rw [hregs, ← hu]
    rfl
  have hmem : ∀ (x : State) (r : Nat) (v : W64), (x.setReg r v).memAt d = x.memAt d := fun _ _ _ => rfl
  rw [hmem, State.memAt_setMem_self, State.reg_setReg, if_pos rfl, hword]
  have hbit : ∀ i, i < 64 → bit (s.reg (A.zrange d k) &&& (maskOf 47 31 ||| maskOf 16 0)) i
      = (bit (s.reg (A.zrange d k)) i && decide (31 ≤ i ∧ i ≤ 47 ∨ i ≤ 16)) := fun i hi => by
    unfold bit
    rw [BitVec.getLsbD_and, BitVec.getLsbD_or, getLsbD_maskOf hi, getLsbD_maskOf hi]
    simp
  have hfld : ∀ hi lo, hi < 64 → (∀ i, lo ≤ i → i ≤ hi → (31 ≤ i ∧ i ≤ 47 ∨ i ≤ 16)) →
      fld (s.reg (A.zrange d k) &&& (maskOf 47 31 ||| maskOf 16 0)) hi lo = fld (s.reg (A.zrange d k)) hi lo := fun hi lo hhi h => by
    apply Nat.eq_of_testBit_eq
    intro j
    rw [testBit_fld, testBit_fld]
    by_cases hj : j < hi + 1 - lo
    · congr 1
      exact (hbit (lo + j) (by omega)).trans (by rw [decide_eq_true (h (lo + j) (by omega) (by omega)), Bool.and_true]; rfl)
    · rw [decide_eq_false hj, Bool.false_and, Bool.false_and]
  refine ⟨(hbit 63 (by decide)).trans (by simp), (hbit 62 (by decide)).trans (by simp), hfld 47 31 (by decide) (by omega), hfld 16 0 (by decide) (by omega),
    fun e he => ?_⟩
  simpa using (List.mem_filter.mp he).2

/-- REFRESH_INTERVAL_RELAX sets the longest interval that the sensors allow (R192). -/
theorem exec_refreshIntervalRelax {d i : Nat} (hd : d < 4) (hi : i < 8) (s : State) :
    exec (.refreshIntervalRelax d i) s = .next (s.setStack d i { s.stackAt d i with
      interval := min (s.stackAt d i).interval (if s.since (s.stackAt d i).cool85 (10 * 2000000) then 0
        else if s.since (s.stackAt d i).cool95 (10 * 2000000) then 1 else 2) }) :=
  onUnit_next (decide_eq_true ⟨hd, hi⟩) _

/-- Settles O35, clause by clause. -/
theorem memoryIsKeptAndCompressed : Obligations.MemoryIsKeptAndCompressed := by
  unfold Obligations.MemoryIsKeptAndCompressed
  intro d s hd m up memOnly
  refine ⟨fun c b hup hc hb => ⟨fun hdue => ?_, fun hearly => ?_⟩,
    fun i hi => ⟨fun x hx hcool => ?_, fun x hnone hx hcool => ?_, fun hup => memoryInitComplete_zeroes hd hi hup rfl⟩,
    fun c hc => ⟨fun hdue => scrubRead_next hd hc hdue, fun hnot dam => ?_⟩,
    fun a k hup howner hnone hroom hclean hidle => zeroMapFill_reads hd hup howner hnone hroom hclean hidle,
    fun k v hk hup => ⟨fun hon hflush => ⟨?_, ?_⟩, fun hon hflush => ?_, fun hflush => zrangeFlushComplete_ends hd hk hflush⟩⟩
  · exact ⟨_, (onUnit_next (decide_eq_true ⟨hd, hc, hb⟩) _).trans (by rw [if_pos ⟨hup, hdue⟩]), s.refreshBank_frame d c b⟩
  · exact ⟨s, (onUnit_next (decide_eq_true ⟨hd, hc, hb⟩) _).trans (by rw [if_neg fun h => absurd h.2 (not_le.mpr hearly)]), rfl⟩
  · have haim : s.since (s.stackAt d i).cool85 (10 * 2000000) = true := by
      rw [show (s.stackAt d i).cool85 = some x from hx]
      exact decide_eq_true hcool
    refine ⟨_, exec_refreshIntervalRelax hd hi s, ?_, rfl, rfl, rfl⟩
    rw [State.stackAt_setStack_self, if_pos haim, Nat.min_zero]
  · have haim85 : s.since (s.stackAt d i).cool85 (10 * 2000000) = false := by
      rw [show (s.stackAt d i).cool85 = none from hnone]
      rfl
    have haim95 : s.since (s.stackAt d i).cool95 (10 * 2000000) = true := by
      rw [show (s.stackAt d i).cool95 = some x from hx]
      exact decide_eq_true hcool
    refine ⟨_, exec_refreshIntervalRelax hd hi s, ?_, rfl, rfl, rfl⟩
    rw [State.stackAt_setStack_self, if_neg (by simp [haim85]), if_pos haim95]
  · exact ⟨s, (onUnit_next (decide_eq_true ⟨hd, hc⟩) _).trans (by rw [if_neg (by simp [hnot])]), rfl⟩
  · refine ⟨_, (onUnit_next (decide_eq_true ⟨hd, hk⟩) _).trans (by rw [if_pos hup]), ?_⟩
    have hoff : (bit (s.reg (A.zrange d k)) 63 || bit (s.reg (A.zrange d k)) 62) = false := by
      rw [show bit (s.reg (A.zrange d k)) 63 = false from hon, show bit (s.reg (A.zrange d k)) 62 = false from hflush]
      rfl
    unfold State.enableZrange
    dsimp only
    rw [if_neg (by simp [hoff]), zrangeMask, State.reg_setReg, if_pos rfl]
    exact ⟨rfl, rfl⟩
  · refine ⟨_, (onUnit_next (decide_eq_true ⟨hd, hk⟩) _).trans (by rw [if_pos hup]), ?_⟩
    unfold State.disableZrange
    dsimp only
    rw [if_neg (Bool.eq_false_iff.mp hflush), if_neg (Bool.eq_false_iff.mp hon), zrangeMask, State.reg_setReg, if_pos rfl]
    exact ⟨rfl, rfl⟩
  · refine ⟨_, (onUnit_next (decide_eq_true ⟨hd, hk⟩) _).trans (by rw [if_pos hup]), ?_⟩
    unfold State.disableZrange
    dsimp only
    rw [if_neg (Bool.eq_false_iff.mp hflush), if_pos hon, State.memAt_setMem_self]
    refine ⟨?_, List.mem_cons_self, rfl⟩
    show (s.setReg _ _).reg _ = _
    rw [State.reg_setReg, if_pos rfl]
    rfl

end Sys2Proof.Machine
end

section
/-! PROOF. What a request of a block at module memory can change (R185 to R200): the contents and controllers of the dies, the registers of
the MEM blocks, and the records of errors. -/
namespace Sys2Proof.Machine
open Sys2Proof

/-- Between two states the memory controllers have worked. -/
structure State.MemWork (s t : State) : Prop where
  rest : { t with
    out := s.out, free := s.free, regs := s.regs, parts := s.parts, edge := s.edge, mem := s.mem, cairn := s.cairn, eth := s.eth } = s
  eth : { t.eth with events := s.eth.events, nextSeq := s.eth.nextSeq } = s.eth
  reg : ∀ a, ¬ checkReg a → ¬ (0x600000 ≤ a ∧ a < 0x700000) → t.reg a = s.reg a

theorem State.MemWork.refl (s : State) : s.MemWork s := ⟨rfl, rfl, fun _ _ _ => rfl⟩

theorem State.MemWork.trans {s t u : State} (h : s.MemWork t) (k : t.MemWork u) : s.MemWork u where
  rest := by rw [← h.rest, ← k.rest]
  eth := by rw [← h.eth, ← k.eth]
  reg a h1 h2 := (k.reg a h1 h2).trans (h.reg a h1 h2)

theorem State.Logged.memWork {s t : State} (h : s.Logged t) : s.MemWork t where
  rest := by
    obtain ⟨h1, h2, h3, h4, h5, h6, h7, h8, h9, h10, h11, h12, h13, h14, h15, h16, h17, h18, h19, h20, h21, -, -⟩ := h
    cases s
    cases t
    simp_all
  eth := h.eth
  reg a ha _ := h.reg a (fun e => ha (.inr (.inr (.inl e)))) (fun e => ha (.inr (.inr (.inr (.inl e))))) fun e => ha (.inr (.inr (.inr (.inr e))))

theorem State.memWork_ite {c : Prop} [Decidable c] {s t : State} (h : s.MemWork t) : s.MemWork (if c then t else s) := by
  split
  · exact h
  · exact .refl s

theorem State.memWork_foldl {α : Type} (f : State → α → State) (h : ∀ (s : State) (x : α), s.MemWork (f s x)) (l : List α) (s : State) :
    s.MemWork (l.foldl f s) := by
  induction l generalizing s with
  | nil => exact .refl s
  | cons x l ih => exact (h s x).trans (ih _)

theorem State.memWork_setMem (s : State) (d : Nat) (m : MemDie) : s.MemWork (s.setMem d m) := ⟨rfl, rfl, fun _ _ _ => rfl⟩

theorem State.memWork_setPoison (s : State) (p : Place) (b : Bool) : s.MemWork (s.setPoison p b) := ⟨rfl, rfl, fun _ _ _ => rfl⟩

theorem State.memWork_storeGranule (s : State) (p : Place) (bs : List Byte) : s.MemWork (s.storeGranule p bs) := ⟨rfl, rfl, fun _ _ _ => rfl⟩

theorem State.memWork_emit (s : State) (o : Out) : s.MemWork (s.emit o) := ⟨rfl, rfl, fun _ _ _ => rfl⟩

section Registers
variable {a : Nat} (ha : 0x600000 ≤ a ∧ a < 0x700000)
include ha

theorem State.memWork_setReg (s : State) (v : W64) : s.MemWork (s.setReg a v) :=
  ⟨rfl, rfl, fun _ _ hb => s.reg_setReg_ne v fun h => hb (h ▸ ha)⟩

theorem State.memWork_event (s : State) (f : W64 → W64) : s.MemWork (s.event a f) :=
  ⟨rfl, rfl, fun _ _ hb => s.reg_setReg_ne _ fun h => hb (h ▸ ha)⟩

theorem State.memWork_setBit (s : State) (i : Nat) : s.MemWork (s.setBit a i) :=
  ⟨rfl, rfl, fun b _ hb => by rw [State.reg_setBit, if_neg fun h : b = a => hb (h ▸ ha)]⟩

theorem State.memWork_bump (s : State) (hi lo k : Nat) : s.MemWork (s.bump a hi lo k) :=
  ⟨rfl, rfl, fun b _ hb => by rw [State.reg_bump, if_neg fun h : b = a => hb (h ▸ ha)]⟩

theorem State.memWork_bumpKi (s : State) (hi lo k : Nat) : s.MemWork (s.bumpKi a hi lo k) := by
  have hcount := s.memWork_bump ha hi lo ((Tab.get 0 s.parts (a * 64 + lo) + k) / 1024)
  exact hcount.trans ⟨rfl, rfl, fun _ _ _ => rfl⟩

end Registers

/-- A granule lies on one of the four dies. -/
theorem State.place_die_lt (s : State) (o : Nat) : (s.place o).die < 4 := by
  have hfield : fieldOf o 39 38 < 4 := Nat.mod_lt _ (by decide)
  unfold State.place
  dsimp only
  split
  · have hm : fieldOf (fieldOf o 39 38 * 2 ^ 34 + fieldOf o 33 0) 16 8 ^^^ fieldOf (fieldOf o 39 38 * 2 ^ 34 + fieldOf o 33 0) 25 17
        ^^^ fieldOf (fieldOf o 39 38 * 2 ^ 34 + fieldOf o 33 0) 34 26 ^^^ fieldOf (fieldOf o 39 38 * 2 ^ 34 + fieldOf o 33 0) 35 35 < 2 ^ 9 := by
      generalize fieldOf o 39 38 * 2 ^ 34 + fieldOf o 33 0 = q
      have hnine : ∀ hi lo, hi + 1 - lo ≤ 9 → fieldOf q hi lo < 2 ^ 9 := fun hi lo h =>
        lt_of_lt_of_le (Nat.mod_lt _ (Nat.two_pow_pos _)) (Nat.pow_le_pow_right (by decide) h)
      exact Nat.xor_lt_two_pow (Nat.xor_lt_two_pow (Nat.xor_lt_two_pow (hnine 16 8 (by decide)) (hnine 25 17 (by decide))) (hnine 34 26 (by decide)))
        (hnine 35 35 (by decide))
    exact Nat.div_lt_of_lt_mul (by simpa using hm)
  · exact hfield

/-! ### One codeword (R195, R196) -/

theorem State.memWork_countCorrected (s : State) {p : Place} (hp : p.die < 4) : s.MemWork (s.countCorrected p) := by
  unfold State.countCorrected
  refine State.MemWork.trans ?_ (State.memWork_ite
    ((State.memWork_setBit (by unfold A.memEvents; omega) _ 1).trans (State.report_logged _ _).memWork))
  exact s.memWork_setMem _ _

theorem State.memWork_eccCapture (s : State) {p : Place} (hp : p.die < 4) (unc : Bool) (symbol part : Nat) :
    s.MemWork (s.eccCapture p unc symbol part) := by
  unfold State.eccCapture
  dsimp only
  split
  · exact .refl s
  · refine State.MemWork.trans ?_ (State.memWork_setReg (by unfold A.eccTime; omega) _ _)
    exact s.memWork_event (by unfold A.eccCapt; omega) _

theorem State.memWork_uncorrectable (s : State) {p : Place} (hp : p.die < 4) (part req : Nat) : s.MemWork (s.uncorrectable p part req) := by
  unfold State.uncorrectable
  dsimp only
  refine State.MemWork.trans ?_ (State.report_logged _ _).memWork
  refine State.MemWork.trans ?_ (State.memWork_setBit (by unfold A.memEvents; omega) _ 0)
  refine State.MemWork.trans ?_ (State.memWork_eccCapture _ hp _ _ _)
  refine State.MemWork.trans ?_ (State.memWork_bump (by unfold A.eccCnt; omega) _ _ _ _)
  exact s.memWork_setPoison p true

theorem State.memWork_applyDamage (s : State) (p : Place) (left : List (Nat × Byte)) : s.MemWork (s.applyDamage p left) := by
  have hstore : ∀ bs, s.MemWork (if left.isEmpty then s else s.storeGranule p bs) := fun bs => by
    split
    · exact .refl s
    · exact s.memWork_storeGranule p bs
  unfold State.applyDamage
  dsimp only
  split
  · exact (hstore _).trans (State.memWork_setPoison _ _ _)
  · exact hstore _

theorem State.memWork_readCode (s : State) {p : Place} (hp : p.die < 4) (part req : Nat) (dam : Damage) : s.MemWork (s.readCode p part req dam).1 := by
  have hcount : ∀ (u : State) (hi lo : Nat), u.MemWork (u.bump (A.eccCnt p.die) hi lo 1) := fun u hi lo =>
    u.memWork_bump (by unfold A.eccCnt; omega) hi lo 1
  unfold State.readCode
  dsimp only
  split
  · exact .refl s
  · refine State.MemWork.trans ?_ (State.memWork_applyDamage _ p _)
    refine State.MemWork.trans ?_ (State.memWork_countCorrected _ hp)
    exact (hcount s _ _).trans (State.memWork_eccCapture _ hp _ _ _)
  · exact s.memWork_applyDamage p _
  · exact (hcount s _ _).trans (State.memWork_uncorrectable _ hp _ _)
  · exact s.memWork_uncorrectable hp _ _

/-! ### Compressed ranges (R198 to R200) -/

theorem State.memWork_writeMapLine (s : State) (d line : Nat) (bits : BitVec 512) : s.MemWork (s.writeMapLine d line bits) :=
  (s.memWork_setPoison _ false).trans (State.memWork_storeGranule _ _ _)

theorem State.memWork_zcachePut (s : State) (d line k : Nat) (bits : BitVec 512) (dirty : Bool) : s.MemWork (s.zcachePut d line k bits dirty) := by
  unfold State.zcachePut
  dsimp only
  split
  · next l _ b dirt _ =>
    refine State.MemWork.trans ?_ (State.memWork_setMem _ d _)
    refine State.MemWork.trans (State.memWork_ite (c := dirt = true) (s.memWork_writeMapLine d l b)) ?_
    exact ⟨rfl, rfl, fun _ _ _ => rfl⟩
  · exact s.memWork_setMem d _

theorem State.memWork_serveGranules (s : State) (d c g : Nat) : s.MemWork (s.serveGranules d c g) := s.memWork_setMem d _

theorem State.memWork_zfill (s : State) {d : Nat} (hd : d < 4) (k line : Nat) (dam : Damage) : s.MemWork (s.zfill d k line dam).1 := by
  have hread : s.MemWork (((s.bump (A.zstat d) 31 0 1).serveGranules d (placeLocal d (line * 64)).chan 1).readCode (placeLocal d (line * 64)) 0 3 dam).1 := by
    refine State.MemWork.trans ?_ (State.memWork_readCode _ hd 0 3 dam)
    refine State.MemWork.trans ?_ (State.memWork_serveGranules _ d _ 1)
    exact s.memWork_bump (by unfold A.zstat; omega) _ _ _
  unfold State.zfill
  dsimp only
  split
  · refine State.MemWork.trans ?_ (State.memWork_setBit (by unfold A.memEvents; omega) _ 4)
    exact hread.trans (State.memWork_setMem _ d _)
  · exact hread.trans (State.memWork_zcachePut _ d line k _ _)

theorem State.memWork_zline (s : State) {d : Nat} (hd : d < 4) (k line : Nat) : s.MemWork (s.zline d k line).1 := by
  unfold State.zline
  dsimp only
  split
  · exact .refl s
  · split
    · exact .refl s
    · exact s.memWork_zfill hd k line []

theorem State.memWork_zset (s : State) (d k line i : Nat) (bits : BitVec 512) (v : Bool) : s.MemWork (s.zset d k line i bits v) :=
  s.memWork_zcachePut d line k _ true

theorem State.memWork_rewriteMap (s : State) (o : Nat) : s.MemWork (s.rewriteMap o) := State.memWork_ite (s.memWork_setMem _ _)

/-! ### One granule (R185, R195, R199) -/

/-- A granule's codeword is read from its channel, and a locked operation run on it. -/
def State.onChannel (s : State) (p : Place) (o part req : Nat) (dam : Damage) (change : Option (List Byte → List Byte)) :
    State × Bool × List Byte :=
  let (s, bad) := s.readCode p part req dam
  let old := s.granuleBytes p
  match change with
  | none => (s, bad, old)
  | some f => if bad then (s, true, old) else ((s.storeGranule p (f old)).rewriteMap o, false, old)

/-- A granule is accessed by its bit of the map of its range. -/
def State.throughMap (s : State) (p : Place) (o part req : Nat) (dam : Damage) (change : Option (List Byte → List Byte)) (d k line i : Nat) :
    State × Bool × List Byte :=
  match s.zline d k line with
  | (s, none) => (s, true, zeroGranule)
  | (s, some bits) =>
    if bits.getLsbD i then s.onChannel p o part req dam change
    else match change with
      | none => (s.bumpKi (A.zstat d) 63 32 1, false, zeroGranule)
      | some f =>
        let new := f zeroGranule
        if new = zeroGranule then (s, false, zeroGranule)
        else (((s.setPoison p false).storeGranule p new).zset d k line i bits true, false, zeroGranule)

theorem State.granuleOp_eq (s : State) (o part req : Nat) (dam : Damage) (change : Option (List Byte → List Byte)) :
    s.granuleOp o part req dam change = match s.zrangeOf (fieldOf o 39 38) (fieldOf o 37 6 * 64) with
      | none => s.onChannel (s.place (o / 64 * 64)) o part req dam change
      | some k => s.throughMap (s.place (o / 64 * 64)) o part req dam change (fieldOf o 39 38) k
          (s.mapPlace (fieldOf o 39 38) k (fieldOf o 37 6 * 64)).1 (s.mapPlace (fieldOf o 39 38) k (fieldOf o 37 6 * 64)).2 := rfl

theorem State.memWork_onChannel (s : State) {p : Place} (hp : p.die < 4) (o part req : Nat) (dam : Damage)
    (change : Option (List Byte → List Byte)) : s.MemWork (s.onChannel p o part req dam change).1 := by
  have hread := s.memWork_readCode hp part req dam
  unfold State.onChannel
  dsimp only
  split
  · exact hread
  · split
    · exact hread
    · exact (hread.trans (State.memWork_storeGranule _ p _)).trans (State.memWork_rewriteMap _ o)

theorem State.memWork_throughMap (s : State) {p : Place} (hp : p.die < 4) (o part req : Nat) (dam : Damage)
    (change : Option (List Byte → List Byte)) {d : Nat} (hd : d < 4) (k line i : Nat) :
    s.MemWork (s.throughMap p o part req dam change d k line i).1 := by
  have hline := s.memWork_zline hd k line
  unfold State.throughMap
  split
  · next u hu => exact (hu ▸ hline : s.MemWork (u, none).1)
  · next u bits hu =>
    have hline : s.MemWork u := (hu ▸ hline : s.MemWork (u, some bits).1)
    split
    · exact hline.trans (u.memWork_onChannel hp o part req dam _)
    · split
      · exact hline.trans (u.memWork_bumpKi (by unfold A.zstat; omega) _ _ _)
      · dsimp only
        split
        · exact hline
        · refine hline.trans ?_
          refine State.MemWork.trans ?_ (State.memWork_zset _ d k line i bits true)
          exact (u.memWork_setPoison p false).trans (State.memWork_storeGranule _ p _)

theorem State.memWork_granuleOp (s : State) (o part req : Nat) (dam : Damage) (change : Option (List Byte → List Byte)) :
    s.MemWork (s.granuleOp o part req dam change).1 := by
  have hd : fieldOf o 39 38 < 4 := Nat.mod_lt _ (by decide)
  rw [State.granuleOp_eq]
  split
  · exact s.memWork_onChannel (s.place_die_lt _) o part req dam change
  · exact s.memWork_throughMap (s.place_die_lt _) o part req dam change hd _ _ _

/-- A whole granule written on its channel. -/
theorem State.memWork_overwrite (s : State) (p : Place) (o : Nat) (bs : List Byte) (bad : Bool) :
    s.MemWork (((s.setPoison p bad).storeGranule p bs).rewriteMap o) :=
  ((s.memWork_setPoison p bad).trans (State.memWork_storeGranule _ p bs)).trans (State.memWork_rewriteMap _ o)

theorem State.memWork_writeGranule (s : State) (o : Nat) (bs : List Byte) (bad : Bool) : s.MemWork (s.writeGranule o bs bad) := by
  have hd : fieldOf o 39 38 < 4 := Nat.mod_lt _ (by decide)
  unfold State.writeGranule
  dsimp only
  split
  · exact s.memWork_overwrite _ o bs bad
  · next k _ =>
    have hline := s.memWork_zline hd k (s.mapPlace (fieldOf o 39 38) k (fieldOf o 37 6 * 64)).1
    split
    · next u hu => exact (hu ▸ hline : s.MemWork (u, none).1)
    · next u bits hu =>
      have hline : s.MemWork u := (hu ▸ hline : s.MemWork (u, some bits).1)
      split
      · exact hline.trans (u.memWork_zset _ k _ _ bits false)
      · exact (hline.trans (u.memWork_overwrite _ o bs bad)).trans (State.memWork_zset _ _ k _ _ bits true)

theorem State.memWork_perform (s : State) (r : MemReq) (dam : Damage) : s.MemWork (s.perform r dam).1 := by
  unfold State.perform
  dsimp only
  split
  · exact s.memWork_granuleOp _ _ _ _ _
  · split
    · exact s.memWork_writeGranule _ _ _
    · exact s.memWork_granuleOp _ _ _ _ _
  · exact s.memWork_granuleOp _ _ _ _ _

/-! ### Requests (R185, R188 to R190) -/

theorem State.memWork_lcTake (s : State) {d : Nat} (hd : d < 4) (c g : Nat) (ahead : Bool) : s.MemWork (s.lcTake d c g ahead) := by
  unfold State.lcTake
  split
  · exact s.memWork_setMem d _
  · exact s.memWork_setBit (by unfold A.memEvents; omega) 5

theorem State.memWork_useChannel (s : State) (r : MemReq) (g : Nat) : s.MemWork (s.useChannel r g) := by
  unfold State.useChannel
  split
  · exact .refl s
  · refine State.MemWork.trans ?_ (State.memWork_ite (State.memWork_lcTake _ (s.place_die_lt _) _ _ _))
    exact (s.memWork_setMem _ _).trans (State.memWork_serveGranules _ _ _ _)

theorem State.memWork_serve (s : State) (d : Nat) (r : MemReq) (dam : Damage) : s.MemWork (s.serve d r dam) := by
  unfold State.serve
  refine State.MemWork.trans ?_ (State.memWork_emit _ _)
  exact (s.memWork_useChannel r _).trans (State.memWork_perform _ r dam)

theorem State.memWork_settle (s : State) (p : Place) : s.MemWork (s.settle p) := by
  unfold State.settle
  refine State.MemWork.trans ?_ (State.memWork_foldl _ (fun (s : State) (r : MemReq) => s.memWork_serve p.die r []) _ _)
  exact s.memWork_setMem _ _

theorem State.memWork_chargeIf (s : State) (paid : Bool) {d k : Nat} (hd : d < 4) (hk : k < 16) (req g : Nat) (lc : Bool) :
    s.MemWork (s.chargeIf paid d k req g lc) := by
  have hcount : ∀ (u : State) (hi lo n : Nat), u.MemWork (u.bumpKi (A.memPcnt d k) hi lo n) := fun u hi lo n =>
    u.memWork_bumpKi (by unfold A.memPcnt; omega) hi lo n
  unfold State.chargeIf
  split
  · exact .refl s
  · refine State.MemWork.trans ?_ (State.memWork_ite (hcount _ _ _ _))
    refine State.MemWork.trans ?_ (hcount _ _ _ _)
    exact State.memWork_ite (s.memWork_setMem d _)

theorem State.memWork_takePiece (s : State) (paid : Nat → Bool) {q : MemReq} (hq : q.part < 16) (g : Nat) : s.MemWork (s.takePiece paid q g) :=
  (s.memWork_chargeIf _ (s.place_die_lt _) hq _ _ _).trans (State.memWork_useChannel _ q g)

theorem State.memWork_requestPiece (s : State) (paid : Nat → Bool) {q : MemReq} (hq : q.part < 16) : s.MemWork (s.requestPiece paid q).1 := by
  unfold State.requestPiece
  split
  · exact ((s.memWork_settle _).trans (State.memWork_takePiece _ paid hq _)).trans (State.memWork_perform _ q [])
  · exact .refl s

/-- The granules of a request are of its partition. -/
theorem MemReq.part_of_mem_reqGroups {l : List MemReq} {n : Nat} (h : ∀ q ∈ l, q.part < n) : ∀ g ∈ reqGroups l, ∀ q ∈ g, q.part < n := by
  unfold reqGroups
  induction l with
  | nil => exact fun g hg => by cases hg
  | cons r l ih =>
    have ih := ih fun q hq => h q (.tail _ hq)
    have hr := h r (.head _)
    rw [List.foldr_cons]
    generalize l.foldr (fun q acc => match acc with
      | g :: rest => if (g.map MemReq.granules).sum + MemReq.granules q ≤ 8 then (q :: g) :: rest else [q] :: acc
      | [] => [[q]]) [] = acc at ih
    intro g hg q hq
    match acc, ih with
    | [], _ =>
      obtain rfl := List.mem_singleton.mp hg
      exact List.mem_singleton.mp hq ▸ hr
    | a :: rest, ih =>
      dsimp only at hg
      split at hg
      · rcases List.mem_cons.mp hg with rfl | hg
        · rcases List.mem_cons.mp hq with rfl | hq
          · exact hr
          · exact ih a (.head _) q hq
        · exact ih g (.tail _ hg) q hq
      · rcases List.mem_cons.mp hg with rfl | hg
        · exact List.mem_singleton.mp hq ▸ hr
        · exact ih g hg q hq

theorem MemReq.part_of_mem_pieces {r q : MemReq} (h : q ∈ MemReq.pieces r) : q.part = r.part := by
  unfold MemReq.pieces at h
  split at h
  · cases h
  · obtain ⟨i, -, rfl⟩ := List.mem_map.mp h
    rfl

/-- A request of a block at module memory. -/
theorem State.memWork_request (s : State) {r : MemReq} (hr : r.part < 16) : s.MemWork (s.request r).1 := by
  have hpieces : ∀ (start : State) (g : List MemReq) (acc : State × Bool × List Byte), (∀ q ∈ g, q.part < 16) → s.MemWork acc.1 →
      s.MemWork (g.foldl (fun (acc : State × Bool × List Byte) q =>
        let (s, b, x) := acc.1.requestPiece (fun d => start.hasCredit d r.part) q
        (s, acc.2.1 || b, acc.2.2 ++ x)) acc).1 := by
    intro start g
    induction g with
    | nil => exact fun acc _ h => h
    | cons q g ih => exact fun acc hg h => ih _ (fun x hx => hg x (.tail _ hx)) (h.trans (State.memWork_requestPiece _ _ (hg q (.head _))))
  have hgroups : ∀ (l : List (List MemReq)) (acc : State × Bool × List Byte), (∀ g ∈ l, ∀ q ∈ g, q.part < 16) → s.MemWork acc.1 →
      s.MemWork (l.foldl (fun (acc : State × Bool × List Byte) g =>
        let start := acc.1
        g.foldl (fun (acc : State × Bool × List Byte) q =>
          let (s, b, x) := acc.1.requestPiece (fun d => start.hasCredit d r.part) q
          (s, acc.2.1 || b, acc.2.2 ++ x)) acc) acc).1 := by
    intro l
    induction l with
    | nil => exact fun acc _ h => h
    | cons g l ih => exact fun acc hl h => ih _ (fun x hx => hl x (.tail _ hx)) (hpieces _ g acc (hl g (.head _)) h)
  exact hgroups _ _ (MemReq.part_of_mem_reqGroups fun q hq => MemReq.part_of_mem_pieces hq ▸ hr) (.refl s)

/-- Bytes written for a partition. -/
theorem State.memWork_writeMem (s : State) (req o : Nat) {part : Nat} (hp : part < 16) (bs : List Byte) : s.MemWork (s.writeMem req part o bs).1 :=
  s.memWork_request hp

end Sys2Proof.Machine
end

section
/-! PROOF. RoCEv2 connections (O51; R243, R348 to R351, R355). -/
namespace Sys2Proof.Machine
open Sys2Proof

/-! ### What leaves on a connection (R337, R338) -/

/-- What leaves on connection n from the second state leaves as it would from the first. -/
structure State.SameRoute (n : Nat) (s u : State) : Prop where
  data : (u.qpAt n).data = (s.qpAt n).data
  linkUp : u.eth.linkUp = s.eth.linkUp
  cfg : u.reg (A.ethPcfg (s.qpAt n).port) = s.reg (A.ethPcfg (s.qpAt n).port)

theorem State.SameRoute.refl (n : Nat) (s : State) : State.SameRoute n s s := ⟨rfl, rfl, rfl⟩

theorem State.SameRoute.port {n : Nat} {s u : State} (h : State.SameRoute n s u) : (u.qpAt n).port = (s.qpAt n).port := by
  unfold Qp.port Qp.word
  rw [h.data]

theorem State.SameRoute.roceTo {n : Nat} {s u : State} (h : State.SameRoute n s u) (mac : Option (BitVec 48)) : u.roceTo n mac = s.roceTo n mac := by
  unfold State.roceTo State.vlanOf
  dsimp only
  rw [h.port, h.cfg]
  unfold Qp.word
  rw [h.data]

theorem State.SameRoute.setQp {n : Nat} {s u : State} (h : State.SameRoute n s u) {x : Qp} (hx : x.data = (s.qpAt n).data) :
    State.SameRoute n s (u.setQp n x) :=
  ⟨by rw [State.qpAt_setQp_self, hx], h.linkUp, h.cfg⟩

theorem State.SameRoute.memWork {n : Nat} {s u v : State} (h : State.SameRoute n s u) (k : u.MemWork v) : State.SameRoute n s v where
  data := by
    unfold State.qpAt
    rw [show v.eth.qp = u.eth.qp from (congrArg EthS.qp k.eth :)]
    exact h.data
  linkUp := (congrArg EthS.linkUp k.eth :).trans h.linkUp
  cfg := by
    have hport : (s.qpAt n).port < 2 := fld_lt _ 61 61
    refine (k.reg _ ?_ ?_).trans h.cfg
    · unfold checkReg A.ethPcfg A.selfCapt A.selfCaptCt A.cairnCounts A.cairnEvents A.evStat
      omega
    · unfold A.ethPcfg
      omega

theorem State.MemWork.qpAt {u v : State} (k : u.MemWork v) (n : Nat) : v.qpAt n = u.qpAt n := by
  unfold State.qpAt
  rw [show v.eth.qp = u.eth.qp from (congrArg EthS.qp k.eth :)]

theorem State.emitRoce_frame (s : State) (x : Qp) (o : Out) : { s.emitRoce x o with out := s.out } = s := by
  unfold State.emitRoce
  split <;> rfl

theorem State.qpAt_emitRoce (s : State) (x : Qp) (o : Out) (m : Nat) : (s.emitRoce x o).qpAt m = s.qpAt m := by
  unfold State.emitRoce
  split <;> rfl

theorem State.mem_emitRoce (s : State) (x : Qp) (o : Out) : (s.emitRoce x o).mem = s.mem := by
  unfold State.emitRoce
  split <;> rfl

/-- A port that is on and takes packets as long sends one: it is the last thing on the outbox. -/
def State.Answers (n : Nat) (s : State) (o : Out) (t : State) : Prop :=
  s.ethOn (s.qpAt n).port = true → Machine.roceBytes o ≤ s.field (A.ethPcfg (s.qpAt n).port) 13 0 → t.out.head? = some o

theorem State.SameRoute.answers {n : Nat} {s u : State} (h : State.SameRoute n s u) {x : Qp} (hx : x.port = (s.qpAt n).port) (o : Out) :
    State.Answers n s o (u.emitRoce x o) := by
  intro hon hfits
  have hon' : u.ethOn x.port = true := by
    unfold State.ethOn
    rw [hx, h.linkUp, h.cfg]
    exact hon
  have hfits' : Machine.roceBytes o ≤ u.field (A.ethPcfg x.port) 13 0 := by
    unfold State.field
    rw [hx, h.cfg]
    exact hfits
  unfold State.emitRoce
  rw [if_pos ⟨hon', hfits'⟩]
  rfl

/-- An acknowledgement goes to the source of what it answers. -/
theorem State.SameRoute.answers_roceAck {n : Nat} {s u : State} (k : State.SameRoute n s u) (h : RoceHead) (psn code : Nat) :
    State.Answers n s (.roceAck n (s.roceTo n (some h.mac)) psn code) (u.roceAck n h psn code) := by
  unfold State.roceAck
  rw [k.roceTo]
  exact k.answers k.port _

/-! ### Packets that a connection takes (R337, R348, R349, R351) -/

section OnConn
variable {s : State} {n : Nat} {h : RoceHead}

/-- A packet with the port's tag and its CRC, without a congestion mark, is taken as it is. -/
theorem State.onConn_of_heard (hon : s.roceOn n = true) (hvlan : s.vlanFits (s.qpAt n).port h.vlan = true) (hcrc : h.icrc = true) (hecn : h.ecn = false)
    (act : State → State) : s.onConn n h act = act s := by
  have hmark : s.ecnMark n h = s := by
    unfold State.ecnMark
    simp [hecn]
  unfold State.onConn
  dsimp only
  rw [if_neg (by simp [hon]), if_neg (by simp [hvlan]), if_neg (by simp [hcrc]), hmark]

theorem State.onConn_of_dropped (hdrop : s.roceOn n = false ∨ s.vlanFits (s.qpAt n).port h.vlan = true ∧ h.icrc = false) (act : State → State) :
    s.onConn n h act = s := by
  unfold State.onConn
  dsimp only
  by_cases hon : s.roceOn n = true
  · obtain ⟨hvlan, hcrc⟩ := hdrop.resolve_left (by simp [hon])
    rw [if_neg (by simp [hon]), if_neg (by simp [hvlan]), if_pos (by simp [hcrc])]
  · rw [if_pos (by simp [hon])]

theorem State.st_of_roceOn (hon : s.roceOn n = true) : (s.qpAt n).st = .ready := by
  unfold State.roceOn at hon
  rw [Bool.and_eq_true] at hon
  exact of_decide_eq_true hon.1

end OnConn

/-! ### Errors (R351) -/

/-- Entry to ERROR. -/
theorem State.connError_frame (s : State) (n cause : Nat) :
    let t := s.connError n cause
    (t.qpAt n).st = .error ∧ (t.qpAt n).err = cause ∧ (t.qpAt n).outstanding = []
      ∧ (s.partTag (s.qpAt n).part ≠ 0 → bit (t.reg A.epJobfault) (s.qpAt n).part = true) ∧ t.out = s.out := by
  unfold State.connError
  dsimp only
  generalize hu : (s.setQp n { s.qpAt n with st := .error, err := cause, outstanding := [], sentAt := none }).failConn n = u
  have hqp : u.qpAt n = { s.qpAt n with st := .error, err := cause, outstanding := [], sentAt := none } := hu ▸ State.qpAt_setQp_self s n _
  have htag : u.partTag (s.qpAt n).part = s.partTag (s.qpAt n).part := hu ▸ rfl
  have hout : u.out = s.out := hu ▸ rfl
  have hlogged := u.jobFault_logged n 11 (s.qpAt n).part (u.partTag (s.qpAt n).part) 0xFFFF 0 cause
  have hafter : (u.jobFault n 11 (s.qpAt n).part (u.partTag (s.qpAt n).part) 0xFFFF 0 cause).qpAt n = u.qpAt n := by
    have heth := (congrArg EthS.qp hlogged.eth :)
    show Tab.get _ _ n = Tab.get _ _ n
    rw [heth]
    split <;> rfl
  rw [hafter, hqp]
  refine ⟨rfl, rfl, rfl, fun ht => ?_, ?_⟩
  · rw [if_neg (by rw [htag]; exact ht)] at hlogged
    rw [hlogged.reg _ (by decide) (by decide) (by decide)]
    exact State.bit_setBit_self _ _ (by have := fld_lt ((s.qpAt n).word 0) 59 56; unfold Qp.part; omega)
  · rw [hlogged.out]
    split <;> exact hout

/-- What a connection in ERROR shows to the statement of O51. -/
def State.Faulted (n : Nat) (s : State) (cause : Nat) (t : State) : Prop :=
  (t.qpAt n).st = .error ∧ (t.qpAt n).err = cause ∧ (t.qpAt n).outstanding = []
    ∧ (s.partTag (s.qpAt n).part ≠ 0 → bit (t.reg A.epJobfault) (s.qpAt n).part = true)

theorem State.faulted_connError (s : State) (n cause : Nat) : State.Faulted n s cause (s.connError n cause) := by
  obtain ⟨h1, h2, h3, h4, -⟩ := s.connError_frame n cause
  exact ⟨h1, h2, h3, h4⟩

/-- A refusal with its NAK. -/
theorem State.faulted_nak (s : State) (n : Nat) (h : RoceHead) (psn code cause : Nat) :
    State.Faulted n s cause ((s.roceAck n h psn code).connError n cause)
      ∧ State.Answers n s (.roceAck n (s.roceTo n (some h.mac)) psn code) ((s.roceAck n h psn code).connError n cause) := by
  obtain ⟨h1, h2, h3, h4, hout⟩ := (s.roceAck n h psn code).connError_frame n cause
  have hqp : (s.roceAck n h psn code).qpAt n = s.qpAt n := s.qpAt_emitRoce _ _ n
  have htag : ∀ k, (s.roceAck n h psn code).partTag k = s.partTag k := fun k => by
    unfold State.roceAck State.emitRoce
    split <;> rfl
  rw [hqp, htag] at h4
  refine ⟨⟨h1, h2, h3, h4⟩, fun hon hfits => ?_⟩
  rw [hout]
  exact (State.SameRoute.refl n s).answers_roceAck h psn code hon hfits

/-! ### Requests at their responder (R348, R349) -/

/-- A packet that a connection takes as it is: the connection takes packets, the packet has the port's tag and its CRC, and no congestion mark. -/
def State.Heard (s : State) (n : Nat) (h : RoceHead) : Prop :=
  s.roceOn n = true ∧ s.vlanFits (s.qpAt n).port h.vlan = true ∧ h.icrc = true ∧ h.ecn = false

section Respond
variable {s : State} {n : Nat} {r : RoceReq}

theorem State.onConn_eq {h : RoceHead} (heard : s.Heard n h) (act : State → State) : s.onConn n h act = act s := by
  obtain ⟨hon, hvlan, hcrc, hecn⟩ := heard
  exact State.onConn_of_heard hon hvlan hcrc hecn act

/-- A request that is in sequence is performed. -/
theorem State.respond_inSequence (heard : s.Heard n r.head) (hpsn : r.head.psn.toNat = (s.qpAt n).rq) (perform : State → Qp → State)
    (again : State → State) : s.respond n r perform again = perform s (s.qpAt n) := by
  have hlt : r.head.psn.toNat < 2 ^ 24 := r.head.psn.isLt
  have hzero : psnDiff r.head.psn.toNat (s.qpAt n).rq = 0 := by
    unfold psnDiff seqDiff
    omega
  exact (State.onConn_eq heard _).trans (if_pos hzero)

/-- A request ahead of the sequence. -/
theorem State.respond_ahead (heard : s.Heard n r.head) (hrq : (s.qpAt n).rq < 2 ^ 24) (h0 : 0 < (r.head.psn.toNat + 2 ^ 24 - (s.qpAt n).rq) % 2 ^ 24)
    (hlt : (r.head.psn.toNat + 2 ^ 24 - (s.qpAt n).rq) % 2 ^ 24 < 2 ^ 23) (perform : State → Qp → State) (again : State → State) :
    s.respond n r perform again = s.roceAck n r.head (s.qpAt n).rq 1 := by
  have hdiff : psnDiff r.head.psn.toNat (s.qpAt n).rq = (r.head.psn.toNat + 2 ^ 24 - (s.qpAt n).rq) % 2 ^ 24 := by
    unfold psnDiff seqDiff
    rw [Nat.mod_eq_of_lt hrq]
  refine (State.onConn_eq heard _).trans ?_
  dsimp only
  rw [hdiff, if_neg (by omega), if_pos hlt]

theorem exec_rdmaWrite_inSequence (hn : n < 256) (heard : s.Heard n r.head) (hpsn : r.head.psn.toNat = (s.qpAt n).rq) :
    exec (.rdmaWrite n r) s = .next (s.performWrite n r (s.qpAt n)) :=
  (onUnit_next (decide_eq_true hn) _).trans (by rw [State.respond_inSequence heard hpsn])

/-- The first packet of a message, or its only one, is performed. -/
theorem State.performWrite_begun (hwriting : (s.qpAt n).writing = none) (hfits : (s.qpAt n).writeFits r = true) (hmay : s.roceMay (s.qpAt n) r = true) :
    s.performWrite n r (s.qpAt n) = ((((s.setQp n { s.qpAt n with
      rq := ((s.qpAt n).rq + 1) % 2 ^ 24
      writing := if r.len ≤ r.data.length then none else some (r.addr + r.data.length, r.len - r.data.length) }).writeMem 0 (s.qpAt n).part r.addr
        r.data).1).roceAck n r.head r.head.psn.toNat 0) := by
  unfold State.performWrite
  simp only [hwriting, Option.getD_none, Option.isNone_none, hfits, hmay, if_true, Bool.not_true, Bool.false_eq_true, if_false]

/-- What a packet of a message leaves that is performed: it is acknowledged. -/
theorem State.written_frame (y : Qp) (hy : y.data = (s.qpAt n).data) (addr : Nat) (bs : List Byte) (psn : Nat) :
    let u := ((s.setQp n y).writeMem 0 (s.qpAt n).part addr bs).1
    let t := u.roceAck n r.head psn 0
    t.qpAt n = y ∧ t.mem = u.mem ∧ State.Answers n s (.roceAck n (s.roceTo n (some r.head.mac)) psn 0) t := by
  intro u t
  have hwork : (s.setQp n y).MemWork u := State.memWork_writeMem _ 0 addr (fld_lt ((s.qpAt n).word 0) 59 56) bs
  have hroute : State.SameRoute n s u := ((State.SameRoute.refl n s).setQp hy).memWork hwork
  exact ⟨(State.qpAt_emitRoce _ _ _ _).trans ((hwork.qpAt n).trans (State.qpAt_setQp_self s n y)), State.mem_emitRoce _ _ _,
    hroute.answers_roceAck r.head psn 0⟩

/-- A packet that does not continue its message (R348). -/
theorem State.performWrite_invalid (hfits : (s.qpAt n).writeFits r = false) : s.performWrite n r (s.qpAt n) = s.invalidNak n r.head := by
  unfold State.performWrite
  simp only [hfits, Bool.not_false, if_true]

/-- The first packet of a message that the host may not write (R349). -/
theorem State.performWrite_denied (hwriting : (s.qpAt n).writing = none) (hfits : (s.qpAt n).writeFits r = true)
    (hmay : s.roceMay (s.qpAt n) r = false) : s.performWrite n r (s.qpAt n) = s.accessNak n r.head := by
  unfold State.performWrite
  simp only [hwriting, Option.getD_none, Option.isNone_none, hfits, hmay, if_true, Bool.not_true, Bool.not_false, Bool.false_eq_true, if_false]

theorem Qp.writeFits_only {x : Qp} (hwriting : x.writing = none) (hpart : r.part = .only) (hdata : r.data.length = r.len) (hlen : r.len ≤ x.pmtu) :
    x.writeFits r = true := by
  unfold Qp.writeFits
  simp [hwriting, hpart, hdata, hlen]

theorem Qp.writeFits_first {x : Qp} (hwriting : x.writing = none) (hpart : r.part = .first) (hdata : r.data.length = x.pmtu) (hlen : x.pmtu < r.len) :
    x.writeFits r = true := by
  unfold Qp.writeFits
  simp [hwriting, hpart, hdata, hlen]

/-! ### Reads at their responder -/

theorem State.foldl_memWork {α β : Type} (f : State × β → α → State × β) (l : List α) (hf : ∀ a : State × β, ∀ x ∈ l, a.1.MemWork (f a x).1) (a : State × β) :
    a.1.MemWork (l.foldl f a).1 := by
  induction l generalizing a with
  | nil => exact .refl _
  | cons x l ih => exact (hf a x (.head _)).trans (ih (fun b y hy => hf b y (.tail _ hy)) _)

/-- Reading for the host works at the memory controllers only. -/
theorem State.memWork_roceBytes (s : State) (x : Qp) (r : RoceReq) : s.MemWork (s.roceBytes x r).1 := by
  refine State.foldl_memWork _ _ (fun a q hq => ?_) (s, [])
  have hwork : a.1.MemWork (a.1.request q).1 :=
    State.memWork_request a.1 ((MemReq.part_of_mem_pieces hq).symm ▸ (fld_lt (x.word 0) 59 56 : x.part < 16))
  dsimp only
  split
  · exact hwork.trans ⟨rfl, rfl, fun _ _ _ => rfl⟩
  · exact hwork

theorem Qp.packets_of_le {x : Qp} {len : Nat} (h : len ≤ x.pmtu) : x.packets len = 1 := by
  have hpos : 0 < x.pmtu := Nat.mul_pos (by decide) (Nat.two_pow_pos _)
  have : ceilDiv len x.pmtu ≤ 1 := by
    unfold ceilDiv
    rw [← Nat.lt_succ_iff, Nat.div_lt_iff_lt_mul hpos]
    omega
  unfold Qp.packets
  omega

/-- Data of one packet leave as one response. -/
theorem State.sendResponses_one (s : State) (n : Nat) {x : Qp} (h : RoceHead) {bs : List Byte} (hlen : bs.length ≤ x.pmtu) :
    s.sendResponses n x h bs = s.emitRoce x (.roceReadResp n (s.roceTo n (some h.mac)) h.psn.toNat .only bs) := by
  unfold State.sendResponses
  have hpsn : (h.psn.toNat + 0) % 2 ^ 24 = h.psn.toNat := Nat.mod_eq_of_lt h.psn.isLt
  simp only [Qp.packets_of_le hlen, List.range_one, List.foldl_cons, List.foldl_nil, hpsn, Nat.zero_mul, List.drop_zero, List.take_of_length_le hlen]
  rfl

/-- A read of one packet: what the connection keeps, and its response. -/
theorem State.giveRead_one (y : Qp) (hy : y.data = (s.qpAt n).data) (hlen : ((s.setQp n y).roceBytes y r).2.length ≤ y.pmtu) :
    ((((s.setQp n y).giveRead n r).qpAt n).rq = y.rq)
      ∧ State.Answers n s (.roceReadResp n (s.roceTo n (some r.head.mac)) r.head.psn.toNat .only ((s.setQp n y).roceBytes y r).2)
        ((s.setQp n y).giveRead n r) := by
  have hwork := (s.setQp n y).memWork_roceBytes y r
  have hroute : State.SameRoute n s ((s.setQp n y).roceBytes y r).1 := ((State.SameRoute.refl n s).setQp hy).memWork hwork
  have hqp := (hwork.qpAt n).trans (State.qpAt_setQp_self s n y)
  unfold State.giveRead
  rw [State.qpAt_setQp_self]
  dsimp only
  rw [State.sendResponses_one _ n r.head hlen, hqp]
  have hroute' := hroute.setQp (x := { y with hit := y.hit.erase r.head.psn.toNat }) hy
  refine ⟨by rw [State.qpAt_emitRoce, State.qpAt_setQp_self], ?_⟩
  rw [hroute'.roceTo]
  exact hroute'.answers (by unfold Qp.port Qp.word; rw [hy]) _

/-- A read request that is in sequence and no part of a WRITE message. -/
theorem exec_rdmaReadRequest_inSequence (hn : n < 256) (heard : s.Heard n r.head) (hpsn : r.head.psn.toNat = (s.qpAt n).rq)
    (hwriting : (s.qpAt n).writing = none) (hpart : r.part = .only) :
    exec (.rdmaReadRequest n r) s = .next (if !s.roceMay (s.qpAt n) r then s.accessNak n r.head
      else (s.setQp n { s.qpAt n with rq := ((s.qpAt n).rq + (s.qpAt n).packets r.len) % 2 ^ 24 }).giveRead n r) := by
  have hbegin : ¬ (((s.qpAt n).writing.isSome || r.part != .only) = true) := by simp [hwriting, hpart]
  exact (onUnit_next (decide_eq_true hn) _).trans (by rw [State.respond_inSequence heard hpsn, if_neg hbegin])

end Respond

/-! ### Answers at their requester (R350, R351) -/

/-- What waits on a descriptor is answered: its bytes are counted. -/
theorem State.descAt_roceDone (s : State) (o : RoceOut) (k : Nat) (whole : Bool) {d : Desc} (hd : s.descAt o.die o.id = some d) :
    ((s.roceDone o k whole).descAt o.die o.id).map Desc.bytes = some (d.bytes + k) := by
  unfold State.descAt at hd ⊢
  have hcopy : ((s.roceDone o k whole).copyAt o.die).descs = (s.copyAt o.die).descs.map fun (x : Desc) =>
      if x.id = o.id then { x with outstanding := x.outstanding - b2n whole, bytes := x.bytes + k } else x := by
    show (State.copyAt _ _).descs = _
    unfold State.roceDone State.onDesc
    rw [State.copyAt_setCopy_self]
  rw [hcopy, List.find?_map]
  have hid : ((fun (x : Desc) => x.id == o.id) ∘ fun (x : Desc) =>
      if x.id = o.id then { x with outstanding := x.outstanding - b2n whole, bytes := x.bytes + k } else x) = fun x => x.id == o.id := by
    funext x
    dsimp only [Function.comp]
    split <;> rfl
  rw [hid, hd]
  have : d.id = o.id := by simpa using List.find?_some hd
  simp [this]

/-- The only entry of a connection is answered: nothing waits, the retries start again, and the descriptor counts its bytes. -/
theorem State.answered_frame (u : State) (n : Nat) (y : Qp) (o : RoceOut) (k : Nat) (whole : Bool) :
    let t := (u.setQp n y).roceDone o k whole
    t.qpAt n = y ∧ (∀ m, t.coreAt m = u.coreAt m)
      ∧ ∀ d, u.descAt o.die o.id = some d → (t.descAt o.die o.id).map Desc.bytes = some (d.bytes + k) :=
  ⟨State.qpAt_setQp_self u n y, fun _ => rfl, fun _ hd => State.descAt_roceDone _ o k whole hd⟩

section Answer
variable {s : State} {n : Nat} {o : RoceOut}

/-- An acknowledgement of the only write that waits. -/
theorem State.ackBefore_next (hout : (s.qpAt n).outstanding = [o]) (hpsn : o.psn < 2 ^ 24) (hread : o.read = false) :
    s.ackBefore n ((o.psn + 1) % 2 ^ 24)
      = (s.setQp n { s.qpAt n with outstanding := [], retries := 0, sentAt := none }).roceDone o o.len true := by
  have hdiff : 8388608 ≤ psnDiff o.psn ((o.psn + 1) % 2 ^ 24) := by
    unfold psnDiff seqDiff
    omega
  unfold State.ackBefore
  generalize (o.psn + 1) % 2 ^ 24 = p at hdiff ⊢
  simp [hout, hread, hdiff]

/-- A read that waits is not acknowledged. -/
theorem State.ackBefore_read (hout : (s.qpAt n).outstanding = [o]) (hread : o.read = true) (psn : Nat) : s.ackBefore n psn = s := by
  unfold State.ackBefore
  simp [hout, hread]

/-- The one response of a read of one packet. -/
theorem State.readResponse_only {r : RoceReq} (hout : (s.qpAt n).outstanding = [o]) (hread : o.read = true) (hfresh : o.part ≠ .middle)
    (hpsn : r.head.psn.toNat = o.psn) (hpart : r.part = .only) (hdata : r.data.length = o.len) (hlen : o.len ≤ (s.qpAt n).pmtu) :
    s.readResponse n r = ((s.setCore o.core { s.coreAt o.core with store := Memory.write (s.coreAt o.core).store o.addr r.data }).setQp n
      { s.qpAt n with outstanding := [], retries := 0, sentAt := none }).roceDone o o.len true := by
  have hfits : (s.qpAt n).responseFits o r = true := by
    unfold Qp.responseFits
    simp [hfresh, hpart, hdata, hlen]
  have hqp : (s.setCore o.core { s.coreAt o.core with store := Memory.write (s.coreAt o.core).store o.addr r.data }).qpAt n = s.qpAt n := rfl
  unfold State.readResponse
  simp only [hout, hread, List.find?_cons_of_pos, hpsn, hfits, ne_eq, not_true_eq_false, decide_false, Bool.not_true, Bool.or_false, Bool.false_eq_true,
    if_false, hdata, Nat.le_refl, decide_true, if_true]
  rw [State.ackBefore_read (hqp ▸ hout) hread, hqp, hout]
  simp

/-- Everything that waits is sent once more. -/
theorem State.resend_one (hout : (s.qpAt n).outstanding = [o]) (hretries : (s.qpAt n).retries < 7) :
    let y : Qp := { s.qpAt n with
      retries := (s.qpAt n).retries + 1, sentAt := some s.clk, outstanding := [{ o with part := if o.read then .only else o.part }] }
    (s.resend n).qpAt n = y ∧ State.Answers n s (if o.read then .roceReadReq n (s.roceTo n none) o.psn (BitVec.ofNat 64 o.rva) o.len
      else .roceWrite n (s.roceTo n none) o.psn o.part (BitVec.ofNat 64 o.rva) o.len
        (Memory.bytes (s.coreAt o.core).store o.addr o.len)) (s.resend n) := by
  intro y
  have hroute : State.SameRoute n s (s.setQp n y) := (State.SameRoute.refl n s).setQp rfl
  have hentry : (if o.read then { o with part := RocePart.only } else o) = { o with part := if o.read then RocePart.only else o.part } := by
    split <;> rfl
  have hresend : s.resend n = (s.setQp n y).sendRoce n (s.qpAt n) { o with part := if o.read then .only else o.part } := by
    unfold State.resend
    simp only [hout, List.map_cons, List.map_nil, List.foldl_cons, List.foldl_nil, hentry]
    rw [if_neg (by omega)]
  rw [hresend]
  unfold State.sendRoce
  refine ⟨(State.qpAt_emitRoce _ _ _ _).trans (State.qpAt_setQp_self s n y), ?_⟩
  rw [hroute.roceTo]
  have hanswer := hroute.answers (x := s.qpAt n) rfl (if o.read then .roceReadReq n (s.roceTo n none) o.psn (BitVec.ofNat 64 o.rva) o.len
      else .roceWrite n (s.roceTo n none) o.psn o.part (BitVec.ofNat 64 o.rva) o.len
        (Memory.bytes (s.coreAt o.core).store o.addr o.len))
  cases hread : o.read
  · rw [show (s.setQp n y).coreAt o.core = s.coreAt o.core from rfl]
    simpa only [hread, Bool.false_eq_true, if_false] using hanswer
  · simpa only [hread, if_true] using hanswer

end Answer

/-- A local timeout is due. -/
theorem exec_rdmaLocalTimeout_due {s : State} {n y : Nat} {o : RoceOut} (hn : n < 256) (hst : (s.qpAt n).st = .ready)
    (hout : (s.qpAt n).outstanding = [o]) (hsent : (s.qpAt n).sentAt = some y) (hdue : y + 8192 * 2 ^ fld ((s.qpAt n).word 0) 52 48 ≤ s.clk) :
    exec (.rdmaLocalTimeout n) s = .next (s.resend n) := by
  refine (onUnit_next (decide_eq_true hn) _).trans ?_
  dsimp only
  rw [hsent]
  dsimp only
  rw [if_pos ⟨hst, by simp [hout], hdue⟩]

/-- After 7 retries without progress the connection enters ERROR. -/
theorem State.resend_exhausted {s : State} {n : Nat} (h : 7 ≤ (s.qpAt n).retries) : s.resend n = s.connError n 1 := if_pos h

/-! ### Packets that a connection does not take -/

theorem exec_of_dropped {s : State} {n : Nat} {r : RoceReq} (hn : n < 256)
    (hdrop : s.roceOn n = false ∨ s.vlanFits (s.qpAt n).port r.head.vlan = true ∧ r.head.icrc = false) (code : AckCode) (i : Instr)
    (hi : i ∈ [Instr.rdmaWrite n r, .rdmaReadRequest n r, .rdmaReadResponse n r, .acknowledge n r.head code, .rdmaUnsupportedOpcode n r.head]) :
    exec i s = .next s := by
  have hdropped : ∀ act, onUnit (n < numConns) (s.onConn n r.head act) = .next s := fun act =>
    (onUnit_next (decide_eq_true hn) _).trans (by rw [State.onConn_of_dropped hdrop])
  simp only [List.mem_cons, List.not_mem_nil, or_false] at hi
  obtain rfl | rfl | rfl | rfl | rfl := hi <;> exact hdropped _

/-! ### Registers (R355) -/

theorem maskOf_ones (v : W64) : v &&& maskOf 63 0 = v := by
  have : maskOf 63 0 = BitVec.allOnes 64 := by decide
  rw [this, BitVec.and_allOnes]

/-- Loading QPDATA writes the registers QPDATA only. -/
theorem State.foldl_qpdata (f : Nat → W64) (ks : List Nat) (s : State) :
    let t := ks.foldl (fun s k => s.setReg (qpdataAddr k) (f k)) s
    (∀ a, (∀ k ∈ ks, a ≠ qpdataAddr k) → t.reg a = s.reg a) ∧ (ks.Nodup → ∀ k ∈ ks, t.reg (qpdataAddr k) = f k) ∧ { t with regs := s.regs } = s := by
  induction ks generalizing s with
  | nil => exact ⟨fun _ _ => rfl, (fun _ _ h => nomatch h), rfl⟩
  | cons j ks ih =>
    obtain ⟨hother, hset, hrest⟩ := ih (s.setReg (qpdataAddr j) (f j))
    refine ⟨fun a ha => ?_, fun hnodup k hk => ?_, ?_⟩
    · exact (hother a fun k hk => ha k (.tail _ hk)).trans (s.reg_setReg_ne _ (ha j (.head _)))
    · obtain ⟨hj, hks⟩ := List.nodup_cons.mp hnodup
      obtain rfl | hk := List.mem_cons.mp hk
      · refine (hother _ fun i hi e => hj ?_).trans (s.reg_setReg_self _ _)
        have : k = i := by
          unfold qpdataAddr at e
          omega
        exact this ▸ hi
      · exact hset hks k hk
    · exact (congrArg (fun u : State => { u with regs := s.regs }) hrest :)

/-- A write of QPSEL loads the registers QPDATA. -/
theorem State.selectQp_frame (s : State) (v : W64) :
    let x := s.qpAt (fld v 7 0)
    let t := s.selectQp v
    fld (t.reg A.qpsel) 7 0 = fld v 7 0 ∧ (∀ k, k < 7 → t.reg (qpdataAddr k) = (if k = 0 then x.word k &&& maskOf 61 0 else x.word k))
      ∧ { t with regs := s.regs, edge := s.edge } = s := by
  intro x t
  obtain ⟨hother, hset, hrest⟩ := State.foldl_qpdata (fun k => x.word k &&& (if k = 0 then maskOf 61 0 else maskOf 63 0)) (List.range 7)
    (s.putField A.qpsel 7 0 (fld v 7 0))
  refine ⟨?_, fun k hk => ?_, (congrArg (fun u : State => { u with regs := s.regs, edge := s.edge }) hrest :)⟩
  · refine (congrArg (fun w => fld w 7 0) ((hother A.qpsel (by decide)).trans (s.reg_setReg_self _ _))).trans ?_
    rw [fld_setFld_self _ _ (by decide)]
    exact Nat.mod_eq_of_lt (fld_lt v 7 0)
  · refine (hset List.nodup_range k (List.mem_range.mpr hk)).trans ?_
    split
    · rfl
    · exact maskOf_ones _

/-- COMMIT acts in RESET. -/
theorem State.commitQp_of_reset {s : State} (hst : (s.qpAt s.qpSelected).st = .reset) :
    s.commitQp = s.setQp s.qpSelected { Qp.init with
      data := (List.range 7).map fun k => s.reg (qpdataAddr k), st := .ready
      sq := fld (s.reg (qpdataAddr 1)) 23 0, rq := fld (s.reg (qpdataAddr 2)) 23 0 } := by
  unfold State.commitQp
  rw [if_pos hst]
  rfl

theorem Qp.word_of_range {x : Qp} {f : Nat → W64} (hx : x.data = (List.range 7).map f) {k : Nat} (hk : k < 7) : x.word k = f k := by
  unfold Qp.word
  rw [hx]
  simp [hk]

/-- RESET of the selected connection. -/
theorem State.resetQp_frame {s : State} {n : Nat} (hn : s.qpSelected = n) :
    let x := s.qpAt n
    let t := s.resetQp
    (t.qpAt n).st = .reset ∧ (t.qpAt n).outstanding = [] ∧ (x.outstanding ≠ [] → (t.qpAt n).err = 5) ∧ t.regs = s.regs
      ∧ ∀ m, m ≠ n → t.qpAt m = s.qpAt m := by
  subst hn
  intro x t
  have hself := State.qpAt_setQp_self s s.qpSelected { x with
    st := .reset, err := if !x.outstanding.isEmpty || s.copy.any fun e => e.2.descs.any fun (d : Desc) => descConn d.words == some s.qpSelected then 5 else x.err
    outstanding := [], sentAt := none, retries := 0 }
  refine ⟨congrArg Qp.st hself, congrArg Qp.outstanding hself, fun hout => (congrArg Qp.err hself).trans ?_, rfl, fun m hm => State.qpAt_setQp_ne s _ hm⟩
  simp [hout]

/-! ### The statement -/

/-- Requests in sequence at their responder. -/
theorem requests_inSequence {n : Nat} {r : RoceReq} {s : State} (hn : n < 256) (heard : s.Heard n r.head) (hpsn : r.head.psn.toNat = (s.qpAt n).rq) :
    let x := s.qpAt n
    let h := r.head
    let back := s.roceTo n (some h.mac)
    let advanced := fun (k : Nat) => s.setQp n { x with rq := (x.rq + k) % 2 ^ 24 }
    (x.writing = none → r.part = .only → r.data.length = r.len → r.len ≤ x.pmtu → s.roceMay x r = true → completes (.rdmaWrite n r) s fun t =>
        (t.qpAt n).rq = (x.rq + 1) % 2 ^ 24 ∧ (t.qpAt n).st = .ready ∧ State.Answers n s (.roceAck n back h.psn.toNat 0) t
          ∧ t.mem = ((advanced 1).writeMem 0 x.part r.addr r.data).1.mem)
      ∧ (x.writing = none → r.part = .first → r.data.length = x.pmtu → x.pmtu < r.len → s.roceMay x r = true → completes (.rdmaWrite n r) s fun t =>
        (t.qpAt n).writing = some (r.addr + x.pmtu, r.len - x.pmtu) ∧ State.Answers n s (.roceAck n back h.psn.toNat 0) t)
      ∧ (x.writeFits r = false → completes (.rdmaWrite n r) s fun t =>
        State.Faulted n s 4 t ∧ State.Answers n s (.roceAck n back h.psn.toNat 3) t)
      ∧ (x.writing = none → x.writeFits r = true → s.roceMay x r = false → completes (.rdmaWrite n r) s fun t =>
        State.Faulted n s 3 t ∧ State.Answers n s (.roceAck n back h.psn.toNat 2) t)
      ∧ (x.writing = none → r.part = .only → s.roceMay x r = true → ((advanced (x.packets r.len)).roceBytes x r).2.length ≤ x.pmtu →
        completes (.rdmaReadRequest n r) s fun t =>
        (t.qpAt n).rq = (x.rq + x.packets r.len) % 2 ^ 24
          ∧ State.Answers n s (.roceReadResp n back h.psn.toNat .only ((advanced (x.packets r.len)).roceBytes x r).2) t)
      ∧ (x.writing = none → r.part = .only → s.roceMay x r = false → completes (.rdmaReadRequest n r) s (State.Faulted n s 3)) := by
  intro x h back advanced
  have hwrite := exec_rdmaWrite_inSequence hn heard hpsn
  refine ⟨fun hw hpart hdata hlen hmay => ?_, fun hw hpart hdata hlen hmay => ?_, fun hfits => ?_, fun hw hfits hmay => ?_, fun hw hpart hmay hlen => ?_,
    fun hw hpart hmay => ?_⟩
  · refine ⟨_, hwrite, ?_⟩
    have hnone : (if r.len ≤ r.data.length then none else some (r.addr + r.data.length, r.len - r.data.length)) = x.writing := by
      rw [hw, if_pos (by omega)]
    rw [State.performWrite_begun hw (Qp.writeFits_only hw hpart hdata hlen) hmay, hnone]
    obtain ⟨hqp, hmem, hans⟩ := State.written_frame (r := r) { x with rq := (x.rq + 1) % 2 ^ 24 } rfl r.addr r.data h.psn.toNat
    exact ⟨congrArg Qp.rq hqp, (congrArg Qp.st hqp).trans (State.st_of_roceOn heard.1), hans, hmem⟩
  · refine ⟨_, hwrite, ?_⟩
    rw [State.performWrite_begun hw (Qp.writeFits_first hw hpart hdata hlen) hmay, hdata, if_neg (by omega)]
    obtain ⟨hqp, -, hans⟩ := State.written_frame (s := s) (n := n) (r := r)
      { x with rq := (x.rq + 1) % 2 ^ 24, writing := some (r.addr + x.pmtu, r.len - x.pmtu) } rfl r.addr r.data h.psn.toNat
    exact ⟨congrArg Qp.writing hqp, hans⟩
  · refine ⟨_, hwrite, ?_⟩
    rw [State.performWrite_invalid hfits]
    exact s.faulted_nak n h h.psn.toNat 3 4
  · refine ⟨_, hwrite, ?_⟩
    rw [State.performWrite_denied hw hfits hmay]
    exact s.faulted_nak n h h.psn.toNat 2 3
  · refine ⟨_, exec_rdmaReadRequest_inSequence hn heard hpsn hw hpart, ?_⟩
    rw [if_neg (by simp [x, hmay])]
    exact State.giveRead_one { x with rq := (x.rq + x.packets r.len) % 2 ^ 24 } rfl hlen
  · refine ⟨_, exec_rdmaReadRequest_inSequence hn heard hpsn hw hpart, ?_⟩
    rw [if_pos (by simp [x, hmay])]
    exact (s.faulted_nak n h h.psn.toNat 2 3).1

/-- Answers at a requester that waits for one of them. -/
theorem answers_at_requester {n : Nat} {r : RoceReq} {s : State} {o : RoceOut} (hn : n < 256) (heard : s.Heard n r.head)
    (hout : (s.qpAt n).outstanding = [o]) (hpsn : o.psn < 2 ^ 24) :
    let x := s.qpAt n
    let h := r.head
    (o.read = true → o.part ≠ .middle → h.psn.toNat = o.psn → r.part = .only → r.data.length = o.len → o.len ≤ x.pmtu →
        completes (.rdmaReadResponse n r) s fun t =>
        (t.coreAt o.core).store = Memory.write (s.coreAt o.core).store o.addr r.data ∧ (t.qpAt n).outstanding = []
          ∧ (t.qpAt n).retries = 0 ∧ (t.qpAt n).sentAt = none
          ∧ ∀ d, (s.descAt o.die o.id) = some d → (t.descAt o.die o.id).map Desc.bytes = some (d.bytes + o.len))
      ∧ (o.read = false → h.psn.toNat = o.psn → completes (.acknowledge n h .ack) s fun t =>
        (t.qpAt n).outstanding = [] ∧ (t.qpAt n).retries = 0 ∧ (t.qpAt n).sentAt = none
          ∧ ∀ d, (s.descAt o.die o.id) = some d → (t.descAt o.die o.id).map Desc.bytes = some (d.bytes + o.len))
      ∧ completes (.acknowledge n h .otherNak) s (State.Faulted n s 2) := by
  intro x h
  have hack : ∀ code, exec (.acknowledge n h code) s = .next (match code with
      | .ack => s.ackBefore n ((h.psn.toNat + 1) % 2 ^ 24)
      | .seqNak => (s.ackBefore n h.psn.toNat).resend n
      | .otherNak => s.connError n 2) := fun code =>
    (onUnit_next (decide_eq_true hn) _).trans (congrArg Host.Outcome.next (State.onConn_eq heard _))
  refine ⟨fun hread hfresh hp hpart hdata hlen => ?_, fun hread hp => ?_, ?_⟩
  · refine ⟨_, (onUnit_next (decide_eq_true hn) _).trans (congrArg Host.Outcome.next (State.onConn_eq heard _)), ?_⟩
    rw [State.readResponse_only hout hread hfresh hp hpart hdata hlen]
    obtain ⟨hqp, hcore, hdesc⟩ := State.answered_frame
      (s.setCore o.core { s.coreAt o.core with store := Memory.write (s.coreAt o.core).store o.addr r.data }) n
      { x with outstanding := [], retries := 0, sentAt := none } o o.len true
    exact ⟨by rw [hcore, State.coreAt_setCore_self], congrArg Qp.outstanding hqp, congrArg Qp.retries hqp, congrArg Qp.sentAt hqp, hdesc⟩
  · refine ⟨_, hack .ack, ?_⟩
    dsimp only
    rw [hp, State.ackBefore_next hout hpsn hread]
    obtain ⟨hqp, -, hdesc⟩ := State.answered_frame s n { x with outstanding := [], retries := 0, sentAt := none } o o.len true
    exact ⟨congrArg Qp.outstanding hqp, congrArg Qp.retries hqp, congrArg Qp.sentAt hqp, hdesc⟩
  · exact ⟨_, hack .otherNak, s.faulted_connError n 2⟩

/-- Settles O51, event by event. -/
theorem roceConnections : Obligations.RoceConnections := by
  unfold Obligations.RoceConnections
  intro n r s hn x faulted mtu answers h heard back advanced
  refine ⟨fun hh hpsn => requests_inSequence hn hh hpsn, fun hh hrq h0 hlt => ?_, fun o hh hout hpsn => answers_at_requester hn hh hout hpsn,
    fun o hst hout y hsent hdue => ⟨fun hretries => ?_, fun hretries => ?_⟩, fun hh => ?_, fun hon => ?_, fun hdrop code i hi => ?_, fun hon => ?_,
    fun hst hat hrate => ?_, fun v hv => ?_, fun v hv hsel hst => ?_, fun v hsel => ?_⟩
  · refine ⟨_, (onUnit_next (decide_eq_true hn) _).trans (congrArg Host.Outcome.next (State.respond_ahead hh hrq h0 hlt _ _)), ?_⟩
    exact ⟨State.qpAt_emitRoce _ _ _ _, State.mem_emitRoce _ _ _, (State.SameRoute.refl n s).answers_roceAck h x.rq 1⟩
  · exact ⟨_, exec_rdmaLocalTimeout_due hn hst hout hsent hdue, State.resend_one hout hretries⟩
  · refine ⟨_, exec_rdmaLocalTimeout_due hn hst hout hsent hdue, ?_⟩
    rw [State.resend_exhausted hretries]
    exact s.faulted_connError n 1
  · exact ⟨_, (onUnit_next (decide_eq_true hn) _).trans (congrArg Host.Outcome.next (State.onConn_eq hh _)), s.faulted_nak n h h.psn.toNat 3 4⟩
  · exact ⟨_, onUnit_next (decide_eq_true hn) _, if_pos hon⟩
  · exact ⟨s, exec_of_dropped hn hdrop code i hi, rfl⟩
  · exact ⟨_, onUnit_next (decide_eq_true hn) _, if_neg (by simp [hon])⟩
  · exact ⟨_, onUnit_next (decide_eq_true hn) _, if_pos ⟨hst, hat, hrate⟩⟩
  · have hframe := s.selectQp_frame v
    rw [hv] at hframe
    exact ⟨_, rfl, hframe⟩
  · have hcommit : s.writeQpcmd (v ||| 2) = s.commitQp := by
      unfold State.writeQpcmd
      rw [if_neg (by rw [bit_or, hv]; decide), if_pos (by rw [bit_or, show bit 2 1 = true from rfl, Bool.or_true])]
    refine ⟨_, rfl, ?_⟩
    rw [hcommit, State.commitQp_of_reset (by rw [hsel]; exact hst), hsel]
    dsimp only
    rw [State.qpAt_setQp_self]
    exact ⟨rfl, fun k hk => Qp.word_of_range (f := fun k => s.reg (qpdataAddr k)) rfl hk, rfl, rfl, rfl, rfl⟩
  · have hreset : s.writeQpcmd (v ||| 1) = s.resetQp := by
      unfold State.writeQpcmd
      rw [if_pos (by rw [bit_or, show bit 1 0 = true from rfl, Bool.or_true])]
    refine ⟨_, rfl, ?_⟩
    rw [hreset]
    exact State.resetQp_frame hsel

end Sys2Proof.Machine
end

section
/-! PROOF. The refutation of O28: a time frame in an uncorrectable codeword (R33, R292). -/
namespace Sys2Proof.Machine
open Sys2Proof

-- Evaluations side by side hold more threads than the memory of a check admits.
set_option Elab.async false

/-- Port 0 is trained, with its lane 0 at work. -/
def portTrained : State :=
  { State.reset with hub := { State.reset.hub with port := [(0, { Port.init with st := .up, rxLanes := 1 })] } }

/-- A time frame with CRC and first word in order, from a neighbour in FREE; the codeword in which it ends is uncorrectable. -/
def uncorrectableTimeFrame : CtlFrame := { ctlFrameOf 0 0 ⟨0, 0, 0, 0⟩ with tail := true }

theorem unheard_portTrained : ∃ t, exec (.timeFrameReceive 0 0 uncorrectableTimeFrame 0) portTrained = .next t ∧ (t.nbrAt 0).rxAt = none := by
  refine ⟨_, rfl, ?_⟩
  decide +kernel

/-- Refutes O28: a time frame in an uncorrectable codeword is discarded (R292), where the statement has its contents taken over. -/
theorem not_timeFramesAndStates : ¬ Obligations.TimeFramesAndStates := by
  unfold Obligations.TimeFramesAndStates
  intro h
  obtain ⟨-, -, htaken⟩ := h.1 0 0 uncorrectableTimeFrame 0 portTrained (by decide)
  obtain ⟨t, ht, hnone⟩ := unheard_portTrained
  have htakes : portTrained.takesCtl 0 0 uncorrectableTimeFrame 0 :=
    ⟨by decide +kernel, by decide +kernel, by decide +kernel, by decide +kernel, by decide +kernel, by decide +kernel⟩
  have hheard := ((htaken (by decide) htakes (by decide +kernel)).of_next ht).1
  rw [hnone] at hheard
  exact nomatch hheard

end Sys2Proof.Machine
end

section
/-! PROOF. A step on an empty queue (O2; log 2, log 115): one tick, and what passes in it leaves the cores' states alone, but for faults at
fetch. -/
namespace Sys2Proof.Machine
open Sys2Proof

/-! ### What passes of itself leaves states of cores alone -/

/-- Between two states work has gone on that changes no core's state, scalar registers or CORE.FAULT, and no time. -/
structure State.Quiet (s t : State) : Prop where
  clk : t.clk = s.clk
  bivAt : t.svc.bivAt = s.svc.bivAt
  core : ∀ n, (t.coreAt n).st = (s.coreAt n).st ∧ (t.coreAt n).s = (s.coreAt n).s
  fault : ∀ n, t.reg (A.coreFault n) = s.reg (A.coreFault n)

theorem State.Quiet.refl (s : State) : s.Quiet s := ⟨rfl, rfl, fun _ => ⟨rfl, rfl⟩, fun _ => rfl⟩

theorem State.Quiet.trans {s t u : State} (h : s.Quiet t) (k : t.Quiet u) : s.Quiet u where
  clk := k.clk.trans h.clk
  bivAt := k.bivAt.trans h.bivAt
  core n := ⟨(k.core n).1.trans (h.core n).1, (k.core n).2.trans (h.core n).2⟩
  fault n := (k.fault n).trans (h.fault n)

theorem State.quiet_foldl {α : Type} (f : State → α → State) (h : ∀ (s : State) (x : α), s.Quiet (f s x)) (l : List α) (s : State) :
    s.Quiet (l.foldl f s) := by
  induction l generalizing s with
  | nil => exact .refl s
  | cons x l ih => exact (h s x).trans (ih _)

theorem State.quiet_ite {c : Prop} [Decidable c] {s t : State} (h : s.Quiet t) : s.Quiet (if c then t else s) := by
  split
  · exact h
  · exact .refl s

/-- Registers other than CORE.FAULT count. -/
theorem State.quiet_bump (s : State) {a : Nat} (hi lo k : Nat) (ha : ∀ n, A.coreFault n ≠ a) : s.Quiet (s.bump a hi lo k) :=
  ⟨rfl, rfl, fun _ => ⟨rfl, rfl⟩, fun n => by rw [State.reg_bump, if_neg (ha n)]⟩

theorem State.quiet_setBit (s : State) {a : Nat} (i : Nat) (ha : ∀ n, A.coreFault n ≠ a) : s.Quiet (s.setBit a i) :=
  ⟨rfl, rfl, fun _ => ⟨rfl, rfl⟩, fun n => by rw [State.reg_setBit, if_neg (ha n)]⟩

theorem State.quiet_bumpKi (s : State) {a : Nat} (hi lo k : Nat) (ha : ∀ n, A.coreFault n ≠ a) : s.Quiet (s.bumpKi a hi lo k) :=
  (s.quiet_bump hi lo _ ha).trans ⟨rfl, rfl, fun _ => ⟨rfl, rfl⟩, fun _ => rfl⟩

theorem State.quiet_countWait (s : State) (m : Nat) : s.Quiet (s.countWait m) :=
  (s.quiet_bump (a := A.coreStalls m) 31 0 _ fun n => by unfold A.coreFault A.coreStalls; omega).trans
    ⟨rfl, rfl, fun _ => ⟨rfl, rfl⟩, fun _ => rfl⟩

theorem State.quiet_countWaits (s : State) : s.Quiet s.countWaits :=
  State.quiet_foldl _ (fun s _ => State.quiet_ite (s.quiet_countWait _)) _ _

/-! ### Optics -/

theorem State.quiet_emit (s : State) (o : Out) : s.Quiet (s.emit o) := ⟨rfl, rfl, fun _ => ⟨rfl, rfl⟩, fun _ => rfl⟩

theorem State.quiet_laneBlocks (s : State) : s.Quiet s.laneBlocks := by
  unfold State.laneBlocks
  dsimp only
  split
  · exact .refl s
  · refine State.Quiet.trans ?_ (State.quiet_foldl _ (fun s _ => State.quiet_foldl _ (fun s _ => s.quiet_emit _) _ _) _ _)
    exact State.quiet_foldl _ (fun s _ => State.quiet_foldl _ (fun s _ => State.quiet_ite (s.quiet_emit _)) _ _) _ _

theorem State.quiet_sendControl (s : State) (p q l ctype : Nat) (b : Words4) : s.Quiet (s.sendControl p q l ctype b) :=
  (State.quiet_ite ⟨rfl, rfl, fun _ => ⟨rfl, rfl⟩, fun _ => rfl⟩ : s.Quiet (if p < numPorts then (s.useLane p l 2).countDyn p 2 else s)).trans
    (State.quiet_emit _ _)

theorem State.quiet_identOn (s : State) (q p : Nat) : s.Quiet (s.identOn q p) :=
  State.quiet_foldl _ (fun s _ => State.Quiet.trans (t := { s with opt := { s.opt with seq := (s.opt.seq + 1) % 256 } })
    ⟨rfl, rfl, fun _ => ⟨rfl, rfl⟩, fun _ => rfl⟩ (State.quiet_sendControl _ _ _ _ _ _)) _ _

theorem State.quiet_sendIdents (s : State) : s.Quiet s.sendIdents :=
  (State.quiet_foldl _ (fun s _ => s.quiet_identOn _ _) _ _).trans (State.quiet_foldl _ (fun s _ => s.quiet_identOn _ _) _ _)

theorem State.quiet_lockRing (s : State) (q l : Nat) (dir : Bool) : s.Quiet (s.lockRing q l dir) :=
  ⟨rfl, rfl, fun _ => ⟨rfl, rfl⟩, fun _ => rfl⟩

theorem State.quiet_lockPos (s : State) (q : Nat) : s.Quiet (s.lockPos q) :=
  State.quiet_foldl _ (fun s l => (s.quiet_lockRing q l false).trans (State.quiet_lockRing _ q l true)) _ _

theorem State.quiet_lockRings (s : State) (p : Nat) : s.Quiet (s.lockRings p) := by
  unfold State.lockRings
  dsimp only
  refine (s.quiet_lockPos (s.posServing p)).trans ?_
  refine State.quiet_ite (State.Quiet.trans ?_ (State.quiet_lockPos _ _))
  exact ⟨rfl, rfl, fun _ => ⟨rfl, rfl⟩, fun _ => rfl⟩

theorem State.quiet_releasePort (s : State) (p : Nat) (fresh : Bool) : s.Quiet (s.releasePort p fresh) := by
  unfold State.releasePort
  dsimp only
  split
  · exact .refl s
  · split
    · exact State.quiet_ite ⟨rfl, rfl, fun _ => ⟨rfl, rfl⟩, fun _ => rfl⟩
    · refine State.Quiet.trans ?_ (State.quiet_lockRings _ p)
      exact ⟨rfl, rfl, fun _ => ⟨rfl, rfl⟩, fun _ => rfl⟩

theorem State.quiet_releasePorts (s : State) : s.Quiet s.releasePorts := by
  unfold State.releasePorts
  split
  · refine State.quiet_ite (State.Quiet.trans ?_ (State.quiet_foldl _ (fun s p => s.quiet_releasePort p true) _ _))
    exact ⟨rfl, rfl, fun _ => ⟨rfl, rfl⟩, fun _ => rfl⟩
  · exact .refl s

/-! ### Requests that wait to be sent -/

theorem State.quiet_setSrc (s : State) (e : Nat) (x : SrcPair) : s.Quiet (s.setSrc e x) := ⟨rfl, rfl, fun _ => ⟨rfl, rfl⟩, fun _ => rfl⟩

theorem State.quiet_sentNow (s : State) (q : Packet) : s.Quiet (s.sentNow q) := State.quiet_ite (s.quiet_setSrc _ _)

theorem State.quiet_leaving (s : State) (index : Nat) (q : Packet) : s.Quiet (s.leaving index q).1 := by
  unfold State.leaving
  split
  · exact .refl s
  · split
    · exact .refl s
    · refine State.Quiet.trans ?_ (State.quiet_sentNow _ _)
      exact State.quiet_ite ⟨rfl, rfl, fun _ => ⟨rfl, rfl⟩, fun _ => rfl⟩

theorem State.quiet_forward (s : State) (index : Nat) (q : Packet) : s.Quiet (s.forward index q) := by
  unfold State.forward
  dsimp only
  split
  · refine (s.quiet_leaving index q).trans ?_
    split <;> exact ⟨rfl, rfl, fun _ => ⟨rfl, rfl⟩, fun _ => rfl⟩
  · exact ⟨rfl, rfl, fun _ => ⟨rfl, rfl⟩, fun _ => rfl⟩

theorem State.quiet_launched (s : State) (u : Unacked) (demote : Bool) (index : Nat) :
    s.Quiet ((s.launch u demote).1.forward index (s.launch u demote).2) := (s.quiet_setSrc _ _).trans (State.quiet_forward _ _ _)

theorem State.quiet_chargeBudget (s : State) (q : Packet) (k : Nat) : s.Quiet (s.chargeBudget q k) := by
  unfold State.chargeBudget
  split
  · exact .refl s
  · exact ⟨rfl, rfl, fun _ => ⟨rfl, rfl⟩, fun _ => rfl⟩

theorem State.quiet_countDemoted (s : State) (p : Nat) : s.Quiet (s.countDemoted p) := by
  refine State.Quiet.trans (s.quiet_setBit (a := A.hubEvents) 2 fun n => by unfold A.coreFault A.hubEvents; omega) ?_
  refine State.Quiet.trans (State.quiet_bump _ (a := A.pcnt p) 15 0 1 fun n => by unfold A.coreFault A.pcnt; omega) ?_
  exact ⟨rfl, rfl, fun _ => ⟨rfl, rfl⟩, fun _ => rfl⟩

theorem State.quiet_pumpOne (x : State × Pump) (u : Unacked) : x.1.Quiet (State.pumpOne x u).1 := by
  obtain ⟨s, p⟩ := x
  unfold State.pumpOne
  dsimp only
  split
  · split
    · exact .refl s
    · exact (s.quiet_chargeBudget u.q 16).trans ⟨rfl, rfl, fun _ => ⟨rfl, rfl⟩, fun _ => rfl⟩
  · split
    · exact .refl s
    · split
      · split
        · exact .refl s
        · exact s.quiet_launched u true _
      · split
        · split
          · refine State.Quiet.trans ?_ (State.quiet_launched _ u true _)
            split
            · exact s.quiet_countDemoted _
            · exact .refl s
          · exact .refl s
        · split
          · exact .refl s
          · exact (s.quiet_chargeBudget u.q _).trans (State.quiet_launched _ u false _)

theorem State.quiet_pump (s : State) : s.Quiet s.pump := by
  have hall : ∀ (l : List Unacked) (x : State × Pump), x.1.Quiet (l.foldl State.pumpOne x).1 := by
    intro l
    induction l with
    | nil => exact fun x => .refl x.1
    | cons u l ih => exact fun x => (State.quiet_pumpOne x u).trans (ih _)
  have hstart : s.Quiet { s with hub := { s.hub with dynWait := [] } } := ⟨rfl, rfl, fun _ => ⟨rfl, rfl⟩, fun _ => rfl⟩
  exact (hstart.trans (hall s.hub.dynWait ({ s with hub := { s.hub with dynWait := [] } }, ⟨[], []⟩))).trans
    ⟨rfl, rfl, fun _ => ⟨rfl, rfl⟩, fun _ => rfl⟩

theorem State.quiet_applyDetour (s : State) (p : Nat) : s.Quiet (s.applyDetour p) := by
  refine State.quiet_ite (State.Quiet.trans ?_ (State.quiet_pump _))
  exact ⟨rfl, rfl, fun _ => ⟨rfl, rfl⟩, fun _ => rfl⟩

theorem State.quiet_detoursDue (s : State) : s.Quiet s.detoursDue :=
  State.quiet_foldl _ (fun s _ => State.quiet_ite (s.quiet_applyDetour _)) _ _

/-! ### Arrays -/

theorem State.quiet_setPos (s : State) (m j : Nat) (x : Pos) : s.Quiet (s.setPos m j x) where
  clk := rfl
  bivAt := rfl
  core n := by
    unfold State.setPos
    rw [State.coreAt_setCore]
    split
    · next h => exact h ▸ ⟨rfl, rfl⟩
    · exact ⟨rfl, rfl⟩
  fault _ := rfl

theorem State.quiet_posCycle (s : State) (m j : Nat) : s.Quiet (s.posCycle m j) := by
  unfold State.posCycle
  dsimp only
  split
  · refine State.Quiet.trans ?_ (State.quiet_bumpKi _ 63 32 1 fun n => by unfold A.coreFault A.acnt; omega)
    exact (s.quiet_setPos m j ((s.posAt m j).cycle s.clk s.free).1).trans ⟨rfl, rfl, fun _ => ⟨rfl, rfl⟩, fun _ => rfl⟩
  · split
    · exact .refl s
    · exact s.quiet_setPos m j _

theorem State.quiet_arrayCycles (s : State) : s.Quiet s.arrayCycles :=
  State.quiet_foldl _ (fun _ _ => State.quiet_ite (State.quiet_foldl _ (fun s _ => s.quiet_posCycle _ _) _ _)) _ _

/-- What follows the tick, up to a bivouac. -/
theorem State.quiet_afterTick (s : State) : s.Quiet s.laneBlocks.sendIdents.arrayCycles.releasePorts.detoursDue :=
  s.quiet_laneBlocks.trans <| (State.quiet_sendIdents _).trans <| (State.quiet_arrayCycles _).trans <|
    (State.quiet_releasePorts _).trans (State.quiet_detoursDue _)

/-! ### A bivouac takes no time -/

theorem State.clk_foldl {α : Type} (f : State → α → State) (h : ∀ (s : State) (x : α), (f s x).clk = s.clk) (l : List α) (s : State) :
    (l.foldl f s).clk = s.clk := by
  induction l generalizing s with
  | nil => rfl
  | cons x l ih => exact (ih _).trans (h s x)

theorem State.clk_ite {c : Prop} [Decidable c] {s t : State} (h : t.clk = s.clk) : (if c then t else s).clk = s.clk := by
  split
  · exact h
  · rfl

theorem State.clk_voidDirect (s : State) (d : Nat) : (s.voidDirect d).clk = s.clk := by
  unfold State.voidDirect
  dsimp only
  split <;> rfl

theorem State.Checked.clk {s t : State} (h : s.Checked t) : t.clk = s.clk := by
  rw [← h.rest]

theorem State.clk_endMismatches (s : State) (d : Nat) : (s.endMismatches d).clk = s.clk :=
  ((s.checked_setOpen _).trans (State.checked_closeMismatches _)).clk

theorem State.clk_resetRegs (s : State) (lo hi : Nat) : (s.resetRegs lo hi).clk = s.clk := rfl

theorem State.clk_accrueSlow (s : State) : s.accrueSlow.clk = s.clk := rfl

theorem State.clk_dropUncrossed (s : State) (d : Nat) : (s.dropUncrossed d).clk = s.clk := rfl

theorem State.clk_coreDown (s : State) (d : Nat) : (s.coreDown d).clk = s.clk := by
  have hbefore : (((s.dropUncrossed d).voidDirect d).endMismatches d).accrueSlow.clk = s.clk := by
    rw [State.clk_accrueSlow, State.clk_endMismatches, State.clk_voidDirect, State.clk_dropUncrossed]
  unfold State.coreDown
  dsimp only
  generalize (((s.dropUncrossed d).voidDirect d).endMismatches d).accrueSlow = u at hbefore
  rw [State.clk_resetRegs, State.clk_resetRegs, State.clk_resetRegs, State.clk_resetRegs]
  exact hbefore

theorem State.clk_loseMemory (s : State) (d : Nat) : (s.loseMemory d).clk = s.clk := rfl

theorem State.clk_linkEndDown (s : State) (d : Nat) : (s.linkEndDown d).clk = s.clk := rfl

theorem State.clk_withoutMem (s : State) (d : Nat) : (s.withoutMem d).clk = s.clk := rfl

theorem State.clk_memDown (s : State) (d : Nat) : (s.memDown d).clk = s.clk := by
  rw [State.memDown_eq, State.clk_withoutMem, State.clk_linkEndDown, State.clk_resetRegs, State.clk_loseMemory, State.clk_coreDown]

theorem State.clk_testsDone (s : State) : s.testsDone.clk = s.clk := State.clk_ite rfl

theorem State.clk_answerOffline (s : State) (d : Nat) (r : MemReq) : (s.answerOffline d r).clk = s.clk := by
  unfold State.answerOffline
  dsimp only
  split <;> split <;> rfl

theorem State.clk_faultParts (s : State) (index cause : Nat) (p : Nat → Bool) : (s.faultParts index cause p).clk = s.clk :=
  State.clk_foldl _ (fun (u : State) _ => State.jobFault_clk u _ _ _ _ _ _ _) _ _

theorem State.clk_fenceDie (s : State) (d : Nat) : (s.fenceDie d 4).clk = s.clk := by
  unfold State.fenceDie
  dsimp only
  rw [State.clk_testsDone, State.clk_foldl]
  · rw [if_neg (by decide), State.clk_loseMemory, State.clk_coreDown, State.clk_faultParts,
      State.clk_foldl _ (fun u r => u.clk_answerOffline d r), State.report_clk]
    exact State.clk_ite rfl
  · intro u j
    split <;> rfl

theorem State.clk_intoBivouac (s : State) : s.intoBivouac.clk = s.clk := State.clk_ite rfl

theorem State.clk_dropCores (s : State) : s.dropCores.clk = s.clk := by
  unfold State.dropCores
  dsimp only
  rw [State.clk_intoBivouac, State.clk_foldl _ (fun u d => u.clk_coreDown d), State.clk_foldl]
  intro u k
  split
  · exact State.jobFault_clk _ _ _ _ _ _ _ _
  · rfl

theorem State.clk_enterBivouac (s : State) (memOff : Bool) : (s.enterBivouac memOff).clk = s.clk := by
  unfold State.enterBivouac
  dsimp only
  split
  · rfl
  · refine (State.clk_ite (State.clk_foldl _ (fun u d => State.clk_ite (u.clk_memDown d)) _ _)).trans ((State.clk_dropCores _).trans ?_)
    exact State.clk_ite (State.clk_foldl _ (fun u d => State.clk_ite (u.clk_fenceDie d)) _ _)

theorem State.clk_bivouacDue (s : State) : s.bivouacDue.clk = s.clk := by
  unfold State.bivouacDue
  split
  · exact State.clk_ite (State.clk_enterBivouac _ _)
  · rfl

/-! ### The tick and the faults at fetch -/

theorem State.tick_frame (s : State) : s.tick.clk = s.clk + 1 ∧ s.tick.core = s.core ∧ s.tick.regs = s.regs ∧ s.tick.svc = s.svc := by
  unfold State.tick
  dsimp only
  split
  · split <;> exact ⟨rfl, rfl, rfl, rfl⟩
  · exact ⟨rfl, rfl, rfl, rfl⟩

theorem State.clk_fetchFault (s : State) (n : Nat) : (s.fetchFault n).clk = s.clk := by
  unfold State.fetchFault
  dsimp only
  split
  · rfl
  · split
    · exact s.takeException_clk n _ _
    · exact State.clk_ite (s.takeException_clk n _ _)

theorem State.clk_fetchFaults (s : State) : s.fetchFaults.clk = s.clk := State.clk_foldl _ (fun u _ => State.clk_ite (u.clk_fetchFault _)) _ _

/-- An idle step takes one tick. -/
theorem State.clk_idleStep (s : State) : s.idleStep.clk = s.clk + 1 := by
  have hafter := s.countWaits.fetchFaults.tick.quiet_afterTick
  show (s.countWaits.fetchFaults.tick.laneBlocks.sendIdents.arrayCycles.releasePorts.detoursDue.bivouacDue).clk = _
  rw [State.clk_bivouacDue, hafter.clk, s.countWaits.fetchFaults.tick_frame.1, State.clk_fetchFaults, s.quiet_countWaits.clk]

/-- The exception of a RUNNING core, whatever its number. -/
theorem State.takeException_frame {s : State} {n : Nat} (hst : (s.coreAt n).st = .running) (cause : Cause) (pc : Nat) :
    let t := s.takeException n cause pc
    (t.coreAt n).st = .faulted ∧ (t.coreAt n).s = (s.coreAt n).s ∧ t.svc = s.svc
      ∧ t.reg (A.coreFault n) = BitVec.ofNat 64 (cause.code * 2 ^ 56 + pc % 2 ^ 20) := by
  intro t
  have hcore : t.coreAt n = (s.coreAt n).toFaulted := (s.coreAt_takeException n cause pc n).trans (if_pos ⟨rfl, .inl hst⟩)
  refine ⟨by rw [hcore]; rfl, by rw [hcore]; rfl, s.takeException_svc n cause pc, ?_⟩
  show (s.takeException n cause pc).reg _ = _
  unfold State.takeException
  dsimp only
  rw [if_pos (.inl hst)]
  split
  · rw [State.reg_jobFault_ne _ _ _ _ _ _ _ _ (by unfold A.coreFault A.epJobfault; omega) (by unfold A.coreFault A.cairnCounts; omega)
      (by unfold A.coreFault A.cairnEvents; omega) (by unfold A.coreFault A.evStat; omega), State.reg_setReg_self]
  · exact State.reg_setReg_self _ _ _

/-- A fault at fetch stands after the step. -/
theorem State.idleStep_faulted {s : State} {n : Nat} {c : Core} {cause : Cause} (hcore : s.core = [(n, c)]) (hst : c.st = .running)
    (hbiv : s.svc.bivAt = none) (hfetch : s.fetchFault n = s.takeException n cause c.pc) :
    let t := s.idleStep
    (t.coreAt n).st = .faulted ∧ (t.coreAt n).s = c.s ∧ t.reg (A.coreFault n) = BitVec.ofNat 64 (cause.code * 2 ^ 56 + c.pc % 2 ^ 20) := by
  intro t
  have hat : s.coreAt n = c := by
    unfold State.coreAt
    rw [hcore]
    exact Tab.get_put_self _ [] n c
  have hwaits : s.countWaits = s := by
    unfold State.countWaits
    rw [hcore]
    exact if_neg (by simp [hst])
  have hfaults : s.fetchFaults = s.takeException n cause c.pc := by
    unfold State.fetchFaults
    rw [hcore]
    exact (if_pos hst).trans hfetch
  obtain ⟨hfaulted, hs, hsvc, hreg⟩ := State.takeException_frame (hat ▸ hst) cause c.pc
  generalize s.takeException n cause c.pc = u at hfaults hfaulted hs hsvc hreg
  obtain ⟨-, htcore, htregs, htsvc⟩ := u.tick_frame
  have hafter := u.tick.quiet_afterTick
  have ht : t = u.tick.laneBlocks.sendIdents.arrayCycles.releasePorts.detoursDue := by
    show s.countWaits.fetchFaults.tick.laneBlocks.sendIdents.arrayCycles.releasePorts.detoursDue.bivouacDue = _
    rw [hwaits, hfaults]
    generalize u.tick.laneBlocks.sendIdents.arrayCycles.releasePorts.detoursDue = w at hafter
    unfold State.bivouacDue
    rw [hafter.bivAt, htsvc, hsvc, hbiv]
  have hticked : u.tick.coreAt n = u.coreAt n := by
    unfold State.coreAt
    rw [htcore]
  have hticked' : u.tick.reg (A.coreFault n) = u.reg (A.coreFault n) := by
    unfold State.reg
    rw [htregs]
  rw [ht]
  refine ⟨(hafter.core n).1.trans ?_, (hafter.core n).2.trans ?_, (hafter.fault n).trans (hticked'.trans hreg)⟩
  · rw [hticked, hfaulted]
  · rw [hticked, hs, hat]

/-- Settles O2: what passes in an idle step takes one tick, and a fault at fetch outlasts the rest of it. -/
theorem emptyQueueTicks : Obligations.EmptyQueueTicks := by
  unfold Obligations.EmptyQueueTicks
  intro s hempty
  have hstep : step s = .next s.idleStep := by
    unfold step
    rw [hempty]
  refine ⟨⟨_, hstep, s.clk_idleStep⟩, fun n c hcore hmay hbiv => ?_⟩
  have hat : s.coreAt n = c := by
    unfold State.coreAt
    rw [hcore]
    exact Tab.get_put_self _ [] n c
  have hst : c.st = .running := by
    unfold Core.mayIssue at hmay
    simp only [Bool.and_eq_true, decide_eq_true_eq] at hmay
    exact hmay.1.1.1
  have hissues : ¬ ((!(s.coreAt n).mayIssue) = true) := by simp [hat, hmay]
  refine ⟨fun hpc => ⟨_, hstep, State.idleStep_faulted hcore hst hbiv ?_⟩, fun hpc hword => ⟨_, hstep, State.idleStep_faulted hcore hst hbiv ?_⟩⟩
  · unfold State.fetchFault
    dsimp only
    rw [if_neg hissues, hat, if_pos hpc]
  · unfold State.fetchFault
    dsimp only
    rw [if_neg hissues, hat, if_neg (by omega), if_pos (by rw [hword]; rfl)]

end Sys2Proof.Machine
end
